-- ==== Sys2Proof/Word.lean ====
section
/-! DEFINITION. The word types of the module (R8, R10): a byte, a register word of 32 bits, and the
wider words that packets and crumbs carry. -/

namespace Sys2Proof

/-- One byte of a packet, field frame, image or record (R8). -/
abbrev Byte := BitVec 8

/-- One register word: every register is 32 bits wide (R10). -/
abbrev Word := BitVec 32

/-- A string of bytes, byte 0 first (R8). -/
abbrev Bytes := List Byte

/-- An AES-256 key (R135, R277, R409). -/
abbrev Key := BitVec 256

end Sys2Proof
end

