-- ==== Sys2Proof/Machine/Bits.lean ====
section
/-! DEFINITION. Bit fields, big-endian strings (R9), the check codes of the spec: CRC-32C (00_scope),
the CRC-16 of crumbs (R141) and the CRC-32 of uplinks (R220), and saturating counts. -/

namespace Sys2Proof.Machine

open Sys2Proof

/-- The `n` low bytes of `v`, most significant byte first (R9). -/
def be (n v : Nat) : Bytes :=
  (List.range n).map fun k => BitVec.ofNat 8 (v >>> (8 * (n - 1 - k)))

/-- The number a big-endian string of bytes spells (R9). -/
def beVal (bs : Bytes) : Nat :=
  bs.foldl (fun acc b => acc * 256 + b.toNat) 0

/-- The `n` low bytes of `v`, least significant byte first: byte addresses of the registers and exchange windows (R9). -/
def le (n v : Nat) : Bytes := (List.range n).map fun k => BitVec.ofNat 8 (v >>> (8 * k))

/-- The number that bytes at rising little-endian addresses spell (R9). -/
def leVal (bs : Bytes) : Nat := bs.foldr (fun b acc => acc * 256 + b.toNat) 0

/-- Bytes `from` to `from + n - 1` of a string; shorter where the string ends before (R8). -/
def slice (bs : Bytes) (start n : Nat) : Bytes :=
  (bs.drop start).take n

/-- The big-endian field of `n` bytes that starts at byte `start` (R9). -/
def fieldAt (bs : Bytes) (start n : Nat) : Nat :=
  beVal (slice bs start n)

/-- One bit, as a number, for building words. -/
def bit (b : Bool) : Nat := if b then 1 else 0

/-- A register word of the fields `(lsb, value)`, each value placed at its lowest bit (R8). -/
def mkWord (fields : List (Nat × Nat)) : Word :=
  fields.foldl (fun acc f => acc ||| BitVec.ofNat 32 (f.2 <<< f.1)) 0

/-- The bits `[lsb + width - 1 : lsb]` of a word as a number (R8). -/
def fieldOf (w : Word) (lsb width : Nat) : Nat :=
  (w.toNat >>> lsb) % (2 ^ width)

/-- The mask of a field `[lsb + width - 1 : lsb]` (R8). -/
def fieldMask (lsb width : Nat) : Word :=
  BitVec.ofNat 32 ((2 ^ width - 1) <<< lsb)

/-- A count that rises by `k` and saturates at `top`. -/
def satAdd (top k v : Nat) : Nat := min top (v + k)

/-- One step of a reflected 32-bit CRC over one bit. -/
def crcBit32 (poly : BitVec 32) (c : BitVec 32) : BitVec 32 :=
  if c.getLsbD 0 then (c >>> 1) ^^^ poly else c >>> 1

/-- One byte into CRC-32C: the reflected polynomial 0x82F6_3B78 of 0x1EDC_6F41. -/
def crc32cByte (c : BitVec 32) (b : Byte) : BitVec 32 :=
  (List.range 8).foldl (fun acc _ => crcBit32 0x82F63B78#32 acc) (c ^^^ b.setWidth 32)

/-- CRC-32C of the spec: initial value all ones, final value inverted (00_scope). -/
def crc32c (bs : Bytes) : BitVec 32 :=
  ~~~ (bs.foldl crc32cByte 0xFFFFFFFF#32)

/-- One byte into an unreflected CRC of 16 bits with polynomial 0x8BB7. -/
def crc16Byte (c : BitVec 16) (b : Byte) : BitVec 16 :=
  (List.range 8).foldl
    (fun acc _ => if acc.getLsbD 15 then (acc <<< 1) ^^^ 0x8BB7#16 else acc <<< 1)
    (c ^^^ (b.setWidth 16 <<< 8))

/-- The CRC-16 of crumbs and stored records: polynomial 0x8BB7, initial value 0 (R141). -/
def crc16 (bs : Bytes) : BitVec 16 := bs.foldl crc16Byte 0

/-- One byte into the unreflected CRC-32 with polynomial 0x741B_8CD7 (R220). -/
def vchkByte (c : BitVec 32) (b : Byte) : BitVec 32 :=
  (List.range 8).foldl
    (fun acc _ => if acc.getLsbD 31 then (acc <<< 1) ^^^ 0x741B8CD7#32 else acc <<< 1)
    (c ^^^ (b.setWidth 32 <<< 24))

/-- The vital check of an uplink, seeded with the node's place (R220). -/
def vchk (pair cluster node : Nat) (bs : Bytes) : BitVec 32 :=
  bs.foldl vchkByte (BitVec.ofNat 32 (0x5A000000 + pair * 0x10000 + cluster * 0x100 + node))

/-- Replace the first element that `p` holds of, by `f` of it. -/
def updFirst {α : Type} (p : α → Bool) (f : α → α) : List α → List α
  | [] => []
  | x :: xs => if p x then f x :: xs else x :: updFirst p f xs

/-- Apply `f` to every element that `p` holds of. -/
def updAll {α : Type} (p : α → Bool) (f : α → α) (xs : List α) : List α :=
  xs.map fun x => if p x then f x else x

/-- Insert before the first element that is not below `x` (a stable insertion by key). -/
def insertBy {α : Type} (key : α → Nat) (x : α) : List α → List α
  | [] => [x]
  | y :: ys => if key x < key y then x :: y :: ys else y :: insertBy key x ys

/-- Sort by a key, keeping the order of equal keys. -/
def sortBy {α : Type} (key : α → Nat) (xs : List α) : List α :=
  xs.foldl (fun acc x => insertBy key x acc) []

/-- Replace position `n` of a list; a position past the end changes nothing. -/
def setAt {α : Type} (n : Nat) (x : α) (xs : List α) : List α := xs.set n x

/-- The first `n` of all numbers that `p` holds of, below `bound`. -/
def firstBelow (bound : Nat) (p : Nat → Bool) : Option Nat :=
  (List.range bound).find? p

end Sys2Proof.Machine
end

