-- ==== Sys2Proof/Machine/Names.lean ====
section
/-! DEFINITION. The names of roles, states and numbered things (R15, R16), each with the code that
a register or a packet shows for it. -/

namespace Sys2Proof.Machine

/-- Lanes 1 to 3, never numbered from zero (R16). -/
inductive Lane
  | l1 | l2 | l3
  deriving DecidableEq, Repr

/-- Field clusters 0 and 1 (R16). -/
inductive Cluster
  | c0 | c1
  deriving DecidableEq, Repr

/-- Channels A and B of a cluster (R16). -/
inductive Chan
  | a | b
  deriving DecidableEq, Repr

/-- The three Praline instances (R144). -/
inductive Inst
  | x | y | z
  deriving DecidableEq, Repr

/-- Module roles (R15); MSW encoding (R214). -/
inductive Role
  | active | standby | witness | alone
  deriving DecidableEq, Repr

/-- Lane states (R166), in the encoding of `VOT_LANE` (R183). -/
inductive LaneSt
  | voting | fenced | proving | resync | halted
  deriving DecidableEq, Repr

/-- Lifecycle states (R408); MSW encoding (R214). -/
inductive Life
  | factory | commission | sealed | maint | retired
  deriving DecidableEq, Repr

/-- Debug levels (R411). -/
inductive Dbg
  | d0 | d1 | d2 | d3
  deriving DecidableEq, Repr

/-- Power states (R412). -/
inductive Power
  | run | holdup | backup | off
  deriving DecidableEq, Repr

/-- The phases of a frame (R29), in the encoding of `FRM_STAT.PHASE` (R70). -/
inductive Phase
  | input | evaluate | prove | vote | emit | commit | drain | idle
  deriving DecidableEq, Repr

/-- Fault severities (R329). -/
inductive Sev
  | record | warn | fence | safeStop
  deriving DecidableEq, Repr

/-- The fourteen blocks, in the order of R298. -/
inductive Blk
  | sys | frm | vot | prl | frn | lio | xbr | dpx | upd | evr | bst | pwr | sec | cmd
  deriving DecidableEq, Repr

/-- Port states of a cluster (R230, R239). -/
inductive PortSt
  | off | cold | run | syncOnly | follow | followNoSync
  deriving DecidableEq, Repr

/-- Node states (R232, R239). -/
inductive NodeState
  | notConfigured | absent | ranging | oneClean | admitted | dropped | refused
  deriving DecidableEq, Repr

/-- Guardian states (R225). -/
inductive GuardianSt
  | closed | listen | ranging | run | blocked
  deriving DecidableEq, Repr

/-- Hold states of the local I/O (R246, R256). -/
inductive HoldSt
  | restart | live | expired
  deriving DecidableEq, Repr

/-- Praline instance states (R145, R153). -/
inductive InstSt
  | isIn | out | reseed | absent
  deriving DecidableEq, Repr

/-- Route transaction states (R107); `released` is the end by passage of a train. -/
inductive RouteSt
  | idle | requested | claimed | setting | proved | cleared | inUse | releasing
  | cancelled | refused
  deriving DecidableEq, Repr

/-- The lock words APPROACH and OVERLAP of a route (R80). -/
inductive LockSt
  | free | locked | timing
  deriving DecidableEq, Repr

/-- Crumb kinds (R102). -/
inductive CrumbKind
  | route | overlap | boundary | flank | crossing
  deriving DecidableEq, Repr

/-- Crumb pressure levels (R121). -/
inductive Pressure
  | normal | low | critical
  deriving DecidableEq, Repr

/-- Bank states (R365). -/
inductive BankSt
  | empty | receiving | verified | unconfirmed | confirmed | previous | rejected | bad
  deriving DecidableEq, Repr

/-- Image parts (R364). -/
inductive Part
  | lfw | prt | mzp | svc | ocf
  deriving DecidableEq, Repr

/-- Time sources (R402, TIME_READ). -/
inductive TimeSrc
  | ptp | held | set | none
  deriving DecidableEq, Repr

/-- Object types (R72). -/
inductive ObjTy
  | point | signal | track | crossing | boundary
  deriving DecidableEq, Repr

/-- Timer kinds (R88). -/
inductive TimerKind
  | release | watch
  deriving DecidableEq, Repr

/-- Status codes of replies (R281). -/
inductive Status
  | done | accepted | busy | refused | deferred | badLen | badOpc | badState | badSafety
  | stale | badCrc | notAuth | hdrBad | wrongTarget | epoch | blockCrc | noTransfer
  | incomplete | signature | order | settingsIncompatible | confirmPending | noFallback
  deriving DecidableEq, Repr

/-- A lane from its number 1 to 3. -/
def Lane.ofNat? : Nat → Option Lane
  | 1 => some .l1
  | 2 => some .l2
  | 3 => some .l3
  | _ => none

/-- A lane's number (R16). -/
def Lane.num : Lane → Nat
  | .l1 => 1
  | .l2 => 2
  | .l3 => 3

/-- The three lanes in ascending number. -/
def Lane.all : List Lane := [.l1, .l2, .l3]

/-- The three Praline instances. -/
def Inst.all : List Inst := [.x, .y, .z]

def Cluster.num : Cluster → Nat
  | .c0 => 0
  | .c1 => 1

def Chan.num : Chan → Nat
  | .a => 0
  | .b => 1

/-- MSW encoding of the role (R214). -/
def Role.code : Role → Nat
  | .active => 0
  | .standby => 1
  | .witness => 2
  | .alone => 3

def Role.ofCode : Nat → Role
  | 0 => .active
  | 1 => .standby
  | 2 => .witness
  | _ => .alone

def LaneSt.code : LaneSt → Nat
  | .voting => 0
  | .fenced => 1
  | .proving => 2
  | .resync => 3
  | .halted => 4

/-- MSW encoding of the lifecycle (R214). -/
def Life.code : Life → Nat
  | .factory => 0
  | .commission => 1
  | .sealed => 2
  | .maint => 3
  | .retired => 4

def Life.ofCode? : Nat → Option Life
  | 0 => some .factory
  | 1 => some .commission
  | 2 => some .sealed
  | 3 => some .maint
  | 4 => some .retired
  | _ => none

def Dbg.code : Dbg → Nat
  | .d0 => 0
  | .d1 => 1
  | .d2 => 2
  | .d3 => 3

def Dbg.ofCode? : Nat → Option Dbg
  | 0 => some .d0
  | 1 => some .d1
  | 2 => some .d2
  | 3 => some .d3
  | _ => none

def Phase.code : Phase → Nat
  | .input => 0
  | .evaluate => 1
  | .prove => 2
  | .vote => 3
  | .emit => 4
  | .commit => 5
  | .drain => 6
  | .idle => 7

def Sev.code : Sev → Nat
  | .record => 0
  | .warn => 1
  | .fence => 2
  | .safeStop => 3

def Sev.ofCode : Nat → Sev
  | 0 => .record
  | 1 => .warn
  | 2 => .fence
  | _ => .safeStop

/-- A block's position 0 to 13 in the order of R298. -/
def Blk.num : Blk → Nat
  | .sys => 0
  | .frm => 1
  | .vot => 2
  | .prl => 3
  | .frn => 4
  | .lio => 5
  | .xbr => 6
  | .dpx => 7
  | .upd => 8
  | .evr => 9
  | .bst => 10
  | .pwr => 11
  | .sec => 12
  | .cmd => 13

def Blk.all : List Blk :=
  [.sys, .frm, .vot, .prl, .frn, .lio, .xbr, .dpx, .upd, .evr, .bst, .pwr, .sec, .cmd]

/-- A block's base address: its 64 KiB window (R298). -/
def Blk.base (b : Blk) : Nat := b.num * 0x10000

def PortSt.code : PortSt → Nat
  | .off => 0
  | .cold => 1
  | .run => 2
  | .syncOnly => 3
  | .follow => 4
  | .followNoSync => 5

def NodeState.code : NodeState → Nat
  | .notConfigured => 0
  | .absent => 1
  | .ranging => 2
  | .oneClean => 3
  | .admitted => 4
  | .dropped => 5
  | .refused => 6

def HoldSt.code : HoldSt → Nat
  | .restart => 0
  | .live => 1
  | .expired => 2

def InstSt.code : InstSt → Nat
  | .isIn => 0
  | .out => 1
  | .reseed => 2
  | .absent => 3

def RouteSt.code : RouteSt → Nat
  | .idle => 0
  | .requested => 1
  | .claimed => 2
  | .setting => 3
  | .proved => 4
  | .cleared => 5
  | .inUse => 6
  | .releasing => 7
  | .cancelled => 8
  | .refused => 9

def LockSt.code : LockSt → Nat
  | .free => 0
  | .locked => 1
  | .timing => 2

/-- Crumb kind codes of R102. -/
def CrumbKind.code : CrumbKind → Nat
  | .route => 1
  | .overlap => 2
  | .boundary => 3
  | .flank => 4
  | .crossing => 5

/-- The kind of a code; 0 and 6 and 7 are none (R102). -/
def CrumbKind.ofCode? (n : Nat) : Option CrumbKind :=
  [CrumbKind.route, .overlap, .boundary, .flank, .crossing].find? fun k => k.code == n

/-- FLANK and CROSSING crumbs are shared, the others exclusive (R102). -/
def CrumbKind.shared : CrumbKind → Bool
  | .flank => true
  | .crossing => true
  | _ => false

def Pressure.code : Pressure → Nat
  | .normal => 0
  | .low => 1
  | .critical => 2

def BankSt.code : BankSt → Nat
  | .empty => 0
  | .receiving => 1
  | .verified => 2
  | .unconfirmed => 3
  | .confirmed => 4
  | .previous => 5
  | .rejected => 6
  | .bad => 7

def Part.code : Part → Nat
  | .lfw => 1
  | .prt => 2
  | .mzp => 3
  | .svc => 4
  | .ocf => 5

def Part.ofCode? : Nat → Option Part
  | 1 => some .lfw
  | 2 => some .prt
  | 3 => some .mzp
  | 4 => some .svc
  | 5 => some .ocf
  | _ => none

def TimeSrc.code : TimeSrc → Nat
  | .ptp => 0
  | .held => 1
  | .set => 2
  | .none => 3

/-- TYPE codes of object descriptors (R72). -/
def ObjTy.code : ObjTy → Nat
  | .point => 1
  | .signal => 2
  | .track => 3
  | .crossing => 4
  | .boundary => 5

def Status.code : Status → Nat
  | .done => 0x00
  | .accepted => 0x01
  | .busy => 0x02
  | .refused => 0x03
  | .deferred => 0x04
  | .badLen => 0x10
  | .badOpc => 0x11
  | .badState => 0x12
  | .badSafety => 0x13
  | .stale => 0x14
  | .badCrc => 0x15
  | .notAuth => 0x20
  | .hdrBad => 0x30
  | .wrongTarget => 0x31
  | .epoch => 0x32
  | .blockCrc => 0x33
  | .noTransfer => 0x34
  | .incomplete => 0x35
  | .signature => 0x36
  | .order => 0x37
  | .settingsIncompatible => 0x38
  | .confirmPending => 0x39
  | .noFallback => 0x3A

/-! ## Encodings of reported and commanded states (R74)

Reported and commanded states travel as four-bit codes, so they are held as codes; the names of
R74 are given here. -/

/-- Reported point states: NORMAL 0, REVERSE 1, MOVING 2, LOST 3 (R74). -/
def ptNormal : Nat := 0
def ptReverse : Nat := 1
def ptMoving : Nat := 2
def ptLost : Nat := 3

/-- Commanded point states: NONE 0, NORMAL 1, REVERSE 2 (R74). -/
def ptcNone : Nat := 0
def ptcNormal : Nat := 1
def ptcReverse : Nat := 2

/-- Signal states: STOP 0, PROCEED-n is n for 1 to 7, DARK 15 (R74). -/
def sgStop : Nat := 0
def sgDark : Nat := 15

/-- Section states: CLEAR 0, OCCUPIED 1, DISTURBED 2 (R74). -/
def scClear : Nat := 0
def scOccupied : Nat := 1
def scDisturbed : Nat := 2

/-- Level-crossing group reported states (R74). -/
def lxRoad : Nat := 0
def lxClosing : Nat := 1
def lxSecured : Nat := 2
def lxFailed : Nat := 3

/-- Level-crossing group commanded states: CLOSE 0, OPEN 1 (R74). -/
def lxClose : Nat := 0
def lxOpen : Nat := 1

/-- Boundary: WITHHELD 0, GRANTED 1; border section OCCUPIED 0, CLEAR 1 (R74). -/
def bdWithheld : Nat := 0
def bdGranted : Nat := 1
def bdOccupied : Nat := 0
def bdClear : Nat := 1

/-- Boundary DIR words: NONE 0, IN 1, OUT 2 (R80). -/
def dirNone : Nat := 0
def dirIn : Nat := 1
def dirOut : Nat := 2

/-- Group fold of boundary objects: UNLINKED and LINKED (R77). -/
def grUnlinked : Nat := 0
def grLinked : Nat := 1

/-- The restrictive commanded state of a type (R74); a section has none and carries 0. -/
def restrictiveCmd : ObjTy → Nat
  | .point => ptcNone
  | .signal => sgStop
  | .track => 0
  | .crossing => lxClose
  | .boundary => bdWithheld

/-- Whether a commanded state is restrictive: the state of R74, and DARK for a signal, which counts
as STOP for locking (R74). -/
def isRestrictive (t : ObjTy) (c : Nat) : Bool :=
  c == restrictiveCmd t || (t == .signal && c == sgDark) || t == .track

/-- The substitute reported state of a type (R92). -/
def substituteRep : ObjTy → Nat
  | .point => ptLost
  | .signal => sgDark
  | .track => scOccupied
  | .crossing => lxFailed
  | .boundary => bdWithheld

/-- Commanded position of a required crumb position 0 NORMAL, 1 REVERSE (R102). -/
def posCmd (pos : Nat) : Nat := if pos == 0 then ptcNormal else ptcReverse

/-- Reported state that shows a required position 0 NORMAL, 1 REVERSE (R102). -/
def posRep (pos : Nat) : Nat := if pos == 0 then ptNormal else ptReverse

end Sys2Proof.Machine
end

