-- ==== Sys2Proof/Machine/Station.lean ====
section
/-! DEFINITION. What the images say: the marzipan image's object table, group table, route
definitions, logic and configuration (R72 to R101, R130, R217, R242), and the Praline table image
(R130, R131, R148). The spec gives these contents but not the marzipan image's own byte layout, so
an image's content is held as what it says (log entry 6). -/

namespace Sys2Proof.Machine

open Sys2Proof

/-- Where an object is placed (R72 LOC and ELEM). -/
inductive Loc
  | field (c : Cluster) (node elem : Nat)
  | local (first count : Nat)
  | nowhere
  deriving DecidableEq, Repr

/-- Wherever an object may be named, a group may be named instead (R77). -/
inductive Ref
  | obj (i : Nat)
  | grp (g : Nat)
  deriving DecidableEq, Repr

/-- An object descriptor (R72) with the object's part of the station data. -/
structure ObjDesc where
  idx : Nat
  ty : ObjTy
  loc : Loc
  /-- FLAGS[1]: approach-lit signal. -/
  approachLit : Bool
  /-- FLAGS[0]: detection by two-contact input. -/
  twoContact : Bool := false
  /-- PARENT: the group that contains the object. -/
  parent : Option Nat := none
  /-- INST: instance number of the object's block (R80). -/
  inst : Nat := 0
  /-- A section whose detection is declared restorable (R448). -/
  restorable : Bool
  /-- Instance number of the WATCH timer of a point or level-crossing group (R80). -/
  timer : Option Nat
  /-- Sections in which a point lies, from the detection mapping (R126 kind 2, R130); for a boundary object,
  the module's own border section (R288). -/
  sections : List Nat
  /-- For a local object: reported state for the value its inputs spell, input 2k first (R242). -/
  inMap : List (Nat × Nat)
  /-- For a local signal: the input that reports a failed lamp, if any (R220). -/
  lampInput : Option Nat
  /-- For a local object: outputs energised for each commanded state (R242). -/
  outMap : List (Nat × List Nat)
  /-- For a boundary object: the neighbour's pair number and its index there (R288). -/
  neighbour : Option (Nat × Nat)
  deriving DecidableEq, Repr

/-- One member of a group; `flipped` maps the group's NORMAL to the member's REVERSE (R77). -/
structure Member where
  ref : Ref
  flipped : Bool
  deriving DecidableEq, Repr

/-- A group of the group table (R76); innermost groups stand before those that contain them. -/
structure GroupDef where
  num : Nat
  ty : ObjTy
  members : List Member
  deriving DecidableEq, Repr

/-- A word that block code reads (R80). -/
inductive WordRef
  | layoutWord
  | lostCount
  | cmd (i : Nat)
  | rep (i : Nat)
  | valid (i : Nat)
  | locks (i : Nat)
  | fails (i : Nat)
  | lampFlt (i : Nat)
  | appr (i : Nat)
  | slot (i : Nat)
  | restore (i : Nat)
  | demand (i : Nat)
  | border (i : Nat)
  | age (i : Nat)
  | dir (i : Nat)
  | faultCount (i : Nat)
  | grpState (g : Nat)
  /-- The commanded state that a point group presents (R77), and a station-defined alarm (R95). -/
  | grpCmd (g : Nat)
  | alarm (n : Nat)
  | grpValid (g : Nat)
  | rtState (r : Nat)
  | rtSlot (r : Nat)
  | rtApproach (r : Nat)
  | rtOverlap (r : Nat)
  | tmRemain (t : Nat)
  | tmPreset (t : Nat)
  | tmCtl (t : Nat)
  | edPrev (e : Nat)
  | edPrevValid (e : Nat)
  | laQ (l : Nat)
  /-- MOVE_TMR or CLOSE_TMR of an object, and REL_TMR of a route: fixed by the compiler. -/
  | objTimer (i : Nat)
  | rtTimer (r : Nat)
  deriving DecidableEq, Repr

/-- Block code expressions: the operations of R82, over this frame's words, last frame's words
(R86), edges (R90) and the station command of the frame (R286). -/
inductive Expr
  | const (v : Int)
  | cur (w : WordRef)
  | prev (w : WordRef)
  | rise (e : Nat)
  | fall (e : Nat)
  | stationCode
  | stationArg
  | add (a b : Expr)
  | sub (a b : Expr)
  | mulC (k : Int) (a : Expr)
  | divC (k : Int) (a : Expr)
  | eq (a b : Expr)
  | lt (a b : Expr)
  | and (a b : Expr)
  | or (a b : Expr)
  | not (a : Expr)
  | sel (c a b : Expr)
  deriving DecidableEq, Repr

/-- Who runs a timer: a point's or crossing's block (R443), a route (R99), or the station logic. -/
inductive TimerUse
  | object (i : Nat)
  | route (r : Nat)
  | logic (run : Expr)
  deriving DecidableEq, Repr

/-- A timer of the station data (R80, R88). -/
structure TimerDef where
  num : Nat
  kind : TimerKind
  presetMs : Nat
  use : TimerUse
  deriving DecidableEq, Repr

/-- What an edge detector reads (R90): the occupation of a section or section group, or an
expression with the objects whose validity and settling it follows. -/
inductive EdgeIn
  | occupied (r : Ref)
  | logic (e : Expr) (follows : List Nat)
  deriving DecidableEq, Repr

structure EdgeDef where
  num : Nat
  input : EdgeIn
  /-- Restrictive value of the input, the initial PREV (R80). -/
  restr : Bool
  deriving DecidableEq, Repr

/-- A latch of the station data (R87). -/
structure LatchDef where
  num : Nat
  set : Expr
  reset : Expr
  restr : Bool
  deriving DecidableEq, Repr

/-- One item of the station's error block (R95): an alarm takes the value of an expression, or a latch of the error
block is run. -/
inductive ErrItem
  | alarm (n : Nat) (e : Expr)
  | latch (l : Nat)
  deriving DecidableEq, Repr

/-- One item of the compiler's order of the station logic (R85 step 4, R86). -/
inductive LogicItem
  | route (r : Nat)
  | object (i : Nat)
  | timer (t : Nat)
  | edge (e : Nat)
  | latch (l : Nat)
  deriving DecidableEq, Repr

/-- A path section of a route with the points and flank elements assigned to it (R99). -/
structure PathSec where
  ref : Ref
  edge : Nat
  /-- Path points assigned to it with their required positions. -/
  points : List (Ref × Nat)
  /-- Flank elements assigned to it or to its points: object or point group, and required position. -/
  flank : List (Ref × Nat)
  deriving DecidableEq, Repr

/-- A route definition (R99) with its aspect limits (R130) and its part of the station logic. -/
structure RouteDef where
  num : Nat
  entry : Nat
  exit : Nat
  path : List PathSec
  overlapSections : List Ref
  overlapPoints : List (Ref × Nat)
  crossings : List Nat
  /-- Boundary object and direction, `true` for IN (R99). -/
  boundary : Option (Nat × Bool)
  approach : Option Ref
  approachMs : Nat
  overlapMs : Nat
  timer : Nat
  /-- Largest aspect the station logic commands. -/
  aspect : Nat
  /-- 16 limits, one for each reported aspect of the exit signal (R130). -/
  limits : List Nat
  /-- The station logic's inhibition of the route (R106). -/
  inhibit : Expr
  deriving DecidableEq, Repr

/-- One field node of the station data (R217, R220, R231). -/
structure NodeDef where
  cluster : Cluster
  node : Nat
  nel : Nat
  sync : Bool
  /-- The downlink slot that carries the node's entry, none where it has none, and the byte of the message's body at which
  the entry starts (R217). -/
  slot : Option Nat
  offset : Nat := 0
  schedId : Nat
  cfgId : Nat
  /-- The coupler above it in the tree of channel A and of channel B, none where it hangs on the module port (R205, R232). -/
  upA : Option Nat := none
  upB : Option Nat := none
  deriving DecidableEq, Repr

/-- One coupler of a tree (R206, R231). -/
structure CouplerDef where
  cluster : Cluster
  chan : Chan
  num : Nat
  level : Nat
  schedId : Nat
  cfgId : Nat
  /-- The coupler above it, none at level 1. -/
  up : Option Nat := none
  deriving DecidableEq, Repr

/-- Input modes of the local I/O (R250 to R252), in the encoding of `LIO_ICFG_n.MODE`. -/
inductive InMode
  | single | equivalent | antivalent | paired | countSingle
  deriving DecidableEq, Repr

/-- Local I/O configuration of one input (R267 `LIO_ICFG_n`). -/
structure InputCfg where
  filt : Nat
  mode : InMode
  disc : Nat
  deriving DecidableEq, Repr

/-- An instance of the layout that no instance of the base maps to (R380). -/
inductive UnmappedInst
  | object (i : Nat)
  | group (g : Nat)
  | route (r : Nat)
  | timer (t : Nat)
  | edge (e : Nat)
  | latch (l : Nat)
  deriving DecidableEq, Repr

/-- The migration table towards this image from a base layout (R380): what is not mapped, and the
routes marked unchanged (R381). -/
structure Migration where
  baseImg : Nat
  unmapped : List UnmappedInst
  unchangedRoutes : List Nat
  /-- What is not mapped when going back to the base (the reverse table). -/
  reverseUnmapped : List UnmappedInst
  deriving DecidableEq, Repr

/-- What a marzipan image says. -/
structure Station where
  imgId : Nat
  mzpid : Nat
  prtid : Nat
  /-- 0x10 UX-4810, 0x20 UX-4820 (R2). -/
  variant : Nat
  epoch : Nat
  wcetUs : Nat
  nobj : Nat
  objects : List ObjDesc
  groups : List GroupDef
  routes : List RouteDef
  timers : List TimerDef
  edges : List EdgeDef
  latches : List LatchDef
  logic : List LogicItem
  /-- The station's own error block, empty where it has none (R94 step 6, R95). -/
  errors : List ErrItem := []
  /-- Level-crossing groups whose HOLD input the station logic sets (R446). -/
  holds : List (Nat × Expr)
  /-- Codes of STATION_CMD that the station data defines (R286). -/
  stationCodes : List Nat
  settle : Nat
  bage : Nat
  /-- The signal each trip channel is assigned to (R126). -/
  tripSignal : List (Option Nat)
  inputs : List InputCfg
  nodes : List NodeDef
  couplers : List CouplerDef
  /-- Neighbour pairs and the boundary group towards each (R79). -/
  neighbours : List (Nat × Nat)
  /-- The words of the committed state area from word 0, the layout word, on, each with its signature (R155, R161,
  R367). -/
  layout : List (WordRef × Nat)
  /-- The coded results of a frame in execution order: the signature of each one's destination, and the word of the
  committed area that it writes, none for an intermediate one (R156, R158). -/
  code : List (Nat × Option Nat) := []
  sigk1 : BitVec 64
  sigk2 : BitVec 64
  migration : List Migration
  deriving DecidableEq, Repr

/-- A footprint entry of the Praline route table (R131). -/
structure FpEntry where
  obj : Nat
  kind : CrumbKind
  pos : Nat
  /-- ASSIGN: the footprint entry to which this one is assigned. -/
  assign : Option Nat := none
  deriving DecidableEq, Repr

/-- A route of the Praline route table (R130). -/
structure PrtRoute where
  num : Nat
  entry : Nat
  exit : Nat
  footprint : List FpEntry
  limits : List Nat
  /-- What R115 to R119 make Praline prove from its own table beside the footprint: the path sections in order, each as
  its member sections, the sections in rear of the entry signal, and the two release times (log entry 6). -/
  path : List (List Nat) := []
  approach : List Nat := []
  approachMs : Nat := 0
  overlapMs : Nat := 0
  deriving DecidableEq, Repr

/-- An overrun guard record (R148). -/
structure GuardDef where
  pair : Nat
  dir : Nat
  trip : Nat
  thr : Nat
  sig : Option Nat
  quiet : Nat
  deriving DecidableEq, Repr

/-- An entry of the object map (R130): type, place, the two-contact flag, and the sections in which a point lies. -/
structure MapEntry where
  idx : Nat
  ty : ObjTy
  sections : List Nat := []
  loc : Loc := .nowhere
  /-- For a boundary object: the neighbouring pair that its offer goes to (R133). -/
  pair : Nat := 0
  twoContact : Bool := false
  deriving DecidableEq, Repr

/-- What a Praline table image says (R130). -/
structure Prt where
  prtid : Nat
  mzpid : Nat
  variant : Nat
  settle : Nat
  bage : Nat
  cwarn : Nat
  ccrit : Nat
  objects : List MapEntry
  routes : List PrtRoute
  conflicts : List (Nat × Nat)
  guards : List GuardDef
  tripSignal : List (Option Nat)
  deriving DecidableEq, Repr

/-- What the target image of a transfer says, where the model reads into it (log entry 6); for an OCF
package, the configuration identifier that it gives each node (R386). -/
inductive Content
  | opaqueImage
  | mzp (st : Station)
  | prt (p : Prt)
  | ocf (ids : List (Nat × Nat))
  deriving DecidableEq, Repr

/-- A route of a Praline table image beside its aspect limits: the footprint as its words (R131). -/
structure RouteSays where
  num : Nat
  entry : Nat
  exit : Nat
  footprint : List Word
  path : List (List Nat) := []
  approach : List Nat := []
  approachMs : Nat := 0
  overlapMs : Nat := 0
  deriving DecidableEq, Repr

/-- What an image says where the spec gives no byte layout for it (log entry 6): of a marzipan image all but the object
table's descriptors, which stand here as their bytes; of a Praline table image the object map, the routes and the trip
channels. -/
inductive ImageSays
  | opaqueImage
  | mzp (st : Station) (objTable : Bytes)
  | prt (map : List MapEntry) (routes : List RouteSays) (trips : List (Option Nat))
  | ocf (ids : List (Nat × Nat))
  deriving DecidableEq, Repr

/-- The descriptor of an object index (R72). -/
def stObj? (st : Station) (i : Nat) : Option ObjDesc := st.objects.find? (·.idx == i)

def stGroup? (st : Station) (g : Nat) : Option GroupDef := st.groups.find? (·.num == g)

def stRoute? (st : Station) (r : Nat) : Option RouteDef := st.routes.find? (·.num == r)

def stTimer? (st : Station) (t : Nat) : Option TimerDef := st.timers.find? (·.num == t)

def stTripOf (st : Station) (c : Nat) : Option Nat := (st.tripSignal[c]?).join

def stNode? (st : Station) (c : Cluster) (n : Nat) : Option NodeDef :=
  st.nodes.find? fun d => d.cluster == c && d.node == n

def prtRoute? (p : Prt) (r : Nat) : Option PrtRoute := p.routes.find? (·.num == r)

def prtTripOf (p : Prt) (c : Nat) : Option Nat := (p.tripSignal[c]?).join

/-- The members of a reference as objects, with the mapping of positions, groups inside groups
resolved to the four levels that R76 allows. -/
def stExpand (st : Station) : Nat → Ref → Bool → List (Nat × Bool)
  | _, .obj i, f => [(i, f)]
  | 0, .grp _, _ => []
  | n + 1, .grp g, f =>
    match stGroup? st g with
    | none => []
    | some d => d.members.flatMap fun m => stExpand st n m.ref (f != m.flipped)

/-- The object indices a reference names, in ascending order (R77, R78). -/
def stObjsOf (st : Station) (r : Ref) : List (Nat × Bool) :=
  sortBy (·.1) (stExpand st 4 r false)

/-- The entries of a held element: the members of a group, each with the position that the group table maps to the
required one (R77, R100). -/
def stPosOf (st : Station) (q : Ref × Nat) (k : CrumbKind) : List (Nat × CrumbKind × Nat) :=
  (stObjsOf st q.1).map fun o => (o.1, k, if o.2 then 1 - q.2 else q.2)

/-- The footprint of a route, groups expanded (R100), ascending object index (R111). -/
def stFootprint (st : Station) (r : RouteDef) : List FpEntry :=
  let secs := r.path.flatMap fun p => (stObjsOf st p.ref).map fun o => (o.1, CrumbKind.route, 0)
  let pts := r.path.flatMap fun p => p.points.flatMap fun q => stPosOf st q CrumbKind.route
  let ovs := r.overlapSections.flatMap fun q => (stObjsOf st q).map fun o => (o.1, CrumbKind.overlap, 0)
  let ovp := r.overlapPoints.flatMap fun q => stPosOf st q CrumbKind.overlap
  let flk := r.path.flatMap fun p => p.flank.flatMap fun q => stPosOf st q CrumbKind.flank
  let lxs := r.crossings.map fun i => (i, CrumbKind.crossing, 0)
  let bds := r.boundary.toList.map fun q => (q.1, CrumbKind.boundary, if q.2 then 0 else 1)
  let all := (r.entry, CrumbKind.route, 1) :: (secs ++ pts ++ ovs ++ ovp ++ flk ++ lxs ++ bds)
  (sortBy (·.1) all).map fun e =>
    { obj := e.1, kind := e.2.1, pos := e.2.2 }

end Sys2Proof.Machine
end

