-- ==== Sys2Proof/Machine/Inter.lean ====
section
/-! DEFINITION. The interlocking state: what the lanes call committed state and what Praline
commits with it (R80, R81, R102, R129, R278), and the records, replies and requests of a frame. -/

namespace Sys2Proof.Machine

open Sys2Proof

/-- A used crumb (R102); free entries are the rest of the 1,024. `flip` is what has been upset in the entry as it is
stored in the majority of Praline's instances: the stored 64 bits are those that were written XOR `flip`. -/
structure Crumb where
  shr : Bool
  kind : CrumbKind
  pos : Nat
  appr : Bool := false
  tmg : Bool := false
  owner : Nat
  refs : Nat
  obj : Nat
  flip : Nat := 0
  /-- The number at which compaction leaves an entry found corrupt (R142). -/
  place : Option Nat := none
  deriving DecidableEq, Repr

/-- One object's block instance of the five object types in one record (R80): `cmd` is CMD or OFFER,
`rep` is DET, REP, STATE or ENTRY. -/
structure ObjInst where
  idx : Nat
  ty : ObjTy
  cmd : Nat
  rep : Nat
  border : Nat := bdOccupied
  /-- ENTRY and BORDER of the last accepted boundary state (R288). -/
  offerIn : Nat := bdWithheld
  borderIn : Nat := bdOccupied
  valid : Bool := false
  /-- Frames of the settle period still to run, this one included (R96). -/
  settle : Nat := 0
  lampFlt : Bool := true
  appr : Bool := true
  slot : Nat := 255
  restore : Bool := false
  demand : Nat := 0
  fails : Nat := 0
  age : Nat := 255
  dir : Nat := dirNone
  /-- The block of R287. -/
  block : Bool := false
  /-- Fault counter of the error task (R94 step 4). -/
  faultCnt : Nat := 0
  /-- Position of an individual move or of a drive kept after its lock ended (R444, R110). -/
  move : Option Nat := none
  /-- The drive is one kept after the lock ended, and no individual move (R110). -/
  kept : Bool := false
  deriving DecidableEq, Repr

/-- A group instance (R80). -/
structure GrpInst where
  num : Nat
  ty : ObjTy
  state : Nat
  valid : Bool := false
  settling : Bool := false
  deriving DecidableEq, Repr

/-- A timer instance (R80, R88). -/
structure TimerInst where
  num : Nat
  kind : TimerKind
  remain : Nat
  preset : Nat
  run : Bool := false
  q : Bool := false
  deriving DecidableEq, Repr

/-- An edge detector (R80, R90); `rise` and `fall` are what it reports in this frame. -/
structure EdgeInst where
  num : Nat
  prev : Bool
  prevValid : Bool := false
  rise : Bool := false
  fall : Bool := false
  deriving DecidableEq, Repr

/-- A latch (R80, R87). -/
structure LatchInst where
  num : Nat
  q : Bool
  deriving DecidableEq, Repr

/-- What a transaction's RELEASE timer is timing (R99, R114, R116, R118). -/
inductive RelUse
  | nothing | approach | overlap | emergency
  deriving DecidableEq, Repr

/-- A route transaction in flight (R106 to R118). Its route instance's STATE, SLOT, APPROACH and
OVERLAP words are read from it; a route without one reads idle, 255, FREE, FREE (R80). -/
structure Txn where
  slot : Nat
  route : Nat
  /-- Frame counter of the admitting frame (R106). -/
  age : Nat
  /-- Order among the transactions of one admitting frame (R106). -/
  order : Nat := 0
  /-- Tick of the admitting frame in µs (R113). -/
  admittedAt : Nat
  waitMs : Nat
  state : RouteSt
  approach : LockSt := .free
  overlap : LockSt := .free
  /-- Path sections released, in path order (R115). -/
  released : Nat := 0
  /-- Path positions OCCUPIED, and those whose fall was reported, since IN USE (R115). -/
  occ : List Nat := []
  fell : List Nat := []
  /-- Objects whose crumbs the transaction holds. -/
  held : List Nat := []
  /-- Overlap objects handed over (R104). -/
  handed : List Nat := []
  byCancel : Bool := false
  relUse : RelUse := .nothing
  relRemain : Nat := 0
  relQ : Bool := false
  /-- The timing started in this frame and does not count in it (R88). -/
  relNew : Bool := false
  /-- A cancel command for the transaction in CLEARED, which EVALUATE decides on the frame's inputs (R120). -/
  wantCancel : Bool := false
  /-- The overlap has been timed once, and its timing has ended (R116). -/
  ovTimed : Bool := false
  ovDone : Bool := false
  /-- Ended by passage or emergency release: released, leaves at the drain (R109). -/
  ended : Bool := false
  deriving DecidableEq, Repr

/-- A permit or a permissive request (R129). For kind 5 `obj` is the signal the channel is
assigned to and `chan` the channel. -/
structure Permit where
  obj : Nat
  kind : Nat
  state : Nat
  route : Nat := 0
  chan : Nat := 0
  deriving DecidableEq, Repr

/-- Praline's own reading of an object (R127). -/
structure PrlObj where
  idx : Nat
  rep : Nat
  valid : Bool := false
  settle : Nat := 0
  /-- Frames since a verified boundary tag, saturating at 255 (R127). -/
  age : Nat := 255
  /-- Its sample of the frame before, for the fall of a section: reading, and whether it was a valid one (R90, R115). -/
  wasRep : Nat := 0
  wasOk : Bool := false
  deriving DecidableEq, Repr

/-- What Praline itself has seen of a transaction's path since the kind 1 permit last stood, and its own count of the
transaction's release time (R115, R116, R118, R119). -/
structure PrlTrack where
  slot : Nat
  occ : List Nat := []
  fell : List Nat := []
  use : RelUse := .nothing
  remain : Nat := 0
  q : Bool := false
  deriving DecidableEq, Repr

/-- An acceptance window: newest number and the map of the 64 numbers up to it, bit `k` for
`newest - k` (R278). -/
structure Win where
  partner : Nat
  kslot : Nat
  newest : Nat
  map : BitVec 64
  deriving DecidableEq, Repr

/-- An event record (R392): TYPE, SEV, ORIG, TMODE, TQ, MSW and the payload; a lane-formed record's
payload begins with FRAME (R393). `num` and `time` are 0 until the service processor takes it. -/
structure Rec where
  ty : Nat
  sev : Nat
  orig : Bool := false
  tmode : Bool := false
  tq : Bool := false
  msw : Nat := 0
  body : Bytes := []
  num : Nat := 0
  time : Nat := 0
  deriving DecidableEq, Repr

/-- A key in plain form in the silicon that uses it (R416). -/
structure PlainKey where
  ktype : Nat
  index : Nat
  slot : Nat
  key : Key
  deriving DecidableEq, Repr

/-- A reply formed for a request: where it goes, what it answers (R274). -/
structure Reply where
  entry : Nat
  ver : Nat := 2
  tag : Nat := 0
  seq : Nat := 0
  opc : Nat
  status : Status
  body : Bytes := []
  /-- Key slot of the vital request it answers; none for a reply that is not vital (R274). -/
  kslot : Option Nat := none
  deriving DecidableEq, Repr

/-- The latest counter received from a partner, the FREF of the next packet to it (R276, R288). -/
structure PeerFrame where
  partner : Nat
  frame : Nat
  deriving DecidableEq, Repr

/-- The greatest FRAME of a boundary tag accepted from a neighbour pair (R136). -/
structure TagSeen where
  pair : Nat
  frame : Nat
  deriving DecidableEq, Repr

/-- Why a transaction's crumbs are released, and so what follows (R114 to R118). -/
inductive RelWhy
  | passage | track (k : Nat) | overlapEnd | cancel | approachEnd | emergency
  deriving DecidableEq, Repr

/-- A release that the frame's transitions call for (R111): the objects whose crumbs it frees. -/
structure Release where
  slot : Nat
  objs : List Nat
  why : RelWhy
  deriving DecidableEq, Repr

/-- What a vital request's reply still waits for: nothing, or the transaction's state as the
frame commits it (R106, R117). -/
inductive AskBody
  | fixed (status : Status)
  | claim (route : Nat)
  | txnState (route : Nat)
  /-- A cancel of a transaction in CLEARED (R120). -/
  | cancelled (route : Nat)
  deriving DecidableEq, Repr

/-- Where a vital request came from (R273, R276). -/
structure Src where
  /-- Partner table entry and the address its packets carry. -/
  entry : Nat
  addr : Nat := 0
  tag : Nat := 0
  seq : Nat := 0
  kslot : Nat := 0
  /-- VER of the packet (R283). -/
  ver : Nat := 2
  deriving DecidableEq, Repr

/-- One boundary entry of a BOUNDARY_STATE packet as INPUT takes it: the module's own object, the offer, the
border section, and whether Praline verifies the tag (R136, R288). -/
structure BoundaryOffer where
  obj : Nat
  offer : Nat
  border : Nat
  verified : Bool
  deriving DecidableEq, Repr

/-- A vital request whose packet has passed steps 14 to 17 of R282 (R286, R288), or one that is answered with a status
and not carried out. -/
inductive VReq
  | answered (src : Src) (opc : Nat) (status : Status)
  | routeSet (src : Src) (route wait : Nat)
  | routeCancel (src : Src) (route : Nat)
  | emergency (src : Src) (route : Nat)
  | pointMove (src : Src) (group : Bool) (target pos : Nat)
  | restore (src : Src) (obj : Nat)
  | block (src : Src) (onRoute : Bool) (target : Nat) (set : Bool)
  | guardAck (src : Src) (guard : Nat)
  | stationCmd (src : Src) (code arg : Nat)
  | boundary (pair frame : Nat) (offers : List BoundaryOffer)
  deriving DecidableEq, Repr

/-- A vital request taken in the frame (R286). -/
structure Ask where
  src : Src
  opc : Nat
  body : AskBody
  deriving DecidableEq, Repr

/-- The interlocking state (R81) with Praline's lock store and permit list (R128), and what a frame
collects for COMMIT. -/
structure Inter where
  /-- The 48-bit frame counter (R63). -/
  counter : Nat := 0
  objs : List ObjInst := []
  groups : List GrpInst := []
  txns : List Txn := []
  timers : List TimerInst := []
  edges : List EdgeInst := []
  latches : List LatchInst := []
  blockedRoutes : List Nat := []
  wins : List Win := []
  peerFrames : List PeerFrame := []
  /-- EVT_OUT records lost and not yet told of (R396). -/
  lost : Nat := 0
  /-- Code and argument of STATION_CMD in this frame (R286). -/
  stationCmd : Option (Nat × Nat) := none
  /-- Praline's lock store, and the lanes' shadow of it (R27, R102). -/
  crumbs : List Crumb := []
  shadow : List Crumb := []
  permits : List Permit := []
  prlObjs : List PrlObj := []
  prlTracks : List PrlTrack := []
  bTags : List TagSeen := []
  tripCmd : List Bool := []
  /-- Station-defined alarms that are set (R95). -/
  alarms : List Nat := []
  /-- Requests that INPUT has taken, in queue order, for the frame's mapped inputs (R29, R286). -/
  todo : List VReq := []
  /-- Guard acknowledge requests of the frame (R152). -/
  acks : List Nat := []
  /-- Boundary objects for which a state was accepted in this frame (R94 step 1), and those whose boundary
  tag Praline verified (R127). -/
  fresh : List Nat := []
  freshTag : List Nat := []
  /-- Permissive requests passed to Praline in this frame (R160 part 3). -/
  requests : List Permit := []
  denied : List (Permit × Nat) := []
  revoked : List (Permit × Nat) := []
  /-- Routes whose claim failed by shortage in this frame (R122). -/
  shorts : List Nat := []
  claimShort : Nat := 0
  claimConf : Nat := 0
  /-- Releases called for in this frame (R111). -/
  plan : List Release := []
  /-- Vital requests taken in this frame, in queue order (R286). -/
  asks : List Ask := []
  /-- A release or claim in which Praline and the lanes differed (R143). -/
  lockDiff : Bool := false
  /-- Instances that an on-line exchange could not map, and the frames of their settle period left (R380). -/
  unmapped : List UnmappedInst := []
  unmappedFor : Nat := 0
  replies : List Reply := []
  recs : List Rec := []
  deriving DecidableEq, Repr

/-- What the frozen input vector shows of an object (R29, R75): reported state, lamp state, and the
row 1 to 8 of R91 that makes it invalid, 0 where none does. -/
structure Obs where
  idx : Nat
  rep : Nat
  lamp : Bool := false
  cause : Nat := 0
  deriving DecidableEq, Repr

/-- The frozen inputs of a frame (R54). -/
structure FrameIn where
  obs : List Obs := []
  /-- Guards that are TRIPPED, and guards whose pair has a faulted input (R150, R151). -/
  tripped : List Nat := []
  pairFault : List Nat := []
  /-- Trip channels LOCKED or with DEGX set (R262). -/
  tripOut : List Nat := []
  /-- Tick and elapsed time since the tick before, in µs (R88). -/
  tick : Nat := 0
  elapsed : Nat := 0
  /-- First frame after a takeover: RELEASE timers take elapsed as 0 and WATCH timers as this
  time, rounded up (R89). -/
  takeover : Option Nat := none
  deriving DecidableEq, Repr

/-- REASON encodings of `PRL_DENY` and `PRL_REVOKE` (R153). -/
def rsLock : Nat := 1
def rsDetect : Nat := 2
def rsSection : Nat := 3
def rsFlank : Nat := 4
def rsConflict : Nat := 5
def rsAspect : Nat := 6
def rsCrossing : Nat := 7
def rsBoundary : Nat := 8
def rsSettle : Nat := 9
def rsFull : Nat := 10
def rsFenced : Nat := 11
def rsGuard : Nat := 12
def rsCorrupt : Nat := 13
def rsSignal : Nat := 14

/-- The 64-bit entry of a crumb without its check code (R102). -/
def crumbTop (c : Crumb) : Nat :=
  2 ^ 47 + bit c.shr * 2 ^ 46 + c.kind.code * 2 ^ 43 + c.pos * 2 ^ 42 + bit c.appr * 2 ^ 41
    + bit c.tmg * 2 ^ 40 + c.owner % 256 * 2 ^ 32 + c.refs % 256 * 2 ^ 24 + c.obj % 4096 * 2 ^ 12

/-- The whole entry: bits [63:16] and CHK over them as six bytes (R102, R141). -/
def crumbWord (c : Crumb) : Nat :=
  crumbTop c * 65536 + (crc16 (be 6 (crumbTop c))).toNat

/-- The 64 bits that the store holds for the entry (R141). -/
def crumbStored (c : Crumb) : Nat := crumbWord c ^^^ c.flip

/-- An entry of the store is corrupt: CHK does not fit bits [63:16], KIND is invalid, REFS is 0, or an exclusive entry
has REFS other than 1 (R102, R142). -/
def entryBad (w : Nat) : Bool :=
  let kind := w / 2 ^ 59 % 8
  let refs := w / 2 ^ 40 % 256
  w % 65536 != (crc16 (be 6 (w / 65536))).toNat || kind == 0 || 6 ≤ kind || refs == 0
    || (w / 2 ^ 62 % 2 == 0 && refs != 1)

/-- What was written fits its own CHK and the rules of R102; only an upset can break it. -/
def crumbBad (c : Crumb) : Bool := c.flip != 0 && entryBad (crumbStored c)

/-- Crumb number `n` of a compacted store: what stands in place, and the others in order around it (R105, R142). -/
def crumbAt (cs : List Crumb) (n : Nat) : Option Crumb :=
  match cs.find? (·.place == some n) with
  | some c => some c
  | none =>
    let below := cs.filter fun c => match c.place with
      | some k => decide (k < n)
      | none => false
    (cs.filter (·.place.isNone))[n - below.length]?

/-- The entry of crumb number `n`: a used one, or the zero of a free one (R102, R105). -/
def crumbEntry (cs : List Crumb) (n : Nat) : Nat := ((crumbAt cs n).map crumbStored).getD 0

/-- Free crumbs of a store of 1,024 (R105). -/
def freeCrumbs (cs : List Crumb) : Nat := 1024 - cs.length

/-- Compacted order: ascending object, the exclusive entry before the shared one (R105); an entry found corrupt stays
in place (R142). -/
def compacted (cs : List Crumb) : List Crumb :=
  let good := sortBy (fun c => 2 * c.obj + bit c.shr) (cs.filter (·.place.isNone))
  let fixed := sortBy (fun c => c.place.getD 0) (cs.filter (·.place.isSome))
  fixed.foldl (fun l c => l.insertIdx (min (c.place.getD 0) l.length) c) good

/-- The store digest of a compacted store (R142). -/
def storeDigest (cs : List Crumb) : BitVec 32 :=
  crc32c (be 2 (freeCrumbs cs) ++ cs.flatMap fun c => be 6 (crumbStored c / 65536))

/-- An object's exclusive and shared crumb (R103). -/
def exclOn (cs : List Crumb) (i : Nat) : Option Crumb := cs.find? fun c => c.obj == i && !c.shr
def sharedOn (cs : List Crumb) (i : Nat) : Option Crumb := cs.find? fun c => c.obj == i && c.shr
def crumbsOn (cs : List Crumb) (i : Nat) : List Crumb := cs.filter fun c => c.obj == i

/-- The LOCKS word: number of crumbs that refer to the object (R80). -/
def locksOf (cs : List Crumb) (i : Nat) : Nat := (crumbsOn cs i).length

def objOf? (x : Inter) (i : Nat) : Option ObjInst := x.objs.find? (·.idx == i)
def prlOf? (x : Inter) (i : Nat) : Option PrlObj := x.prlObjs.find? (·.idx == i)
def grpOf? (x : Inter) (g : Nat) : Option GrpInst := x.groups.find? (·.num == g)
def timerOf? (x : Inter) (t : Nat) : Option TimerInst := x.timers.find? (·.num == t)
def edgeOf? (x : Inter) (e : Nat) : Option EdgeInst := x.edges.find? (·.num == e)
def latchOf? (x : Inter) (l : Nat) : Option LatchInst := x.latches.find? (·.num == l)

/-- The transaction of a route, and of a slot. -/
def txnOfRoute? (x : Inter) (r : Nat) : Option Txn := x.txns.find? (·.route == r)
def txnOfSlot? (x : Inter) (s : Nat) : Option Txn := x.txns.find? (·.slot == s)

def setObj (x : Inter) (i : Nat) (f : ObjInst → ObjInst) : Inter :=
  { x with objs := updFirst (·.idx == i) f x.objs }

def setTxn (x : Inter) (s : Nat) (f : Txn → Txn) : Inter :=
  { x with txns := updFirst (·.slot == s) f x.txns }

def setTimer (x : Inter) (t : Nat) (f : TimerInst → TimerInst) : Inter :=
  { x with timers := updFirst (·.num == t) f x.timers }

def addRec (x : Inter) (r : Rec) : Inter :=
  { x with recs := x.recs ++ [{ r with body := be 6 x.counter ++ r.body }] }

/-- An OBJECT record (R393). -/
def objRec (i event cause : Nat) : Rec :=
  { ty := 0x03, sev := 0, body := be 2 i ++ be 1 event ++ be 1 cause }

/-- A ROUTE transition record (R393); `dst` 10 is released. -/
def routeRec (t : Txn) (fr dst : Nat) : Rec :=
  { ty := 0x04, sev := 0,
    body := be 2 t.route ++ be 1 t.slot ++ be 1 fr ++ be 1 dst ++ be 1 0 }

/-- A PRALINE record (R393). -/
def prlRec (what event reason : Nat) : Rec :=
  { ty := 0x06, sev := 0, body := be 2 what ++ be 1 event ++ be 1 reason }

/-- Restrictive initial values of one object's instance (R80). -/
def coldObj (d : ObjDesc) : ObjInst :=
  { idx := d.idx, ty := d.ty, cmd := restrictiveCmd d.ty, rep := substituteRep d.ty }

/-- Restrictive initial value of a group (R80). -/
def coldGroup (d : GroupDef) : GrpInst :=
  { num := d.num, ty := d.ty,
    state := match d.ty with
      | .point => ptLost
      | .track => scOccupied
      | _ => grUnlinked }

def coldTimer (d : TimerDef) : TimerInst :=
  { num := d.num, kind := d.kind, remain := d.presetMs, preset := d.presetMs }

def coldEdge (d : EdgeDef) : EdgeInst := { num := d.num, prev := d.restr }

def coldLatch (d : LatchDef) : LatchInst := { num := d.num, q := d.restr }

/-- The interlocking state of a cold start (R422): every word at its restrictive initial value, no
crumb, no permit, no transaction, empty windows; the counter is as given by R64. -/
def coldInter (st : Station) (counter : Nat) : Inter :=
  { counter := counter
    objs := st.objects.map coldObj
    groups := st.groups.map coldGroup
    timers := st.timers.map coldTimer
    edges := st.edges.map coldEdge
    latches := st.latches.map coldLatch
    prlObjs := st.objects.map fun d => { idx := d.idx, rep := substituteRep d.ty }
    tripCmd := st.tripSignal.map fun _ => false }

end Sys2Proof.Machine
end

