-- ==== Sys2Proof/Machine/LocalIo.lean ====
section
/-! DEFINITION. The state of the local vital I/O: its vital side and its field side with the checkers F1
and F2 (R241 to R267). Each field's default is its reset value. -/

namespace Sys2Proof.Machine

open Sys2Proof

/-- One entry of the local output command (R255). -/
structure LocEntry where
  obj : Nat
  chan : Nat
  kind : Nat
  state : Nat
  tag : BitVec 64
  deriving DecidableEq, Repr

/-- The local output command (R255). -/
structure LocCmd where
  frame : Nat
  entries : List LocEntry
  trips : List Bool
  tripTags : List (BitVec 64)
  /-- Signing lanes and whether both signatures verify (R256 step 2). -/
  lane1 : Nat
  lane2 : Nat
  sig1 : BitVec 64
  sig2 : BitVec 64
  deriving DecidableEq, Repr

/-- What an upstream barrier frame carries (R246). -/
structure UpFrame where
  hold : HoldSt := .restart
  fenced : Bool := false
  suplatch : Bool := false
  fdis : Bool := false
  /-- Group switches closed: output bank 0, output bank 1, trip bank. -/
  grp : List Bool := [false, false, false]
  image : List Bool := []
  iflt : List Bool := []
  ibf : List Bool := [false, false, false, false]
  obf : List Bool := [false, false]
  tbf : Bool := false
  keyed : Bool := false
  kseg : Nat := 0
  cnt0 : List Nat := [0, 0, 0, 0]
  cnt1 : List Nat := [0, 0, 0, 0]
  seqe : List Nat := [0, 0, 0, 0]
  orb : List Bool := []
  oapp : List Bool := []
  /-- Per trip channel: energised, masked, DEGRADED, LOCKED. -/
  trip : List (Bool × Bool × Bool × Bool) := []
  x2 : Nat := 0
  lastF : Nat := 0
  degx : List Bool := []
  tresBank : Nat := 0
  tres : Nat := 0
  oflt : Nat × Nat := (0, 0)
  /-- Minutes left to DEGX per channel, as `LIO_TDEG` shows them (R267). -/
  degLeft : List Nat := []
  ocode : List Nat := []
  deriving DecidableEq, Repr

/-- The vital side (R244 to R249, R264). -/
structure LioVital where
  downSeq : Nat := 0
  upSeq : Option Nat := none
  /-- Consecutive upstream frames lost (R247). -/
  lossRun : Nat := 0
  linkUp : Bool := false
  barrierLost : Bool := false
  lost : Nat := 0
  crcErr : Nat := 0
  fence : Bool := false
  /-- CTL.RESTART in the next downstream frame (R263). -/
  restart : Bool := false
  kzero : Bool := false
  /-- Location test request of the next downstream frame: bank + 1, 0 none; banks whose request waits for its frame (R253). -/
  test : Nat := 0
  testWant : List Nat := []
  up : UpFrame := {}
  frozen : UpFrame := {}
  back : Option LocCmd := none
  current : Option LocCmd := none
  /-- Sends no command any more (R177, R334). -/
  stopped : Bool := false
  x2min : Option Nat := none
  /-- Sequence errors of each pair since the last clear (R267). -/
  seqErr : List Nat := [0, 0, 0, 0]
  clr : Bool := false
  /-- Key round: its messages, the next segment, time the last was sent (R249). -/
  keys : List PlainKey := []
  kseg : Nat := 0
  ksentAt : Option Nat := none
  converterBad : Bool := false
  /-- SEQE at the last frame tick, for COUNT_ERR (R268). -/
  seqeTick : List Nat := [0, 0, 0, 0]
  deriving DecidableEq, Repr

/-- An output of the field side (R254 to R259). -/
structure OutBlk where
  /-- Commanded energised by F1 and by F2; applied by them, as R260 allows. -/
  f1 : Bool := false
  f2 : Bool := false
  app : Bool := false
  locked : Bool := false
  code : Nat := 0
  deriving DecidableEq, Repr

/-- A trip channel (R261, R262). -/
structure TripBlk where
  f1 : Bool := false
  f2 : Bool := false
  app : Bool := false
  degraded : Bool := false
  locked : Bool := false
  masked : Bool := false
  degSince : Option Nat := none
  degxAt : Option Nat := none
  degx : Bool := false
  deriving DecidableEq, Repr

/-- A non-counting or counting input (R250 to R253). -/
structure InBlk where
  /-- Level at the terminal, and the two comparators' readings. -/
  level : Bool := false
  cmp1 : Bool := false
  cmp2 : Bool := false
  /-- Value after filtering. -/
  value : Bool := false
  /-- Since when a permissive level waits for FILT. -/
  since : Option Nat := none
  /-- Faulted by its shunt test, by location, by discrepancy. -/
  shuntFault : Bool := false
  located : Bool := false
  discFault : Bool := false
  /-- Since when the comparators disagree. -/
  disSince : Option Nat := none
  deriving DecidableEq, Repr

/-- A two-contact channel's timing (R251). -/
structure ChanBlk where
  disSince : Option Nat := none
  /-- Since when both contacts show the restrictive reading together. -/
  restrSince : Option Nat := none
  deriving DecidableEq, Repr

/-- A counting pair's decoder (R252). -/
structure PairBlk where
  /-- Levels of the two inputs, and the first levels after rest: none at rest. -/
  cur : Bool × Bool := (false, false)
  entry : Option (Bool × Bool) := none
  bad : Bool := false
  cnt0 : Nat := 0
  cnt1 : Nat := 0
  seqe : Nat := 0
  deriving DecidableEq, Repr

/-- The field side (R241 to R263). -/
structure FieldSide where
  powered : Bool := false
  /-- Held in reset by the converter (R248). -/
  inReset : Bool := false
  hold : HoldSt := .restart
  keyed : Bool := false
  /-- Keys that both checkers hold, and those of the round being taken; no round is being taken, since none has begun, one has
  ended, or a segment or message of it has been discarded; last segment accepted (R249). -/
  kmsgs : List PlainKey := []
  kround : List PlainKey := []
  kbad : Bool := true
  kseg : Nat := 0
  downSeq : Option Nat := none
  lossRun : Nat := 0
  barrierLost : Bool := false
  upSeq : Nat := 0
  drive : Bool := false
  fence : Bool := false
  /-- FRAME of the last command accepted, by F1 and by F2 (R256). -/
  lastF : Nat := 0
  lastF2 : Nat := 0
  /-- Accepted commands in succession towards the end of RESTART (R256). -/
  succ : Nat := 0
  /-- Last command accepted with a new FRAME: time, and the command itself. -/
  holdFrom : Option Nat := none
  cmd : Option LocCmd := none
  /-- When everything opened at the end of a hold, with something energised (R266). -/
  openedAt : Option Nat := none
  fdis : Bool := false
  selfTestBad : Bool := false
  outs : List OutBlk := List.replicate 16 {}
  trips : List TripBlk := List.replicate 4 {}
  /-- Group switches of output banks 0 and 1 and of the trip bank that no fault holds open. -/
  grp0 : Bool := true
  grp1 : Bool := true
  grpT : Bool := true
  /-- A bank's group switch opened under code 1 or 2, awaiting classification since (R259). -/
  openAt0 : Option Nat := none
  openAt1 : Option Nat := none
  openAtT : Option Nat := none
  /-- The output or trip channel whose fault opened each of them. -/
  openOut0 : Option Nat := none
  openOut1 : Option Nat := none
  openOutT : Option Nat := none
  suplatch : Bool := false
  /-- X2 in units of 10 mV, and whether it has stayed within 20.4-30 V for 1 s (R260). -/
  x2 : Nat := 0
  x2Ok : Bool := false
  ins : List InBlk := List.replicate 32 {}
  chans : List ChanBlk := List.replicate 16 {}
  ibf : List Bool := [false, false, false, false]
  /-- Banks whose location test has finished since their bit was set (R253). -/
  ibTested : List Bool := [false, false, false, false]
  pairs : List PairBlk := List.replicate 4 {}
  /-- Location test in progress: bank; result of the last. -/
  locating : Option Nat := none
  tresBank : Nat := 0
  tres : Nat := 0
  oflt : Nat × Nat := (0, 0)
  /-- Local I/O restart tests in progress since (R263). -/
  restartAt : Option Nat := none
  deriving DecidableEq, Repr

/-- The local I/O block. -/
structure LioBlk where
  vital : LioVital := {}
  field : FieldSide := {}
  deriving DecidableEq, Repr

end Sys2Proof.Machine
end

