-- ==== Sys2Proof/Machine/Blocks.lean ====
section
/-! DEFINITION. The state of the vital-side blocks: frame control, lanes and vote, proof test, Praline's
own hardware, and the field clusters (R70, R153, R183, R203, R239). Each field's default is its reset
value. -/

namespace Sys2Proof.Machine

open Sys2Proof

/-! ## Frame control (R44 to R71) -/

/-- Where an output vector differs from the one that the lanes compute alike (R24, R160): commanded states of objects (a
section's RESTORE word) and of trip channels, and in place of the requests, replies or records formed, others. -/
structure VecDev where
  objs : List (Nat × Nat) := []
  trips : List (Nat × Bool) := []
  requests : Option (List Permit) := none
  replies : Option (List Reply) := none
  recs : Option (List Rec) := none
  deriving DecidableEq, Repr

/-- The output vector of a frame, in the parts of R160: commanded states by object index (a section's RESTORE word); the
local output and trip channel commands; the permissive requests; boundary offers and vital replies; event records. -/
structure OutVec where
  objs : List (Nat × Nat) := []
  locals : List (Nat × Nat) := []
  trips : List Bool := []
  requests : List Permit := []
  offers : List (Nat × Nat) := []
  replies : List Reply := []
  recs : List Rec := []
  deriving DecidableEq, Repr

/-- What a lane has published in the frame in progress (R24, R50, R159). -/
structure Pub where
  pubAt : Nat
  ov : OutVec := {}
  hash : BitVec 64
  sig : BitVec 64
  sigf : Bool
  deriving DecidableEq, Repr

/-- Frame control. Times in µs of the module timebase. -/
structure FrmBlk where
  /-- What the frame in progress has been carried out to: INPUT while it takes, PROVE until the vote, the drain's work, and
  EMIT from then on while its last phases run; `FRM_STAT` shows PHASE by the clock (R70). -/
  phase : Phase := .idle
  /-- Tick of the frame in progress or of the last one, and its own T, EXT and CNT: those in effect at its tick (R47, R59). -/
  tick : Nat := 0
  T : Nat := 0
  ext : Nat := 0
  cnt : Nat := 0
  /-- Completion of INPUT, EVALUATE and COMMIT (R47, R70). -/
  inEnd : Nat := 0
  evalEnd : Nat := 0
  commitEnd : Nat := 0
  /-- The coded words of the committed area as the frame's PROVE left them, which every lane publishes from, and those of the frame before (R50, R161). -/
  area : List (BitVec 64) := []
  areaWas : List (BitVec 64) := []
  /-- Tick at which the next frame starts, none while no frames run (R44, R57). -/
  nextTick : Option Nat := none
  /-- Vote instant passed, output waiting for its release point (R55). -/
  voted : Bool := false
  released : Bool := false
  /-- Completion of EMIT of the frame in progress (R55, R57). -/
  emitEnd : Nat := 0
  drainEnd : Nat := 0
  late : Nat := 0
  run : Nat := 0
  cycLo : Nat := 0
  fcValid : Bool := false
  mt : Nat := 0
  peak : List Nat := [0, 0, 0, 0, 0, 0, 0]
  overBudget : List Bool := [false, false, false, false, false, false, false]
  clrPeak : Bool := false
  /-- The current run of extended frames has been found beyond tolerance (R59, R71). -/
  beyond : Bool := false
  /-- The MRAM record of the counter (R64). -/
  record : Nat := 0
  /-- A frame has started since the start-up: FRM_CNT reads 0 until then (R70); and one has ended. -/
  started : Bool := false
  ended : Bool := false
  deriving DecidableEq, Repr

/-! ## Lanes and the vote (R155 to R184) -/

/-- Why a lane is out of the vote, as far as its return depends on it. -/
inductive OutWhy
  | none | fault | command | test | debug | update
  deriving DecidableEq, Repr

/-- One lane (R166). -/
structure LaneBlk where
  state : LaneSt := .fenced
  shadow : Nat := 0
  why : OutWhy := .none
  /-- Latent mark and the first differing word (R172). -/
  latent : Bool := false
  /-- Halted since the lane was VOTING last (R181). -/
  debugged : Bool := false
  /-- Own hardware fault present (R184). -/
  hwFault : Bool := false
  /-- Times of the fences and failed loads of the last 24 h (R170). -/
  fences : List Nat := []
  /-- Held FENCED under the retry limit until a rotating test passes (R170). -/
  limited : Bool := false
  /-- Odd-lane events since the last clear (R183). -/
  odd : Nat := 0
  pub : Option Pub := none
  /-- A rotating test has passed, the lane waits for the drain (R189). -/
  passed : Bool := false
  /-- Lane-out, lane-in or release, or halt asked for at the next drain (R178, R180). -/
  wantOut : Bool := false
  wantIn : Bool := false
  wantHalt : Bool := false
  /-- Leaves the vote to boot new firmware at the next drain at which R178 allows (R377). -/
  wantBoot : Bool := false
  /-- Booted firmware image and whether the lane is booting (R377). -/
  booted : Nat := 0
  booting : Bool := false
  /-- Words of the committed area, by index, that this lane's memory holds with an error, and the error (R161, R171). -/
  upsets : List (Nat × BitVec 64) := []
  /-- Entries of this lane's shadow of the lock store, by object and kind of hold, that it holds upset (R27). -/
  shadowOff : List (Nat × Bool × Nat) := []
  /-- Preload of the pending exchange complete (R379). -/
  preloaded : Bool := false
  /-- Resynchronisation attempts that failed in a row (R377). -/
  tries : Nat := 0
  deriving DecidableEq, Repr

/-- The vote (R163 to R183). -/
structure VotBlk where
  lane1 : LaneBlk := {}
  lane2 : LaneBlk := {}
  lane3 : LaneBlk := {}
  noMaj : Bool := false
  /-- 0 not run, 1 running, 2 passed, 3 failed. -/
  inj : Nat := 0
  injPass : Nat := 0
  injLate : Nat := 0
  signA : Nat := 0
  signB : Nat := 0
  /-- Start of the 2oo2 clock, none while it stands (R173). -/
  duoSince : Option Nat := none
  extUsed : Bool := false
  extH : Nat := 0
  /-- DUO_LIMIT reached at this time (R175). -/
  limitAt : Option Nat := none
  /-- Stop asked for at the next drain (R175). -/
  stopAtDrain : Bool := false
  oddLane : Nat := 0
  oddBits : Nat := 0
  oddFrame : Nat := 0
  scrAdr : Nat := 0
  passes : Nat := 0
  sig : BitVec 64 := 0
  hash : BitVec 64 := 0
  clr : Bool := false
  /-- A lane was odd, a load or shadow frame failed, a vote unit was outvoted in the frame (R184). -/
  sawResync : Bool := false
  sawVoter : Bool := false
  deriving DecidableEq, Repr

/-- One lane of the vote. -/
def laneOf (v : VotBlk) : Lane → LaneBlk
  | .l1 => v.lane1
  | .l2 => v.lane2
  | .l3 => v.lane3

def setLane (v : VotBlk) (l : Lane) (f : LaneBlk → LaneBlk) : VotBlk :=
  match l with
  | .l1 => { v with lane1 := f v.lane1 }
  | .l2 => { v with lane2 := f v.lane2 }
  | .l3 => { v with lane3 := f v.lane3 }

def allLanes (v : VotBlk) (f : LaneBlk → LaneBlk) : VotBlk :=
  { v with lane1 := f v.lane1, lane2 := f v.lane2, lane3 := f v.lane3 }

def isVoting (v : VotBlk) (l : Lane) : Bool := (laneOf v l).state = .voting

def votingLanes (v : VotBlk) : List Lane := Lane.all.filter (isVoting v)

/-! ## Proof test (R185 to R204) -/

/-- The last test of a lane, as `BST_LAST_n` shows it (R203). -/
structure LastTest where
  /-- 0 none, 1 passed, 2 failed, 3 started and not ended. -/
  result : Nat := 0
  again : Bool := false
  block : Nat := 0
  step : Nat := 0
  unit : Nat := 0
  dur : Nat := 0
  deriving DecidableEq, Repr

/-- A lane's schedule (R185, R187, R188). -/
structure LaneTest where
  /-- Due time in µs, none before the schedule is anchored. -/
  due : Option Nat := none
  /-- The due time has been reached. -/
  isDue : Bool := false
  /-- The due time of the schedule, while a latent mark makes the test due at once (R187). -/
  sched : Option Nat := none
  late : Bool := false
  /-- End of the last test in µs. -/
  lastEnd : Option Nat := none
  hold : Bool := false
  failed : Bool := false
  restoreFail : Bool := false
  keyzFail : Bool := false
  last : LastTest := {}
  deriving DecidableEq, Repr

/-- The proof test block. -/
structure BstBlk where
  t1 : LaneTest := {}
  t2 : LaneTest := {}
  t3 : LaneTest := {}
  /-- The drain of the first VOTING frame, or the entry into a role without frames, from which the first due times count. -/
  anchor : Option Nat := none
  /-- Lane under test, its start, repeat test or not. -/
  under : Option Lane := none
  startedAt : Nat := 0
  again : Bool := false
  /-- 0 not run, 1 running, 2 passed, 3 failed. -/
  post : Nat := 0
  fail : Nat := 0
  pass1 : Nat := 0
  pass2 : Nat := 0
  pass3 : Nat := 0
  sigF : BitVec 64 := 0
  clr : Bool := false
  /-- A repeat test passed in the frame (R204). -/
  sawRetry : Bool := false
  /-- Test journal in MRAM: the last test of each lane (R201). -/
  journal : List LastTest := [{}, {}, {}]
  deriving DecidableEq, Repr

def testOf (b : BstBlk) : Lane → LaneTest
  | .l1 => b.t1
  | .l2 => b.t2
  | .l3 => b.t3

def setTest (b : BstBlk) (l : Lane) (f : LaneTest → LaneTest) : BstBlk :=
  match l with
  | .l1 => { b with t1 := f b.t1 }
  | .l2 => { b with t2 := f b.t2 }
  | .l3 => { b with t3 := f b.t3 }

/-- The pieces of work of a test in their order: the step, the bank or segment, and the time at most in µs (R192). -/
def testPieces : List (Nat × Nat × Nat) :=
  [(1, 15, 3000000)] ++ (List.range 15).map (fun k => (2, k, 3100000)) ++ (List.range 8).map (fun k => (3, k, 100000))
    ++ [(4, 0, 100000), (5, 0, 10000), (6, 0, 1600000), (7, 0, 400000)]

/-- The reload of a repeat test at most, in µs (R197). -/
def reloadUs : Nat := 20000000

/-- The piece of work in progress after a time, the last where all of theirs has passed. -/
def pieceAt : List (Nat × Nat × Nat) → Nat → Nat × Nat
  | [], _ => (7, 0)
  | p :: ps, t => if t < p.2.2 then (p.1, p.2.1) else pieceAt ps (t - p.2.2)

/-- Step and unit in progress, both 0 where none is (R203). DESIGN CHOICE (log entry 123): each piece of work takes its time
at most, as in the chapter's worked example, and the reload of a repeat test stands at the end of step 3. -/
def testStep (b : BstBlk) (now : Nat) : Nat × Nat :=
  let reload := if b.again then reloadUs else 0
  let pieces := testPieces.map fun p => if p.1 = 3 ∧ p.2.1 = 7 then (p.1, p.2.1, p.2.2 + reload) else p
  if b.under.isNone || now < b.startedAt then (0, 0) else pieceAt pieces (now - b.startedAt)

/-- From step 5 on the lane under test holds no key in plain form (R194). -/
def zeroised (b : BstBlk) (l : Lane) (now : Nat) : Bool := b.under == some l && 5 ≤ (testStep b now).1

/-! ## Praline's hardware (R144 to R154) -/

/-- One instance (R144, R145). -/
structure InstBlk where
  state : InstSt := .isIn
  equal : Nat := 0
  outAt : Option Nat := none
  /-- What this instance's own copies hold otherwise than the majority (R141, R144): entries of its lock store, by object
  and kind of hold, with what is upset in the stored 64 bits; and whether a page of its table fails its CRC (R147). -/
  off : List (Nat × Bool × Nat) := []
  tableBad : Bool := false
  deriving DecidableEq, Repr

/-- One overrun guard (R148 to R152). -/
structure GuardBlk where
  armed : Bool := false
  tripped : Bool := false
  count : Nat := 0
  /-- Last axle or sequence error on the guard's pair, µs (R152). -/
  lastAt : Option Nat := none
  deriving DecidableEq, Repr

structure PrlBlk where
  ix : InstBlk := {}
  iy : InstBlk := {}
  iz : InstBlk := {}
  fenced : Bool := true
  table : Bool := false
  /-- Start-up checks passed, in the order of R147. -/
  checks : Nat := 0
  duoUs : Nat := 0
  /-- Last time DUOH was counted up to, none with three instances IN (R145). -/
  duoFrom : Option Nat := none
  digest : BitVec 32 := 0
  press : Pressure := .normal
  free : Nat := 1024
  ppeak : Nat := 0
  cpeak : Nat := 0
  denyCount : Nat := 0
  denyReason : Nat := 0
  denyObj : Nat := 0
  revCount : Nat := 0
  revReason : Nat := 0
  revObj : Nat := 0
  clr : Bool := false
  /-- A sequence error on a guard's pair was seen in the frame (R154). -/
  sawSeq : Bool := false
  guards : List GuardBlk := List.replicate 16 {}
  /-- Lock store as committed at the last drain, crumb n at position n (R153). -/
  store : List Crumb := []
  deriving DecidableEq, Repr

def instOf (p : PrlBlk) : Inst → InstBlk
  | .x => p.ix
  | .y => p.iy
  | .z => p.iz

def setInst (p : PrlBlk) (i : Inst) (f : InstBlk → InstBlk) : PrlBlk :=
  match i with
  | .x => { p with ix := f p.ix }
  | .y => { p with iy := f p.iy }
  | .z => { p with iz := f p.iz }

/-! ## Field clusters (R205 to R240) -/

/-- One report of an uplink (R220). -/
structure Report where
  state : Nat
  fault : Bool
  aux : Nat
  deriving DecidableEq, Repr

/-- An uplink as a mailbox buffer holds it (R220, R234). -/
structure Uplink where
  cycle : Nat
  nstat : Nat
  lastF : Nat
  reports : List Report
  /-- Received while the node was admitted (R98). -/
  admitted : Bool := false
  deriving DecidableEq, Repr

/-- A field node as the port keeps it (R231, R232, R234, R239). -/
structure NodeBlk where
  node : Nat
  state : NodeState := .absent
  /-- δ held for each channel in microticks, none while unranged (R231). -/
  dlyA : Option Nat := none
  dlyB : Option Nat := none
  /-- Refused on a ranging since the last COMMIT (R231); dropped and not re-admitted yet (R232). -/
  wasDropped : Bool := false
  /-- Consecutive cycles without a valid uplink, and with one. -/
  missing : Nat := 0
  clean : Nat := 0
  /-- Cycle of the last valid uplink. -/
  lastValid : Option Nat := none
  /-- Valid on A and on B in the last cycle (R239 VA, VB), and in the cycle in progress. -/
  va : Bool := false
  vb : Bool := false
  nowA : Bool := false
  nowB : Bool := false
  /-- An uplink was taken in the cycle in progress. -/
  heard : Bool := false
  buf0 : Option Uplink := none
  buf1 : Option Uplink := none
  /-- Buffer that is frozen for the frame: 0 or 1; the pointer's second copy is its complement (R54, R240). -/
  frozen : Nat := 0
  frozenN : Nat := 1
  /-- Buffer with the most recent complete uplink, and the pointer's second copy. -/
  latest : Nat := 0
  latestN : Nat := 1
  /-- The withdrawal bit (R219). -/
  withdrawn : Bool := false
  /-- Dropped out in the cycle in progress: the bit is set at the next cycle start (R219). -/
  withdrawDue : Bool := false
  /-- Found invalid at the last freeze (R91, R97). -/
  wasInvalid : Bool := true
  /-- Entries load only from evaluations with the node invalid, until it is valid again (R97). -/
  onlyRestr : Bool := false
  /-- Deviation in microticks in this cycle and in the cycle before (R227). -/
  dev : Option Int := none
  devPrev : Option Int := none
  /-- Number of the last service frame sent to the node (R224). -/
  snum : Nat := 0
  /-- OCF distribution (R386): package, blocks the node misses, state. -/
  ocfPkg : Nat := 0
  ocfState : Nat := 0
  ocfMissing : Nat := 0
  ocfReceived : Nat := 0
  ocfWant : Bool := false
  /-- The module's record of the place's configuration identifier where it is no longer the image's, the one
  of a package being put in (R386), and the one last ranged with. -/
  cfgId : Option Nat := none
  altCfg : Option Nat := none
  ranCfg : Option Nat := none
  deriving DecidableEq, Repr

/-- A party of the ranging sweep (R231). -/
inductive Party
  | coupler (num : Nat)
  | node (num : Nat)
  deriving DecidableEq, Repr

/-- A coupler of one channel (R231). -/
structure CouplerBlk where
  num : Nat
  chan : Chan
  dly : Option Nat := none
  refused : Bool := false
  deriving DecidableEq, Repr

/-- A port guardian (R225). -/
structure GuardianBlk where
  state : GuardianSt := .closed
  /-- Cycles of the violations of the last 1,000 cycles. -/
  violations : List Nat := []
  blockedAt : Option Nat := none
  /-- Times of BLOCKED in µs, for the second within 1 h. -/
  blockedTimes : List Nat := []
  forever : Bool := false
  /-- A transmission was cut in the cycle in progress (R240). -/
  cut : Bool := false
  /-- Slot 0 frames in a row seen in LISTEN, and lost in a row otherwise (R225). -/
  good : Nat := 0
  lost : Nat := 0
  deriving DecidableEq, Repr

/-- A service frame that waits for its answer (R224). -/
structure SvcOut where
  node : Nat
  code : Nat
  snum : Nat
  ref : Nat
  content : Bytes
  sentCycle : Nat
  deriving DecidableEq, Repr

/-- A downlink entry of a node as its slot's buffer holds it (R216, R217). -/
structure DlEntry where
  node : Nat
  /-- Byte of the message's body at which the entry starts. -/
  offset : Nat := 0
  states : List Nat
  tags : List (BitVec 64)
  /-- The evaluation it comes from had the node invalid (R97). -/
  restr : Bool
  deriving DecidableEq, Repr

/-- A downlink message (R216). -/
structure DlMsg where
  slot : Nat
  frame : Nat
  entries : List DlEntry
  sig1 : BitVec 64
  sig2 : BitVec 64
  deriving DecidableEq, Repr

/-- One cluster port (R230 to R234, R239). -/
structure FrnBlk where
  state : PortSt := .off
  fenced : Bool := false
  cycle : Nat := 0
  /-- A cycle has started since the port was started, and the time of the last cycle start. -/
  begun : Bool := false
  cycleAt : Nat := 0
  /-- RUN from the next cycle start (R230, R354); cycles in RUN since a takeover, none otherwise (R355). -/
  goRun : Bool := false
  runCycles : Option Nat := none
  /-- Stops transmitting from the next cycle start; silent since (R352). -/
  muteDue : Bool := false
  mute : Bool := false
  offs : Int := 0
  rate : Int := 0
  prec : Nat := 0
  errA : Nat := 0
  errB : Nat := 0
  clr : Bool := false
  nodes : List NodeBlk := []
  couplers : List CouplerBlk := []
  guardA : GuardianBlk := {}
  guardB : GuardianBlk := {}
  /-- Consecutive cycles in which every admitted node was valid on one channel only (R233). -/
  oneChan : Nat := 0
  /-- Consecutive cycles without any valid uplink (R240). -/
  silent : Nat := 0
  /-- Ranging: party asked on each channel and the cycle; RANGED due at the next cycle start (R231). -/
  askA : Option (Party × Nat) := none
  askB : Option (Party × Nat) := none
  rangedA : Option (Party × Nat) := none
  rangedB : Option (Party × Nat) := none
  /-- The party asked last on each channel. -/
  sweepA : Option Party := none
  sweepB : Option Party := none
  svc : List SvcOut := []
  back : List DlMsg := []
  current : List DlMsg := []
  /-- Restriction entry removed at the start of the next cycle (R177). -/
  stopPending : Bool := false
  /-- Number of sync values used last (R239 NSYNC). -/
  nsync : Nat := 0
  /-- The partner's sync frame: deviation of this cycle (R223). -/
  partnerSync : Option Int := none
  partnerPrev : Option Int := none
  /-- Ranging cycle in which a party was refused last (R240). -/
  refusedAt : Option Nat := none
  deriving DecidableEq, Repr

end Sys2Proof.Machine
end

