-- ==== Sys2Proof/Machine/CfgRegs.lean ====
section
/-! DEFINITION. The ST registers: every register whose fields take effect only at a COMMIT (R12, R299,
R313), with its address (R298), its reset value, and the fields that are ST and LK. -/

namespace Sys2Proof.Machine

open Sys2Proof

/-- The 28 registers with ST fields, in ascending address. -/
inductive StReg
  | sysFsev | frmCtl | frmOvr | frmFsev | votCtl | votFsev | prlCtl | prlFsev | frnCtl0
  | frnCtl1 | frnFsev | lioCtl | lioFsev | xbrFsev | dpxCtl | dpxFsev | updCtl | updFsev
  | evrCtl | evrFsev | bstCtl | bstFsev | pwrFsev | secCtl | secFsev | cmdCtl | cmdAddr | cmdFsev
  deriving DecidableEq, Repr

/-- The ST registers in ascending address (R345). -/
def StReg.all : List StReg :=
  [.sysFsev, .frmCtl, .frmOvr, .frmFsev, .votCtl, .votFsev, .prlCtl, .prlFsev, .frnCtl0, .frnCtl1,
   .frnFsev, .lioCtl, .lioFsev, .xbrFsev, .dpxCtl, .dpxFsev, .updCtl, .updFsev, .evrCtl, .evrFsev,
   .bstCtl, .bstFsev, .pwrFsev, .secCtl, .secFsev, .cmdCtl, .cmdAddr, .cmdFsev]

/-- Register address (R298). -/
def StReg.addr : StReg → Nat
  | .sysFsev => 0xF008
  | .frmCtl => 0x10000
  | .frmOvr => 0x10004
  | .frmFsev => 0x1F008
  | .votCtl => 0x20000
  | .votFsev => 0x2F008
  | .prlCtl => 0x30000
  | .prlFsev => 0x3F008
  | .frnCtl0 => 0x40000
  | .frnCtl1 => 0x48000
  | .frnFsev => 0x4F008
  | .lioCtl => 0x50000
  | .lioFsev => 0x5F008
  | .xbrFsev => 0x6F008
  | .dpxCtl => 0x70000
  | .dpxFsev => 0x7F008
  | .updCtl => 0x80000
  | .updFsev => 0x8F008
  | .evrCtl => 0x90000
  | .evrFsev => 0x9F008
  | .bstCtl => 0xA0000
  | .bstFsev => 0xAF008
  | .pwrFsev => 0xBF008
  | .secCtl => 0xC0000
  | .secFsev => 0xCF008
  | .cmdCtl => 0xD0000
  | .cmdAddr => 0xD0004
  | .cmdFsev => 0xDF008

/-- Bits that are ST: a staged write reaches these and no others (R14, R299). -/
def StReg.mask : StReg → Word
  | .sysFsev => 0xFF
  | .frmCtl => 0xFF07
  | .frmOvr => 0x31F
  | .frmFsev => 0x33
  | .votCtl => 0x7FF
  | .votFsev => 0xCC30CF
  | .prlCtl => 0x1FF
  | .prlFsev => 0xFFF3F3
  | .frnCtl0 => 0x30F0F
  | .frnCtl1 => 0x30F0F
  | .frnFsev => 0xFFF0FFF
  | .lioCtl => 0xFFFFFF
  | .lioFsev => 0xFFFFC0
  | .xbrFsev => 0x3FF
  | .dpxCtl => 0x3FFFFF03
  | .dpxFsev => 0xCFF
  | .updCtl => 0xFFFF01
  | .updFsev => 0x3FF
  | .evrCtl => 0x1FF
  | .evrFsev => 0xFF
  | .bstCtl => 0xFF1F
  | .bstFsev => 0x333F
  | .pwrFsev => 0x3F
  | .secCtl => 0x1FF
  | .secFsev => 0x3C
  | .cmdCtl => 0xFFFF01FF
  | .cmdAddr => 0x1F0700
  | .cmdFsev => 0xFFF

/-- ST bits that are not LK: a write in SEALED reaches these (R12). -/
def StReg.unlocked : StReg → Word
  | .sysFsev => 0x0
  | .frmCtl => 0xFF00
  | .frmOvr => 0x0
  | .frmFsev => 0x0
  | .votCtl => 0x0
  | .votFsev => 0x0
  | .prlCtl => 0x0
  | .prlFsev => 0x0
  | .frnCtl0 => 0x0
  | .frnCtl1 => 0x0
  | .frnFsev => 0x0
  | .lioCtl => 0x0
  | .lioFsev => 0x0
  | .xbrFsev => 0x0
  | .dpxCtl => 0x0
  | .dpxFsev => 0x0
  | .updCtl => 0x0
  | .updFsev => 0x0
  | .evrCtl => 0x0
  | .evrFsev => 0x0
  | .bstCtl => 0x0
  | .bstFsev => 0x0
  | .pwrFsev => 0x0
  | .secCtl => 0x0
  | .secFsev => 0x0
  | .cmdCtl => 0x100
  | .cmdAddr => 0x0
  | .cmdFsev => 0x0

/-- The configuration in effect, or any copy of it: one word for each ST register. The defaults are the
reset values. -/
structure Cfg where
  sysFsev : Word := 0x54
  frmCtl : Word := 0x1401
  frmOvr : Word := 0x20A
  frmFsev : Word := 0xCF
  votCtl : Word := 0x348
  votFsev : Word := 0x639775
  prlCtl : Word := 0x48
  prlFsev : Word := 0x2110EA9
  frnCtl0 : Word := 0x30303
  frnCtl1 : Word := 0x30303
  frnFsev : Word := 0xA154A154
  lioCtl : Word := 0xA0F3C
  lioFsev : Word := 0x45546A
  xbrFsev : Word := 0x205
  dpxCtl : Word := 0x8281900
  dpxFsev : Word := 0x355
  updCtl : Word := 0x1E0A00
  updFsev : Word := 0x54
  evrCtl : Word := 0x100
  evrFsev : Word := 0x15
  bstCtl : Word := 0x3C08
  bstFsev : Word := 0xD95
  pwrFsev : Word := 0xD5
  secCtl : Word := 0x1E
  secFsev : Word := 0xD3
  cmdCtl : Word := 0xC5300019
  cmdAddr : Word := 0x0
  cmdFsev : Word := 0x541
  deriving DecidableEq, Repr

def cfgGet (c : Cfg) : StReg → Word
  | .sysFsev => c.sysFsev
  | .frmCtl => c.frmCtl
  | .frmOvr => c.frmOvr
  | .frmFsev => c.frmFsev
  | .votCtl => c.votCtl
  | .votFsev => c.votFsev
  | .prlCtl => c.prlCtl
  | .prlFsev => c.prlFsev
  | .frnCtl0 => c.frnCtl0
  | .frnCtl1 => c.frnCtl1
  | .frnFsev => c.frnFsev
  | .lioCtl => c.lioCtl
  | .lioFsev => c.lioFsev
  | .xbrFsev => c.xbrFsev
  | .dpxCtl => c.dpxCtl
  | .dpxFsev => c.dpxFsev
  | .updCtl => c.updCtl
  | .updFsev => c.updFsev
  | .evrCtl => c.evrCtl
  | .evrFsev => c.evrFsev
  | .bstCtl => c.bstCtl
  | .bstFsev => c.bstFsev
  | .pwrFsev => c.pwrFsev
  | .secCtl => c.secCtl
  | .secFsev => c.secFsev
  | .cmdCtl => c.cmdCtl
  | .cmdAddr => c.cmdAddr
  | .cmdFsev => c.cmdFsev

def cfgSet (c : Cfg) (r : StReg) (w : Word) : Cfg :=
  match r with
  | .sysFsev => { c with sysFsev := w }
  | .frmCtl => { c with frmCtl := w }
  | .frmOvr => { c with frmOvr := w }
  | .frmFsev => { c with frmFsev := w }
  | .votCtl => { c with votCtl := w }
  | .votFsev => { c with votFsev := w }
  | .prlCtl => { c with prlCtl := w }
  | .prlFsev => { c with prlFsev := w }
  | .frnCtl0 => { c with frnCtl0 := w }
  | .frnCtl1 => { c with frnCtl1 := w }
  | .frnFsev => { c with frnFsev := w }
  | .lioCtl => { c with lioCtl := w }
  | .lioFsev => { c with lioFsev := w }
  | .xbrFsev => { c with xbrFsev := w }
  | .dpxCtl => { c with dpxCtl := w }
  | .dpxFsev => { c with dpxFsev := w }
  | .updCtl => { c with updCtl := w }
  | .updFsev => { c with updFsev := w }
  | .evrCtl => { c with evrCtl := w }
  | .evrFsev => { c with evrFsev := w }
  | .bstCtl => { c with bstCtl := w }
  | .bstFsev => { c with bstFsev := w }
  | .pwrFsev => { c with pwrFsev := w }
  | .secCtl => { c with secCtl := w }
  | .secFsev => { c with secFsev := w }
  | .cmdCtl => { c with cmdCtl := w }
  | .cmdAddr => { c with cmdAddr := w }
  | .cmdFsev => { c with cmdFsev := w }

/-- The ST register at an address. -/
def stRegAt? (a : Nat) : Option StReg := StReg.all.find? fun r => r.addr == a

/-- The words of a configuration in ascending address (R345). -/
def cfgWords (c : Cfg) : List Word := StReg.all.map (cfgGet c)

/-- A configuration from its words in ascending address; missing words keep the reset value. -/
def cfgOfWords (ws : List Word) : Cfg :=
  (StReg.all.zip ws).foldl (fun c p => cfgSet c p.1 p.2) {}

end Sys2Proof.Machine
end

