-- ==== Sys2Proof/Machine/Comm.lean ====
section
/-! DEFINITION. The state of the command packet engine and of the exchange bridge (R269 to R320). Each
field's default is its reset value. -/

namespace Sys2Proof.Machine

open Sys2Proof

/-- A partner table entry (R271); an empty one has ADDR 0xFFFF. -/
structure Partner where
  addr : Nat := 0xFFFF
  conn : Nat := 0
  /-- CLASSES: vital control, query, maintenance, update, diagnostic, witness opcodes. -/
  classes : Nat := 0
  flags : Nat := 0
  silent : Nat := 0
  udpp : Nat := 0
  ip : Nat := 0
  deriving DecidableEq, Repr

/-- A datagram being put together from fragments (R272). -/
structure Reassembly where
  conn : Nat
  ip : Nat
  udpp : Nat
  ident : Nat
  startedAt : Nat
  /-- Fragments as offset and bytes, and the whole length once the last has come. -/
  parts : List (Nat × Bytes)
  total : Option Nat
  deriving DecidableEq, Repr

/-- One entry of a partner's reply store: request SEQ, safety code and the reply's packet (R280). -/
structure Stored where
  entry : Nat
  seq : Nat
  safety : Nat
  reply : Bytes
  deriving DecidableEq, Repr

/-- A vital request passed to the lanes and not yet answered (R280, R310). -/
structure Pending where
  entry : Nat
  seq : Nat
  safety : Nat
  tag : Nat
  /-- Frame counter when it was passed, and where its datagram came from. -/
  frame : Nat
  ip : Nat := 0
  udpp : Nat := 0
  deriving DecidableEq, Repr

/-- A subscription of a partner (R290): the words as last reported to it, and where its rolling refresh
stands. -/
structure Subscription where
  entry : Nat
  period : Nat
  seen : List (Nat × Nat) := []
  roll : Nat := 0
  deriving DecidableEq, Repr

/-- Counters of one connector (R293). -/
structure PortCount where
  conn : Nat
  received : Nat := 0
  d1 : Nat := 0
  d2 : Nat := 0
  d5 : Nat := 0
  d12 : Nat := 0
  d13 : Nat := 0
  replies : Nat := 0
  deriving DecidableEq, Repr

/-- What leaves a port (the model's own record of it): connector, IP address and UDP port it goes to,
and the packet's bytes (R282). -/
structure Datagram where
  conn : Nat
  ip : Nat
  udpp : Nat
  data : Bytes
  deriving DecidableEq, Repr

/-- The command packet engine. -/
structure CmdBlk where
  partners : List Partner := List.replicate 32 {}
  reassembly : List Reassembly := []
  stored : List Stored := []
  pend : List Pending := []
  subs : List Subscription := []
  ports : List PortCount := [{ conn := 10 }, { conn := 11 }, { conn := 12 }, { conn := 13 }]
  /-- Last valid packet of each entry in µs, and the entries silent (R296). -/
  heard : List (Nat × Nat) := []
  silent : List Nat := []
  /-- Running count of the module's SEQ per entry in packets that are not vital (R278). -/
  seqOut : List (Nat × Nat) := []
  /-- Vital packets formed to each entry in the frame (R278). -/
  vitalOut : List (Nat × Nat) := []
  /-- Entries answered BAD_SAFETY in this frame (R282). -/
  badSafety : List Nat := []
  rxok : Nat := 0
  crcErr : Nat := 0
  otherErr : Nat := 0
  safety : Nat := 0
  stale : Nat := 0
  dup : Nat := 0
  full : Nat := 0
  clr : Bool := false
  fenced : Bool := false
  /-- A discard at step 13, a STALE and a BAD_SAFETY answered in the frame (R296). -/
  sawFull : Bool := false
  sawStale : Bool := false
  sawSafety : Bool := false
  /-- Requests that came while a frame was in progress, for the next INPUT (R30). -/
  inbox : List VReq := []
  /-- What the frame has formed and its release point sends: BOUNDARY_STATE packets of EMIT and the replies of COMMIT, with
  the requests these answer and what the reply store then takes (R280, R285, R288). -/
  frameOut : List Datagram := []
  frameAnswered : List Pending := []
  frameStored : List Stored := []
  /-- Time of the last discard at step 1 (R296). -/
  unknownAt : Option Nat := none
  deriving DecidableEq, Repr

/-- An item of a bridge queue (R307). The service processor keeps beside a command where its datagram came from, to answer
a sender whose entry goes before it is taken (R445); beside a packet of PKT_OUT stands where it goes: connector, address and
port. -/
structure QItem where
  iseq : Nat
  conn : Nat
  data : Bytes
  ip : Nat := 0
  udpp : Nat := 0
  via : Nat := 0
  deriving DecidableEq, Repr

/-- A pointer of a queue, in 64-bit words, and its second copy, stored as the bitwise complement of the first (R311). Its
width is a DESIGN CHOICE (log entry 117). -/
structure QPtr where
  ptr : BitVec 32 := 0
  copy : BitVec 32 := 0xFFFFFFFF
  deriving DecidableEq, Repr

/-- A pointer moved on by `n` words, both copies written. -/
def QPtr.advance (p : QPtr) (n : Nat) : QPtr :=
  { ptr := p.ptr + BitVec.ofNat 32 n, copy := ~~~ (p.ptr + BitVec.ofNat 32 n) }

/-- A bridge queue (R306 to R311). -/
structure Queue where
  items : List QItem := []
  nextSeq : Nat := 1
  loss : Nat := 0
  wr : QPtr := {}
  rd : QPtr := {}
  deriving DecidableEq, Repr

/-- A bridge semaphore (R303). -/
structure Sem where
  req : Bool := false
  owner : Nat := 0
  takenAt : Nat := 0
  deriving DecidableEq, Repr

/-- The exchange bridge. -/
structure XbrBlk where
  fenced : Bool := false
  cpend : Bool := false
  /-- Requests of COMMIT to be answered after the drain (R314, R315). -/
  casks : List Src := []
  cgen : Nat := 0
  errCnt : Nat := 0
  errAdr : Nat := 0
  errWr : Bool := false
  errCause : Nat := 0
  retry : Nat := 0
  cfc : Nat := 0
  cresult : Nat := 3
  cadr : Nat := 0
  clr : Bool := false
  sems : List Sem := List.replicate 8 {}
  q0 : Queue := {}
  q1 : Queue := {}
  q2 : Queue := {}
  q3 : Queue := {}
  q4 : Queue := {}
  q5 : Queue := {}
  /-- Command set frozen for the frame (R308), and how many of it INPUT took. -/
  cmdSet : List QItem := []
  taken : List Nat := []
  woutValid : Bool := false
  woutBuf : Bool := false
  woutLen : Nat := 0
  winFree : Bool := true
  winLen : Nat := 0
  /-- The image transfer window (R297), as written, byte `k` at byte address `k` (R9). -/
  xfer : Bytes := []
  /-- What has been written into port 0 since the last push (R309), and whether a flush has cut it off: the writer's remaining
  writes are then discarded until its next push (R310). -/
  port : Bytes := []
  portCut : Bool := false
  /-- The words that the last service read transfer returned (R301); the model's own field. -/
  readData : List Word := []
  /-- Happenings of the frame that the drain evaluates (R320, R326). -/
  sawQptr : Bool := false
  sawQloss : Bool := false
  sawSem : Bool := false
  sawErr : Bool := false
  deriving DecidableEq, Repr

def queueOf (x : XbrBlk) : Nat → Queue
  | 0 => x.q0
  | 1 => x.q1
  | 2 => x.q2
  | 3 => x.q3
  | 4 => x.q4
  | _ => x.q5

def setQueue (x : XbrBlk) (n : Nat) (f : Queue → Queue) : XbrBlk :=
  match n with
  | 0 => { x with q0 := f x.q0 }
  | 1 => { x with q1 := f x.q1 }
  | 2 => { x with q2 := f x.q2 }
  | 3 => { x with q3 := f x.q3 }
  | 4 => { x with q4 := f x.q4 }
  | _ => { x with q5 := f x.q5 }

end Sys2Proof.Machine
end

