-- ==== Sys2Proof/Machine/Service.lean ====
section
/-! DEFINITION. The state of duplex operation, of the update engine, of the event recorder and of the
security, power and system blocks (R341 to R433). Each field's default is its reset value. -/

namespace Sys2Proof.Machine

open Sys2Proof

/-! ## Duplex (R341 to R363) -/

/-- A wafer: header and the six sections (R344, R345), with what its checks give. -/
structure Wafer where
  pair : Nat := 0
  unit : Nat := 0
  frame : Nat := 0
  epoch : Nat := 0
  handover : Bool := false
  mzpid : Nat := 0
  prtid : Nat := 0
  len : Nat := 0
  /-- Layout word (R161, R367). -/
  layout : Nat := 0
  /-- Configuration section: the ST words in ascending address and the partner table. -/
  cfg : Cfg := {}
  partners : List Partner := []
  /-- State, settle, transactions, lock store, sequence windows and boundary tags. -/
  inter : Inter := {}
  guards : List GuardBlk := []
  hash : BitVec 64 := 0
  sig : BitVec 64 := 0
  /-- HCRC, CRC and WCODE valid (R347). -/
  hcrcOk : Bool := true
  crcOk : Bool := true
  wcodeOk : Bool := true
  deriving DecidableEq, Repr

/-- Segments of one inbound wafer (R346, R347). -/
structure Inbound where
  wafer : Wafer
  nseg : Nat
  got : List Nat
  startedAt : Nat
  /-- When the last of its segments came. -/
  lastAt : Nat
  deriving DecidableEq, Repr

/-- The last WITNESS_STATUS of a unit, as the witness holds it (R349, R351). -/
structure UnitStatus where
  unit : Nat
  time : Nat
  role : Nat := 1
  ready : Bool := false
  stopped : Bool := false
  granted : Bool := false
  handover : Bool := false
  wframe : Nat := 0
  hl : Nat := 40
  gepoch : Nat := 0
  deriving DecidableEq, Repr

/-- A REASON 2 request that waits for the end of the start window (R350). -/
structure StartReq where
  entry : Nat
  unit : Nat
  wframe : Nat
  deriving DecidableEq, Repr

structure DpxBlk where
  role : Role := .standby
  granted : Bool := false
  gepoch : Nat := 0
  /-- Beat counter, 48 bits, and when it last advanced (R348). -/
  beat : Nat := 0
  beatAt : Nat := 0
  /-- Last wafer formed or accepted: FRAME and LEN (R362). -/
  wframe : Nat := 0
  wsize : Nat := 0
  held : Option Wafer := none
  heldAt : Nat := 0
  /-- The wafer whose acceptance followed the partner's on-line exchange, and when (R381, R389). -/
  followed : Option Nat := none
  /-- Last wafer this module formed, and when (R359). -/
  formed : Option Wafer := none
  formedAt : Nat := 0
  inbound : Option Inbound := none
  miss : Nat := 0
  /-- Last valid X9 frame; the partner's heartbeat (R346, R363). -/
  peerAt : Option Nat := none
  peerReady : Bool := false
  peerMsw : Nat := 0
  peerGranted : Bool := false
  /-- WFRAME of its last heartbeat (R346), and when this module sent its own last one. -/
  peerFrame : Nat := 0
  /-- The counter record with which the peer answered at the start-up (R64). -/
  peerRecord : Nat := 0
  hbAt : Option Nat := none
  /-- Last valid WITNESS_STATUS of the witness, in WITNESS of either unit. -/
  witAt : Option Nat := none
  /-- When the last status that renews the witness lease came, and the last valid ACODE (R352). -/
  leaseAt : Option Nat := none
  ackAt : Option Nat := none
  /-- HOLDER: what the witness last said; in WITNESS its own. -/
  holder : Nat := 0
  /-- Reason of the request being repeated: 1, 2 or 3 (R350, R353). -/
  asking : Option Nat := none
  /-- Refused with WHY 2 since the last accepted wafer (R353). -/
  why2 : Bool := false
  /-- A former ACTIVE module that relinquished at a handover and holds its own wafer (R359). -/
  formerActive : Bool := false
  /-- A planned switchover is requested inside and waits for its conditions, or by command (R359). -/
  wanted : Bool := false
  commanded : Bool := false
  /-- Wafer n has been formed with HANDOVER: the grant is given up at the release point of frame n (R359). -/
  handDue : Bool := false
  /-- Release point of the last downlink and local command (R359). -/
  lastRelease : Nat := 0
  /-- Relinquished; what its slot 0 frames and ports then do (R352). -/
  relinquished : Bool := false
  /-- Greatest BEAT received from each partner entry: FREF of the next packets
  (R348). -/
  beatsSeen : List (Nat × Nat) := []
  /-- Takeover waiting for its first tick: when step 3 was made, cycles in RUN, good cycles in a row
  (R354). -/
  takeAt : Option Nat := none
  takeCycles : Nat := 0
  takeGood : Nat := 0
  takeNodes : List (Cluster × Nat) := []
  /-- Last frame released before the gap, as R89 counts it: acceptance time of the wafer. -/
  gapFrom : Nat := 0
  /-- First frame after a takeover not yet made: the gap R89 gives to WATCH timers. -/
  gapDue : Bool := false
  planned : Nat := 0
  taken : Nat := 0
  /-- The grant changed since the last WITNESS_STATUS: one is due at once (R348). -/
  statusDue : Bool := false
  /-- A wafer failed its check, a takeover occurred in the frame (R340). -/
  sawWaferBad : Bool := false
  sawTakeover : Bool := false
  clr : Bool := false
  /-- Witness: when it started, start window opened, requests in it, units' last status (R350). -/
  startedAt : Option Nat := none
  /-- Witness: in its first 1 s, in which it grants nothing and adopts a holder (R350). -/
  adopting : Bool := false
  windowAt : Option Nat := none
  windowReqs : List StartReq := []
  units : List UnitStatus := []
  deriving DecidableEq, Repr

/-! ## Updating (R364 to R391) -/

/-- One bank with its bank header (R365, R368). -/
structure Bank where
  state : BankSt := .empty
  /-- Image header of 64 bytes (R366). -/
  header : Bytes := []
  keyId : Nat := 0
  signature : Bytes := []
  /-- The stored image matches its stored digest, and the bank header its CRC. -/
  intact : Bool := true
  content : Content := .opaqueImage
  /-- The stored image, as the verification found it (R374). -/
  image : Bytes := []
  deriving DecidableEq, Repr

/-- A bank pair: `onB` says that bank B is the active one. -/
structure BankPair where
  onB : Bool := false
  a : Bank := {}
  b : Bank := {}
  deriving DecidableEq, Repr

/-- An open transfer (R370, R371). -/
structure UpdTransfer where
  id : Nat
  part : Part
  onB : Bool
  header : Bytes
  /-- Blocks written, and the numbers whose bitmap bit is set. -/
  blocks : List (Nat × Bytes) := []
  have_ : List Nat := []
  /-- Block notes posted: block number and whom to answer. -/
  notes : List (Nat × Src) := []
  deriving DecidableEq, Repr

/-- The UNCONFIRMED part (R382). -/
structure Unconf where
  part : Part
  since : Nat
  healthyFrom : Nat
  healthy : Bool := false
  /-- The MZP took effect together with a PRT. -/
  withPrt : Bool := false
  deriving DecidableEq, Repr

/-- A pending on-line exchange (R379); `back` when it is a fallback (R384). -/
structure Exchange where
  frame : Nat
  /-- When the exchange frame came and the exchange could not be made. -/
  due : Option Nat := none
  back : Bool := false
  reject : Bool := false
  deriving DecidableEq, Repr

/-- One copy of the settings area (R385). -/
structure Settings where
  fmt : Nat
  cfg : Cfg
  partners : List Partner
  intact : Bool := true
  deriving DecidableEq, Repr

structure UpdBlk where
  lfw1 : BankPair := {}
  lfw2 : BankPair := {}
  lfw3 : BankPair := {}
  prt : BankPair := {}
  mzp : BankPair := {}
  svc : BankPair := {}
  ocf : BankPair := {}
  xfer : Option UpdTransfer := none
  verifying : Bool := false
  /-- Result of the last verification, none before one has ended (R374). -/
  result : Option Status := none
  /-- UPD_STAT.XST. -/
  xst : Nat := 0
  unconf : Option Unconf := none
  exchange : Option Exchange := none
  /-- The last completed exchange frame (R390). -/
  xframe : Nat := 0
  /-- The part whose new image cannot read the settings in force (R340, R385, R386). -/
  incompat : Option Part := none
  fbk : Bool := false
  /-- The fallback in progress is automatic (R384). -/
  fbkAuto : Bool := false
  recov : Bool := false
  mapWait : Bool := false
  setfmt : Nat := 0
  copyA : Option Settings := none
  copyB : Option Settings := none
  retained : Option Settings := none
  /-- Activations that the next RESTART of kind 2 makes effective (R375, R378). -/
  atRestart : List Part := []
  /-- The service processor is restarting since (R375). -/
  svcAt : Option Nat := none
  /-- Time of the last status of 0x30-0x3A given (R340). -/
  errAt : Option Nat := none
  /-- Settings saved since the last applied COMMIT (R408). -/
  saved : Bool := false
  /-- Identifier of the last transfer opened (R370, R374). -/
  lastXid : Nat := 0
  /-- Parts whose fallback waits for a restart, with whether it is automatic (R384). -/
  fbkTo : List (Part × Bool) := []
  deriving DecidableEq, Repr

/-! ## Event recorder (R392 to R407) -/

/-- A record with the stored prefix of R399: OPSEC and PCC. -/
structure Kept where
  r : Rec
  opsec : Nat
  pcc : Nat
  deriving DecidableEq, Repr

/-- A batch in MRAM: its head, its records, of which the first `moved` are safe in the ring, and its commit word (R397,
R398). -/
structure Batch where
  first : Nat
  count : Nat
  crc : Nat
  recs : List Kept
  moved : Nat := 0
  committed : Bool := true
  deriving DecidableEq, Repr

/-- Records of a batch that are not yet in the ring. -/
def batchLeft (b : Batch) : List Kept := b.recs.drop b.moved

/-- A ring segment: its head, the stored records with the CHK of each, and the seal at its close (R399). -/
structure Segment where
  seq : Nat
  first : Nat
  count : Nat
  /-- Seal of the segment before it. -/
  prev : Bytes
  hcrc : Nat
  recs : List Kept
  chks : List Nat
  close : Bytes
  deriving DecidableEq, Repr

/-- A lane's diagnostic ring (R405). -/
structure DiagRing where
  recs : List Rec := []
  next : Nat := 1
  deriving DecidableEq, Repr

structure EvrBlk where
  buffer : List Kept := []
  /-- Batch of the flush in progress, and a trigger that arose during it (R397). -/
  flushing : Option (List Kept) := none
  again : Bool := false
  lastFlush : Nat := 0
  mram : List Batch := []
  ring : List Segment := []
  /-- Next record number, and the number as journalled in MRAM; 0 before any start-up. -/
  next : Nat := 0
  journal : Nat := 1
  mark : Bool := false
  /-- The service processor forms no further record (R397). -/
  closed : Bool := false
  clean : Bool := false
  /-- Losses not yet told of, WHERE 2 and WHERE 3 (R396). -/
  lost2 : Nat := 0
  lost3 : Nat := 0
  lossSvc : Nat := 0
  /-- Records that EVT_OUT had no room for since the tick, which the next frame counts in committed state (R396). -/
  lostDue : Nat := 0
  lossLane : Nat := 0
  lossAt : Option Nat := none
  /-- A loss whose EVT_LOSS has still to be raised (R396). -/
  sawLoss : Bool := false
  clr : Bool := false
  diag1 : DiagRing := {}
  diag2 : DiagRing := {}
  diag3 : DiagRing := {}
  tsrc : TimeSrc := .none
  lock : Bool := false
  /-- Consecutive Sync intervals within 10 µs, and the last valid Sync (R402). -/
  goodSyncs : Nat := 0
  syncAt : Option Nat := none
  /-- Calendar time in ns at module time 0, none while none is known. -/
  base : Option Int := none
  offset : Int := 0
  /-- The PTP clock before lock: its time in ns at module time 0 (R402). -/
  ptpBase : Option Int := none
  /-- Module time of power-on, the origin of OPSEC and of TQ 1 stamps. -/
  powerOnAt : Nat := 0
  /-- Tick time as latched at the last tick (R401). -/
  tickAt : Nat := 0
  /-- Last MARK, in module time. -/
  markAt : Nat := 0
  /-- RTC: calendar time in ns, none while invalid, and when it was written. -/
  rtc : Option Int := none
  rtcAt : Nat := 0
  deriving DecidableEq, Repr

/-! ## Power, security, system (R408 to R430) -/

/-- Power and the backup domain (R412 to R414, R425). -/
structure PwrBlk where
  power : Power := .run
  /-- X1 in 100 mV, and its minimum. -/
  x1 : Nat := 0
  x1min : Nat := 0
  /-- Cell voltage in mV as last measured. -/
  cell : Nat := 0
  hucnt : Nat := 0
  huAt : Option Nat := none
  /-- Step 3 of R413 has been taken: the shut-down completes. -/
  huStopped : Bool := false
  zeroised : Bool := false
  clr : Bool := false
  pcc : Nat := 0
  pccMram : Nat := 0
  deriving DecidableEq, Repr

/-- A wrapped key (R416): `gen` is the KEK it is wrapped under. -/
structure Blob where
  ktype : Nat
  index : Nat
  slot : Nat
  ctr : Nat
  gen : Nat
  key : Key
  deriving DecidableEq, Repr

/-- An open maintenance session (R409). -/
structure Session where
  entry : Nat
  addr : Nat
  ip : Nat
  udpp : Nat
  kslot : Nat
  lastAt : Nat
  deriving DecidableEq, Repr

/-- A challenge given and not used (R409). -/
structure Chal where
  entry : Nat
  addr : Nat
  value : BitVec 128
  givenAt : Nat
  deriving DecidableEq, Repr

structure SecBlk where
  life : Life := .factory
  dbg : Dbg := .d0
  dlane : Option Lane := none
  /-- Changes that the next drain makes (R408, R411). -/
  wantLife : Option Life := none
  wantDbg : Option (Dbg × Option Lane) := none
  session : Option Session := none
  chal : Option Chal := none
  /-- The sender on X13 that is treated as a partner entry without standing in the table: entry 31 (R387, R410),
  32 for the vendor (R409). -/
  guest : Option (Nat × Partner) := none
  /-- The sender's proof has verified once (R410). -/
  guestBound : Bool := false
  /-- Failures as entry and time; lockouts as entry and start (R409). -/
  failures : List (Nat × Nat) := []
  locked : List (Nat × Nat) := []
  failCount : Nat := 0
  lastFail : Option Nat := none
  authAt : Option Nat := none
  keyless : Bool := false
  tamper : Bool := false
  /-- The lid switch reads open or the mesh broken now (R415). -/
  sealBroken : Bool := false
  kek : Bool := true
  kekGen : Nat := 0
  elementOk : Bool := true
  blobs : List Blob := []
  /-- Wrapping counters of keys whose counter is not 0 (R418). -/
  counters : List (Nat × Nat × Nat × Nat) := []
  plain : List PlainKey := []
  /-- Keys that take effect at the next drain (R417). -/
  coming : List PlainKey := []
  /-- Keys erased, whose plain form goes at the next drain: KTYPE, INDEX, SLOT (R249, R417). -/
  going : List (Nat × Nat × Nat) := []
  imageKeys : List Nat := [1]
  /-- The initial maintenance key is held (R410). -/
  initialKey : Bool := true
  deriving DecidableEq, Repr

/-- System identity, start-up and S1 (R321, R420 to R425). -/
structure SysBlk where
  serial : Nat := 0
  /-- 0x10 UX-4810, 0x20 UX-4820 (R2). -/
  variant : Nat := 0x20
  /-- Issue letter in ASCII. -/
  issue : Nat := 0x44
  step : Nat := 1
  cause : Nat := 1
  /-- STOPPED of the MSW (R214, R334). -/
  stopped : Bool := false
  s1mask : Bool := true
  s1down : Bool := false
  /-- Enclosure temperature in units of 0.1 °C. -/
  temp : Int := 0
  /-- Last restart of the service processor by its watchdog (R340). -/
  wdogAt : Option Nat := none
  settingsLost : Bool := false
  /-- Connectors X5 to X9 with a qualified optic, enabled (R430). -/
  optics : List Nat := []
  /-- The module's power and start-up have put it into operation: its role is entered (R420). -/
  ready : Bool := false
  deriving DecidableEq, Repr

/-- What leaves the module by ports that are not packet connectors: the model's own record of it. -/
inductive Sent
  | packet (d : Datagram)
  | wafer (frame nseg : Nat)
  | waferAck (frame : Nat) (acode : BitVec 64)
  | heartbeat (frame msw : Nat) (ready granted : Bool)
  | field (c : Cluster) (ch : Chan) (data : Bytes)
  | barrierDown (seq : Nat)
  | barrierUp (seq : Nat)
  | switchTest (out : Nat)
  deriving DecidableEq, Repr

end Sys2Proof.Machine
end

