-- ==== Sys2Proof/Machine/Operands.lean ====
section
/-! DEFINITION. Operand forms: what a command brings with it where that is more than a number (the rule
each names says what the event carries). A field that says how the world or a test turned out is
something the machine measures or meets, and not a choice of the model. -/

namespace Sys2Proof.Machine

open Sys2Proof

/-- An upset of one copy of a queue pointer (R311): of which queue, of the read or the write pointer, of its second copy or
its first, and the bits. -/
structure PtrUpset where
  queue : Nat
  read : Bool := false
  second : Bool := false
  bits : BitVec 32
  deriving DecidableEq, Repr

/-- The form of a service transfer (R300 to R304): a write or a read, the bytes of one access, the words of a write after
its first or how many words a read asks for (more than one is a burst), whether the master's instruction is an exclusive
or atomic one, and how many RETRY terminations it meets first. -/
structure Transfer where
  write : Bool := true
  bytes : Nat := 4
  more : List Word := []
  count : Nat := 1
  exclusive : Bool := false
  crossed : Nat := 0
  deriving DecidableEq, Repr

/-- Who accesses a register: the lanes for a packet from an address (R291), or the service processor (R297). -/
inductive Access
  | lanes
  | service (t : Transfer)
  deriving DecidableEq, Repr

/-- What a field cycle brings beside its start (R225, R240): upsets of a node's mailbox pointers (node; the frozen pointer or
the latest; its second copy or its first), whether the port's schedule table fails its check, and the guardians whose own
table fails its CRC. -/
structure CycleEnv where
  now : Nat
  mailbox : List (Nat × Bool × Bool) := []
  scheduleBad : Bool := false
  tableBad : List Chan := []
  deriving DecidableEq, Repr

/-- What a frame tick brings (R47, R61, R128, R144): the tick interval as each lane measures it in µs, the
objects whose permissive request only one lane passes, the Praline instances whose result
differs from the other two, and the durations of INPUT and EVALUATE in µs. -/
structure TickEnv where
  m1 : Nat
  m2 : Nat
  m3 : Nat
  single : List Nat := []
  outInst : List Inst := []
  inUs : Nat := 0
  evalUs : Nat := 0
  /-- Upsets of queue pointers since the last tick. -/
  ptrUpsets : List PtrUpset := []
  deriving DecidableEq, Repr

/-- How a lane's publication differs from what the voting lanes compute alike (R24, R159): nothing in
a healthy lane. -/
structure PubDev where
  ov : VecDev := {}
  /-- Words of the committed area, by index, that the lane computed with an error, and the error. -/
  words : List (Nat × BitVec 64) := []
  hash : BitVec 64 := 0
  sig : BitVec 64 := 0
  sigf : Bool := false
  deriving DecidableEq, Repr

/-- What the vote instant meets (R163): a vote unit whose verdict differs from the other two, and whether
no two verdicts are identical. -/
structure VoteEnv where
  badVoter : Option Lane := none
  noVerdict : Bool := false
  deriving DecidableEq, Repr

/-- What COMMIT and the drain meet (R47, R57, R142, R168, R169, R171, R172): when the drain completes, the
durations of the seven phases in µs, what the scrub and the loads find. -/
structure DrainEnv where
  drainEnd : Nat
  durations : List Nat := []
  /-- Words of a lane's memory that have changed without a write, by index, and the error (R161, R171). -/
  upsets : List (Lane × Nat × BitVec 64) := []
  /-- Lanes whose load fails its hash check (R168), or whose repair does (R172). -/
  loadFail : List Lane := []
  /-- Entries of an instance's lock store that have been upset: object, shared or exclusive, and the bits (R141, R142). -/
  corrupt : List (Inst × Nat × Bool × Nat) := []
  /-- The same of a lane's shadow (R27, R142). -/
  shadowOff : List (Lane × Nat × Bool × Nat) := []
  deriving DecidableEq, Repr

/-- What the tester of a lane's memory and logic finds (R192, R194, R195): the bank or segment in which it finds it. -/
inductive TestFinding where
  /-- A March test finds a cell fault, in step 1, 2 or 3. -/
  | cell (step unit : Nat)
  /-- An uncorrectable error during a copy or the digest over it, in step 2 or 3. -/
  | copy (step unit : Nat)
  /-- A restored digest differs from the one formed before, in step 2 or 3. -/
  | restored (step unit : Nat)
  /-- The digest of a bank that holds part of an image differs from the image's. -/
  | image (step unit : Nat)
  /-- An injected error is not corrected or not detected. -/
  | injection
  /-- The key store does not read back as zero. -/
  | keyStore
  /-- A BIST signature differs from its ROM reference. -/
  | bist (block : Nat) (signature : BitVec 64)
  /-- The AES-256-CMAC known-answer test fails. -/
  | knownAnswer
  deriving DecidableEq, Repr

/-- What is observed of a rotating test that has come to its end (R192, R196, R197). -/
structure TestResult where
  found : Option TestFinding := none
  /-- The time in µs that each of the test's 28 pieces of work took, in their order. -/
  took : List Nat := []
  /-- The time in µs of a repeat test's reload. -/
  reload : Nat := 0
  deriving DecidableEq, Repr

/-- An uplink copy as it arrives on one channel: the frame, and the arrival of its start minus the slot's
action point, in microticks (R226, R227). -/
structure Arrival where
  data : Bytes
  dev : Int
  deriving DecidableEq, Repr

/-- How a barrier frame reaches the other side (R244): in order, or lost because it is missing, because its
CRC fails, or because its SEQ is out of step. -/
inductive LinkFault
  | arrives | missing | badCrc | badSeq
  deriving DecidableEq, Repr

/-- A downstream barrier frame as the field side meets it (R244, R249, R256): whether a key message that it
completes unwraps, and a checker that discards what the other accepts. -/
structure DownIn where
  fault : LinkFault := .arrives
  unwraps : Bool := true
  f1Discards : Bool := false
  f2Discards : Bool := false
  deriving DecidableEq, Repr

/-- What a trip channel's test shows (R261). -/
inductive TripResult
  | pass | degraded | locked
  deriving DecidableEq, Repr

/-- Results of the field-side tests of a local I/O restart (R263). -/
structure RestartTests where
  badBanks : List Nat
  badInputs : List Nat
  badOutputs : List Nat
  badTrips : List Nat
  selfTestBad : Bool
  deriving DecidableEq, Repr

/-- The IP address and UDP port a packet comes from, and its connector (R282). -/
structure NetAddr where
  conn : Nat
  ip : Nat
  udpp : Nat
  deriving DecidableEq, Repr

/-- A datagram as a connector receives it (R270, R272, R282): a fragment carries its identification, its offset, and
whether more follow. `closed` is what a TAMPER_REARM in it finds of the enclosure (R415). -/
structure DatagramIn where
  conn : Nat
  ip : Nat
  udpp : Nat
  data : Bytes
  frag : Option (Nat × Nat × Bool) := none
  closed : Bool := true
  deriving DecidableEq, Repr

/-- One boundary entry of a BOUNDARY_STATE packet (R288). -/
structure BoundaryEntry where
  obj : Nat
  offer : Nat
  border : Nat
  tag : BitVec 64
  deriving DecidableEq, Repr

/-- A BOUNDARY_STATE packet (R136, R288). -/
structure BoundaryIn where
  pair : Nat
  frame : Nat
  entries : List BoundaryEntry
  deriving DecidableEq, Repr

/-- A GRANT_REQUEST whose safety code and window pass (R348, R349). -/
structure GrantReqIn where
  src : Src
  unit : Nat
  fref : Nat
  beat : Nat
  reason : Nat
  miss : Nat
  wframe : Nat
  deriving DecidableEq, Repr

/-- A GRANT that two lanes verify (R349, R354). -/
structure GrantIn where
  fref : Nat
  beat : Nat
  unit : Nat
  gepoch : Nat
  wframe : Nat
  deriving DecidableEq, Repr

/-- A WITNESS_STATUS whose safety code and window pass (R348, R349). -/
structure WitIn where
  entry : Nat
  fref : Nat
  beat : Nat
  role : Nat
  flags : Nat
  wframe : Nat
  miss : Nat
  hl : Nat
  gepoch : Nat
  /-- KIND of the sender: 0 unit 1, 1 unit 2, 2 witness. -/
  kind : Nat
  deriving DecidableEq, Repr

/-- A wafer segment (R346). -/
structure SegIn where
  unit : Nat
  seg : Nat
  nseg : Nat
  crcOk : Bool
  wafer : Wafer
  deriving DecidableEq, Repr

/-- A heartbeat (R346). -/
structure HeartIn where
  unit : Nat
  wframe : Nat
  msw : Nat
  ready : Bool
  granted : Bool
  crcOk : Bool
  deriving DecidableEq, Repr

/-- What a start-up finds (R202, R420, R421): results of the tests of its steps. -/
structure StartEnv where
  railOk : Bool := true
  elementOk : Bool := true
  postOk : Bool := true
  bootFail : List Lane := []
  mzpLoadFail : Bool := false
  pralineFail : Nat := 0
  /-- Vote units that do not give the expected verdict in an injection frame: case 0 to 20, and lane (R182). -/
  injBad : List (Nat × Lane) := []
  /-- The counter record with which the peer module answers over X9, none where it does not answer (R64). -/
  peerRecord : Option Nat := none
  /-- Inputs whose shunt test fails at the start (R253). -/
  shuntBad : List Nat := []
  /-- Duration of the start-up in µs. -/
  duration : Nat := 0
  deriving DecidableEq, Repr

end Sys2Proof.Machine
end

