-- ==== Sys2Proof/Syntax.lean ====
section
/-! DEFINITION. The commands: one constructor for each row of spec/opcode_table.json. The table gives no
operand bits; an operand is what the named rule says the event carries, with `now` the time of a
time-driven event in µs of the module timebase (log entry 1). -/

namespace Sys2Proof

open Sys2Proof.Machine

/-- A command of the block, or an event that it meets. -/
inductive Instr
  /-- FRAME_TICK: The frame tick on the module timebase starts a frame and freezes its inputs (R44)
  -/
  | frameTick (now : Nat) (env : TickEnv)
  /-- LANE_PUBLISH: A lane completes PROVE and publishes its output vector, state hash and code
  signature (R50) -/
  | lanePublish (lane : Lane) (now : Nat) (dev : PubDev)
  /-- VOTE_INSTANT: At the vote instant each vote unit compares the counted publications (R50) -/
  | voteInstant (now : Nat) (env : VoteEnv) (d : DrainEnv)
  /-- RELEASE_POINT: At 0.75 T, or at EMIT completion if later, the back buffers become current
  (R55) -/
  | releasePoint (now : Nat)
  /-- OVERRUN: A frame's lateness exceeds EXT or the run of extended frames exceeds CNT (R59) -/
  | overrun (now : Nat)
  /-- WATCHDOG: A frame that has not drained by tick + 2 T raises WATCHDOG at SAFE-STOP (R60) -/
  | watchdog (now : Nat)
  /-- SHADOW_FRAMES_MATCHED: After three matching shadow frames a RESYNC lane becomes VOTING (R169)
  -/
  | shadowFramesMatched (lane : Lane)
  /-- INSTANCE_IN: After three frames equal to the other two, a re-seeded Praline instance is IN
  again (R145) -/
  | instanceIn (inst : Inst)
  /-- PRALINE_DUO_LIMIT: The two-instance time DUOH reaches DUOLIM and DUO_LIMIT is raised (R145) -/
  | pralineDuoLimit (now : Nat)
  /-- DUO_LIMIT: The 2oo2 clock reaches its limit and the module stops or requests a planned
  switchover (R175) -/
  | duoLimit (now : Nat)
  /-- DUO_SWITCHOVER_TIMEOUT: A switchover not completed 60 min after the 2oo2 limit leads to SAFE-
  STOP (R175) -/
  | duoSwitchoverTimeout (now : Nat)
  /-- LANE_FAULT: A lane's own hardware fault appears and the lane is fenced (R184) -/
  | laneFault (lane : Lane) (present : Bool) (now : Nat)
  /-- TABLE_SCRUB: A full pass of each Praline instance's table pages against the page CRC table
  completes (R147) -/
  | tableScrub (bad : List Inst) (now : Nat)
  /-- TIMER_EXPIRY: A block-code timer's remaining time reaches 0 and Q becomes 1 (R88) -/
  | timerExpiry (num : Nat) (now : Nat)
  /-- MOVE_TIMER_EXPIRY: A point's movement timer expires; an OBJECT record is written and FAILS
  advances (R443) -/
  | moveTimerExpiry (obj : Nat) (now : Nat)
  /-- CLOSE_TIMER_EXPIRY: A level-crossing group's closing timer expires and an OBJECT record is
  written (R443) -/
  | closeTimerExpiry (obj : Nat) (now : Nat)
  /-- SETTLE_PERIOD_END: An object's settle period ends and it may be commanded permissively (R96)
  -/
  | settlePeriodEnd (obj : Nat) (now : Nat)
  /-- BOUNDARY_AGE_LIMIT: No boundary state has been accepted within BAGE frames and the boundary
  object becomes invalid (R91) -/
  | boundaryAgeLimit (obj : Nat) (now : Nat)
  /-- WAIT_LIMIT_EXPIRY: A claim still failing once the wait limit has passed sends the transaction
  to REFUSED (R113) -/
  | waitLimitExpiry (route : Nat) (now : Nat)
  /-- APPROACH_LOCK_EXPIRY: REL_TMR expires with the signal at STOP and the timed approach lock ends
  (R114) -/
  | approachLockExpiry (route : Nat) (now : Nat)
  /-- OVERLAP_EXPIRY: The overlap timer expires and the overlap, berth and boundary crumbs are freed
  (R116) -/
  | overlapExpiry (route : Nat) (now : Nat)
  /-- EMERGENCY_RELEASE_EXPIRY: The emergency release timer expires with the entry signal at STOP
  and every crumb is freed (R118) -/
  | emergencyReleaseExpiry (route : Nat) (now : Nat)
  /-- PROOF_TEST_DUE: A lane's rotating test falls due under the test interval (R185) -/
  | proofTestDue (lane : Lane) (now : Nat)
  /-- PROOF_TEST_END: A rotating test passes or fails; a failure fences the lane and starts a repeat
  test (R196) -/
  | proofTestEnd (lane : Lane) (res : TestResult) (now : Nat)
  /-- PT_LATE: A test not started LATEM after falling due raises PT_LATE (R188) -/
  | ptLate (lane : Lane) (now : Nat)
  /-- FIELD_CYCLE_START: A 1.000 ms field cycle starts and downlink slots 0–15 are sent (R209) -/
  | fieldCycleStart (c : Cluster) (env : CycleEnv)
  /-- OFFSET_CORRECTION: At macrotick 9,500 of an odd cycle the root applies the fault-tolerant
  offset and rate correction (R227) -/
  | offsetCorrection (c : Cluster) (now : Nat)
  /-- UPLINK: An uplink frame is received, checked and written into the node's mailbox (R221) -/
  | uplink (c : Cluster) (node : Nat) (copyA : Option Arrival) (copyB : Option Arrival) (now : Nat)
  /-- SYNC_FRAME: The STANDBY module's upstream sync frame is received in mini-slots 0–1 (R223) -/
  | syncFrame (c : Cluster) (arr : Arrival) (now : Nat)
  /-- DROPOUT: A node missing DROPN consecutive cycles is declared dropped out (R232) -/
  | dropout (c : Cluster) (node : Nat)
  /-- RETURN_TO_ABSENT: A dropped node silent for 64 cycles returns to ABSENT and loses its delays
  (R232) -/
  | returnToAbsent (c : Cluster) (node : Nat)
  /-- RANGE_REPLY: A RANGE reply arrives; the module measures the delay or refuses the party (R231)
  -/
  | rangeReply (c : Cluster) (chan : Chan) (data : Bytes) (late : Nat) (now : Nat)
  /-- RANGING_WINDOW_TIMEOUT: No reply arrives within the ranging window and the party stays
  unranged (R231) -/
  | rangingWindowTimeout (c : Cluster) (chan : Chan)
  /-- ACK: A node's ACK service frame answers a downstream service frame (R224) -/
  | ack (c : Cluster) (data : Bytes)
  /-- OCF_STATE: A node reports its OCF package state; the module resends missing blocks (R224) -/
  | ocfState (c : Cluster) (data : Bytes)
  /-- DIAG_REPLY: A node answers a DIAG_REQ with maker-defined data (R224) -/
  | diagReply (c : Cluster) (data : Bytes)
  /-- CONFIG_SET_REPEAT: An unacknowledged CONFIG_SET or OCF_RESTART is repeated every 16th cycle
  (R224) -/
  | configSetRepeat (c : Cluster) (node : Nat)
  /-- OCF_RESTART: Once the node holds no crumb and is commanded restrictive, the module orders it
  to restart onto the package (R386) -/
  | ocfRestart (c : Cluster) (node : Nat)
  /-- GUARDIAN_VIOLATION: A port guardian cuts a transmission outside its window (R225) -/
  | guardianViolation (c : Cluster) (chan : Chan) (now : Nat)
  /-- GUARDIAN_BLOCKED_EXPIRY: A BLOCKED guardian returns to LISTEN after 10,000 cycles (R225) -/
  | guardianBlockedExpiry (c : Cluster) (chan : Chan)
  /-- BARRIER_DOWNSTREAM_FRAME: The field side takes a downstream barrier frame every 250 µs (R245)
  -/
  | barrierDownstreamFrame (f : DownIn) (now : Nat)
  /-- RESTART_END: After three successive accepted commands with DRIVE 1 the field side leaves
  RESTART (R256) -/
  | restartEnd (now : Nat)
  /-- BARRIER_UPSTREAM_FRAME: The vital side and Praline receive the upstream barrier frame with
  inputs, counts and states (R246) -/
  | barrierUpstreamFrame (fault : LinkFault) (now : Nat)
  /-- BARRIER_LOSS: Two consecutive lost barrier frames in one direction are a barrier loss (R247)
  -/
  | barrierLoss (up : Bool) (now : Nat)
  /-- KEY_ROUND_REPEAT: KST does not confirm the last segment within 2 ms and the key round is
  repeated (R249) -/
  | keyRoundRepeat (now : Nat)
  /-- TOFFEE_EXPIRY: The toffee latch expires; every output opens and the hold state becomes EXPIRED
  (R256) -/
  | toffeeExpiry (now : Nat)
  /-- FILT_EXPIRY: An input holds its permissive value for FILT and enters the input image (R250) -/
  | filtExpiry (input : Nat) (now : Nat)
  /-- DISCREPANCY_EXPIRY: A two-contact disagreement lasts DISC and both input fault bits are set
  (R251) -/
  | discrepancyExpiry (chan : Nat) (now : Nat)
  /-- AXLE_COUNT: A counting pair completes a direction sequence and its count rises (R252) -/
  | axleCount (pair : Nat) (levels : List (Bool × Bool × Nat)) (now : Nat)
  /-- SHUNT_TEST: An input's periodic shunt test runs and passes or faults the input (R253) -/
  | shuntTest (input : Nat) (ok : Bool)
  /-- LOCATION_TEST: A requested location test of an input bank completes and locates the faulted
  inputs (R253) -/
  | locationTest (bank : Nat) (bad : List Nat) (aborted : Bool)
  /-- OFF_PULSE: An output's periodic off-pulse or close test runs (R257) -/
  | offPulse (out : Nat) (ok : Bool) (now : Nat)
  /-- TRIP_CHANNEL_TEST: A trip channel's periodic off-pulse or close test runs (R261) -/
  | tripChannelTest (chan : Nat) (res : TripResult) (now : Nat)
  /-- DEGX: A channel DEGRADED for DEGT gets DEGX set (R262) -/
  | degx (chan : Nat) (now : Nat)
  /-- DEGX_OPEN: A channel still energised 1 s after DEGX is opened by the field side (R262) -/
  | degxOpen (chan : Nat) (now : Nat)
  /-- OUTPUT_FAULT: An output readback mismatch is confirmed and the group switch or the output's
  switches open (R259) -/
  | outputFault (out : Nat) (trip : Bool) (short : Bool) (now : Nat)
  /-- FAULT_CLASSIFICATION: 1 ms after the group switch opens, the fault is classed as code 1 or 2
  (R259) -/
  | faultClassification (bank : Nat) (high : Bool) (now : Nat)
  /-- SUPPLY_SAG: X2 out of range for 10 ms opens every switch and sets SUPLATCH, or raises SUPPLY
  (R260) -/
  | supplySag (x2 : Nat) (now : Nat)
  /-- X2_LOSS: The field supply is lost and the field side reacts according to the variant (R248) -/
  | x2Loss (now : Nat)
  /-- CONVERTER: The UX-4820 converter leaves its limits and the field side is held in reset (R248)
  -/
  | converter (now : Nat)
  /-- RESTART_TESTS_END: The field-side tests of a local I/O restart end and the results take effect
  (R263) -/
  | restartTestsEnd (res : RestartTests) (now : Nat)
  /-- X2_RETURN: The field supply on X2 returns; on the UX-4810 the field side starts again with
  KEYED 0 and in RESTART (R248) -/
  | x2Return (x2 : Nat) (now : Nat)
  /-- X2_WITHIN_RANGE: X2 has been within 20.4–30 V for 1 s, and energise commands held back while
  it was low are applied (R260) -/
  | x2WithinRange (x2 : Nat) (now : Nat)
  /-- CONVERTER_RECOVERY: The UX-4820 isolated converter returns within its limits, and the field
  side leaves reset and starts (R248) -/
  | converterRecovery (now : Nat)
  /-- INPUT_CHANGE: A non-counting 24 V input changes level; a change towards the restrictive value
  enters the input image at the sample that shows it (R250) -/
  | inputChange (input : Nat) (level : Bool) (now : Nat)
  /-- DISCREPANCY_FAULT_CLEAR: Both contacts of a faulted two-contact channel have shown the
  restrictive reading together for 1 s, and the fault clears (R251) -/
  | discrepancyFaultClear (chan : Nat) (now : Nat)
  /-- COMPARATOR_DISAGREEMENT: The two comparators of an input disagree for 1 ms, and the input bank
  fault bit is set (R253) -/
  | comparatorDisagreement (input : Nat) (now : Nat)
  /-- DATAGRAM: A command packet datagram is received and checked by the service processor (R282) -/
  | datagram (d : DatagramIn) (env : StartEnv) (now : Nat)
  /-- REASSEMBLY_TIMEOUT: An incomplete reassembly is discarded after 1 s (R272) -/
  | reassemblyTimeout (conn : Nat) (ident : Nat) (now : Nat)
  /-- PENDING_EXPIRY: A pending request without a reply after FRESH + 8 frames leaves the pending
  set (R310) -/
  | pendingExpiry (entry : Nat) (seq : Nat)
  /-- PARTNER_SILENT: A partner sends no valid packet for its SILENT time (R296) -/
  | partnerSilent (entry : Nat) (now : Nat)
  /-- ROUTE_SET: A route set command is admitted to a transaction slot or refused (R106) -/
  | routeSet (src : Src) (route : Nat) (wait : Nat)
  /-- ROUTE_CANCEL: A route cancel command cancels a transaction in flight (R117) -/
  | routeCancel (src : Src) (route : Nat)
  /-- EMERGENCY_RELEASE: An emergency release starts REL_TMR with the approach release time (R118)
  -/
  | emergencyRelease (src : Src) (route : Nat)
  /-- POINT_MOVE: An individual point move commands points and forms kind 2 requests (R444) -/
  | pointMove (src : Src) (group : Bool) (target : Nat) (pos : Nat)
  /-- SECTION_RESTORE: A restoration request sets the RESTORE word of a restorable DISTURBED section
  (R448) -/
  | sectionRestore (src : Src) (obj : Nat)
  /-- BLOCK_SET: A block is set on an object or route (R287) -/
  | blockSet (src : Src) (onRoute : Bool) (target : Nat)
  /-- BLOCK_CLEAR: A block is cleared from an object or route (R287) -/
  | blockClear (src : Src) (onRoute : Bool) (target : Nat)
  /-- GUARD_ACK: A guard acknowledge command passes a re-arm request to Praline (R152) -/
  | guardAck (src : Src) (guard : Nat)
  /-- STATION_CMD: A station command code and argument are delivered to the station logic (R286) -/
  | stationCmd (src : Src) (code : Nat) (arg : Nat)
  /-- BOUNDARY_STATE: A neighbour pair's boundary offers are taken and their tags verified by
  Praline (R288) -/
  | boundaryState (src : Src) (msg : BoundaryIn)
  /-- GRANT_REQUEST: The witness receives a grant request and decides it (R351) -/
  | grantRequest (p : GrantReqIn) (now : Nat)
  /-- START_WINDOW_END: A 2 s start window ends and the witness answers every REASON 2 request in it
  (R350) -/
  | startWindowEnd (now : Nat)
  /-- WITNESS_START_END: A restarted witness ends its first 1 s of adoption without granting (R350)
  -/
  | witnessStartEnd (now : Nat)
  /-- GRANT: A module receives a verified GRANT and takes over, or relinquishes it without a wafer
  (R354) -/
  | grant (p : GrantIn) (now : Nat)
  /-- TAKEOVER_FIRST_TICK: After two good cycles or the thirteenth cycle in RUN, the new ACTIVE
  module's first frame tick falls (R354) -/
  | takeoverFirstTick (now : Nat)
  /-- GRANT_REFUSE: A module receives a grant refusal and stops asking or stays STANDBY (R353) -/
  | grantRefuse (why : Nat) (now : Nat)
  /-- WITNESS_STATUS: A party receives WITNESS_STATUS and updates lease, holder and freshness (R349)
  -/
  | witnessStatus (p : WitIn) (now : Nat)
  /-- BEAT: The beat counter advances every 10 ms and WITNESS_STATUS is sent (R348) -/
  | beat (now : Nat)
  /-- LEASE_LAPSE: Both the witness and peer leases lapse; the module is isolated and relinquishes
  (R352) -/
  | leaseLapse (now : Nat)
  /-- WAFER_SEGMENT: A wafer segment arrives on X9 and is written into the inbound window (R346) -/
  | waferSegment (g : SegIn) (now : Nat)
  /-- WAFER_SEGMENT_TIMEOUT: Not all segments arrive within 5 ms and the wafer counts as not
  received (R347) -/
  | waferSegmentTimeout (now : Nat)
  /-- WAFER_ACKNOWLEDGEMENT: The ACTIVE module receives a valid ACODE and renews its peer lease
  (R352) -/
  | waferAcknowledgement (frame : Nat) (acode : BitVec 64) (now : Nat)
  /-- HEARTBEAT: A heartbeat with MSW, READY and GRANTED arrives from the partner (R346) -/
  | heartbeat (h : HeartIn) (now : Nat)
  /-- HEARTBEAT_SEND: Each module sends a heartbeat every 10 ms (R346) -/
  | heartbeatSend (now : Nat)
  /-- WAFER_MISS: The STANDBY module counts a missed wafer and at the third asks for the grant
  (R353) -/
  | waferMiss (now : Nat)
  /-- OLD_ACTIVE_TO_STANDBY: After its toffee window, the old module of a handover becomes STANDBY
  with DRIVE 0 (R359) -/
  | oldActiveToStandby (now : Nat)
  /-- PEER_DOWN: No valid X9 frame arrives for 30 ms (R363) -/
  | peerDown (now : Nat)
  /-- WITNESS_DOWN: No valid WITNESS_STATUS arrives for LEASE (R363) -/
  | witnessDown (now : Nat)
  /-- IDENTITY: The service processor returns identity, image identifiers and versions (R289) -/
  | identity (src : Src)
  /-- STATUS: The service processor returns copies of the main status registers (R289) -/
  | status (src : Src)
  /-- OBJECT_READ: Object state words are returned from the status image (R289) -/
  | objectRead (src : Src) (first : Nat) (count : Nat)
  /-- ROUTE_READ: Route entries are returned from the status image (R289) -/
  | routeRead (src : Src) (first : Nat) (count : Nat)
  /-- CRUMB_READ: Committed crumbs are returned from the status image (R289) -/
  | crumbRead (src : Src) (first : Nat) (count : Nat)
  /-- EVENT_READ: Event records from FROM are returned whole, subject to MAXB and MINSEV (R404) -/
  | eventRead (src : Src) (start : Nat) (maxb : Nat) (minsev : Nat)
  /-- SUBSCRIBE: A subscription to STATE_REPORT is set or ended (R290) -/
  | subscribe (src : Src) (period : Nat)
  /-- TIME_READ: Calendar time and its source are returned (R289) -/
  | timeRead (src : Src) (now : Nat)
  /-- SESSION_OPEN: The first session request returns a one-use challenge (R409) -/
  | sessionOpen (src : Src) (net : NetAddr) (kslot : Nat) (now : Nat)
  /-- SESSION_OPEN_PROOF: The second session request with its proof opens the maintenance session
  (R409) -/
  | sessionOpenProof (src : Src) (net : NetAddr) (kslot : Nat) (chal : BitVec 128) (proof : BitVec 64) (now : Nat)
  /-- SESSION_CLOSE: The maintenance session is closed (R409) -/
  | sessionClose (src : Src)
  /-- SESSION_TIMEOUT: No packet from the session partner for STMO closes the session (R409) -/
  | sessionTimeout (now : Nat)
  /-- AUTH_LOCKOUT_END: A partner's 10 min lockout after five failures ends (R409) -/
  | authLockoutEnd (entry : Nat) (now : Nat)
  /-- REG_READ: Register words are read through the bridge and returned (R291) -/
  | regReadCmd (src : Src) (addr : Nat) (count : Nat)
  /-- REG_WRITE: The lanes write register words, ST fields into staging copies (R291) -/
  | regWriteCmd (src : Src) (addr : Nat) (words : List Word)
  /-- COMMIT: A COMMIT request is taken and the consistency check is evaluated at the drain (R314)
  -/
  | commit (src : Src)
  /-- STAGE_DISCARD: Every staging copy and staged partner entry returns to the value in effect
  (R291) -/
  | stageDiscard (src : Src)
  /-- PARTNER_STAGE: A partner table entry is staged (R271) -/
  | partnerStage (src : Src) (entry : Nat) (words : List Word)
  /-- SETTINGS_SAVE: The settings in effect are written to both MRAM copies (R291) -/
  | settingsSave (src : Src)
  /-- LANE_OUT: A lane is taken out of VOTING to FENCED at the drain (R178) -/
  | laneOut (src : Src) (lane : Lane)
  /-- LANE_IN: A lane taken out by LANE_OUT is resynchronised at the next drain (R178) -/
  | laneIn (src : Src) (lane : Lane)
  /-- DUO_EXTEND: The 2oo2 limit of the current episode is extended once in MAINT (R174) -/
  | duoExtend (src : Src) (hours : Nat)
  /-- LIO_RESTART: A local I/O restart is passed to the field side as CTL.RESTART (R263) -/
  | lioRestart (src : Src)
  /-- SWITCHOVER: A planned switchover is requested (R359) -/
  | switchover (src : Src)
  /-- DEBUG: The debug level is changed, halting or releasing a lane or opening scan (R411) -/
  | debug (src : Src) (level : Nat) (lane : Nat)
  /-- LIFECYCLE: The lifecycle state changes under its transition conditions (R408) -/
  | lifecycle (src : Src) (target : Nat) (serial : Nat)
  /-- KEY_LOAD: A wrapped key is unwrapped, stored as blobs and takes effect at the next drain
  (R417) -/
  | keyLoad (src : Src) (ktype : Nat) (index : Nat) (slot : Nat) (epub : Bytes) (wrapped : Bytes) (now : Nat)
  /-- KEY_ERASE: A key slot is erased (R417) -/
  | keyErase (src : Src) (ktype : Nat) (index : Nat) (slot : Nat)
  /-- TIME_SET: Calendar time is set by command while PTP is not locked (R402) -/
  | timeSet (src : Src) (time : Nat) (now : Nat)
  /-- RESTART_MODULE: RESTART of kind 1 restarts the module (R291) -/
  | restartModule (src : Src) (env : StartEnv) (now : Nat)
  /-- RESTART_COLD: RESTART of kind 2 runs start-up steps 5 to 10 with a cold start of the
  interlocking state (R422) -/
  | restartCold (src : Src) (env : StartEnv) (now : Nat)
  /-- TAMPER_REARM: The tamper latch is cleared, stale blobs erased and the module restarts (R415)
  -/
  | tamperRearm (src : Src) (serial : Nat) (closed : Bool) (env : StartEnv) (now : Nat)
  /-- UPD_BEGIN: A transfer into the inactive bank is opened or resumed after the header check
  (R370) -/
  | updBegin (src : Src) (part : Nat) (bank : Nat) (header : Bytes)
  /-- UPD_BLOCK: A delivery stream block is checked and written into the bank (R371) -/
  | updBlock (src : Src) (xid : Nat) (num : Nat) (data : Bytes) (crc : Nat)
  /-- BLOCK_NOTE: The update engine reads a written block back, checks its CRC and sets its bitmap
  bit (R371) -/
  | blockNote (xid : Nat) (num : Nat) (readback : Bytes)
  /-- UPD_BITMAP: The block bitmap of the open transfer is returned (R372) -/
  | updBitmap (src : Src) (xid : Nat) (first : Nat)
  /-- UPD_VERIFY: Verification of the open transfer is started or its result reported (R374) -/
  | updVerify (src : Src) (xid : Nat)
  /-- VERIFY_END: Verification completes and the bank becomes VERIFIED or EMPTY (R374) -/
  | verifyEnd (told : ImageSays) (now : Nat)
  /-- UPD_ACTIVATE: An image is activated by the route its part allows (R375) -/
  | updActivate (src : Src) (part : Nat) (unit : Nat) (delay : Nat) (now : Nat)
  /-- LANE_BOOT: A lane finishes fetching, checking and booting new firmware, or falls back (R377)
  -/
  | laneBoot (lane : Lane) (ok : Bool) (now : Nat)
  /-- PRELOAD: A lane completes the preload and check of the new marzipan image (R379) -/
  | preload (lane : Lane) (ok : Bool)
  /-- EXCHANGE_ABANDON: An on-line exchange not made 60 min after the exchange frame is abandoned
  (R379) -/
  | exchangeAbandon (now : Nat)
  /-- HEALTHY: An UNCONFIRMED image has been healthy for HEALTH and is confirmed (R383) -/
  | healthy (now : Nat)
  /-- CONFIRM_WINDOW_EXPIRY: The confirm window expires and the part falls back (R384) -/
  | confirmWindowExpiry (env : StartEnv) (now : Nat)
  /-- UPD_CONFIRM: A healthy UNCONFIRMED part is confirmed by command (R383) -/
  | updConfirm (src : Src) (part : Nat)
  /-- UPD_ABORT: The open transfer is closed and the bank left EMPTY (R372) -/
  | updAbort (src : Src) (xid : Nat)
  /-- UPD_FALLBACK: A part is returned to its PREVIOUS bank by command (R384) -/
  | updFallback (src : Src) (part : Nat) (env : StartEnv) (now : Nat)
  /-- OCF_DISTRIBUTE: An OCF package is distributed to the nodes of a mask (R386) -/
  | ocfDistribute (src : Src) (pkg : Nat) (mask : BitVec 256)
  /-- SVC_RESTART_END: The service processor finishes restarting on its new bank, reads the
  settings, and resumes CMD_IN and the partner links (R375) -/
  | svcRestartEnd (ok : Bool) (now : Nat)
  /-- ECHO: The request payload is returned unchanged (R293) -/
  | echo (src : Src) (data : Bytes)
  /-- PORT_COUNTERS: The receiving connector's counters are returned (R293) -/
  | portCounters (src : Src) (conn : Nat)
  /-- LANE_DIAG: Lane diagnostic records of one lane are returned (R405) -/
  | laneDiag (src : Src) (lane : Nat) (start : Nat) (maxb : Nat)
  /-- FLATCH_CLEAR: A write of 1 to a FLATCH bit clears it only if its source is no longer live
  (R327) -/
  | flatchClear (src : Src) (blk : Blk) (mask : Word)
  /-- XBR_QACK: A reader consumes the head item of a queue by naming its ISEQ (R308) -/
  | xbrQack (q : Nat) (iseq : Nat)
  /-- XBR_QPUSH: A writer pushes an assembled item into a queue (R309) -/
  | xbrQpush (q : Nat) (conn : Nat) (data : Bytes) (master : Nat)
  /-- XBR_QFLUSH: A queue is flushed at once (R310) -/
  | xbrQflush (q : Nat)
  /-- SEM_ACQUIRE: A master acquires a free bridge semaphore (R303) -/
  | semAcquire (n : Nat) (master : Nat) (now : Nat)
  /-- SEM_RELEASE: The holder releases a bridge semaphore (R303) -/
  | semRelease (n : Nat) (master : Nat)
  /-- SEMAPHORE_TIMEOUT: A semaphore held over 1 ms is released by the bridge (R303) -/
  | semaphoreTimeout (n : Nat) (now : Nat)
  /-- XBR_WIN_DONE: The service processor hands a received wafer to the checking lanes (R312) -/
  | xbrWinDone (now : Nat)
  /-- TRANSFER_TIMEOUT: A bridge transfer not completed in 50 µs ends as an error (R300) -/
  | transferTimeout (addr : Nat) (write : Bool)
  /-- REGISTER_WRITE: A write to a register without behaviour of its own acts under its access code
  (R12) -/
  | registerWrite (acc : Access) (writer : Nat) (addr : Nat) (word : Word) (now : Nat)
  /-- FRM_PHCLR: Writing CLR clears the phase peak durations at the next drain (R70) -/
  | frmPhclr (word : Word)
  /-- PRL_CCLR: Writing CLR clears Praline counters and peaks at the next drain (R153) -/
  | prlCclr (word : Word)
  /-- VOT_CLR: Writing CLR clears odd-lane counts and scrub passes at the next drain (R183) -/
  | votClr (word : Word)
  /-- BST_CLR: Writing CLR clears the proof test counts at the next drain (R203) -/
  | bstClr (word : Word)
  /-- FRN_CLR: Writing CLR clears the channel error counts at the next drain (R239) -/
  | frnClr (c : Cluster) (word : Word)
  /-- LIO_CLR: Writing CLR clears link, sequence error and supply minimum at the next drain (R267)
  -/
  | lioClr (word : Word)
  /-- CMD_CLR: Writing CLR clears the packet counters at the next drain (R295) -/
  | cmdClr (word : Word)
  /-- XBR_CLR: Writing CLR clears the RETRY count and LOSS fields at the next drain (R319) -/
  | xbrClr (word : Word)
  /-- DPX_CLR: Writing CLR clears the switchover counts at the next drain (R362) -/
  | dpxClr (word : Word)
  /-- EVR_CLR: Writing CLR clears the lost record counts at the next drain (R406) -/
  | evrClr (word : Word)
  /-- PWR_CLR: Writing CLR clears the X1 minimum and HOLDUP count at the next drain (R425) -/
  | pwrClr (word : Word)
  /-- BRIDGE_ECC: An uncorrectable error in bridge memory raises BRIDGE_ECC and may fence the bridge
  (R320) -/
  | bridgeEcc (addr : Nat) (now : Nat)
  /-- EVENT_RECORD_TAKEN: The service processor takes a record from EVT_OUT, numbers and stamps it
  (R394) -/
  | eventRecordTaken (now : Nat)
  /-- FLUSH: A flush of the volatile buffer into MRAM starts on a trigger (R397) -/
  | flush (now : Nat)
  /-- FLUSH_END: A flush batch is committed in MRAM (R397) -/
  | flushEnd (ok : Bool) (now : Nat)
  /-- SEGMENT_COPY: A 1 MiB segment is copied from MRAM to the ring and read back (R398) -/
  | segmentCopy (ok : Bool)
  /-- MARK: A MARK record is formed once per hour of operating time (R393) -/
  | mark (now : Nat)
  /-- PTP_SYNC: A PTP Sync message is taken and calendar time is corrected or locked (R402) -/
  | ptpSync (domain : Nat) (utc : Int) (now : Nat)
  /-- PTP_UNLOCK: No valid Sync for 5 s unlocks PTP (R402) -/
  | ptpUnlock (now : Nat)
  /-- RTC_WRITE: The RTC is written from calendar time every 60 s (R403) -/
  | rtcWrite (now : Nat)
  /-- POWER_ON: Power-good starts the start-up sequence of R420 (R420) -/
  | powerOn (env : StartEnv) (now : Nat)
  /-- HOLDUP: X1 below 16 V for 0.5 ms enters HOLDUP and writes POWER_FAIL (R413) -/
  | holdup (x1 : Nat) (now : Nat)
  /-- X1_RETURN: X1 back at 17.5 V for 1 ms within 20 ms returns the module to RUN (R413) -/
  | x1Return (x1 : Nat) (now : Nat)
  /-- HOLDUP_SAFE_STOP: Still in HOLDUP at 20 ms, the module takes the reaction of R334 (R413) -/
  | holdupSafeStop (now : Nat)
  /-- HOLDUP_ZEROISE: At 25 ms in HOLDUP the plain keys are zeroised (R413) -/
  | holdupZeroise (now : Nat)
  /-- BACKUP: The hold-up store is exhausted and the module enters BACKUP or OFF (R412) -/
  | backup (now : Nat)
  /-- TAMPER: A broken seal sets the tamper latch, erases the KEK and zeroises keys (R414) -/
  | tamper (now : Nat)
  /-- CELL_MEASUREMENT: The backup cell is measured hourly and CELL_LOW raised below 2.6 V (R414) -/
  | cellMeasurement (mv : Nat)
  /-- S1_RELEASE: A release of S1 after 50 ms to 8 s starts a module restart (R423) -/
  | s1Release (pressed : Nat) (env : StartEnv) (now : Nat)
  /-- S1_STUCK: S1 held longer than 8 s is masked and S1_STUCK raised (R423) -/
  | s1Stuck (now : Nat)
  /-- S1_REARM: S1 seen released for 1 s re-arms (R423) -/
  | s1Rearm (now : Nat)
  /-- SVC_WDOG: The service processor is restarted by its watchdog (R340) -/
  | svcWdog (now : Nat)
  /-- TEMP: The enclosure temperature leaves its range (R340) -/
  | temp (tenths : Int)
  /-- RAIL: An internal supply rail leaves its tolerance and the module stops (R340) -/
  | rail (now : Nat)
  /-- OPTIC_INSERTED: A qualified SFP optic is inserted and enabled within 2 s (R430) -/
  | opticInserted (conn : Nat) (qualified : Bool)
  /-- TIMEBASE_LOSS: The module timebase stops and the lanes, timing on their own oscillators, find
  that no frame tick has come (R34) -/
  | timebaseLoss (now : Nat)
  /-- X1_RANGE: X1 leaves or returns to 18–150 V, outside the HOLDUP threshold, and X1_RANGE becomes
  live or not live (R340) -/
  | x1Range (x1 : Nat) (now : Nat)
  /-- BACKUP_DOMAIN_LOSS: With X1 off, the cell is absent for longer than the 120 s of the holding
  capacitor, and the backup domain goes OFF, losing the KEK and the RTC (R414) -/
  | backupDomainLoss (now : Nat)
  deriving DecidableEq, Repr

end Sys2Proof
end

