-- ==== Sys2Proof/Config.lean ====
section
/-! DEFINITION. What an implementation fixes: the module's own keys and the vendor's public keys, the values the spec calls
random or leaves to the module, and the values it leaves open. Every one is opaque: nothing in Lean can evaluate it, and a
claim holds for every value of it (log entry 5). -/

namespace Sys2Proof.Config

open Sys2Proof

/-- The image verification key of a KEYID: a point of the curve P-384, as its coordinates (R366, R416). -/
opaque imageKey : (keyId : Nat) → Nat × Nat

/-- The private half of the module's device key pair (R414, R417). -/
opaque deviceKey : Nat

/-- The value of the next fresh random or unstated number: the argument is State's count of
free values taken so far (R370, R409). -/
opaque freeWord : Nat → BitVec 32

/-- The 16 random bytes of a session challenge (R409). -/
opaque challenge : Nat → BitVec 128

/-- The initial maintenance key, individual to the module (R410). -/
opaque initialMaintenanceKey : Key

/-- The vendor service key (R416). -/
opaque vendorServiceKey : Key

/-- Division of block code by a constant that does not divide the value: the spec names the operation
and not how it rounds (R82). -/
opaque roundedQuotient : Int → Int → Int

end Sys2Proof.Config
end

