-- ==== Sys2Proof/Machine/Crypto.lean ====
section
/-! DEFINITION. The cryptographic functions that the spec names, as their standards define them (PRESUMED, log entry 5): the
AES-256-CMAC of NIST SP 800-38B (R134, R165, R277, R344, R346, R409), SHA-384 (R366, R417), ECDSA and ECDH over P-384 (R366,
R417) and AES-256 key wrap (R417). The public keys and the module's own device key are not the spec's to give: they are opaque
constants of Config. -/

namespace Sys2Proof.Machine

open Sys2Proof

/-! ## AES-256 -/

/-- The substitution table, entry 0 in the lowest byte. -/
def sboxTable : Nat :=
  0x16bb54b00f2d99416842e6bf0d89a18cdf2855cee9871e9b948ed9691198f8e19e1dc186b95735610ef6034866b53e708a8bbd4b1f74dde8c6b4a61c2e2578ba08ae7a65eaf4566ca94ed58d6d37c8e779e4959162acd3c25c2406490a3a32e0db0b5ede14b8ee4688902a22dc4f816073195d643d7ea7c41744975fec130ccdd2f3ff1021dab6bcf5389d928f40a351a89f3c507f02f94585334d43fbaaefd0cf584c4a39becb6a5bb1fc20ed00d153842fe329b3d63b52a05a6e1b1a2c830975b227ebe28012079a059618c323c7041531d871f1e5a534ccf73f362693fdb7c072a49cafa2d4adf04759fa7dc982ca76abd7fe2b670130c56f6bf27b777c63

/-- The inverse table. -/
def sboxInverse : Nat :=
  0x7d0c2155631469e126d677ba7e042b17619953833cbbebc8b0f52aae4d3be0a0ef9cc9939f7ae52d0d4ab519a97f51605fec8027591012b131c7078833a8dd1ff45acd78fec0db9a2079d2c64b3e56fc1bbe18aa0e62b76f89c5291d711af1476edf751ce837f9e28535ade72274ac9673e6b4f0cecff297eadc674f4111913a6b8a130103bdafc1020f3fca8f1e2cd00645b3b80558e4f70ad3bc8c00abd890849d8da75746155edab9edfd5048706c92b6655dcc5ca4d41698688664f6f87225d18b6d49a25b76b224d92866a12e084ec3fa420b954cee3d23c2a632947b54cbe9dec444438e3487ff2f9b8239e37cfbd7f3819ea340bf38a53630d56a0952

def tableByte (t n : Nat) : Nat := t >>> (8 * n) % 256

/-- Doubling in GF(2^8). -/
def xtime (a : Nat) : Nat := let d := 2 * a % 256; if 128 ≤ a then d ^^^ 0x1B else d

/-- A product in GF(2^8) with a number below 16. -/
def gfMul (a k : Nat) : Nat :=
  let a2 := xtime a
  let a4 := xtime a2
  (if k % 2 = 1 then a else 0) ^^^ (if k / 2 % 2 = 1 then a2 else 0) ^^^ (if k / 4 % 2 = 1 then a4 else 0)
    ^^^ (if k / 8 % 2 = 1 then xtime a4 else 0)

def subWord (w : Nat) : Nat :=
  (List.range 4).foldl (fun acc k => acc + tableByte sboxTable (w >>> (8 * k) % 256) <<< (8 * k)) 0

def rotWord (w : Nat) : Nat := w * 256 % 2 ^ 32 + w / 2 ^ 24

/-- The word after the newest eight, which stand newest first. -/
def nextKeyWord (i rcon : Nat) (ws : List Nat) : Nat :=
  let w1 := ws.headD 0
  let t := if i % 8 = 0 then subWord (rotWord w1) ^^^ (rcon * 2 ^ 24) else if i % 8 = 4 then subWord w1 else w1
  (ws[7]?).getD 0 ^^^ t

/-- The key schedule of 60 words, the newest first. -/
def keyWords : Nat → Nat → Nat → List Nat → List Nat
  | 0, _, _, ws => ws
  | n + 1, i, rcon, ws => keyWords n (i + 1) (if i % 8 = 0 then xtime rcon else rcon) (nextKeyWord i rcon ws :: ws)

/-- The 15 round keys of 16 bytes. -/
def roundKeys (key : Key) : List (List Nat) :=
  let first := (List.range 8).map fun k => key.toNat / 2 ^ (32 * k) % 2 ^ 32
  let ws := (keyWords 52 8 1 first).reverse
  (List.range 15).map fun r => (List.range 16).map fun k => ((ws[4 * r + k / 4]?).getD 0) >>> (8 * (3 - k % 4)) % 256

def xorBytes (a b : List Nat) : List Nat := List.zipWith (· ^^^ ·) a b

/-- The byte order of ShiftRows, rows moving left by their number. -/
def shiftRows (b : List Nat) : List Nat := (List.range 16).map fun k => (b[(k + 4 * (k % 4)) % 16]?).getD 0

def unshiftRows (b : List Nat) : List Nat := (List.range 16).map fun k => (b[(k + 16 - 4 * (k % 4)) % 16]?).getD 0

/-- Each column by a circulant matrix whose first row is given. -/
def mixColumns (m0 m1 m2 m3 : Nat) (b : List Nat) : List Nat :=
  (List.range 16).map fun k =>
    let at_ := fun j => (b[4 * (k / 4) + (k + j) % 4]?).getD 0
    gfMul (at_ 0) m0 ^^^ gfMul (at_ 1) m1 ^^^ gfMul (at_ 2) m2 ^^^ gfMul (at_ 3) m3

def blockOf (v : Nat) : List Nat := (List.range 16).map fun k => v >>> (8 * (15 - k)) % 256

def blockVal (b : List Nat) : Nat := b.foldl (fun acc x => acc * 256 + x) 0

/-- The cipher on a block of 16 bytes. -/
def aesEncrypt (rks : List (List Nat)) (v : Nat) : Nat :=
  let start := xorBytes (blockOf v) (rks.headD [])
  let round := fun b k => xorBytes (mixColumns 2 3 1 1 (shiftRows (b.map (tableByte sboxTable)))) k
  let b := ((rks.drop 1).take 13).foldl round start
  blockVal (xorBytes (shiftRows (b.map (tableByte sboxTable))) ((rks[14]?).getD []))

/-- The inverse cipher. -/
def aesDecrypt (rks : List (List Nat)) (v : Nat) : Nat :=
  let back := fun b k => xorBytes ((unshiftRows b).map (tableByte sboxInverse)) k
  let start := back (xorBytes (blockOf v) ((rks[14]?).getD [])) ((rks[13]?).getD [])
  blockVal (((rks.take 13).reverse).foldl (fun b k => back (mixColumns 14 11 13 9 b) k) start)

/-! ## CMAC -/

/-- A subkey: doubling in GF(2^128). -/
def cmacDouble (v : Nat) : Nat := let d := 2 * v % 2 ^ 128; if 2 ^ 127 ≤ v then d ^^^ 0x87 else d

/-- The blocks of a message but the last, and the last with its padding and subkey. -/
def cmacBlocks (k1 k2 : Nat) : Nat → Bytes → List Nat
  | 0, _ => []
  | n + 1, m =>
    if 16 < m.length then beVal (m.take 16) :: cmacBlocks k1 k2 n (m.drop 16)
    else if m.length = 16 then [beVal m ^^^ k1]
    else [beVal (m ++ [0x80#8] ++ List.replicate (15 - m.length) 0#8) ^^^ k2]

/-- AES-256-CMAC, all 128 bits (NIST SP 800-38B). -/
def aesCmac (key : Key) (m : Bytes) : BitVec 128 :=
  let rks := roundKeys key
  let k1 := cmacDouble (aesEncrypt rks 0)
  BitVec.ofNat 128 ((cmacBlocks k1 (cmacDouble k1) (m.length / 16 + 1) m).foldl (fun c b => aesEncrypt rks (c ^^^ b)) 0)

/-- The code that every tag, signature, safety code and proof of the module is cut from. -/
@[irreducible] def cmac (key : Key) (m : Bytes) : BitVec 128 := aesCmac key m

/-! ## SHA-384 -/

/-- The 80 round constants. -/
def shaConstants : List Nat :=
  [0x428a2f98d728ae22, 0x7137449123ef65cd, 0xb5c0fbcfec4d3b2f, 0xe9b5dba58189dbbc, 0x3956c25bf348b538, 0x59f111f1b605d019,
   0x923f82a4af194f9b, 0xab1c5ed5da6d8118, 0xd807aa98a3030242, 0x12835b0145706fbe, 0x243185be4ee4b28c, 0x550c7dc3d5ffb4e2,
   0x72be5d74f27b896f, 0x80deb1fe3b1696b1, 0x9bdc06a725c71235, 0xc19bf174cf692694]
  ++ [0xe49b69c19ef14ad2, 0xefbe4786384f25e3, 0x0fc19dc68b8cd5b5, 0x240ca1cc77ac9c65, 0x2de92c6f592b0275, 0x4a7484aa6ea6e483,
   0x5cb0a9dcbd41fbd4, 0x76f988da831153b5, 0x983e5152ee66dfab, 0xa831c66d2db43210, 0xb00327c898fb213f, 0xbf597fc7beef0ee4,
   0xc6e00bf33da88fc2, 0xd5a79147930aa725, 0x06ca6351e003826f, 0x142929670a0e6e70]
  ++ [0x27b70a8546d22ffc, 0x2e1b21385c26c926, 0x4d2c6dfc5ac42aed, 0x53380d139d95b3df, 0x650a73548baf63de, 0x766a0abb3c77b2a8,
   0x81c2c92e47edaee6, 0x92722c851482353b, 0xa2bfe8a14cf10364, 0xa81a664bbc423001, 0xc24b8b70d0f89791, 0xc76c51a30654be30,
   0xd192e819d6ef5218, 0xd69906245565a910, 0xf40e35855771202a, 0x106aa07032bbd1b8]
  ++ [0x19a4c116b8d2d0c8, 0x1e376c085141ab53, 0x2748774cdf8eeb99, 0x34b0bcb5e19b48a8, 0x391c0cb3c5c95a63, 0x4ed8aa4ae3418acb,
   0x5b9cca4f7763e373, 0x682e6ff3d6b2b8a3, 0x748f82ee5defb2fc, 0x78a5636f43172f60, 0x84c87814a1f0ab72, 0x8cc702081a6439ec,
   0x90befffa23631e28, 0xa4506cebde82bde9, 0xbef9a3f7b2c67915, 0xc67178f2e372532b]
  ++ [0xca273eceea26619c, 0xd186b8c721c0c207, 0xeada7dd6cde0eb1e, 0xf57d4f7fee6ed178, 0x06f067aa72176fba, 0x0a637dc5a2c898a6,
   0x113f9804bef90dae, 0x1b710b35131c471b, 0x28db77f523047d84, 0x32caab7b40c72493, 0x3c9ebe0a15c9bebc, 0x431d67c49c100d4c,
   0x4cc5d4becb3e42b6, 0x597f299cfc657e2a, 0x5fcb6fab3ad6faec, 0x6c44198c4a475817]

def shaStart : List Nat :=
  [0xcbbb9d5dc1059ed8, 0x629a292a367cd507, 0x9159015a3070dd17, 0x152fecd8f70e5939, 0x67332667ffc00b31, 0x8eb44a8768581511,
   0xdb0c2e0d64f98fa7, 0x47b5481dbefa4fa4]

def add64 (a b : Nat) : Nat := (a + b) % 2 ^ 64

def rotr64 (n a : Nat) : Nat := a >>> n ||| (a <<< (64 - n)) % 2 ^ 64

/-- A message word from the 16 before it, which stand newest first. -/
def shaWord (ws : List Nat) : Nat :=
  let at_ := fun k => (ws[k]?).getD 0
  let s0 := rotr64 1 (at_ 14) ^^^ rotr64 8 (at_ 14) ^^^ (at_ 14 >>> 7)
  let s1 := rotr64 19 (at_ 1) ^^^ rotr64 61 (at_ 1) ^^^ (at_ 1 >>> 6)
  (at_ 15 + s0 + at_ 6 + s1) % 2 ^ 64

def shaSchedule : Nat → List Nat → List Nat
  | 0, ws => ws
  | n + 1, ws => shaSchedule n (shaWord ws :: ws)

/-- One round on the eight working words, with a message word and a constant. -/
def shaRound (v : List Nat) (wk : Nat × Nat) : List Nat :=
  match v with
  | [a, b, c, d, e, f, g, h] =>
    let s1 := rotr64 14 e ^^^ rotr64 18 e ^^^ rotr64 41 e
    let ch := (e &&& f) ^^^ ((e ^^^ (2 ^ 64 - 1)) &&& g)
    let t1 := (h + s1 + ch + wk.1 + wk.2) % 2 ^ 64
    let s0 := rotr64 28 a ^^^ rotr64 34 a ^^^ rotr64 39 a
    let maj := (a &&& b) ^^^ (a &&& c) ^^^ (b &&& c)
    [(t1 + s0 + maj) % 2 ^ 64, a, b, c, add64 d t1, e, f, g]
  | v => v

/-- One block of 128 bytes. -/
def shaBlock (h : List Nat) (m : Bytes) : List Nat :=
  let first := (List.range 16).map fun k => beVal (slice m (8 * k) 8)
  let ws := (shaSchedule 64 first.reverse).reverse
  List.zipWith add64 h ((ws.zip shaConstants).foldl shaRound h)

def shaBlocks : Nat → List Nat → Bytes → List Nat
  | 0, h, _ => h
  | n + 1, h, m => if m.isEmpty then h else shaBlocks n (shaBlock h (m.take 128)) (m.drop 128)

/-- The digest as its 48 bytes. -/
def sha384Bytes (m : Bytes) : Bytes :=
  let zeros := (128 - (m.length + 17) % 128) % 128
  let p := m ++ [0x80#8] ++ List.replicate zeros 0#8 ++ be 16 (8 * m.length)
  ((shaBlocks (p.length / 128) shaStart p).take 6).flatMap (be 8)

@[irreducible] def sha384 (m : Bytes) : BitVec 384 := BitVec.ofNat 384 (beVal (sha384Bytes m))

/-! ## P-384 -/

def curveP : Nat := 2 ^ 384 - 2 ^ 128 - 2 ^ 96 + 2 ^ 32 - 1

def curveB : Nat := 0xb3312fa7e23ee7e4988e056be3f82d19181d9c6efe8141120314088f5013875ac656398d8a2ed19d2a85c8edd3ec2aef

def curveN : Nat := 0xffffffffffffffffffffffffffffffffffffffffffffffffc7634d81f4372ddf581a0db248b0a77aecec196accc52973

/-- A point of the curve, none the point at infinity. -/
abbrev CurvePoint := Option (Nat × Nat)

def curveG : CurvePoint := some
  (0xaa87ca22be8b05378eb1c71ef320ad746e1d3b628ba79b9859f741e082542a385502f25dbf55296c3a545e3872760ab7,
   0x3617de4a96262c6f5d9e98bf9292dc29f8f41dbd289a147ce9da3113b5f0b8c00a60b1ce1d7e819d7a431d7c90ea0e5f)

/-- A power modulo `m`, from the bits of the exponent. -/
def powMod (m : Nat) : Nat → Nat → Nat → Nat
  | 0, _, _ => 1 % m
  | n + 1, a, e => if e = 0 then 1 % m else
    let r := powMod m n (a * a % m) (e / 2)
    if e % 2 = 1 then a * r % m else r

/-- The inverse modulo a prime. -/
def inverse (m a : Nat) : Nat := powMod m 384 (a % m) (m - 2)

def subMod (m a b : Nat) : Nat := (a + (m - b % m)) % m

/-- The chord-and-tangent sum. -/
def curveAdd (p q : CurvePoint) : CurvePoint :=
  match p, q with
  | none, q => q
  | p, none => p
  | some (x1, y1), some (x2, y2) =>
    if x1 = x2 ∧ (y1 + y2) % curveP = 0 then none
    else
      let l := if x1 = x2 then subMod curveP (3 * x1 * x1) 3 * inverse curveP (2 * y1) % curveP
        else subMod curveP y2 y1 * inverse curveP (subMod curveP x2 x1) % curveP
      let x := subMod curveP (l * l) (x1 + x2)
      some (x, subMod curveP (l * subMod curveP x1 x) y1)

/-- A multiple of a point, from the bits of the number. -/
def curveMul : Nat → Nat → CurvePoint → CurvePoint
  | 0, _, _ => none
  | n + 1, k, p => if k = 0 then none else
    let r := curveMul n (k / 2) (curveAdd p p)
    if k % 2 = 1 then curveAdd p r else r

def onCurve (x y : Nat) : Bool := x < curveP && y < curveP && (y * y + 3 * x) % curveP == (x * x * x + curveB) % curveP

/-- The ECDSA signature `r`, `s` of 48 bytes each over a digest, under a public key. -/
def ecdsaVerifies (key : Nat × Nat) (digest : Nat) (sig : Bytes) : Bool :=
  let r := fieldAt sig 0 48
  let s := fieldAt sig 48 48
  let w := inverse curveN s
  let sum := curveAdd (curveMul 384 (digest * w % curveN) curveG) (curveMul 384 (r * w % curveN) (some key))
  1 ≤ r && r < curveN && 1 ≤ s && s < curveN && onCurve key.1 key.2
    && match sum with
      | some (x, _) => x % curveN == r
      | none => false

/-- Whether a signature over the SHA-384 digest of a string verifies under the image verification key named (R366, R374). -/
@[irreducible] def signatureOk (keyId : Nat) (signed signature : Bytes) : Bool :=
  signature.length == 96 && ecdsaVerifies (Config.imageKey keyId) (sha384 signed).toNat signature

/-! ## AES-256 key wrap and the delivered key (R417) -/

/-- One step of the unwrapping: the 64-bit register and the wrapped words, the step's number counting down. -/
def unwrapStep (rks : List (List Nat)) (p : Nat × List Nat) (t : Nat) : Nat × List Nat :=
  let i := (t - 1) % p.2.length
  let b := aesDecrypt rks ((p.1 ^^^ t) * 2 ^ 64 + (p.2[i]?).getD 0)
  (b / 2 ^ 64, p.2.set i (b % 2 ^ 64))

/-- The 32 bytes that 40 wrapped bytes hold, none where the integrity check fails. -/
def aesUnwrap (kek : Key) (wrapped : Bytes) : Option Key :=
  let words := (List.range 4).map fun k => fieldAt wrapped (8 + 8 * k) 8
  let steps := (List.range 24).map fun k => 24 - k
  let (a, ws) := steps.foldl (unwrapStep (roundKeys kek)) (fieldAt wrapped 0 8, words)
  if wrapped.length = 40 ∧ a = 0xA6A6A6A6A6A6A6A6 then some (BitVec.ofNat 256 (ws.foldl (fun acc w => acc * 2 ^ 64 + w) 0)) else none

/-- The ECDH shared secret of a point in uncompressed form and the module's device key: the first coordinate of 48 bytes;
none where the bytes are no point of the curve. -/
def sharedSecret? (epub : Bytes) : Option Bytes :=
  let x := fieldAt epub 1 48
  let y := fieldAt epub 49 48
  if epub.length = 97 ∧ fieldAt epub 0 1 = 4 ∧ onCurve x y then
    (curveMul 384 Config.deviceKey (some (x, y))).map fun q => be 48 q.1
  else none

/-- A delivered key: the wrapping key is the first 32 bytes of the SHA-384 digest of the shared secret followed by the serial
number (R417). -/
@[irreducible] def unwrapKey (serial : Nat) (epub wrapped : Bytes) : Option Key :=
  (sharedSecret? epub).bind fun z => aesUnwrap ((sha384 (z ++ be 8 serial)).extractLsb' 128 256) wrapped

end Sys2Proof.Machine
end

