-- ==== Sys2Proof/Machine/Evaluate.lean ====
section
/-! DEFINITION. EVALUATE of a frame (R85): words and expressions of block code, the error task and
the input mapping, group folds, timers, edge detectors and latches, and the approach words. -/

namespace Sys2Proof.Machine

open Sys2Proof

/-! ## Words and expressions (R80, R82) -/

/-- The STATE code of a route: its transaction's, idle where it has none or where the transaction
was released (R80, R107). -/
def routeState (x : Inter) (r : Nat) : Nat :=
  match txnOfRoute? x r with
  | some t => if t.ended then 0 else t.state.code
  | none => 0

/-- The SLOT of a route; an instance in state idle has 255 (R80, R107). -/
def routeSlot (x : Inter) (r : Nat) : Nat :=
  match txnOfRoute? x r with
  | some t => if t.ended then 255 else t.slot
  | none => 255

/-- The release time that a use of REL_TMR has for its preset (R99). -/
def relPreset (rd : RouteDef) : RelUse → Nat
  | .overlap => rd.overlapMs
  | _ => rd.approachMs

/-- The TIMER instance of a route, REL_TMR: its transaction runs it; while it does not run, REMAIN is the preset and Q 0
(R80, R88, R99). PRESET is that of the release time in use, otherwise that of the station data. -/
def relTimer? (st : Station) (x : Inter) (n : Nat) : Option TimerInst :=
  match st.routes.find? (·.timer == n), timerOf? x n with
  | some rd, some b =>
    match txnOfRoute? x rd.num with
    | some t =>
      if t.relUse = .nothing || t.ended then some { b with run := false, q := false, remain := b.preset }
      else some { b with run := true, q := t.relQ, remain := t.relRemain, preset := relPreset rd t.relUse }
    | none => some { b with run := false, q := false, remain := b.preset }
  | _, _ => none

/-- A TIMER instance as block code reads it (R80). -/
def timerSeen? (st : Station) (x : Inter) (n : Nat) : Option TimerInst :=
  match relTimer? st x n with
  | some t => some t
  | none => timerOf? x n

/-- The commanded state that a point group presents: a position where every member is commanded to what the group table
maps it to, otherwise NONE (R77, R78). -/
def groupCmd (st : Station) (x : Inter) (g : Nat) : Nat :=
  let ms := stObjsOf st (.grp g)
  let all := fun (pos : Nat) => !ms.isEmpty && ms.all fun m =>
    (objOf? x m.1).map (·.cmd) == some (posCmd (if m.2 then 1 - pos else pos))
  if all 0 then posCmd 0 else if all 1 then posCmd 1 else ptcNone

/-- CTL of a timer: RUN, Q and kind (R80). -/
def timerCtl (t : TimerInst) : Nat :=
  bit t.run + 2 * bit t.q + (if t.kind = .watch then 4 else 0)

/-- The value of a word (R80); 0 for a word of an instance that the image does not have. -/
def readWord (st : Station) (x : Inter) : WordRef → Int
  | .layoutWord => st.imgId
  | .lostCount => x.lost
  | .cmd i => ((objOf? x i).map (·.cmd)).getD 0
  | .rep i => ((objOf? x i).map (·.rep)).getD 0
  | .valid i => bit (((objOf? x i).map (·.valid)).getD false)
  | .locks i => locksOf x.shadow i
  | .fails i => ((objOf? x i).map (·.fails)).getD 0
  | .lampFlt i => bit (((objOf? x i).map (·.lampFlt)).getD false)
  | .appr i => bit (((objOf? x i).map (·.appr)).getD false)
  | .slot i => ((objOf? x i).map (·.slot)).getD 0
  | .restore i => bit (((objOf? x i).map (·.restore)).getD false)
  | .demand i => ((objOf? x i).map (·.demand)).getD 0
  | .border i => ((objOf? x i).map (·.border)).getD 0
  | .age i => ((objOf? x i).map (·.age)).getD 0
  | .dir i => ((objOf? x i).map (·.dir)).getD 0
  | .faultCount i => ((objOf? x i).map (·.faultCnt)).getD 0
  | .grpState g => ((grpOf? x g).map (·.state)).getD 0
  | .grpCmd g => groupCmd st x g
  | .alarm n => bit (x.alarms.contains n)
  | .grpValid g => bit (((grpOf? x g).map (·.valid)).getD false)
  | .rtState r => routeState x r
  | .rtSlot r => routeSlot x r
  | .rtApproach r => ((txnOfRoute? x r).map (·.approach.code)).getD 0
  | .rtOverlap r => ((txnOfRoute? x r).map (·.overlap.code)).getD 0
  | .tmRemain t => ((timerSeen? st x t).map (·.remain)).getD 0
  | .tmPreset t => ((timerSeen? st x t).map (·.preset)).getD 0
  | .tmCtl t => ((timerSeen? st x t).map timerCtl).getD 0
  | .edPrev e => bit (((edgeOf? x e).map (·.prev)).getD false)
  | .edPrevValid e => bit (((edgeOf? x e).map (·.prevValid)).getD false)
  | .laQ l => bit (((latchOf? x l).map (·.q)).getD false)
  | .objTimer i => (((stObj? st i).bind (·.timer)).getD 0 : Nat)
  | .rtTimer r => (((stRoute? st r).map (·.timer)).getD 0 : Nat)

def ofProp (b : Bool) : Int := bit b

/-- The value of an expression (R82): booleans are 0 and 1, both arms of a selection are evaluated
(R157), a division that leaves a remainder has the value Config gives it. `p` is the committed state
of the frame before (R86). DESIGN CHOICE (log entry 103): the 8-byte argument of STATION_CMD enters as one unsigned
integer; the spec does not say how it enters values of 32 signed bits (R82, R286). -/
def evalExpr (st : Station) (x p : Inter) : Expr → Int
  | .const v => v
  | .cur w => readWord st x w
  | .prev w => readWord st p w
  | .rise e => ofProp (((edgeOf? x e).map (·.rise)).getD false)
  | .fall e => ofProp (((edgeOf? x e).map (·.fall)).getD false)
  | .stationCode => ((x.stationCmd.map (·.1)).getD 0 : Nat)
  | .stationArg => ((x.stationCmd.map (·.2)).getD 0 : Nat)
  | .add a b => evalExpr st x p a + evalExpr st x p b
  | .sub a b => evalExpr st x p a - evalExpr st x p b
  | .mulC k a => k * evalExpr st x p a
  | .divC k a =>
    let v := evalExpr st x p a
    if k ≠ 0 ∧ v % k = 0 then v / k else Config.roundedQuotient v k
  | .eq a b => ofProp (evalExpr st x p a == evalExpr st x p b)
  | .lt a b => ofProp (evalExpr st x p a < evalExpr st x p b)
  | .and a b => ofProp (evalExpr st x p a != 0 && evalExpr st x p b != 0)
  | .or a b => ofProp (evalExpr st x p a != 0 || evalExpr st x p b != 0)
  | .not a => ofProp (evalExpr st x p a == 0)
  | .sel c a b => if evalExpr st x p c ≠ 0 then evalExpr st x p a else evalExpr st x p b

def holdsExpr (st : Station) (x p : Inter) (e : Expr) : Bool := evalExpr st x p e != 0

/-! ## The error task and the input mapping (R85 steps 1 to 3, R91, R94, R96) -/

def obsOf? (fin : FrameIn) (i : Nat) : Option Obs := fin.obs.find? (·.idx == i)

/-- AGE in this frame: 0 where a boundary state was accepted in it, otherwise one more (R80, R94). -/
def nextAge (x : Inter) (o : ObjInst) : Nat :=
  if x.fresh.contains o.idx then 0 else satAdd 255 1 o.age

/-- Whether a boundary object's own last state lies within the boundary age limit (R91). -/
def withinBage (st : Station) (x : Inter) (o : ObjInst) : Bool := nextAge x o ≤ st.bage

/-- Whether the boundary group that contains the object is LINKED (R77, R79); an object in no
boundary group is not held back by one. -/
def groupLinked (st : Station) (x : Inter) (i : Nat) : Bool :=
  st.groups.all fun g =>
    if g.ty = .boundary then
      let ms := (stObjsOf st (.grp g.num)).map (·.1)
      if ms.contains i then
        ms.all fun j => ((objOf? x j).map (withinBage st x)).getD false
      else true
    else true

/-- The row of R91 that makes an object invalid in this frame, 0 where none does. -/
def causeOf (st : Station) (x : Inter) (fin : FrameIn) (o : ObjInst) : Nat :=
  if o.ty = .boundary then
    if !withinBage st x o then 6 else if !groupLinked st x o.idx then 7 else 0
  else ((obsOf? fin o.idx).map (·.cause)).getD 1

/-- The settle count in this frame: begun in the first frame valid again (R96). -/
def nextSettle (period : Nat) (wasValid nowValid : Bool) (left : Nat) : Nat :=
  if !nowValid then 0 else if !wasValid then period else left - 1

/-- One object through the error task: validity, settle period, AGE, fault counter (R94 steps 2 to 4). -/
def taskObj (st : Station) (x : Inter) (fin : FrameIn) (o : ObjInst) : ObjInst :=
  let ok := causeOf st x fin o == 0
  { o with
    valid := ok
    settle := nextSettle st.settle o.valid ok o.settle
    age := if o.ty = .boundary then nextAge x o else o.age
    faultCnt := if o.valid && !ok then satAdd 65535 1 o.faultCnt else o.faultCnt }

/-- One object through the input mapping: its reported state where it is valid, its substitute where it is not (R85
step 2, R92); RESTORE ends where a valid section does not report DISTURBED (R448). -/
def mapObj (fin : FrameIn) (o : ObjInst) : ObjInst :=
  let ok := o.valid
  let ob := obsOf? fin o.idx
  { o with
    rep := if !ok then substituteRep o.ty
      else if o.ty = .boundary then o.offerIn else (ob.map (·.rep)).getD o.rep
    border := if ok then o.borderIn else bdOccupied
    lampFlt := if ok then (ob.map (·.lamp)).getD o.lampFlt else true
    restore := o.restore && !(ok && (ob.map (·.rep)).getD scOccupied != scDisturbed) }

/-- One record for each object whose validity changed (R94 step 5). -/
def validityRecs (st : Station) (x : Inter) (fin : FrameIn) : List Rec :=
  x.objs.filterMap fun o =>
    let c := causeOf st x fin o
    if o.valid && c != 0 then some (objRec o.idx 2 c)
    else if !o.valid && c == 0 then some (objRec o.idx 1 0)
    else none

/-- Praline's own reading of the frozen inputs (R127). -/
def mapPrl (p : Prt) (x : Inter) (fin : FrameIn) (q : PrlObj) : PrlObj :=
  match p.objects.find? (·.idx == q.idx) with
  | none => q
  | some o =>
    let age := if x.freshTag.contains q.idx then 0 else satAdd 255 1 q.age
    let ok := if o.ty = .boundary then decide (age ≤ p.bage)
      else ((obsOf? fin q.idx).map (·.cause)).getD 1 == 0
    { q with
      wasRep := q.rep
      wasOk := q.valid && q.settle == 0 && q.rep != scDisturbed
      age := if o.ty = .boundary then age else q.age
      valid := ok
      settle := nextSettle p.settle q.valid ok q.settle
      rep := if !ok then substituteRep o.ty
        else if o.ty = .boundary then q.rep else ((obsOf? fin q.idx).map (·.rep)).getD q.rep }

/-- A member's state as a group reads it: state, validity, settling. -/
structure Seen where
  state : Nat
  valid : Bool
  settling : Bool
  deriving DecidableEq, Repr

/-- What the lanes read of an object. -/
def seenObj (x : Inter) (i : Nat) : Seen :=
  match objOf? x i with
  | some o => ⟨o.rep, o.valid, o.settle != 0⟩
  | none => ⟨0, false, false⟩

/-- What Praline reads of an object (R127). -/
def prlSeen (x : Inter) (i : Nat) : Seen :=
  match prlOf? x i with
  | some o => ⟨o.rep, o.valid, o.settle != 0⟩
  | none => ⟨0, false, false⟩

/-- Fold of a point group over its members with their mapping (R77). -/
def foldPoints (ms : List (Seen × Bool)) : Nat :=
  let at' := fun (pos : Nat) => ms.all fun m =>
    m.1.state == posRep (if m.2 then 1 - pos else pos)
  if at' 0 then ptNormal
  else if at' 1 then ptReverse
  else if ms.any (fun m => m.1.state == ptMoving) && ms.all (fun m => m.1.state != ptLost) then
    ptMoving
  else ptLost

/-- Fold of a section group (R77). -/
def foldSections (ms : List Seen) : Nat :=
  if ms.any (·.state == scDisturbed) then scDisturbed
  else if ms.any (·.state == scOccupied) then scOccupied
  else scClear

/-- One group's fold over what its members present (R77); an invalid member makes the group invalid, with the fold of
the substitutes for its state (R78). DESIGN CHOICE (log entry 104): LINKED is 1 and UNLINKED 0. -/
def foldMembers (ty : ObjTy) (ms : List (Seen × Bool)) : Seen :=
  let ok := ms.all (·.1.valid)
  let settling := ms.any (·.1.settling)
  match ty with
  | .point => ⟨if ok then foldPoints ms else ptLost, ok, settling⟩
  | .track => ⟨if ok then foldSections (ms.map (·.1)) else scOccupied, ok, settling⟩
  | _ => ⟨if ok then grLinked else grUnlinked, ok, settling⟩

/-- What a reader sees of an object or group, groups inside groups folded first, to the four levels that R76 allows. -/
def foldRef (st : Station) (look : Nat → Seen) : Nat → Ref → Seen
  | _, .obj i => look i
  | 0, .grp _ => ⟨0, false, false⟩
  | n + 1, .grp g => match stGroup? st g with
    | some d => foldMembers d.ty (d.members.map fun m => (foldRef st look n m.ref, m.flipped))
    | none => ⟨0, false, false⟩

def seenRef (st : Station) (look : Nat → Seen) (r : Ref) : Seen := foldRef st look 4 r

/-- One group's fold (R77, R78). -/
def foldGroup (st : Station) (look : Nat → Seen) (d : GroupDef) : Seen := seenRef st look (.grp d.num)

def mapGroup (st : Station) (x : Inter) (g : GrpInst) : GrpInst :=
  match stGroup? st g.num with
  | none => g
  | some d =>
    let f := foldGroup st (seenObj x) d
    { g with state := f.state, valid := f.valid, settling := f.settling }

/-- Whether an approach section proves no train on the approach (R449). -/
def approachClear (st : Station) (look : Nat → Seen) (r : Ref) : Bool :=
  let v := seenRef st look r
  v.valid && !v.settling && v.state == scClear

/-- The APPR word of a signal (R449): false only while every approach section that a route from the
signal names is valid, settled and CLEAR, and there is one. -/
def apprWord (st : Station) (x : Inter) (sig : Nat) : Bool :=
  let secs := (st.routes.filter (·.entry == sig)).filterMap (·.approach)
  secs.isEmpty || secs.any fun r => !approachClear st (seenObj x) r

/-- Start of a frame: what only the frame before collected is cleared. -/
def clearFrame (x : Inter) : Inter :=
  { x with todo := [], acks := [], requests := [], denied := [], revoked := [], plan := [], asks := [], shorts := []
           lockDiff := false, replies := [], recs := [], stationCmd := none, fresh := [], freshTag := [] }

/-! ## Timers, edge detectors, latches (R87, R88, R90) -/

/-- Elapsed time in ms that a timer of this kind counts: RELEASE rounds down, WATCH up (R88); in the
first frame after a takeover 0 and the gap rounded up (R89). -/
def countMs (fin : FrameIn) : TimerKind → Nat
  | .release => match fin.takeover with
    | some _ => 0
    | none => fin.elapsed / 1000
  | .watch => match fin.takeover with
    | some gap => (gap + 999) / 1000
    | none => (fin.elapsed + 999) / 1000

/-- One frame of a timer (R88); `afresh` starts it again as at a change of command (R443). -/
def tickTimer (fin : FrameIn) (run afresh : Bool) (t : TimerInst) : TimerInst :=
  if !run then { t with run := false, remain := t.preset, q := false }
  else if !t.run || afresh then { t with run := true, remain := t.preset, q := false }
  else
    let r := t.remain - countMs fin t.kind
    { t with remain := r, q := r == 0 }

/-- One frame of an edge detector on an input and its validity (R90). -/
def tickEdge (input valid : Bool) (e : EdgeInst) : EdgeInst :=
  { e with
    rise := valid && e.prevValid && input && !e.prev
    fall := valid && e.prevValid && !input && e.prev
    prev := input
    prevValid := valid }

/-- One frame of a latch: set and reset inputs and the restrictive side (R87). -/
def tickLatch (set reset restr : Bool) (l : LatchInst) : LatchInst :=
  match set, reset with
  | true, true => { l with q := restr }
  | true, false => { l with q := true }
  | false, true => { l with q := false }
  | false, false => l

/-- An instance that an exchange could not map and whose settle period runs (R380). -/
def isUnmapped (x : Inter) (u : UnmappedInst) : Bool := x.unmappedFor != 0 && x.unmapped.contains u

/-- An unmapped edge detector reports no edge (R380). -/
def quietEdge (x : Inter) (e : EdgeInst) : EdgeInst :=
  if isUnmapped x (.edge e.num) then { e with rise := false, fall := false } else e

/-- The valid sample of a section or of what reads one: DISTURBED gives none (R90). -/
def goodSample (ty : ObjTy) (v : Seen) : Bool := v.valid && !v.settling && !(ty = .track && v.state == scDisturbed)

/-- What an edge detector compares in this frame: its input, and whether that is a valid sample (R90, R115). -/
def edgeSample (st : Station) (p x : Inter) : EdgeIn → Bool × Bool
  | .occupied r =>
    let v := seenRef st (seenObj x) r
    (v.state == scOccupied, goodSample .track v)
  | .logic e follows =>
    (holdsExpr st x p e, follows.all fun i => goodSample (((objOf? x i).map (·.ty)).getD .point) (seenObj x i))

/-- One edge detector in the frame (R90). -/
def runEdge (st : Station) (p : Inter) (n : Nat) (x : Inter) : Inter :=
  match (st.edges.find? (·.num == n)).map EdgeDef.input with
  | some i =>
    let v := edgeSample st p x i
    { x with edges := updFirst (·.num == n) (fun g => quietEdge x (tickEdge v.1 v.2 g)) x.edges }
  | none => x

/-- One latch in the frame (R87, R380). -/
def runLatch (st : Station) (p : Inter) (n : Nat) (x : Inter) : Inter :=
  match st.latches.find? (·.num == n) with
  | some d =>
    let f := if isUnmapped x (.latch n) then fun (l : LatchInst) => { l with q := d.restr }
      else tickLatch (holdsExpr st x p d.set) (holdsExpr st x p d.reset) d.restr
    { x with latches := updFirst (·.num == n) f x.latches }
  | none => x

/-! ## Steps 1 to 3 of EVALUATE -/

/-- One item of the station's error block (R95). -/
def runErrItem (st : Station) (p x : Inter) : ErrItem → Inter
  | .alarm n e =>
    let rest := x.alarms.filter (· != n)
    { x with alarms := if holdsExpr st x p e then n :: rest else rest }
  | .latch l => runLatch st p l x

/-- The station's own error block, on the validity flags and fault counters of the frame (R94 step 6, R95). -/
def runErrors (st : Station) (p x : Inter) : Inter := st.errors.foldl (runErrItem st p) x

/-- The error task (R85 step 1, R94): validity of objects and groups, settle periods, AGE and fault counters, records,
and the station's error block. -/
def errorTask (st : Station) (fin : FrameIn) (x : Inter) : Inter :=
  let x1 := { x with objs := x.objs.map (taskObj st x fin) }
  let grp := fun (g : GrpInst) =>
    { g with valid := match stGroup? st g.num with
        | some d => (foldGroup st (seenObj x1) d).valid
        | none => g.valid }
  let x2 := { x1 with groups := x1.groups.map grp }
  runErrors st x ((validityRecs st x fin).foldl addRec x2)

/-- Steps 1 to 3 of EVALUATE, and Praline's reading (R85, R94, R127). -/
def mapInputs (st : Station) (p : Prt) (fin : FrameIn) (x : Inter) : Inter :=
  let x0 := errorTask st fin x
  let x1 := { x0 with objs := x0.objs.map (mapObj fin), prlObjs := x0.prlObjs.map (mapPrl p x fin) }
  let x2 := { x1 with groups := x1.groups.map (mapGroup st x1) }
  { x2 with objs := x2.objs.map fun o =>
      if o.ty = .signal then { o with appr := apprWord st x2 o.idx } else o }

/-! ## Timers of the station logic and of objects (R88, R443) -/

/-- The movement or closing timer that the object's block runs (R443). -/
def objTimerRun (o : ObjInst) : Bool :=
  match o.ty with
  | .point => o.cmd != ptcNone && !(o.valid && o.rep == posRep (o.cmd - 1))
  | .crossing => o.cmd == lxClose && !(o.valid && o.rep == lxSecured)
  | _ => false

/-- Expiry of an object's WATCH timer: the record, and FAILS of a point (R443). -/
def objTimerExpired (x : Inter) (i : Nat) : Inter :=
  addRec (setObj x i fun o =>
    if o.ty = .point then { o with fails := satAdd 255 1 o.fails } else o) (objRec i 3 0)

/-- One object's WATCH timer in the frame, on its command as the frame has it (R443); one that an exchange could not map
does not run for the settle period (R89). -/
def tickObjTimer (fin : FrameIn) (p : Inter) (x : Inter) (d : ObjDesc) : Inter :=
  match d.timer, objOf? x d.idx with
  | some n, some o =>
    let was := ((objOf? p d.idx).map (·.cmd)).getD (restrictiveCmd d.ty)
    let q0 := ((timerOf? x n).map (·.q)).getD false
    let x1 := setTimer x n (tickTimer fin (objTimerRun o && !isUnmapped x (.timer n)) (o.cmd != was))
    let q1 := ((timerOf? x1 n).map (·.q)).getD false
    let x2 := if q1 && !q0 then objTimerExpired x1 d.idx else x1
    if o.ty = .point && o.cmd != ptcNone && o.valid && o.rep == posRep (o.cmd - 1) then
      setObj x2 d.idx fun o' => { o' with fails := 0 }
    else x2
  | _, _ => x

/-- One TIMER instance of the station logic or of an object (R88, R443); REL_TMR is run by its route's block (R99). -/
def runTimer (st : Station) (fin : FrameIn) (p : Inter) (n : Nat) (x : Inter) : Inter :=
  match st.objects.find? fun d => d.timer == some n with
  | some d => tickObjTimer fin p x d
  | none => match (stTimer? st n).map TimerDef.use with
    | some (TimerUse.logic run) => setTimer x n (tickTimer fin (holdsExpr st x p run && !isUnmapped x (.timer n)) false)
    | _ => x

/-- The timer of an object whose permissive command Praline's decision took back does not run (R443). -/
def stopDenied (st : Station) (x : Inter) : Inter :=
  let one := fun (x : Inter) (d : ObjDesc) => match d.timer, objOf? x d.idx with
    | some n, some o => if d.ty = .point && o.cmd == ptcNone then setTimer x n (tickTimer {} false false) else x
    | _, _ => x
  st.objects.foldl one x

end Sys2Proof.Machine
end

