-- ==== Sys2Proof/Machine/State.lean ====
section
/-! DEFINITION. The state of the module: every block's registers, buffers and modes, the configuration in
effect and staged, the fault sub-blocks, the interlocking state, and the queue of waiting commands.
Each field's default is its value at reset. -/

namespace Sys2Proof.Machine

open Sys2Proof

/-- A fault sub-block (R322): live and sticky bits, interrupt enables; FSEV stands in the configuration.
`told` keeps, for each source at RECORD or WARN, the time of its last record and the raisings since that
were not recorded (R328). -/
structure FaultBlk where
  live : BitVec 16 := 0
  latch : BitVec 16 := 0
  ien : Word := 0
  told : List (Nat × Nat × Nat) := []
  deriving DecidableEq, Repr

/-- The fourteen fault sub-blocks, in the order of R298. -/
structure Faults where
  sys : FaultBlk := {}
  frm : FaultBlk := {}
  vot : FaultBlk := {}
  prl : FaultBlk := {}
  frn : FaultBlk := {}
  lio : FaultBlk := {}
  xbr : FaultBlk := {}
  dpx : FaultBlk := {}
  upd : FaultBlk := {}
  evr : FaultBlk := {}
  bst : FaultBlk := {}
  pwr : FaultBlk := {}
  sec : FaultBlk := {}
  cmd : FaultBlk := {}
  deriving DecidableEq, Repr

/-- The status image as the last drain wrote it (R316): frame, MSW, committed state, and the register
copies. -/
structure Image where
  frame : Nat := 0
  msw : Nat := 0
  inter : Inter := {}
  regs : List (Nat × Word) := []
  deriving DecidableEq, Repr

/-- The module. -/
structure State where
  /-- Time of the module timebase in µs (log entry 1). -/
  now : Nat := 0
  /-- Configuration in effect, staged words, staged partner entries (R299, R313). -/
  cfg : Cfg := {}
  staged : List (StReg × Word) := []
  stagedPartners : List (Nat × Partner) := []
  faults : Faults := {}
  /-- The blocks, each with the registers and buffers of its chapter. -/
  frm : FrmBlk := {}
  vot : VotBlk := {}
  bst : BstBlk := {}
  prl : PrlBlk := {}
  frn0 : FrnBlk := {}
  frn1 : FrnBlk := {}
  lio : LioBlk := {}
  cmd : CmdBlk := {}
  xbr : XbrBlk := {}
  dpx : DpxBlk := {}
  upd : UpdBlk := {}
  evr : EvrBlk := {}
  pwr : PwrBlk := {}
  sec : SecBlk := {}
  sys : SysBlk := {}
  /-- Images in use: loaded into the lanes and into Praline (R131, R161). -/
  mzp : Option Station := none
  prt : Option Prt := none
  /-- Interlocking state as committed at the last drain, and as the frame in progress proposes it (R24). -/
  core : Inter := {}
  work : Option Inter := none
  image : Image := {}
  /-- The model's own record of what has left the ports. -/
  sent : List Sent := []
  /-- Count of free values taken (log entry 7). -/
  free : Nat := 0
  /-- Commands that wait, first in, first out. -/
  pending : List Instr := []
  deriving DecidableEq, Repr

/-- The machine right after reset: every register at the reset value of its table. -/
def State.reset : State := {}

/-- No command stops the machine with a fault: every condition the spec describes is an effect on State
(log entry 2). The one constructor is raised by nothing. -/
inductive Fault where
  /-- Raised by no meaning; safe. -/
  | never
  deriving DecidableEq, Repr

/-- Why the model has no meaning for a command. -/
inductive Refusal where
  /-- Raised by `exec` for a row that has no meaning yet, named as the table names it; safe: the model
  stops where the hardware goes on. -/
  | notModelled (mnemonic : String)
  deriving DecidableEq, Repr

end Sys2Proof.Machine
end

