-- ==== Sys2Proof/Machine/Flags.lean ====
section
/-! DEFINITION. The fault sources of the fourteen blocks (R339, R340), their bits in the fault sub-blocks
(R322), the severity in effect (R329), and the module status word (R214). -/

namespace Sys2Proof.Machine

open Sys2Proof

/-! ## Fault sub-blocks -/

def faultOf (fs : Faults) : Blk → FaultBlk
  | .sys => fs.sys
  | .frm => fs.frm
  | .vot => fs.vot
  | .prl => fs.prl
  | .frn => fs.frn
  | .lio => fs.lio
  | .xbr => fs.xbr
  | .dpx => fs.dpx
  | .upd => fs.upd
  | .evr => fs.evr
  | .bst => fs.bst
  | .pwr => fs.pwr
  | .sec => fs.sec
  | .cmd => fs.cmd

def setFault (fs : Faults) (b : Blk) (f : FaultBlk) : Faults :=
  match b with
  | .sys => { fs with sys := f }
  | .frm => { fs with frm := f }
  | .vot => { fs with vot := f }
  | .prl => { fs with prl := f }
  | .frn => { fs with frn := f }
  | .lio => { fs with lio := f }
  | .xbr => { fs with xbr := f }
  | .dpx => { fs with dpx := f }
  | .upd => { fs with upd := f }
  | .evr => { fs with evr := f }
  | .bst => { fs with bst := f }
  | .pwr => { fs with pwr := f }
  | .sec => { fs with sec := f }
  | .cmd => { fs with cmd := f }

/-- The ST register that holds a block's FSEV (R322). -/
def fsevReg : Blk → StReg
  | .sys => .sysFsev
  | .frm => .frmFsev
  | .vot => .votFsev
  | .prl => .prlFsev
  | .frn => .frnFsev
  | .lio => .lioFsev
  | .xbr => .xbrFsev
  | .dpx => .dpxFsev
  | .upd => .updFsev
  | .evr => .evrFsev
  | .bst => .bstFsev
  | .pwr => .pwrFsev
  | .sec => .secFsev
  | .cmd => .cmdFsev

/-- Number of sources of a block: the bits from there up are reserved (R322, R339, R340). -/
def sourceCount : Blk → Nat
  | .sys => 4
  | .frm => 4
  | .vot => 12
  | .prl => 13
  | .frn => 16
  | .lio => 12
  | .xbr => 5
  | .dpx => 6
  | .upd => 5
  | .evr => 4
  | .bst => 7
  | .pwr => 4
  | .sec => 4
  | .cmd => 6

/-- Severity in effect of source `n` of a block: the two bits [2n+1:2n] of its FSEV (R322, R329). -/
def sevOf (c : Cfg) (b : Blk) (n : Nat) : Sev := Sev.ofCode (fieldOf (cfgGet c (fsevReg b)) (2 * n) 2)

/-- Whether a block has a fence unit (R330, R337). -/
def hasFenceUnit : Blk → Bool
  | .vot | .bst | .prl | .frn | .lio | .cmd | .xbr => true
  | _ => false

def isLive (s : State) (b : Blk) (n : Nat) : Bool := (faultOf s.faults b).live.getLsbD n

def isLatched (s : State) (b : Blk) (n : Nat) : Bool := (faultOf s.faults b).latch.getLsbD n

/-- The bit of source `n`. -/
def srcBit (n : Nat) : BitVec 16 := BitVec.ofNat 16 (2 ^ n)

/-- Whether any source at SAFE-STOP is live (R343). -/
def anySafeStopLive (s : State) : Bool :=
  Blk.all.any fun b => (List.range (sourceCount b)).any fun n =>
    isLive s b n && sevOf s.cfg b n = .safeStop

/-- The interrupt line of a block (R325). -/
def irqLine (s : State) (b : Blk) : Bool :=
  let f := faultOf s.faults b
  (f.latch &&& f.ien.setWidth 16) != 0

/-- Source numbers, named (R339, R340). -/
def fOVERRUN : Nat := 0
def fWATCHDOG : Nat := 1
def fBUDGET : Nat := 2
def fTIMEBASE : Nat := 3
def vODD_LANE : Nat := 0
def vSIG_FAIL : Nat := 1
def vNOMAJ : Nat := 2
def vLATENT : Nat := 3
def vSCRUB_NOMAJ : Nat := 4
def vDUO_LIMIT : Nat := 5
def vRESYNC_FAIL : Nat := 6
def vVOTER_DISAGREE : Nat := 7
def vINJ_FAIL : Nat := 8
def vDEBUG_HALT : Nat := 9
def vLANE_FAULT : Nat := 10
def vRESYNC_LIMIT : Nat := 11
def pINST_OUT : Nat := 0
def pINST_NOMAJ : Nat := 1
def pDUO_LIMIT : Nat := 2
def pCRUMB_CORRUPT : Nat := 3
def pLOCK_MISMATCH : Nat := 4
def pPERMIT_DISAGREE : Nat := 5
def pDENY_DISAGREE : Nat := 6
def pCRUMB_LOW : Nat := 7
def pCRUMB_CRIT : Nat := 8
def pGUARD_TRIP : Nat := 9
def pGUARD_FAULT : Nat := 10
def pREQ_SINGLE : Nat := 11
def pKEY_ABSENT : Nat := 12
/-- FRN sources of cluster 0; cluster 1's stand 8 higher (R240). -/
def nDROPOUT : Nat := 0
def nCHANNEL : Nat := 1
def nSYNC_LOSS : Nat := 2
def nGUARDIAN : Nat := 3
def nCLUSTER_DOWN : Nat := 4
def nADMIT_FAIL : Nat := 5
def nMAILBOX : Nat := 6
def nSCHEDULE : Nat := 7
def lBARRIER : Nat := 0
def lFIELD_SIDE : Nat := 1
def lCONVERTER : Nat := 2
def lIN_BANK : Nat := 3
def lIN_CHAN : Nat := 4
def lOUT_SHORT : Nat := 5
def lOUT_SWITCH : Nat := 6
def lSUPPLY : Nat := 7
def lTRIP_DEGRADED : Nat := 8
def lTRIP_LOCK : Nat := 9
def lCOUNT_ERR : Nat := 10
def lTOFFEE_EXP : Nat := 11
def xQPTR : Nat := 0
def xQLOSS : Nat := 1
def xSEM_TIMEOUT : Nat := 2
def xACCESS_ERR : Nat := 3
def xBRIDGE_ECC : Nat := 4
def cSAFETY_FAIL : Nat := 0
def cSTALE_PKT : Nat := 1
def cUNKNOWN_SRC : Nat := 2
def cQUEUE_FULL : Nat := 3
def cPARTNER_SILENT : Nat := 4
def cNO_KEY : Nat := 5
def bPT_FAIL : Nat := 0
def bPT_HOLD : Nat := 1
def bRESTORE_FAIL : Nat := 2
def bKEYZ_FAIL : Nat := 3
def bPT_LATE : Nat := 4
def bPOST_FAIL : Nat := 5
def bPT_RETRY : Nat := 6
def sS1_STUCK : Nat := 0
def sSVC_WDOG : Nat := 1
def sTEMP : Nat := 2
def sSETTINGS_LOST : Nat := 3
def wHOLDUP : Nat := 0
def wX1_RANGE : Nat := 1
def wCELL_LOW : Nat := 2
def wRAIL : Nat := 3
def eTAMPER : Nat := 0
def eDEBUG_OPEN : Nat := 1
def eAUTH_FAIL : Nat := 2
def eKEY_STORE : Nat := 3
def dPEER_DOWN : Nat := 0
def dWITNESS_DOWN : Nat := 1
def dWAFER_BAD : Nat := 2
def dPARTNER_NOT_READY : Nat := 3
def dROLE_CONFLICT : Nat := 4
def dTAKEOVER : Nat := 5
def uTRANSFER_ERR : Nat := 0
def uFALLBACK : Nat := 1
def uSETTINGS_INCOMPATIBLE : Nat := 2
def uBANK_BAD : Nat := 3
def uCONFIRM_PENDING : Nat := 4
def rEVT_LOSS : Nat := 0
def rMRAM_ERR : Nat := 1
def rRING_ERR : Nat := 2
def rTIME_HOLD : Nat := 3

/-! ## Settings read often -/

/-- Frame period *T* in ms for a PERIOD code (R70); codes 6 and 7 never pass a COMMIT. -/
def periodMsOf (code : Nat) : Nat :=
  match code with
  | 0 => 10
  | 1 => 20
  | 2 => 25
  | 3 => 40
  | 4 => 50
  | _ => 100

/-- Frame period in µs. -/
def periodUs (c : Cfg) : Nat := 1000 * periodMsOf (fieldOf c.frmCtl 0 3)

def skewUs (c : Cfg) : Nat := 10 * fieldOf c.frmCtl 8 8
def ovrExt (c : Cfg) : Nat := fieldOf c.frmOvr 0 5
def ovrCnt (c : Cfg) : Nat := fieldOf c.frmOvr 8 2

/-- Lateness that EXT tolerates, in µs (R58). -/
def extUs (c : Cfg) : Nat := periodUs c * ovrExt c / 100

/-- The expected interval *I* in µs (R352). -/
def expectedUs (c : Cfg) : Nat := periodUs c + extUs c

def toffeeUs (c : Cfg) : Nat := 10000 * fieldOf c.dpxCtl 8 8
def leaseUs (c : Cfg) : Nat := 1000 * fieldOf c.dpxCtl 16 8
def dpxMode (c : Cfg) : Nat := fieldOf c.dpxCtl 0 2
def dpxWlag (c : Cfg) : Nat := fieldOf c.dpxCtl 24 6
def freshLimit (c : Cfg) : Nat := fieldOf c.cmdCtl 0 8
def cmdUdpp (c : Cfg) : Nat := fieldOf c.cmdCtl 16 16
def cmdKsel (c : Cfg) : Nat := fieldOf c.cmdCtl 8 1
def ownPair (c : Cfg) : Nat := fieldOf c.cmdAddr 16 5
def ownKind (c : Cfg) : Nat := fieldOf c.cmdAddr 8 3
def laneKsel (c : Cfg) : Nat := fieldOf c.secCtl 8 1
def permitKsel (c : Cfg) : Nat := fieldOf c.prlCtl 8 1
def sessionMs (c : Cfg) : Nat := 60000 * fieldOf c.secCtl 0 8

/-! ## Module status word -/

/-- MODE: 0 no vote, 1 2oo2, 2 2oo3 (R214). -/
def voteMode (s : State) : Nat :=
  match (votingLanes s.vot).length with
  | 3 => 2
  | 2 => 1
  | _ => 0

/-- DEBUG: a lane is halted or has not voted again since its halt (R181). -/
def debugFlag (s : State) : Bool :=
  Lane.all.any fun l => (laneOf s.vot l).state = .halted || ((laneOf s.vot l).debugged && !isVoting s.vot l)

/-- A module that has relinquished sends no downlink any more and shows it (R352): after a handover from the end of the drain
of its last frame on, whose downlink it still sends (R359). -/
def gaveUp (s : State) : Bool := s.dpx.relinquished && (s.sys.stopped || s.frm.drainEnd ≤ s.now)

/-- The role that the MSW shows: a module that has relinquished shows STANDBY (R352), a module in
recovery mode ALONE (R387). -/
def shownRole (s : State) : Role :=
  if s.upd.recov then .alone else if gaveUp s then .standby else s.dpx.role

/-- The module status word (R214). -/
def msw (s : State) : Nat :=
  bit (debugFlag s) * 0x8000 + (shownRole s).code * 0x2000 + voteMode s * 0x800
    + bit s.sys.stopped * 0x400 + s.sec.life.code * 0x80 + s.prl.press.code * 0x20
    + bit s.prl.fenced * 0x10

/-- Whether the module runs frames: in the roles ACTIVE and ALONE, with its role entered and not
stopped (R334, R341). -/
def framesRun (s : State) : Bool :=
  s.sys.ready && !s.sys.stopped && (s.dpx.role = .active || s.dpx.role = .alone)
    && s.frm.nextTick.isSome

/-- Whether CMD_IN is taken: by the lanes at INPUT, or by the companion cores of a module whose lanes run no frames
(R286, R445). -/
def lanesTake (s : State) : Bool :=
  framesRun s || (s.sys.ready && (s.dpx.role = .standby || s.dpx.role = .witness))

end Sys2Proof.Machine
end

