-- ==== Sys2Proof/Machine/Ops.lean ====
section
/-! DEFINITION. The named operations that every family shares: the bridge's queues (R306 to R309), event
records and their numbering (R392 to R397), fencing (R337), the stop (R334) and the raising of a
fault (R326 to R333). -/

namespace Sys2Proof.Machine

open Sys2Proof

/-- What a meaning answers. -/
abbrev Out := Host.Outcome State Fault Refusal

/-- Time passes to `t`, and never back (log entry 1). -/
def later (s : State) (t : Nat) : State := { s with now := max s.now t }

/-- One change of the interlocking state made outside a frame's evaluation: it is made in the committed
state and in the state that a frame in progress proposes. -/
def updInter (s : State) (f : Inter → Inter) : State :=
  { s with core := f s.core, work := s.work.map f }

/-- Whether the service processor runs: it is not restarting (R375). -/
def svcRuns (s : State) : Bool := s.upd.svcAt.isNone

/-! ## Bridge queues (R306 to R309) -/

/-- Bytes that an item takes in a queue: header word and payload padded to words (R307). -/
def itemBytes (n : Nat) : Nat := 8 + (n + 7) / 8 * 8

/-- Bytes that a queue holds. -/
def queueBytes (q : Queue) : Nat := (q.items.map fun i => itemBytes i.data.length).foldl (· + ·) 0

/-- Whether a queue has room for a payload of `n` bytes (R306). -/
def queueRoom (x : XbrBlk) (q n : Nat) : Bool :=
  match q with
  | 0 => x.q0.items.length < 64
  | 1 => x.q1.items.length < 256
  | 2 => queueBytes x.q2 + itemBytes n ≤ 131072
  | _ => queueBytes (queueOf x q) + itemBytes n ≤ 16384

/-- ISEQ counts from 1 to 65,535 and then from 1 again (R307). -/
def nextIseq (n : Nat) : Nat := if n ≥ 65535 then 1 else n + 1

/-- A push: the item with its ISEQ where there is room; otherwise LOSS advances (R307, R309). -/
def pushQueue (x : XbrBlk) (q conn : Nat) (data : Bytes) : XbrBlk :=
  if queueRoom x q data.length then
    setQueue x q fun u =>
      { u with items := u.items ++ [{ iseq := u.nextSeq, conn := conn, data := data }]
               nextSeq := nextIseq u.nextSeq, wr := u.wr.advance (itemBytes data.length / 8) }
  else { setQueue x q (fun u => { u with loss := satAdd 255 1 u.loss }) with sawQloss := true }

/-- Items leave a queue, and its read pointer moves past them (R306, R308). -/
def consume (gone : QItem → Bool) (u : Queue) : Queue :=
  let words := ((u.items.filter gone).map fun i => itemBytes i.data.length / 8).sum
  { u with items := u.items.filter fun i => !gone i, rd := u.rd.advance words }

/-- The head item leaves a queue, and the read pointer moves past it (R306, R308). -/
def consumeHead (u : Queue) : Queue :=
  let words := (u.items.head?.map fun i => itemBytes i.data.length / 8).getD 0
  { u with items := u.items.tail, rd := u.rd.advance words }

/-- A flush: every item goes, an item partly written into port 0 with them; numbering continues (R310). -/
def flushQueue (x : XbrBlk) (q : Nat) : XbrBlk :=
  let y := setQueue x q (consume fun _ => true)
  if q = 0 then { y with port := [], portCut := y.portCut || !x.port.isEmpty } else y

/-- Both copies of both pointers agree (R311). -/
def pointersAgree (u : Queue) : Bool := u.wr.copy == ~~~ u.wr.ptr && u.rd.copy == ~~~ u.rd.ptr

/-- The requests whose items a flush or reset of CMD_IN removes leave the pending set (R310). -/
def dropPending (q : Nat) (s : State) : State := if q = 0 then { s with cmd := { s.cmd with pend := [] } } else s

/-- The comparison that every access by either side makes (R311): on a mismatch the queue is reset as a flush does, its
items count as lost (R319), both copies are rewritten and QPTR is raised at the drain. A command set already frozen is not
touched. -/
def touchQueue (s : State) (q : Nat) : State :=
  let u := queueOf s.xbr q
  if pointersAgree u then s
  else
    let x := setQueue (flushQueue s.xbr q) q fun v => { v with wr := {}, rd := {}, loss := satAdd 255 u.items.length v.loss }
    dropPending q { s with xbr := { x with sawQptr := true } }

/-- An access that takes nothing from the queue: the push of an item. -/
def pushTo (s : State) (q conn : Nat) (data : Bytes) : State :=
  let s1 := touchQueue s q
  { s1 with xbr := pushQueue s1.xbr q conn data }

/-! ## Records (R392 to R397) -/

/-- A record's bytes (R392). -/
def recBytes (r : Rec) : Bytes :=
  let len := r.body.length
  be 1 r.ty
    ++ be 1 (r.sev * 64 + bit r.orig * 32 + bit r.tmode * 16 + bit r.tq * 8 + len / 256 % 4)
    ++ be 1 (len % 256) ++ be 3 r.num ++ be 2 r.msw ++ be 8 r.time ++ r.body

/-- A record as its header and payload spell it; the payload is what follows the header (R392). -/
def recOfBytes (bs : Bytes) : Rec :=
  let fl := fieldAt bs 1 1
  { ty := fieldAt bs 0 1, sev := fl / 64, orig := fl / 32 % 2 == 1, tmode := fl / 16 % 2 == 1
    tq := fl / 8 % 2 == 1, msw := fieldAt bs 6 2, time := fieldAt bs 8 8, body := bs.drop 16 }

/-- LEN of a record's header (R392). -/
def recLenField (bs : Bytes) : Nat := fieldAt bs 1 1 % 4 * 256 + fieldAt bs 2 1

def recSize (r : Rec) : Nat := 16 + r.body.length

def keptBytes (ks : List Kept) : Nat := (ks.map fun k => recSize k.r).foldl (· + ·) 0

/-- Bytes of MRAM that records not yet in the ring take: batch head and records (R397, R398). -/
def mramBytes (e : EvrBlk) : Nat := (e.mram.map fun b => 32 + keptBytes (batchLeft b)).foldl (· + ·) 0

/-- Whether a batch has room in the MRAM (R398). -/
def mramRoom (e : EvrBlk) (ks : List Kept) : Bool := mramBytes e + 32 + keptBytes ks ≤ 8388608

/-- Whether calendar time is unknown, and the TIME of an instant (R401). -/
def stampOf (s : State) (t : Nat) : Bool × Nat :=
  match s.evr.base with
  | some b => (false, (b + 1000 * t).toNat % 2 ^ 63)
  | none => (true, 2 ^ 63 + 1000 * (t - s.evr.powerOnAt) % 2 ^ 63)

/-- A flush starts with every record in the buffer; a trigger during a flush is kept; a batch that the
MRAM has no room for stays in the buffer (R397, R398). -/
def startFlush (s : State) : State :=
  let e := s.evr
  if e.flushing.isSome then { s with evr := { e with again := true } }
  else if e.buffer.isEmpty || !mramRoom e e.buffer then
    { s with evr := { e with lastFlush := s.now } }
  else { s with evr := { e with flushing := some e.buffer, buffer := [], lastFlush := s.now } }

/-- Numbering and stamping of a record as it enters the buffer (R395, R401, R399). -/
def numbered (s : State) (t : Nat) (r : Rec) : Kept :=
  let st := stampOf s t
  { r := { r with num := s.evr.next, tq := st.1, time := st.2 }
    opsec := (t - s.evr.powerOnAt) / 1000000, pcc := s.pwr.pcc % 65536 }

/-- A record that the buffer has no room for is lost, WHERE 2 or 3 (R396 to R398). -/
def loseRec (s : State) : State :=
  let e := s.evr
  let full := !mramRoom e e.buffer
  { s with evr := { e with lost2 := if full then e.lost2 else e.lost2 + 1
                           lost3 := if full then e.lost3 + 1 else e.lost3
                           lossSvc := satAdd 65535 1 e.lossSvc
                           lossAt := some s.now
                           sawLoss := true } }

/-- A record enters the buffer: number, stamp, and the flush that it may trigger (R395, R397). Before
start-up has loaded the numbering, and after the shut-down mark, no record is formed. -/
def bufferRec (s : State) (t : Nat) (r : Rec) : State :=
  let e := s.evr
  if e.next = 0 ∨ e.closed then s
  else if keptBytes e.buffer + recSize r > 262144 then loseRec s
  else
    let s1 := { s with evr := { e with buffer := e.buffer ++ [numbered s t r], next := e.next + 1 } }
    if r.sev ≥ 1 ∨ keptBytes s1.evr.buffer ≥ 196608 then startFlush s1 else s1

/-- A LOSS record of `n` records lost in the service domain, where there is room for it (R396). -/
def tellOne (n whr : Nat) (s : State) : State :=
  if n = 0 ∨ keptBytes s.evr.buffer + 28 > 262144 then s
  else bufferRec s s.now
    { ty := 0x10, sev := 1, orig := true, msw := msw s
      body := be 6 s.core.counter ++ be 4 n ++ be 1 whr ++ be 1 0 }

/-- The LOSS records of the service domain, once there is room (R396). -/
def tellLoss (s : State) : State :=
  let n2 := s.evr.lost2
  let n3 := s.evr.lost3
  if keptBytes s.evr.buffer + 56 ≤ 262144 && (n2 != 0 || n3 != 0) then
    tellOne n3 3 (tellOne n2 2 { s with evr := { s.evr with lost2 := 0, lost3 := 0 } })
  else s

/-- A record that the service processor forms (R393, R394). -/
def svcRec (s : State) (ty sev : Nat) (body : Bytes) : State :=
  bufferRec (tellLoss s) s.now { ty := ty, sev := sev, orig := true, msw := msw s, body := body }

/-- A record that the lanes push into EVT_OUT; one that finds no room is counted in committed state, by the next frame
(R24, R396). -/
def pushRec (s : State) (r : Rec) : State :=
  let bs := recBytes { r with msw := msw s }
  let s1 := pushTo s 2 0 bs
  if queueRoom (touchQueue s 2).xbr 2 bs.length then s1
  else
    { s1 with evr := { s1.evr with lostDue := s1.evr.lostDue + 1
                                   lossLane := satAdd 65535 1 s1.evr.lossLane
                                   lossAt := some s1.now
                                   sawLoss := true } }

/-- A record of an event that carries FRAME: formed by the lanes while the module runs frames, by the
service processor otherwise (R393, R394). -/
def frameRec (s : State) (ty sev : Nat) (body : Bytes) : State :=
  let b := be 6 s.core.counter ++ body
  if framesRun s then pushRec s { ty := ty, sev := sev, body := b } else svcRec s ty sev b

/-! ## Fencing (R337) -/

/-- A lane changes its state; the change is recorded (R166, R393). -/
def laneTo (s : State) (l : Lane) (st : LaneSt) : State :=
  let was := (laneOf s.vot l).state
  if was = st then s
  else
    let s1 := { s with vot := setLane s.vot l fun b => { b with state := st, shadow := 0 } }
    frameRec s1 0x07 0 (be 1 l.num ++ be 1 was.code ++ be 1 st.code ++ be 1 0)

/-- The 2oo2 clock starts when exactly two lanes are VOTING (R173). -/
def duoStart (s : State) : State :=
  if framesRun s && (votingLanes s.vot).length == 2 && s.vot.duoSince.isNone then
    { s with vot := { s.vot with duoSince := some s.now } }
  else s

/-- A fault fences a VOTING or RESYNC lane at once; the entry counts towards the retry limit (R166,
R170). -/
def laneFence (s : State) (l : Lane) : State :=
  let b := laneOf s.vot l
  if b.state = .voting ∨ b.state = .resync then
    let s1 := laneTo s l .fenced
    let mark := fun c : LaneBlk => { c with why := .fault, fences := s1.now :: c.fences }
    duoStart { s1 with vot := setLane s1.vot l mark }
  else s

/-- A table without content. -/
def emptyPrt : Prt :=
  { prtid := 0, mzpid := 0, variant := 0, settle := 0, bage := 0, cwarn := 0, ccrit := 0, objects := [], routes := []
    conflicts := [], guards := [], tripSignal := [] }

/-- The table that Praline has loaded; without one that has passed its load it is fenced and has none (R146, R147). -/
def prtOf (s : State) : Prt := s.prt.getD emptyPrt

/-- Whether a guard is armed, and its count from 0 when it becomes armed (R149). -/
def armGuard (x : Inter) (d : GuardDef) (g : GuardBlk) : GuardBlk :=
  let on := !g.tripped && match d.sig with
    | none => true
    | some i => !x.permits.any fun q => q.kind == 1 && q.obj == i
  { g with armed := on, count := if on && !g.armed then 0 else g.count }

/-- Every guard armed or not by the permits that stand. -/
def armGuards (s : State) : State :=
  let ds := (s.prt.map (·.guards)).getD []
  let gs := s.prl.guards.zipIdx.map fun p => match ds[p.2]? with
    | some d => armGuard s.core d p.1
    | none => p.1
  { s with prl := { s.prl with guards := gs } }

/-- A module with a fenced Praline asks for a switchover while it is ACTIVE (R146, R359). -/
def prlSwitch (s : State) : State :=
  if s.prl.fenced && s.dpx.role = .active then { s with dpx := { s.dpx with wanted := true } } else s

/-- Praline is fenced: no permit stands (R146, R337), and so its guards are armed (R149). -/
def prlFence (s : State) : State :=
  if s.prl.fenced then s
  else prlSwitch (armGuards (updInter { s with prl := { s.prl with fenced := true } } fun x => { x with permits := [] }))

def frnOf (s : State) : Cluster → FrnBlk
  | .c0 => s.frn0
  | .c1 => s.frn1

def setFrn (s : State) (c : Cluster) (f : FrnBlk → FrnBlk) : State :=
  match c with
  | .c0 => { s with frn0 := f s.frn0 }
  | .c1 => { s with frn1 := f s.frn1 }

/-- A cluster is fenced: its downlink entries go (R240, R337). -/
def frnFence (s : State) (c : Cluster) : State :=
  if (frnOf s c).fenced then s
  else
    let s1 := setFrn s c fun f => { f with fenced := true, back := [], stopPending := true }
    if s.dpx.role = .active then { s1 with dpx := { s1.dpx with wanted := true } } else s1

/-- Fencing of a block's unit; `lane` names the lane of a VOT_ or BST_ source (R337). -/
def fenceUnit (s : State) (b : Blk) (n : Nat) (lane : Option Lane) : State :=
  match b with
  | .vot | .bst => match lane with
    | some l => laneFence s l
    | none => s
  | .prl => prlFence s
  | .frn => frnFence s (if n < 8 then .c0 else .c1)
  | .lio => { s with lio := { s.lio with vital := { s.lio.vital with fence := true } } }
  | .cmd => { s with cmd := { s.cmd with fenced := true } }
  | .xbr => { s with xbr := { s.xbr with fenced := true } }
  | _ => s

/-! ## The stop (R334) -/

/-- The grant is given up (R352): GRANTED 0, and the slot 0 frames no longer show ACTIVE. -/
def relinquish (s : State) : State :=
  { s with dpx := { s.dpx with granted := false
                               statusDue := s.dpx.statusDue || s.dpx.granted
                               relinquished := s.dpx.relinquished || s.dpx.role = .active } }

/-- What stops at once (R334): STOPPED, nothing of a frame not yet released, downlink entries removed at the next cycle
start, no local output command. -/
def stopFrames (s : State) : State :=
  { s with sys := { s.sys with stopped := true }
           work := none
           frm := { s.frm with phase := .idle, nextTick := none, voted := false }
           lio := { s.lio with vital := { s.lio.vital with stopped := true, back := none } }
           frn0 := { s.frn0 with stopPending := true, back := [] }
           frn1 := { s.frn1 with stopPending := true, back := [] } }

/-- The reaction SAFE-STOP (R334): the stop, the buffer flushed, the grant given up. -/
def safeStop (s : State) : State := if s.sys.stopped then s else relinquish (startFlush (stopFrames s))

/-! ## Raising (R326 to R333) -/

/-- The reaction of a severity; each includes those of the lower ones (R333). -/
def react (s : State) (b : Blk) (n : Nat) (sev : Sev) (lane : Option Lane) : State :=
  match sev with
  | .record => s
  | .warn => s
  | .fence => fenceUnit s b n lane
  | .safeStop => safeStop (fenceUnit s b n lane)

/-- FAULT record's payload after FRAME (R393). -/
def faultBody (b : Blk) (n unrec : Nat) : Bytes := be 1 b.num ++ be 1 n ++ be 2 (min unrec 65535)

/-- Notes the time of a source's last record and the raisings not recorded since. -/
def tellAt (s : State) (b : Blk) (n t unrec : Nat) : State :=
  let f := faultOf s.faults b
  let rest := f.told.filter (·.1 != n)
  { s with faults := setFault s.faults b { f with told := (n, t, unrec) :: rest } }

/-- The record of a raising, once within 1 s for RECORD and WARN, with the number of raisings not recorded before it (R328);
a raising whose frame does not
stand is recorded by the service processor (R394). -/
def faultRec (s : State) (b : Blk) (n : Nat) (sev : Sev) : State :=
  let was := (faultOf s.faults b).told.find? (·.1 == n)
  let untold := (was.map (·.2.2)).getD 0
  let told := if untold = 0 then s else tellAt s b n s.now 0
  match sev with
  | .safeStop => svcRec told 0x01 3 (be 6 s.core.counter ++ faultBody b n untold)
  | .fence => frameRec told 0x01 2 (faultBody b n untold)
  | _ =>
    match was with
    | some (_, t, u) =>
      if s.now < t + 1000000 then tellAt s b n t (u + 1)
      else frameRec (tellAt s b n s.now 0) 0x01 sev.code (faultBody b n u)
    | none => frameRec (tellAt s b n s.now 0) 0x01 sev.code (faultBody b n 0)

/-- A raising: a source that was not live becomes live, its FLATCH bit is set, the record is written and
the reaction of the severity in effect is taken (R326 to R333). A source already live is not raised
again. -/
def raiseAt (s : State) (b : Blk) (n : Nat) (lane : Option Lane) : State :=
  if isLive s b n then s
  else
    let f := faultOf s.faults b
    let sev := sevOf s.cfg b n
    let g := { f with live := f.live ||| srcBit n, latch := f.latch ||| srcBit n }
    let s1 := { s with faults := setFault s.faults b g }
    react (faultRec s1 b n sev) b n sev lane

def raise (s : State) (b : Blk) (n : Nat) : State := raiseAt s b n none

/-- A source is no longer live; its FLATCH bit stays (R326, R327). -/
def lower (s : State) (b : Blk) (n : Nat) : State :=
  let f := faultOf s.faults b
  { s with faults := setFault s.faults b { f with live := f.live &&& ~~~ srcBit n } }

/-- The live state of a source follows its condition (R326). -/
def setLive (s : State) (b : Blk) (n : Nat) (on : Bool) : State :=
  if on then raise s b n else lower s b n

def setLiveAt (s : State) (b : Blk) (n : Nat) (lane : Option Lane) (on : Bool) : State :=
  if on then raiseAt s b n lane else lower s b n

/-- A raising of a source over one moment: raised, and live until its block evaluates it again. -/
def pulse (s : State) (b : Blk) (n : Nat) : State := raise (lower s b n) b n

/-! ## Keys in plain form (R416) -/

def plainKey? (s : State) (ktype index slot : Nat) : Option Key :=
  (s.sec.plain.find? fun k => k.ktype == ktype && k.index == index && k.slot == slot).map (·.key)

def hasKey (s : State) (ktype index slot : Nat) : Bool := (plainKey? s ktype index slot).isSome

/-- Lanes that hold their lane key in a slot (R421). -/
def keyedLanes (s : State) (slot : Nat) : Nat :=
  (Lane.all.filter fun l => hasKey s 1 l.num slot).length

/-- The next free value (log entry 7). -/
def takeFree (s : State) : BitVec 32 × State :=
  (Config.freeWord s.free, { s with free := s.free + 1 })

/-! ## The boards' identity -/

/-- A role in which the lanes are powered and run no frames (R199, R365). -/
def idleRole (s : State) : Bool := s.dpx.role = .standby || s.dpx.role = .witness

def activeBank (p : BankPair) : Bank := if p.onB then p.b else p.a

/-- The banks of a lane's firmware (R364). -/
def lfwPair (u : UpdBlk) : Lane → BankPair
  | .l1 => u.lfw1
  | .l2 => u.lfw2
  | .l3 => u.lfw3

/-- Header of the lane firmware that runs, that of the lowest-numbered lane that has booted; none before (R321). -/
def runningHeader? (s : State) : Option Bytes :=
  (Lane.all.find? fun l => (laneOf s.vot l).booted != 0).map fun l => (activeBank (lfwPair s.upd l)).header

/-- EPOCH of the running lane firmware, 0 until it runs (R4, R321). -/
def runningEpoch (s : State) : Nat := ((runningHeader? s).map fun h => fieldAt h 7 1).getD 0
def otherBank (p : BankPair) : Bank := if p.onB then p.a else p.b

/-- An entry of the partner table in effect (R271). -/
def tableEntry (s : State) (n : Nat) : Partner := (s.cmd.partners[n]?).getD {}

/-- The partner that an entry number names (R271): that of the table, and where the table has none, the sender on
X13 that R387, R409 and R410 let in without an entry. -/
def partnerAt (s : State) (n : Nat) : Partner :=
  if (tableEntry s n).addr ≠ 0xFFFF then tableEntry s n
  else match s.sec.guest with
    | some (k, q) => if k = n then q else {}
    | none => {}

/-- Own address: pair and KIND (R42, R270). -/
def ownAddr (c : Cfg) : Nat := ownPair c * 2048 + ownKind c * 256

end Sys2Proof.Machine
end

