-- ==== Sys2Proof/Machine/Registers.lean ====
section
/-! DEFINITION. The register map (R298): what a read of each listed address returns, and what a write does
(R12 to R14, R299, R327). Registers that show the state of a block are views of it. -/

namespace Sys2Proof.Machine

open Sys2Proof

def w32 (n : Nat) : Word := BitVec.ofNat 32 n

/-- Two's complement of a signed value in a field of `n` bits. -/
def signedField (n : Nat) (v : Int) : Nat := (v % (2 ^ n : Int)).toNat

/-- Bits of a list of truths, the first at bit 0. -/
def bitsOf (bs : List Bool) : Nat :=
  (bs.zipIdx.map fun p => if p.1 then 2 ^ p.2 else 0).foldl (· + ·) 0

/-! ## Views by block: an offset within the block to its word -/

/-- SYS_ (R321, R425). -/
def sysView (s : State) (o : Nat) : Option Word :=
  let ver := fun (p : BankPair) => w32 (fieldAt (activeBank p).header 20 4)
  let lane := fun (l : Lane) (p : BankPair) =>
    if (laneOf s.vot l).booted != 0 then ver p else 0
  match o with
  | 0x00 => some 0x4E524800
  | 0x04 => some (mkWord [(24, s.sys.variant), (16, s.sys.issue), (8, runningEpoch s)])
  | 0x08 => some (w32 s.sys.serial)
  | 0x0C => some (w32 (s.sys.serial / 2 ^ 32))
  | 0x10 => some (w32 ((s.mzp.map (·.mzpid)).getD 0))
  | 0x14 => some (lane .l1 s.upd.lfw1)
  | 0x18 => some (lane .l2 s.upd.lfw2)
  | 0x1C => some (lane .l3 s.upd.lfw3)
  | 0x20 => some (ver s.upd.svc)
  | 0x40 => some (mkWord [(9, bit s.sys.s1mask), (8, bit s.sys.s1down), (4, s.sys.cause),
      (0, s.sys.step)])
  | 0x44 => some (w32 s.pwr.pcc)
  | 0x48 => some (mkWord [(0, signedField 16 s.sys.temp)])
  | _ => none

/-- PHASE (R70): by the completion of each phase, as far as it is known. DEDUCED (log entry 114): PROVE ends with the first
publication, since VOTE includes a wait from the end of PROVE to the vote instant (R47). -/
def phaseNow (s : State) : Phase :=
  let f := s.frm
  match f.phase with
  | .prove =>
    if s.now < f.inEnd then .input else if s.now < f.evalEnd then .evaluate
    else if (votingLanes s.vot).any fun l => (laneOf s.vot l).pub.isSome then .vote else .prove
  | .emit =>
    if s.now < f.emitEnd then .emit else if s.now < f.commitEnd then .commit
    else if s.now < f.drainEnd then .drain else .idle
  | p => p

/-- FRM_ (R70). -/
def frmView (s : State) (o : Nat) : Option Word :=
  let f := s.frm
  let cnt := if f.started then s.core.counter else 0
  match o with
  | 0x08 => some (mkWord [(16, min f.late 0xFFFF), (8, min f.run 7), (0, (phaseNow s).code)])
  | 0x10 => some (w32 cnt)
  | 0x14 => some (w32 (cnt / 2 ^ 32))
  | 0x18 => some (if f.fcValid then mkWord [(16, f.cycLo), (14, 1), (0, f.mt)] else 0)
  | 0x3C => some 0
  | 0x40 => some (w32 ((s.mzp.map (·.wcetUs)).getD 0))
  | _ =>
    if 0x20 ≤ o ∧ o ≤ 0x38 ∧ o % 4 = 0 then
      let n := (o - 0x20) / 4
      some (mkWord [(31, bit ((f.overBudget[n]?).getD false)),
        (0, min ((f.peak[n]?).getD 0) 0xFFFFF)])
    else none

/-- VOT_ (R183). -/
def votView (s : State) (o : Nat) : Option Word :=
  let v := s.vot
  let minutes := match v.duoSince with
    | some t => (s.now - t) / 60000000
    | none => 0
  match o with
  | 0x04 => some (mkWord [(31, bit (debugFlag s)), (30, bit v.noMaj), (12, v.inj), (8, voteMode s),
      (4, v.signB), (0, v.signA)])
  | 0x08 => some (mkWord [(20, v.lane3.shadow), (16, v.lane3.state.code), (12, v.lane2.shadow),
      (8, v.lane2.state.code), (4, v.lane1.shadow), (0, v.lane1.state.code)])
  | 0x0C => some (mkWord [(26, bit (isLive s .vot vDUO_LIMIT)), (25, bit v.duoSince.isSome),
      (24, bit v.extUsed), (16, v.extH), (0, min minutes 0xFFFF)])
  | 0x10 => some (mkWord [(4, v.oddBits), (0, v.oddLane)])
  | 0x14 => some (w32 v.oddFrame)
  | 0x18 => some (mkWord [(16, v.lane3.odd), (8, v.lane2.odd), (0, v.lane1.odd)])
  | 0x1C => some 0
  | 0x20 => some (mkWord [(16, bitsOf [v.lane1.latent, v.lane2.latent, v.lane3.latent]),
      (0, min v.passes 0xFFFF)])
  | 0x24 => some (mkWord [(0, v.scrAdr)])
  | 0x28 => some (v.sig.setWidth 32)
  | 0x2C => some ((v.sig >>> 32).setWidth 32)
  | 0x30 => some (v.hash.setWidth 32)
  | 0x34 => some ((v.hash >>> 32).setWidth 32)
  | 0x38 => some (mkWord [(31, bit (v.inj ≥ 2)), (18, v.injLate), (0, v.injPass)])
  | _ => none

/-- PRL_ (R153). -/
def prlView (s : State) (o : Nat) : Option Word :=
  let p := s.prl
  let guards := ((s.prt.map (·.guards)).getD [])
  match o with
  | 0x04 => some (mkWord [(16, min (p.duoUs / 3600000000) 255), (11, bit (hasKey s 2 0 1)),
      (10, bit (hasKey s 2 0 0)), (9, bit p.table), (8, bit p.fenced), (4, p.iz.state.code),
      (2, p.iy.state.code), (0, p.ix.state.code)])
  | 0x08 => some (w32 ((s.prt.map (·.prtid)).getD 0))
  | 0x0C => some (mkWord [(16, s.core.permits.length), (12, p.press.code), (0, p.free)])
  | 0x10 => some (mkWord [(16, p.ppeak), (0, p.cpeak)])
  | 0x14 => some (w32 s.core.claimShort)
  | 0x18 => some (w32 s.core.claimConf)
  | 0x1C => some (mkWord [(16, p.denyCount), (12, p.denyReason), (0, p.denyObj)])
  | 0x20 => some (mkWord [(16, p.revCount), (12, p.revReason), (0, p.revObj)])
  | 0x24 => some 0
  | 0x28 => some p.digest
  | 0x40 => some (mkWord [(16, bitsOf (p.guards.map (·.tripped))), (0, bitsOf (p.guards.map (·.armed)))])
  | _ =>
    if 0x80 ≤ o ∧ o ≤ 0xBC ∧ o % 4 = 0 then
      let n := (o - 0x80) / 4
      some (mkWord [(24, ((guards[n]?).map (·.thr)).getD 0),
        (0, min (((p.guards[n]?).map (·.count)).getD 0) 0xFFFF)])
    else if 0x1000 ≤ o ∧ o ≤ 0x2FFF ∧ o % 4 = 0 then
      let e := crumbEntry p.store ((o - 0x1000) / 8)
      some (if o % 8 = 0 then w32 e else w32 (e / 2 ^ 32))
    else none

/-- Commandable elements of a node: its point, signal, level-crossing and boundary elements (R217). -/
def commandable (d : ObjDesc) : Bool := !(d.ty = .track)

/-- The objects on a node, in ascending element (R72, R217). -/
def nodeObjs (st : Station) (c : Cluster) (n : Nat) : List (Nat × ObjDesc) :=
  sortBy (·.1) (st.objects.filterMap fun d => match d.loc with
    | .field c' n' e => if c' = c ∧ n' = n then some (e, d) else none
    | _ => none)

/-- Bytes of a node's entry, 0 where it has none (R217). -/
def entryBytes (st : Station) (d : NodeDef) : Nat :=
  let os := nodeObjs st d.cluster d.node
  let k := (os.filter fun o => commandable o.2).length
  if k = 0 ∧ !(os.any fun o => o.2.restorable) then 0 else 1 + (d.nel + 1) / 2 + 8 * k

/-- δ in units of 16 ns, 1 to 3,750; 0 unranged (R239). -/
def dlyField (d : Option Nat) : Nat :=
  match d with
  | some m => min 3750 (max 1 (m / 2))
  | none => 0

/-- FRN_ of one cluster (R239). -/
def frnView (s : State) (c : Cluster) (o : Nat) : Option Word :=
  let f := frnOf s c
  match o with
  | 0x04 =>
    let conf := f.nodes.length
    let adm := (f.nodes.filter (·.state = .admitted)).length
    some (mkWord [(24, f.nsync), (16, adm), (8, conf), (0, f.state.code)])
  | 0x08 => some (w32 f.cycle)
  | 0x0C => some (mkWord [(24, signedField 8 f.offs), (16, signedField 8 f.rate), (0, min f.prec 0xFFFF)])
  | 0x10 => some (match s.mzp with
    | some st => mkWord [(16, 3362),
        (0, ((st.nodes.filter (·.cluster = c)).map (entryBytes st)).foldl (· + ·) 0)]
    | none => 0)
  | 0x14 => some (mkWord [(16, f.errB), (0, f.errA)])
  | 0x18 => some 0
  | _ =>
    if 0x400 ≤ o ∧ o ≤ 0x7FC ∧ o % 4 = 0 then
      let n := (o - 0x400) / 4
      match f.nodes.find? (·.node == n) with
      | none => some 0
      | some b =>
        let sync := ((s.mzp.bind fun st => stNode? st c n).map (·.sync)).getD false
        some (mkWord [(29, b.state.code), (28, bit sync), (27, bit b.va), (26, bit b.vb),
          (12, dlyField b.dlyB), (0, dlyField b.dlyA)])
    else none

def inModeCode : InMode → Nat
  | .single => 0
  | .equivalent => 1
  | .antivalent => 2
  | .paired => 3
  | .countSingle => 4

/-- LIO_ (R267): the vital side's frozen upstream frame and counters. -/
def lioView (s : State) (o : Nat) : Option Word :=
  let v := s.lio.vital
  let u := v.frozen
  match o with
  | 0x04 => some (mkWord [(24, if s.sys.variant == 0x10 then 1 else 2), (8, bitsOf u.grp),
      (4, u.hold.code), (3, bit u.fdis), (2, bit u.suplatch), (1, bit v.fence),
      (0, bit (v.linkUp && !v.barrierLost))])
  | 0x08 => some (mkWord [(16, v.x2min.getD 0), (0, u.x2)])
  | 0x0C => some (w32 (bitsOf u.image))
  | 0x10 => some (w32 (bitsOf u.iflt))
  | 0x14 => some (mkWord [(12, bit u.tbf), (8, bitsOf u.obf), (0, bitsOf u.ibf)])
  | 0x18 => some (mkWord [(16, bitsOf u.orb), (0, bitsOf u.oapp)])
  | 0x1C => some (mkWord (u.ocode.zipIdx.map fun p => (2 * p.2, p.1)))
  | 0x20 => some (mkWord (u.trip.zipIdx.map fun p =>
      (4 * p.2, bitsOf [p.1.1, p.1.2.1, p.1.2.2.1, p.1.2.2.2])))
  | 0x24 => some (mkWord (u.degLeft.zipIdx.map fun p => (8 * p.2, p.1)))
  | 0x28 => some (mkWord [(16, v.crcErr), (0, v.lost)])
  | 0x2C => some 0
  | 0x50 => some (mkWord (v.seqErr.zipIdx.map fun p => (8 * p.2, p.1)))
  | _ =>
    if 0x40 ≤ o ∧ o ≤ 0x4C ∧ o % 4 = 0 then
      let p := (o - 0x40) / 4
      some (mkWord [(16, (u.cnt1[p]?).getD 0), (0, (u.cnt0[p]?).getD 0)])
    else if 0x80 ≤ o ∧ o ≤ 0xFC ∧ o % 4 = 0 then
      match s.mzp.bind fun st => st.inputs[(o - 0x80) / 4]? with
      | some i => some (mkWord [(24, i.filt), (21, inModeCode i.mode),
          (0, if i.mode = .equivalent ∨ i.mode = .antivalent then i.disc else 0)])
      | none => some 0
    else none

/-- The configuration that a COMMIT would apply (R314). -/
def stagedCfg (s : State) : Cfg :=
  s.staged.foldl (fun c p => cfgSet c p.1 p.2) s.cfg

/-- Staged value of a register, or the value in effect (R299). -/
def stagedOf (s : State) (r : StReg) : Word := cfgGet (stagedCfg s) r

/-- Registers that hold at least one staged field (R313). -/
def stagedRegs (s : State) : List StReg := StReg.all.filter fun r => stagedOf s r != cfgGet s.cfg r

/-- Fill of a queue in percent of its capacity (R319). -/
def queueFill (x : XbrBlk) (q : Nat) : Nat :=
  match q with
  | 0 => x.q0.items.length * 100 / 64
  | 1 => x.q1.items.length * 100 / 256
  | 2 => queueBytes x.q2 * 100 / 131072
  | _ => queueBytes (queueOf x q) * 100 / 16384

/-- XBR_ (R319). -/
def xbrView (s : State) (o : Nat) : Option Word :=
  let x := s.xbr
  match o with
  | 0x00 => some (mkWord [(31, bit x.fenced), (16, bit x.cpend), (8, min (stagedRegs s).length 255),
      (0, x.cgen % 256)])
  | 0x04 => some (w32 x.errCnt)
  | 0x08 => some (w32 x.errAdr)
  | 0x0C => some (mkWord [(8, bit x.errWr), (0, x.errCause)])
  | 0x10 => some (w32 x.retry)
  | 0x14 => some (mkWord [(8, x.cfc % 2 ^ 24), (0, x.cresult)])
  | 0x18 => some (w32 x.cadr)
  | 0x1C => some 0
  | 0x60 => some 0
  | 0x64 => some 0
  | 0x68 => some 0
  | 0x6C => some (mkWord [(31, bit x.woutValid), (30, bit x.woutBuf), (0, x.woutLen)])
  | 0x70 => some (mkWord [(31, bit x.winFree)])
  | _ =>
    if 0x20 ≤ o ∧ o ≤ 0x3C ∧ o % 4 = 0 then
      (x.sems[(o - 0x20) / 4]?).map fun m => mkWord [(31, bit m.req), (0, if m.req then m.owner else 0)]
    else if 0x40 ≤ o ∧ o ≤ 0x54 ∧ o % 4 = 0 then
      let q := (o - 0x40) / 4
      some (mkWord [(16, (queueOf x q).items.length), (8, queueFill x q), (0, (queueOf x q).loss)])
    else none

/-- Readiness of a STANDBY module but for the age of its wafer (R343). -/
def standbyFit (s : State) : Bool :=
  let good := Lane.all.filter fun l => !(laneOf s.vot l).hwFault && !(testOf s.bst l).hold
  let ports := [Cluster.c0, Cluster.c1].all fun c =>
    (frnOf s c).state = .off || (frnOf s c).state = .follow
  s.dpx.role = .standby && 2 ≤ good.length && !anySafeStopLive s && !s.sys.stopped
    && s.dpx.held.isSome && ports && !s.dpx.why2 && !s.upd.mapWait

/-- Readiness of a STANDBY module (R343). -/
def standbyReady (s : State) : Bool := standbyFit s && s.now ≤ s.dpx.heldAt + 3 * expectedUs s.cfg

/-- The bound of R356 in ms, rounded up, times in units of 10 µs. -/
def gapMs (c : Cfg) : Nat :=
  let T := periodUs c
  let e := ovrExt c
  let a := 325 * T + 4 * e * T + 700000
  let b := 125 * T + 2 * e * T + 100 * leaseUs c + 2500000
  (max a b + 2400000 + 75 * T + 99999) / 100000

/-- DPX_ (R362). -/
def dpxView (s : State) (o : Nat) : Option Word :=
  let d := s.dpx
  match o with
  | 0x04 => some (mkWord [(16, if d.role = .witness then d.holder else 0), (8, min d.miss 255),
      (6, bit (d.witAt.isSome && !isLive s .dpx dWITNESS_DOWN)),
      (5, bit (d.peerAt.isSome && !isLive s .dpx dPEER_DOWN)), (4, bit d.peerReady),
      (3, bit (standbyReady s)), (2, bit d.granted), (0, d.role.code)])
  | 0x08 => some (w32 d.wframe)
  | 0x0C => some (mkWord [(0, d.wframe / 2 ^ 32 % 2 ^ 16)])
  | 0x10 => some (mkWord [(0, d.wsize)])
  | 0x14 => some (w32 d.gepoch)
  | 0x18 =>
    if d.role = .alone ∨ d.role = .witness ∨ dpxMode s.cfg ≠ 1 then some 0
    else some (mkWord [(16, bit (toffeeUs s.cfg ≥ 1000 * gapMs s.cfg + 2100)), (0, gapMs s.cfg)])
  | 0x1C => some (mkWord [(16, d.planned), (0, d.taken)])
  | 0x20 => some 0
  | _ => none

def updPair (u : UpdBlk) : Nat → BankPair
  | 0 => u.lfw1
  | 1 => u.lfw2
  | 2 => u.lfw3
  | 3 => u.prt
  | 4 => u.mzp
  | 5 => u.svc
  | _ => u.ocf

def hdrImgId (h : Bytes) : Nat := fieldAt h 12 4

def bankImgId (b : Bank) : Nat := if b.state = .empty then 0 else hdrImgId b.header

/-- Blocks of a delivery stream (R371). -/
def nblkOf (header : Bytes) : Nat := (fieldAt header 28 4 + 4095) / 4096

/-- The pending, or last completed, exchange frame. -/
def exchangeFrame (u : UpdBlk) : Nat := (u.exchange.map (·.frame)).getD u.xframe

/-- UPD_ (R390). -/
def updView (s : State) (o : Nat) : Option Word :=
  let u := s.upd
  match o with
  | 0x04 => some (mkWord [(16, u.setfmt), (12, (u.unconf.map (·.part.code)).getD 0), (8, u.xst),
      (4, bit u.fbk), (3, bit u.recov), (2, bit u.mapWait), (1, bit u.exchange.isSome)])
  | 0x08 => some (w32 ((u.xfer.map (·.id)).getD 0))
  | 0x0C => some (match u.xfer with
    | some t => mkWord [(16, nblkOf t.header), (0, t.have_.length)]
    | none => 0)
  | 0x10 => some (w32 (exchangeFrame u))
  | 0x14 => some (mkWord [(0, exchangeFrame u / 2 ^ 32 % 2 ^ 16)])
  | 0x18 => some (match u.unconf with
    | some c =>
      let win := 60000000 * fieldOf s.cfg.updCtl 16 8
      let hl := 60000000 * fieldOf s.cfg.updCtl 8 8
      mkWord [(16, (c.since + win - s.now + 59999999) / 60000000),
        (0, if c.healthy then 0 else min 3600 ((c.healthyFrom + hl - s.now + 999999) / 1000000))]
    | none => 0)
  | _ =>
    if 0x40 ≤ o ∧ o ≤ 0x58 ∧ o % 4 = 0 then
      let p := updPair u ((o - 0x40) / 4)
      some (mkWord [(31, bit p.onB), (28, p.a.state.code), (25, p.b.state.code),
        (8, if (activeBank p).state = .empty then 0 else fieldAt (activeBank p).header 7 1)])
    else if 0x80 ≤ o ∧ o ≤ 0xB4 ∧ o % 4 = 0 then
      let p := updPair u ((o - 0x80) / 8)
      some (w32 (bankImgId (if o % 8 = 0 then p.a else p.b)))
    else none

/-- Records of the MRAM's committed batches that are not yet in the ring, in order (R398). -/
def mramKept (e : EvrBlk) : List Kept := (e.mram.filter (·.committed)).flatMap batchLeft

/-- The records retained: ring, MRAM, batch being flushed, buffer, in order (R404). -/
def allKept (e : EvrBlk) : List Kept :=
  e.ring.flatMap (·.recs) ++ mramKept e ++ (e.flushing.getD []) ++ e.buffer

def oldestRec (e : EvrBlk) : Nat := ((allKept e).head?.map fun k => k.r.num).getD 0

/-- Age of a record in hours: between calendar stamps, otherwise by the seconds since power-on. DESIGN CHOICE (log entry
129): a record of an earlier power cycle, with no calendar time on both sides, is as old as this power cycle. -/
def recordAge (s : State) (k : Kept) : Nat :=
  let (tq, t) := stampOf s s.now
  let up := (s.now - s.evr.powerOnAt) / 1000000
  if !tq && !k.r.tq then (t - k.r.time) / 3600000000000
  else if k.pcc = s.pwr.pcc % 65536 then (up - k.opsec) / 3600
  else up / 3600

/-- EVR_ (R406). -/
def evrView (s : State) (o : Nat) : Option Word :=
  let e := s.evr
  match o with
  | 0x04 => some (mkWord [(30, e.tsrc.code), (29, bit e.lock), (28, bit e.clean),
      (8, mramBytes e * 100 / 8388608), (0, keptBytes e.buffer * 100 / 262144)])
  | 0x08 => some (w32 e.next)
  | 0x0C => some (w32 (e.next / 2 ^ 32))
  | 0x10 => some (w32 (oldestRec e))
  | 0x14 => some (w32 (oldestRec e / 2 ^ 32))
  | 0x18 =>
    some (mkWord [(0, min (((allKept e).head?.map (recordAge s)).getD 0) 0xFFFF)])
  | 0x1C => some (mkWord [(16, e.lossSvc), (0, e.lossLane)])
  | 0x20 => some (if e.lock then mkWord [(0, signedField 32 e.offset)] else 0)
  | 0x24 => some 0
  | _ => none

def lastWord (t : LastTest) : Word :=
  mkWord [(30, t.result), (29, bit t.again), (24, t.block), (20, t.step), (16, t.unit),
    (0, min t.dur 0xFFFF)]

/-- BST_ (R203). A test that has started is due no longer. -/
def bstView (s : State) (o : Nat) : Option Word :=
  let b := s.bst
  let at_ := testStep b s.now
  let next := fun (t : LaneTest) => match t.due with
    | some d =>
      if d ≤ s.now then mkWord [(31, 1)] else mkWord [(0, min ((d - s.now + 59999999) / 60000000) 0xFFFF)]
    | none => 0
  match o with
  | 0x04 => some (mkWord [(20, b.post), (16, bitsOf [b.t1.hold, b.t2.hold, b.t3.hold]), (8, at_.2),
      (4, at_.1), (3, bit b.again), (0, (b.under.map Lane.num).getD 0)])
  | 0x10 => some (next b.t1)
  | 0x14 => some (next b.t2)
  | 0x18 => some (next b.t3)
  | 0x20 => some (lastWord b.t1.last)
  | 0x24 => some (lastWord b.t2.last)
  | 0x28 => some (lastWord b.t3.last)
  | 0x30 => some (mkWord [(24, b.fail), (16, b.pass3), (8, b.pass2), (0, b.pass1)])
  | 0x34 => some 0
  | 0x38 => some (b.sigF.setWidth 32)
  | 0x3C => some ((b.sigF >>> 32).setWidth 32)
  | _ => none

/-- PWR_ (R425). -/
def pwrView (s : State) (o : Nat) : Option Word :=
  let p := s.pwr
  match o with
  | 0x00 => some (mkWord [(16, p.cell), (8, p.hucnt), (0, bit (p.power = .holdup))])
  | 0x04 => some (mkWord [(16, p.x1min), (0, p.x1)])
  | 0x08 => some 0
  | _ => none

/-- Seconds left of the lockout of the last failing partner (R425). -/
def lockLeft (s : State) : Nat :=
  match s.sec.lastFail with
  | none => 0
  | some e => match s.sec.locked.find? (·.1 == e) with
    | some (_, t) => (t + 600000000 - s.now + 999999) / 1000000
    | none => 0

/-- SEC_ (R425). -/
def secView (s : State) (o : Nat) : Option Word :=
  let c := s.sec
  match o with
  | 0x04 => some (mkWord [(9, bit c.keyless), (8, bit c.session.isSome),
      (6, (c.dlane.map Lane.num).getD 0), (4, c.dbg.code), (0, c.life.code)])
  | 0x08 =>
    let border := ((List.range 32).filter fun i => hasKey s 3 i (permitKsel s.cfg)).length
    let own := fun (l : Lane) (slot : Nat) => hasKey s 1 l.num slot && !zeroised s.bst l s.now
    some (mkWord [(24, border), (12, bit (hasKey s 4 0 0)),
      (10, bitsOf [hasKey s 2 0 0, hasKey s 2 0 1]),
      (4, bitsOf (Lane.all.map fun l => own l 1)),
      (0, bitsOf (Lane.all.map fun l => own l 0))])
  | 0x0C => some (mkWord [(16, min (lockLeft s) 0xFFFF), (0, min c.failCount 0xFFFF)])
  | _ => none

/-- CMD_ (R295). -/
def cmdView (s : State) (o : Nat) : Option Word :=
  let c := s.cmd
  match o with
  | 0x08 => some (mkWord [(16, min s.xbr.q0.items.length 64),
      (8, (c.partners.filter fun p => p.addr != 0xFFFF).length), (0, bit s.sec.session.isSome)])
  | 0x10 => some (w32 c.rxok)
  | 0x14 => some (mkWord [(16, c.crcErr), (0, c.otherErr)])
  | 0x18 => some (mkWord [(16, c.stale), (0, c.safety)])
  | 0x1C => some (mkWord [(16, c.dup), (0, c.full)])
  | 0x20 => some 0
  | _ =>
    if 0x100 ≤ o ∧ o ≤ 0x17C ∧ o % 4 = 0 then
      let n := (o - 0x100) / 4
      let p := partnerAt s n
      some (mkWord [(16, p.addr), (13, if p.conn ≥ 10 then p.conn - 8 else 0), (12, bit (hasKey s 5 n 1)),
        (11, bit (hasKey s 5 n 0)), (10, bit (c.silent.contains n)), (0, p.classes)])
    else none

/-- A block's fault sub-block (R322). -/
def faultView (s : State) (b : Blk) (o : Nat) : Option Word :=
  let f := faultOf s.faults b
  match o with
  | 0xF000 => some (f.live.setWidth 32)
  | 0xF004 => some (f.latch.setWidth 32)
  | 0xF00C => some f.ien
  | _ => none

/-- The block at an address. -/
def blkAt? (a : Nat) : Option Blk := Blk.all[a / 0x10000]?

/-- What a read of an address of the register space returns; none where nothing is listed (R298). -/
def regView (s : State) (a : Nat) : Option Word :=
  match stRegAt? a, blkAt? a with
  | some r, _ => some (cfgGet s.cfg r)
  | none, none => none
  | none, some b =>
    let o := a % 0x10000
    if o ≥ 0xF000 then faultView s b o
    else match b with
      | .sys => sysView s o
      | .frm => frmView s o
      | .vot => votView s o
      | .prl => prlView s o
      | .frn => if o ≥ 0x8000 then frnView s .c1 (o - 0x8000) else frnView s .c0 o
      | .lio => lioView s o
      | .xbr => xbrView s o
      | .dpx => dpxView s o
      | .upd => updView s o
      | .evr => evrView s o
      | .bst => bstView s o
      | .pwr => pwrView s o
      | .sec => secView s o
      | .cmd => cmdView s o

/-- Staging space: the ST fields of the staged value, 0 elsewhere (R299). -/
def stagingView (s : State) (a : Nat) : Option Word :=
  (stRegAt? a).map fun r => stagedOf s r &&& r.mask

/-- The lane trace buffers and instance registers of the debug observation space (R411): the spec names
their addresses and not their content, so a word is a free value. -/
def debugWord (s : State) (_a : Nat) : Word := Config.freeWord s.free

/-- A service read of one word: the word, or the cause of its error (R297, R299, R301). -/
def readAt (s : State) (a : Nat) : Except Nat Word :=
  if s.xbr.fenced then .error 8
  else if a % 4 ≠ 0 then .error 2
  else if a < 0x000E0000 then
    match regView s a with
    | some w => .ok w
    | none => .error 1
  else if a < 0x000F0000 then
    if s.sec.dbg = .d0 then .error 1 else .ok (debugWord s a)
  else if 0x01000000 ≤ a ∧ a < 0x010E0000 then
    match stagingView s (a - 0x01000000) with
    | some w => .ok w
    | none => .error 1
  else .error 1

/-- An error completion: counted, and its address and cause kept (R301). -/
def accessError (s : State) (a cause : Nat) (wr : Bool) : State :=
  { s with xbr := { s.xbr with errCnt := (s.xbr.errCnt + 1) % 2 ^ 32, errAdr := a, errWr := wr
                               errCause := cause, sawErr := true } }

/-! ## Writes under the access codes (R12 to R14) -/

/-- What the writer of a word is: the address a record names (R328). -/
structure Writer where
  addr : Nat := 0
  deriving DecidableEq, Repr

/-- CONFIG record of an LK write attempt in SEALED (R12, R393). -/
def lkRecord (s : State) (a : Nat) : State := frameRec s 0x08 0 (be 1 2 ++ be 1 0 ++ be 4 a)

/-- A write of ST fields: into the staging copy; in SEALED an LK field keeps its staged value and the attempt is recorded,
whatever value it names, since a word always writes every field of its register (R12, R299). -/
def writeSt (s : State) (r : StReg) (w : Word) : State :=
  let locked := s.sec.life = .sealed
  let old := stagedOf s r
  let reach := if locked then r.unlocked else r.mask
  let new := (old &&& ~~~ reach) ||| (w &&& reach)
  let s1 := { s with staged := (s.staged.filter fun p => p.1 ≠ r) ++ [(r, new)] }
  let tried := locked && (r.mask &&& ~~~ r.unlocked) != 0
  if tried then lkRecord s1 r.addr else s1

/-- One FLATCH bit: a write of 1 clears it only if its source is not live; a clearing writes a record
that names who cleared it (R327, R328). -/
def clearLatchBit (b : Blk) (wr : Writer) (w : Word) (s : State) (n : Nat) : State :=
  if w.getLsbD n && isLatched s b n && !isLive s b n then
    let f := faultOf s.faults b
    let s1 := { s with faults := setFault s.faults b { f with latch := f.latch &&& ~~~ srcBit n } }
    frameRec s1 0x02 0 (be 1 b.num ++ be 1 n ++ be 2 wr.addr)
  else s

/-- A write to FLATCH (R327); the lifecycle must permit it (R284). -/
def writeLatch (s : State) (b : Blk) (wr : Writer) (w : Word) : State :=
  (List.range (sourceCount b)).foldl (clearLatchBit b wr w) s

/-- A write to FIEN: the bits of the block's sources (R322). -/
def writeIen (s : State) (b : Blk) (w : Word) : State :=
  let f := faultOf s.faults b
  let g := { f with ien := w &&& BitVec.ofNat 32 (2 ^ sourceCount b - 1) }
  { s with faults := setFault s.faults b g }

/-- The CLR and PHCLR registers: the clear is made at the next drain (R70, R153, R183, R203, R239,
R267, R295, R319, R362, R406, R425). -/
def writeClr (s : State) (a : Nat) (w : Word) : Option State :=
  let on := w.getLsbD 0
  match a with
  | 0x1003C => some { s with frm := { s.frm with clrPeak := s.frm.clrPeak || on } }
  | 0x2001C => some { s with vot := { s.vot with clr := s.vot.clr || on } }
  | 0x30024 => some { s with prl := { s.prl with clr := s.prl.clr || on } }
  | 0x40018 => some { s with frn0 := { s.frn0 with clr := s.frn0.clr || on } }
  | 0x48018 => some { s with frn1 := { s.frn1 with clr := s.frn1.clr || on } }
  | 0x5002C => some { s with lio := { s.lio with vital := { s.lio.vital with clr := s.lio.vital.clr || on } } }
  | 0x6001C => some { s with xbr := { s.xbr with clr := s.xbr.clr || on } }
  | 0x70020 => some { s with dpx := { s.dpx with clr := s.dpx.clr || on } }
  | 0x90024 => some { s with evr := { s.evr with clr := s.evr.clr || on } }
  | 0xA0034 => some { s with bst := { s.bst with clr := s.bst.clr || on } }
  | 0xB0008 => some { s with pwr := { s.pwr with clr := s.pwr.clr || on } }
  | 0xD0020 => some { s with cmd := { s.cmd with clr := s.cmd.clr || on } }
  | _ => none

/-! ## The bridge's own registers (R303, R308 to R310) -/

/-- Acquire or release of semaphore `n` by a written word (R303). -/
def writeSem (s : State) (n : Nat) (w : Word) : State :=
  let owner := fieldOf w 0 8
  match s.xbr.sems[n]? with
  | none => s
  | some m =>
    if owner = 0 then s
    else if w.getLsbD 31 then
      if m.req then s
      else
        let held : Sem := { req := true, owner := owner, takenAt := s.now }
        { s with xbr := { s.xbr with sems := s.xbr.sems.set n held } }
    else if m.req ∧ m.owner = owner then
      { s with xbr := { s.xbr with sems := s.xbr.sems.set n {} } }
    else s

/-- An acknowledge of the head item; any other ISEQ is refused with cause 9 (R308). -/
def ackQueue (s : State) (q iseq : Nat) : State :=
  let s1 := if q ≤ 5 then touchQueue s q else s
  match (queueOf s1.xbr q).items with
  | i :: _ =>
    if q ≤ 5 ∧ i.iseq = iseq then { s1 with xbr := setQueue s1.xbr q consumeHead }
    else accessError s1 0x60060 9 true
  | [] => accessError s1 0x60060 9 true

/-- Bits of FLUSH: each queue named is flushed, and its pending requests leave the pending set (R310). -/
def flushQueues (s : State) (mask : Nat) : State :=
  (List.range 6).foldl (fun (s : State) q =>
    if mask / 2 ^ q % 2 = 1 then
      let t := touchQueue s q
      dropPending q { t with xbr := flushQueue t.xbr q }
    else s) s

/-- A CMD_IN push by a master that holds semaphore 0 (R309); a push refused for lack of room counts in
`CMD_QDROP`.FULL and raises QUEUE_FULL at the drain. -/
def servicePush (s : State) (master conn : Nat) (data : Bytes) : State :=
  let holds := match s.xbr.sems[0]? with
    | some m => m.req && m.owner == master
    | none => false
  let n := data.length
  let okLen := if conn = 9 then 24 ≤ n ∧ n ≤ 28 else 28 ≤ n ∧ n ≤ 8220
  let s := touchQueue { s with xbr := { s.xbr with port := [], portCut := false } } 0
  if !holds || !okLen then accessError s 0x60064 9 true
  else if !queueRoom s.xbr 0 n then
    raise (accessError { s with cmd := { s.cmd with full := satAdd 65535 1 s.cmd.full, sawFull := true } }
      0x60064 9 true) .cmd cQUEUE_FULL
  else { s with xbr := pushQueue s.xbr 0 conn data }

/-- A write of one word at a live address as the lanes make it for REG_WRITE, and the service processor
for XBR_ (R12, R291, R297): staged, cleared, enabled, or ignored where the register is read only. None
where nothing is listed. -/
def writeAt (s : State) (wr : Writer) (a : Nat) (w : Word) : Option State :=
  match stRegAt? a with
  | some r => some (writeSt s r w)
  | none =>
    match blkAt? a with
    | none => none
    | some b =>
      let o := a % 0x10000
      if o = 0xF004 then some (writeLatch s b wr w)
      else if o = 0xF00C then some (writeIen s b w)
      else match writeClr s a w with
        | some s1 => some s1
        | none =>
          if 0x60020 ≤ a ∧ a ≤ 0x6003C ∧ a % 4 = 0 then some (writeSem s ((a - 0x60020) / 4) w)
          else if a = 0x60060 then some (ackQueue s (fieldOf w 16 3) (fieldOf w 0 16))
          else if a = 0x60068 then some (flushQueues s (fieldOf w 0 6))
          else (regView s a).map fun _ => s

/-- A write into staging space (R299). -/
def writeStaging (s : State) (a : Nat) (w : Word) : Option State :=
  (stRegAt? a).map fun r => writeSt s r w

end Sys2Proof.Machine
end

