-- ==== Sys2Proof/Machine/Wire.lean ====
section
/-! DEFINITION. The frames of the field clusters as bytes (R213 to R224), what a port puts on its channels, and
the service frames that wait for an answer (R224). -/

namespace Sys2Proof.Machine

open Sys2Proof

/-- A frame with its CRC-32C (R213). -/
def withCrc (bs : Bytes) : Bytes := bs ++ be 4 (crc32c bs).toNat

/-- A frame's bytes without its CRC, where the CRC passes (R213). -/
def unCrc? (bs : Bytes) : Option Bytes :=
  let n := bs.length
  if n < 4 then none
  else
    let body := bs.take (n - 4)
    if fieldAt bs (n - 4) 4 = (crc32c body).toNat then some body else none

/-- The first twelve bytes of a frame of slot 0 to 15, and of a sync frame (R215, R223). -/
def transportHeader (s : State) (c : Cluster) (ty slot mlen : Nat) : Bytes :=
  be 1 ty ++ be 1 slot ++ be 4 (frnOf s c).cycle ++ be 2 (msw s) ++ be 2 mlen ++ be 1 c.num ++ be 1 0

/-- A sync frame (R223). -/
def syncBytes (s : State) (c : Cluster) (slot : Nat) : Bytes :=
  withCrc (transportHeader s c 0xA2 slot 0)

/-- Two nibbles to a byte, the first in bits [7:4] (R217). -/
def nibbles : List Nat → Bytes
  | [] => []
  | [a] => be 1 (a % 16 * 16)
  | a :: b :: rest => be 1 (a % 16 * 16 + b % 16) ++ nibbles rest

/-- A node entry (R217). -/
def entryBytesOf (e : DlEntry) : Bytes :=
  be 1 e.node ++ nibbles e.states ++ e.tags.flatMap fun t => be 8 t.toNat

/-- Entries at the offsets that the compiler fixes (R217). DESIGN CHOICE (log entry 119): bytes that no entry takes are 0, and
the body ends with its last entry. -/
def layEntries (es : List DlEntry) : Bytes :=
  (sortBy (·.offset) es).foldl (fun body e => body ++ List.replicate (e.offset - body.length) 0 ++ entryBytesOf e) []

/-- The signed part of a message before its signature fields; with `zero`, every tag field is zero as for
the lane signatures (R216). -/
def messageBody (c : Cfg) (cl : Cluster) (m : DlMsg) (zero : Bool) : Bytes :=
  let clear := fun (e : DlEntry) => if zero then { e with tags := e.tags.map fun _ => 0 } else e
  be 6 m.frame ++ be 1 (ownPair c) ++ be 1 (cl.num * 128 + m.slot) ++ layEntries (m.entries.map clear)

/-- A message (R216). -/
def messageBytes (c : Cfg) (cl : Cluster) (m : DlMsg) : Bytes :=
  messageBody c cl m false ++ be 8 m.sig1.toNat ++ be 8 m.sig2.toNat

/-- The withdrawal map (R219): the bit of node ID 16 first. -/
def wmapBytes (f : FrnBlk) : Bytes :=
  be 30 ((f.nodes.map fun b =>
    if b.withdrawn ∧ 16 ≤ b.node ∧ b.node ≤ 255 then 2 ^ (255 - b.node) else 0).foldl (· + ·) 0)

/-- A downlink frame (R215). -/
def downlinkBytes (s : State) (c : Cluster) (m : DlMsg) : Bytes :=
  let msg := messageBytes s.cfg c m
  let map := if m.slot = 0 then wmapBytes (frnOf s c) else []
  withCrc (transportHeader s c 0xA1 m.slot msg.length ++ map ++ msg)

/-- KIND and NUM of a party (R222). -/
def Party.kind : Party → Nat
  | .node _ => 0
  | .coupler _ => 1

def Party.num : Party → Nat
  | .node n => n
  | .coupler n => n

/-- A frame of the dynamic segment (R222). -/
def dynamicBytes (s : State) (c : Cluster) (ty : Nat) (p : Party) (ch : Chan) (payload : Bytes) : Bytes :=
  withCrc (be 1 ty ++ be 1 p.kind ++ be 1 p.num ++ be 1 ch.num ++ be 4 (frnOf s c).cycle
    ++ be 2 payload.length ++ be 2 0 ++ payload)

/-! ## Channels -/

/-- Whether a channel of a cluster is enabled (R239 CHA, CHB). -/
def chanOn (s : State) (c : Cluster) (ch : Chan) : Bool :=
  let w := match c with
    | .c0 => s.cfg.frnCtl0
    | .c1 => s.cfg.frnCtl1
  w.getLsbD (16 + ch.num)

/-- Limits of the cluster's FRN_CTL (R232, R234). -/
def dropLimit (s : State) (c : Cluster) : Nat :=
  fieldOf (match c with | .c0 => s.cfg.frnCtl0 | .c1 => s.cfg.frnCtl1) 8 4

def staleLimit (s : State) (c : Cluster) : Nat :=
  fieldOf (match c with | .c0 => s.cfg.frnCtl0 | .c1 => s.cfg.frnCtl1) 0 4

def guardOf (f : FrnBlk) : Chan → GuardianBlk
  | .a => f.guardA
  | .b => f.guardB

def setGuard (f : FrnBlk) (ch : Chan) (g : GuardianBlk → GuardianBlk) : FrnBlk :=
  match ch with
  | .a => { f with guardA := g f.guardA }
  | .b => { f with guardB := g f.guardB }

/-- A connector X5 to X9 holds a qualified optic; without one it carries nothing (R430). -/
def opticOn (s : State) (conn : Nat) : Bool := s.sys.optics.contains conn

/-- A channel that is enabled and whose connector carries light: Cluster 0 on X5 and X6, Cluster 1 on X7 and X8. -/
def linkOn (s : State) (c : Cluster) (ch : Chan) : Bool := chanOn s c ch && opticOn s (5 + 2 * c.num + ch.num)

/-- A transmission on one channel: it leaves where the channel is enabled, the port transmits and its guardian is in RUN; in
FOLLOW the port's only window is that of its sync frames (R223, R225, R226, R233). -/
def sendOn (s : State) (c : Cluster) (ch : Chan) (data : Bytes) : State :=
  let f := frnOf s c
  let shut := (f.state = .follow || f.state = .followNoSync) && fieldAt data 0 1 != 0xA2
  if f.state = .off ∨ f.mute ∨ shut ∨ !linkOn s c ch ∨ (guardOf f ch).state ≠ .run then s
  else { s with sent := s.sent ++ [.field c ch data] }

/-- The same transmission on A and B (R233). -/
def sendBoth (s : State) (c : Cluster) (data : Chan → Bytes) : State :=
  sendOn (sendOn s c .a (data .a)) c .b (data .b)

/-! ## Service frames (R224) -/

/-- SNUM counts from 1 to 65,535 and then from 1 again. -/
def nextSnum (n : Nat) : Nat := if n ≥ 65535 then 1 else n + 1

def setNode (s : State) (c : Cluster) (n : Nat) (g : NodeBlk → NodeBlk) : State :=
  setFrn s c fun f => { f with nodes := updFirst (·.node == n) g f.nodes }

def nodeOf? (s : State) (c : Cluster) (n : Nat) : Option NodeBlk := (frnOf s c).nodes.find? (·.node == n)

/-- Both copies of both pointers of a mailbox agree (R240). -/
def mailboxAgrees (b : NodeBlk) : Bool := b.latest + b.latestN == 1 && b.frozen + b.frozenN == 1

/-- An access to mailboxes compares the two copies of their pointers; a mismatch raises MAILBOX until restart (R240). -/
def checkMailboxes (s : State) (c : Cluster) (which : NodeBlk → Bool) : State :=
  if (frnOf s c).nodes.any fun b => which b && !mailboxAgrees b then raise s .frn (8 * c.num + nMAILBOX) else s

/-- Cycle numbers of a guardian's record in a new numbering of the cycles, so many cycles back as before. -/
def renumber (old new k : Nat) : Nat := (new + 2 ^ 32 - (old + 2 ^ 32 - k) % 2 ^ 32) % 2 ^ 32

/-- The port's cycle in progress takes another number (R211, R355). -/
def numberCycle (new : Nat) (f : FrnBlk) : FrnBlk :=
  let moved := fun (g : GuardianBlk) =>
    { g with violations := g.violations.map (renumber f.cycle new), blockedAt := g.blockedAt.map (renumber f.cycle new) }
  { f with cycle := new, guardA := moved f.guardA, guardB := moved f.guardB }

/-- The frame of a waiting service frame, on both channels. -/
def sendSvc (s : State) (c : Cluster) (v : SvcOut) : State :=
  sendBoth s c fun ch => dynamicBytes s c 0xC1 (.node v.node) ch
    (be 1 v.code ++ be 1 0 ++ be 2 v.snum ++ be 4 v.ref ++ v.content)

/-- A downstream service frame to a configured node: sent, and waiting for its answer (R224). -/
def sendService (s : State) (c : Cluster) (node code ref : Nat) (content : Bytes) : State :=
  match nodeOf? s c node with
  | none => s
  | some b =>
    let n := nextSnum b.snum
    let out : SvcOut := { node := node, code := code, snum := n, ref := ref, content := content
                          sentCycle := (frnOf s c).cycle }
    let s1 := setNode s c node fun b => { b with snum := n }
    sendSvc (setFrn s1 c fun f => { f with svc := f.svc ++ [out] }) c out

/-- CONFIG_SET to every node of both clusters (R224, R358). -/
def sendConfigSet (s : State) (param value : Nat) : State :=
  let one := fun (c : Cluster) (s : State) (b : NodeBlk) =>
    sendService s c b.node 0x01 0 (be 2 param ++ be 4 value)
  s.frn1.nodes.foldl (one .c1) (s.frn0.nodes.foldl (one .c0) s)

/-- Parties refused are tried again after a COMMIT, and after an exchange of the image that holds their record (R231). -/
def retryRefused (s : State) : State :=
  let again := fun (f : FrnBlk) =>
    { f with nodes := updAll (·.state = .refused) (fun b => { b with state := .absent }) f.nodes
             couplers := f.couplers.map fun k => { k with refused := false } }
  setFrn (setFrn s .c0 again) .c1 again

end Sys2Proof.Machine
end

