-- ==== Sys2Proof/Machine/Tags.lean ====
section
/-! DEFINITION. Permit tags (R133, R134, R137), lane signatures (R165), and the local output command as bytes
(R255). -/

namespace Sys2Proof.Machine

open Sys2Proof

/-- Where a tag's command goes (R133 PLACE). -/
def placeCluster (c : Cluster) : Nat := c.num
def placeLocal : Nat := 0x80
def placeTrip : Nat := 0x81
def placeBoundary : Nat := 0x40

/-- The permit message (R133). -/
def permitMessage (frame pair place whr elem obj kind state : Nat) : Bytes :=
  be 6 frame ++ be 1 (pair % 32) ++ be 1 place ++ be 1 whr ++ be 1 elem ++ be 2 obj ++ be 1 kind
    ++ be 1 state ++ be 2 0

/-- The tag of a message under a key in a slot (R134). -/
def tagOf (key : Key) (slot : Nat) (msg : Bytes) : BitVec 64 :=
  (BitVec.ofNat 2 slot ++ (cmac key msg).extractLsb' 66 62 : BitVec 64)

/-- The null tag (R128). -/
def nullTag : BitVec 64 := 0

/-- Whether a tag is a valid permit tag for a message, under the permit keys held (R137). -/
def tagValid (keys : List PlainKey) (ktype index : Nat) (msg : Bytes) (tag : BitVec 64) : Bool :=
  let slot := tag.toNat / 2 ^ 62
  tag != nullTag && slot ≤ 1 &&
    match keys.find? fun k => k.ktype == ktype && k.index == index && k.slot == slot with
    | some k => tagOf k.key slot msg == tag
    | none => false

/-- A lane's signature of a message (R165). -/
def laneSig (key : Key) (lane slot : Nat) (msg : Bytes) : BitVec 64 :=
  (BitVec.ofNat 2 lane ++ BitVec.ofNat 1 slot ++ (cmac key msg).extractLsb' 67 61 : BitVec 64)

/-- The lane that a signature names. -/
def sigLane (sig : BitVec 64) : Nat := sig.toNat / 2 ^ 62

/-- Whether a signature is valid under the lane keys held (R165). -/
def sigValid (keys : List PlainKey) (msg : Bytes) (sig : BitVec 64) : Bool :=
  let lane := sigLane sig
  let slot := sig.toNat / 2 ^ 61 % 2
  1 ≤ lane &&
    match keys.find? fun k => k.ktype == 1 && k.index == lane && k.slot == slot with
    | some k => laneSig k.key lane slot msg == sig
    | none => false

/-- Whether the two signatures of a message are those of two different lanes, lower number first (R236, R256
step 2). -/
def pairSigned (keys : List PlainKey) (msg : Bytes) (sig1 sig2 : BitVec 64) : Bool :=
  decide (sigLane sig1 < sigLane sig2) && sigValid keys msg sig1 && sigValid keys msg sig2

/-- The local output command's signed bytes: SIG1, SIG2 and every tag field set to zero (R255). -/
def locSigned (c : Cfg) (m : LocCmd) : Bytes :=
  be 6 m.frame ++ be 1 (ownPair c) ++ be 1 m.entries.length ++ be 1 (bitsOf m.trips) ++ be 1 0
    ++ m.entries.flatMap (fun e => be 2 e.obj ++ be 1 e.chan ++ be 1 (e.kind * 16 + e.state) ++ be 8 0)
    ++ (m.trips.flatMap fun _ => be 8 0) ++ be 16 0

/-- Trip channels and outputs, pairs and input banks of the variant (R241). -/
def nTrips (s : State) : Nat := if s.sys.variant = 0x10 then 2 else 4
def nOutputs (s : State) : Nat := if s.sys.variant = 0x10 then 8 else 16
def nInputs (s : State) : Nat := if s.sys.variant = 0x10 then 16 else 32
def nPairs (s : State) : Nat := if s.sys.variant = 0x10 then 2 else 4
def nBanks (s : State) : Nat := if s.sys.variant = 0x10 then 2 else 4

/-- Permit message of an entry of the local output command (R256 step 4). -/
def locMessage (c : Cfg) (m : LocCmd) (e : LocEntry) : Bytes :=
  permitMessage m.frame (ownPair c) placeLocal e.chan 0 e.obj e.kind e.state

/-- Permit message of an energised trip channel (R256 step 4). -/
def tripMessage (c : Cfg) (frame chan sig : Nat) : Bytes :=
  permitMessage frame (ownPair c) placeTrip chan 0 sig 5 1

end Sys2Proof.Machine
end

