-- ==== Sys2Proof/Machine/Packet.lean ====
section
/-! DEFINITION. Command packets as bytes (R273 to R279), the replies of the service processor and of the lanes
(R274, R280, R282, R285), and the steps of R282 that the lanes take at INPUT. -/

namespace Sys2Proof.Machine

open Sys2Proof

/-! ## Packets -/

/-- A packet's header fields and payload (R273). -/
structure Pkt where
  ver : Nat
  opc : Nat
  tag : Nat
  seq : Nat
  src : Nat
  dst : Nat
  safety : Nat
  payload : Bytes
  deriving DecidableEq, Repr

/-- A packet's bytes without its CRC (R273). -/
def pktBody (p : Pkt) : Bytes :=
  be 2 0xC3A5 ++ be 1 p.ver ++ be 1 p.opc ++ be 2 p.tag ++ be 2 p.payload.length ++ be 4 p.seq
    ++ be 2 p.src ++ be 2 p.dst ++ be 8 p.safety ++ p.payload

def pktBytes (p : Pkt) : Bytes := withCrc (pktBody p)

/-- The fields of a packet's bytes, none of them checked; the payload is what lies between header and
trailer (R273). -/
def pktOf (bs : Bytes) : Pkt :=
  { ver := fieldAt bs 2 1, opc := fieldAt bs 3 1, tag := fieldAt bs 4 2, seq := fieldAt bs 8 4
    src := fieldAt bs 12 2, dst := fieldAt bs 14 2, safety := fieldAt bs 16 8
    payload := slice bs 24 (bs.length - 28) }

/-- The safety code of a packet under a session key (R277). -/
def safetyOf (key : Key) (p : Pkt) : Nat :=
  ((cmac key (pktBody { p with safety := 0 })).extractLsb' 64 64).toNat

/-- The source of a packet from a partner entry. -/
def srcOf (entry : Nat) (p : Pkt) : Src :=
  { entry := entry, addr := p.src, tag := p.tag, seq := p.seq, ver := p.ver
    kslot := fieldAt p.payload 6 1 }

/-! ## Classes (R269, R273) -/

/-- A packet's class (R273). -/
inductive Class
  | vital | query | maint | update | diag | witness | undefined
  deriving DecidableEq, Repr

/-- The class of a defined opcode of requests and unsolicited packets (R275, R286, R289, R291 to R293). -/
def classOf (opc : Nat) : Class :=
  if (0x10 ≤ opc && opc ≤ 0x15) || opc == 0x18 || opc == 0x19 || opc == 0x40 then .vital
  else if 0x48 ≤ opc && opc ≤ 0x4B then .witness
  else if 0x50 ≤ opc && opc ≤ 0x57 then .query
  else if 0x80 ≤ opc && opc ≤ 0x92 then .maint
  else if 0xC0 ≤ opc && opc ≤ 0xC8 then .update
  else if 0xE0 ≤ opc && opc ≤ 0xE2 then .diag
  else .undefined

/-- Bit of a class in a partner's CLASSES (R269). -/
def classBit : Class → Nat
  | .vital => 0
  | .query => 1
  | .maint => 2
  | .update => 3
  | .diag => 4
  | .witness => 5
  | .undefined => 6

/-! ## Sending -/

/-- The serial number of the module's next packet to an entry that is not vital (R278). -/
def nextSeqOut (s : State) (entry : Nat) : Nat :=
  (((s.cmd.seqOut.find? (·.1 == entry)).map (·.2)).getD 0 + 1) % 2 ^ 32

def countReply (s : State) (conn : Nat) : State :=
  let up := fun (p : PortCount) => { p with replies := (p.replies + 1) % 2 ^ 32 }
  let ports := updFirst (fun p : PortCount => p.conn == conn) up s.cmd.ports
  { s with cmd := { s.cmd with ports := ports } }

/-- A packet is counted as taken (R295 `CMD_RXOK`). -/
def countOk (s : State) : State := { s with cmd := { s.cmd with rxok := satAdd 0xFFFFFFFF 1 s.cmd.rxok } }

/-- A failure at steps 1 to 3 or 5 to 10 (R295 `CMD_RXERR`). -/
def countOther (s : State) : State := { s with cmd := { s.cmd with otherErr := satAdd 65535 1 s.cmd.otherErr } }

/-- A packet leaves to a partner's address (R272). -/
def sendPacket (s : State) (entry : Nat) (p : Pkt) : State :=
  let q := partnerAt s entry
  { s with sent := s.sent ++ [.packet { conn := q.conn, ip := q.ip, udpp := q.udpp, data := pktBytes p }] }

/-- Reply fields stand only with DONE, ACCEPTED or DEFERRED, and for COMMIT with REFUSED (R274). -/
def hasFields (opc : Nat) (st : Status) : Bool :=
  st = .done || st = .accepted || st = .deferred || (opc == 0x84 && st = .refused)

/-- A reply's payload (R274). -/
def replyPayload (opc : Nat) (st : Status) (kslot mswv frame : Nat) (body : Bytes) : Bytes :=
  be 1 st.code ++ be 1 kslot ++ be 2 mswv ++ be 6 frame ++ (if hasFields opc st then body else [])

/-- A packet of the module that is not vital: a running SEQ, SAFETY zero (R278). -/
def sendPlain (s : State) (entry ver opc tag : Nat) (dst : Nat) (payload : Bytes) : State :=
  let n := nextSeqOut s entry
  let s1 := { s with cmd := { s.cmd with seqOut := (entry, n) :: s.cmd.seqOut.filter (·.1 != entry) } }
  sendPacket s1 entry { ver := ver, opc := opc, tag := tag, seq := n, src := ownAddr s.cfg, dst := dst
                        safety := 0, payload := payload }

/-- MSW of a reply from the service processor: of the latest status image, and the module's own once it has stopped and
writes none, so that the partner sees STOPPED (R282, R285). A fenced bridge shows that of its copy (R320). -/
def replyMsw (s : State) : Nat := if s.sys.stopped && !s.xbr.fenced then msw s else s.image.msw

/-- A reply of the service processor: FRAME of the latest status image (R274, R282). -/
def reply (s : State) (src : Src) (opc : Nat) (st : Status) (body : Bytes) : State :=
  let s0 := if st = .done ∨ st = .accepted then countOk s
    else if st = .badLen ∨ st = .badOpc ∨ st = .badSafety then countOther s else s
  let s1 := countReply s0 (partnerAt s src.entry).conn
  sendPlain s1 src.entry src.ver opc src.tag src.addr (replyPayload opc st 0 (replyMsw s) s.image.frame body)

/-- A reply that a lane has formed and that is no vital reply: FRAME of the frame whose COMMIT forms it. -/
def laneReply (s : State) (r : Reply) (dst : Nat) : State :=
  let s1 := countReply s (partnerAt s r.entry).conn
  sendPlain s1 r.entry r.ver r.opc r.tag dst (replyPayload r.opc r.status 0 (msw s) s.core.counter r.body)

/-- SEQ of a vital packet: the frame counter and the count of the frame's vital packets to the partner
(R278). -/
def vitalSeq (frame i : Nat) : Nat := frame % 2 ^ 26 * 64 + i

/-- A vital packet of the module as a datagram, with its safety code under the session key of a slot; none is
formed to a partner without that key, nor beyond 64 in a frame (R277, R278). -/
def formVital (s : State) (entry ver opc tag dst slot counter : Nat) (payload : Bytes) : State × Option Datagram :=
  let i := ((s.cmd.vitalOut.find? (·.1 == entry)).map (·.2)).getD 0
  match plainKey? s 5 entry slot with
  | none => (s, none)
  | some k =>
    if i ≥ 64 then (s, none)
    else
      let p : Pkt := { ver := ver, opc := opc, tag := tag, seq := vitalSeq counter i, src := ownAddr s.cfg
                       dst := dst, safety := 0, payload := payload }
      let q := { p with safety := safetyOf k p }
      let s1 := { s with cmd := { s.cmd with
        vitalOut := (entry, i + 1) :: s.cmd.vitalOut.filter (·.1 != entry) } }
      let to_ := partnerAt s entry
      (s1, some { conn := to_.conn, ip := to_.ip, udpp := to_.udpp, data := pktBytes q })

/-! ## PKT_OUT (R306, R309, R312) -/

/-- Where a packet of PKT_OUT goes that came without its sender's note: to the partner that DST names (R270). -/
def outTo (s : State) (i : QItem) : Datagram :=
  match (List.range 32).find? fun n => i.via = 0 && (tableEntry s n).addr == fieldAt i.data 14 2 with
  | some n => let q := tableEntry s n; { conn := q.conn, ip := q.ip, udpp := q.udpp, data := i.data }
  | none => { conn := i.via, ip := i.ip, udpp := i.udpp, data := i.data }

/-- What leaves with an item of PKT_OUT: an X9 payload under CONN 9 (R312, R346), a packet otherwise. -/
def sentOf (s : State) (i : QItem) : Sent :=
  let f := fieldAt i.data
  if i.conn ≠ 9 then .packet (outTo s i)
  else if f 0 1 = 2 then .waferAck (f 2 6) (BitVec.ofNat 64 (f 16 8))
  else .heartbeat (f 2 6) (f 16 2) (f 18 1 % 2 == 1) (f 18 1 / 2 % 2 == 1)

/-- The service processor takes and sends what waits in PKT_OUT, in order; while it restarts, or the bridge is fenced, the
items stay (R308, R320, R375). -/
def sendWaiting (s : State) : State :=
  if s.xbr.fenced || !svcRuns s then s
  else
    let t := touchQueue s 1
    { t with sent := t.sent ++ t.xbr.q1.items.map (sentOf t), xbr := setQueue t.xbr 1 (consume fun _ => true) }

/-- A lane pushes a packet into PKT_OUT, from where it is sent; one that finds no room is lost (R309). -/
def pushOut (s : State) (conn : Nat) (d : Datagram) : State :=
  let t := touchQueue s 1
  let note := fun (i : QItem) => { i with ip := d.ip, udpp := d.udpp, via := d.conn }
  let x := pushQueue t.xbr 1 conn d.data
  let marked := setQueue x 1 fun u => { u with items := u.items.dropLast ++ u.items.getLast?.toList.map note }
  sendWaiting { t with xbr := if queueRoom t.xbr 1 d.data.length then marked else x }

/-- An X9 payload of the module with its CRC (R346). -/
def x9Payload (ty unit wframe : Nat) (data : Bytes) : Bytes :=
  withCrc (be 1 ty ++ be 1 unit ++ be 6 wframe ++ be 4 0 ++ be 2 data.length ++ be 2 0 ++ data)

/-- An acknowledgement or heartbeat for X9 (R312). -/
def pushX9 (s : State) (payload : Bytes) : State := pushOut s 9 { conn := 9, ip := 0, udpp := 0, data := payload }

/-- A vital packet formed and pushed. -/
def sendVital (s : State) (entry ver opc tag dst slot counter : Nat) (payload : Bytes) : State × Option Bytes :=
  match formVital s entry ver opc tag dst slot counter payload with
  | (s1, some d) => (pushOut s1 0 d, some d.data)
  | (s1, none) => (s1, none)

/-- The last 16 replies of a partner stand in the store (R280). -/
def addStored (rs : List Stored) (r : Stored) : List Stored :=
  let mine := rs.filter (·.entry == r.entry)
  rs.filter (·.entry != r.entry) ++ (mine ++ [r]).drop (mine.length + 1 - 16)

/-- The reply store takes a reply (R280). -/
def storeReply (s : State) (r : Reply) (bs : Bytes) : State :=
  match s.cmd.pend.find? fun p => p.entry == r.entry && p.seq == r.seq && p.tag == r.tag with
  | none => s
  | some p =>
    { s with cmd := { s.cmd with
        stored := addStored s.cmd.stored { entry := r.entry, seq := r.seq, safety := p.safety, reply := bs }
        pend := s.cmd.pend.filter fun q => !(q.entry == r.entry && q.seq == r.seq && q.tag == r.tag) } }

/-- A request answered without a vital reply waits no longer (R280). -/
def dropPend (s : State) (r : Reply) : State :=
  { s with cmd := { s.cmd with
      pend := s.cmd.pend.filter fun q => !(q.entry == r.entry && q.seq == r.seq && q.tag == r.tag) } }

/-- A vital reply (R274, R277, R278, R280); `holdReplies` keeps it for the release point. -/
def vitalReply (s : State) (r : Reply) (slot : Nat) : State :=
  let dst := (partnerAt s r.entry).addr
  let pay := replyPayload r.opc r.status slot (msw s) s.core.counter r.body
  match formVital (countReply s (partnerAt s r.entry).conn) r.entry r.ver r.opc r.tag dst slot
      s.core.counter pay with
  | (s1, some d) => storeReply { s1 with sent := s1.sent ++ [.packet d] } r d.data
  | (_, none) => s

/-- A reply of the lanes; one to a request whose key slot holds no key has no safety code (R277). A reply to BAD_SAFETY is
sent at most once for each partner in a frame (R282). -/
def sendReply (s : State) (r : Reply) : State :=
  if r.status = .badSafety && s.cmd.badSafety.contains r.entry then dropPend s r
  else
    let s1 := if r.status = .badSafety then
        { s with cmd := { s.cmd with badSafety := r.entry :: s.cmd.badSafety } } else s
    let s1 := if r.kslot.isSome && hasFields r.opc r.status then countOk s1 else s1
    match r.kslot with
    | some k =>
      if (plainKey? s 5 r.entry k).isSome then vitalReply s1 r k else laneReply (dropPend s1 r) r (partnerAt s r.entry).addr
    | none => laneReply s1 r (partnerAt s r.entry).addr

/-- The replies that the frame's COMMIT hands over (R286, R291). -/
def sendReplies (s : State) (rs : List Reply) : State := rs.foldl sendReply s

/-- The datagrams among what has left. -/
def packetsOf (xs : List Sent) : List Datagram :=
  xs.filterMap fun x => match x with
    | .packet d => some d
    | _ => none

/-- The replies of a frame not yet released: formed at its COMMIT, they leave at its release point, and never where it is
not released (R285). -/
def holdReplies (s : State) (rs : List Reply) : State :=
  let t := sendReplies s rs
  { t with
    sent := s.sent
    cmd := { t.cmd with
      stored := s.cmd.stored
      pend := s.cmd.pend
      frameOut := t.cmd.frameOut ++ packetsOf (t.sent.drop s.sent.length)
      frameAnswered := s.cmd.pend.filter fun q => !t.cmd.pend.contains q
      frameStored := t.cmd.stored.filter fun r => !s.cmd.stored.contains r } }

/-- What the frame has formed leaves at its release point, through PKT_OUT (R280, R285, R288, R306). -/
def sendFrame (s : State) : State :=
  let c := s.cmd
  c.frameOut.foldl (pushOut · 0) { s with
    cmd := { c with
      frameOut := [], frameAnswered := [], frameStored := []
      stored := c.frameStored.foldl addStored c.stored
      pend := c.pend.filter fun q => !c.frameAnswered.contains q } }

/-! ## Windows (R278) -/

/-- Serial comparison of 32-bit numbers (R278). -/
def newer (a b : Nat) : Bool :=
  let d := (a + 2 ^ 32 - b) % 2 ^ 32
  1 ≤ d && d ≤ 2 ^ 31 - 1

/-- How far `n` stands above the newest number, or below it as an age; `serial` selects 32-bit serial
comparison, otherwise the numbers are extended sequences (R278). -/
inductive Stand
  | above (by_ : Nat)
  | age (k : Nat)
  | out
  deriving DecidableEq, Repr

def standOf (serial : Bool) (newest n : Nat) : Stand :=
  if serial then
    if newer n newest then .above ((n + 2 ^ 32 - newest) % 2 ^ 32)
    else
      let k := (newest + 2 ^ 32 - n) % 2 ^ 32
      if k ≤ 63 then .age k else .out
  else if n > newest then .above (n - newest)
  else if newest - n ≤ 63 then .age (newest - n)
  else .out

/-- Whether a window passes a number (R278). -/
def winPasses (serial : Bool) (w : Option Win) (n : Nat) : Bool :=
  match w with
  | none => true
  | some w =>
    match standOf serial w.newest n with
    | .above _ => true
    | .age k => !w.map.getLsbD k
    | .out => false

/-- A window after a number that it passed is marked (R278). -/
def winMark (serial : Bool) (partner kslot : Nat) (w : Option Win) (n : Nat) : Win :=
  match w with
  | none => { partner := partner, kslot := kslot, newest := n, map := 1 }
  | some w =>
    match standOf serial w.newest n with
    | .above k => { w with newest := n, map := (w.map <<< k) ||| 1 }
    | .age k => { w with map := w.map ||| (1#64 <<< k) }
    | .out => w

def winOf? (x : Inter) (partner kslot : Nat) : Option Win :=
  x.wins.find? fun w => w.partner == partner && w.kslot == kslot

/-- The number is marked in its window (R278). -/
def markSeq (serial : Bool) (partner kslot n : Nat) (x : Inter) : Inter :=
  let w := winMark serial partner kslot (winOf? x partner kslot) n
  { x with wins := w :: x.wins.filter fun v => !(v.partner == partner && v.kslot == kslot) }

/-! ## Requests at INPUT: steps 14 to 17 of R282 -/

/-- Freshness (R279). -/
def isFresh (c : Cfg) (counter fref : Nat) : Bool := fref ≤ counter && counter - fref ≤ freshLimit c

/-- LEN of a vital request (R286); BOUNDARY_STATE's follows its entries (R288). -/
def vitalLen (opc : Nat) : Nat :=
  match opc with
  | 0x10 => 12
  | 0x13 => 12
  | 0x15 => 14
  | 0x19 => 18
  | _ => 10

/-- The request that a payload spells, none where a parameter is outside its stated values (R286). -/
def vitalReq? (src : Src) (opc : Nat) (pl : Bytes) : Option VReq :=
  let n2 := fieldAt pl 8 2
  match opc with
  | 0x10 => if fieldAt pl 10 2 ≤ 600 then some (.routeSet src n2 (fieldAt pl 10 2)) else none
  | 0x11 => some (.routeCancel src n2)
  | 0x12 => some (.emergency src n2)
  | 0x13 =>
    let pos := fieldAt pl 10 1
    if pos = 1 ∨ pos = 2 then
      some (.pointMove src (n2 ≥ 0x8000) (if n2 ≥ 0x8000 then n2 % 1024 else n2 % 4096) pos)
    else none
  | 0x14 => some (.restore src n2)
  | 0x15 =>
    let kind := fieldAt pl 8 1
    let act := fieldAt pl 12 1
    if kind ≤ 1 ∧ act ≤ 1 then some (.block src (kind == 1) (fieldAt pl 10 2) (act == 1)) else none
  | 0x18 => if fieldAt pl 8 1 ≤ 15 then some (.guardAck src (fieldAt pl 8 1)) else none
  | 0x19 => some (.stationCmd src n2 (fieldAt pl 10 8))
  | _ => none

/-- The entries of a BOUNDARY_STATE payload (R288). -/
def boundaryEntries (pl : Bytes) : List BoundaryEntry :=
  (List.range (fieldAt pl 14 1)).map fun k =>
    { obj := fieldAt pl (16 + 12 * k) 2, offer := fieldAt pl (18 + 12 * k) 1
      border := fieldAt pl (19 + 12 * k) 1, tag := BitVec.ofNat 64 (fieldAt pl (20 + 12 * k) 8) }

/-- The module's own boundary object for an object of a neighbour pair (R288). -/
def ownBoundary? (st : Station) (pair obj : Nat) : Option Nat :=
  (st.objects.find? fun d => d.neighbour == some (pair, obj)).map (·.idx)

/-- Whether Praline verifies a boundary tag (R136): the message names the receiver's pair, the sender's
object, the sender's FRAME, and the FRAME is greater than that of any tag accepted from the pair. -/
def boundaryVerified (s : State) (x : Inter) (pair frame : Nat) (e : BoundaryEntry) : Bool :=
  let msg := permitMessage frame pair placeBoundary (ownPair s.cfg) 0 e.obj 4 1
  let last := (x.bTags.find? (·.pair == pair)).map (·.frame)
  e.offer == bdGranted && tagValid s.sec.plain 3 pair msg e.tag
    && (match last with | some f => decide (f < frame) | none => true)

/-- A BOUNDARY_STATE packet as a request; none where an object is not mapped or N is wrong (R288). -/
def boundaryReq? (s : State) (x : Inter) (b : BoundaryIn) : Option VReq :=
  match s.mzp with
  | none => none
  | some st =>
    if b.entries.length > 64 ∨ b.entries.any (fun e => (ownBoundary? st b.pair e.obj).isNone || 1 < e.offer || 1 < e.border)
    then none
    else some (.boundary b.pair b.frame (b.entries.map fun e =>
      { obj := (ownBoundary? st b.pair e.obj).getD 0, offer := e.offer, border := e.border
        verified := boundaryVerified s x b.pair b.frame e }))

/-- The latest counter received from a partner (R276, R288). -/
def noteFrame (partner frame : Nat) (x : Inter) : Inter :=
  let was := ((x.peerFrames.find? (·.partner == partner)).map (·.frame)).getD 0
  { x with peerFrames := { partner := partner, frame := max was frame } ::
      x.peerFrames.filter (·.partner != partner) }

/-- What INPUT does with one vital packet: a failed check as status, or the request (R282 steps 14 to 17). A
BOUNDARY_STATE is never answered. -/
inductive Checked
  | fail (st : Status)
  | drop (st : Status)
  | take (r : VReq)
  deriving DecidableEq, Repr

/-- Steps 14 to 17 for a packet of a partner entry; the state carries the marked windows on (R282). -/
def checkVital (s : State) (entry : Nat) (p : Pkt) (x : Inter) : Checked × Inter :=
  let src := srcOf entry p
  let pl := p.payload
  let addr := (partnerAt s entry).addr
  let neighbour := addr / 256 % 8 ≤ 3
  let bnd := p.opc == 0x40
  let bad := fun (st : Status) => if bnd then Checked.drop st else Checked.fail st
  if s.cmd.fenced then (bad .notAuth, x)
  else if pl.length < 8 then (bad .badLen, x)
  else match (if src.kslot ≤ 1 then plainKey? s 5 entry src.kslot else none) with
  | none => (bad .badSafety, x)
  | some k =>
    if safetyOf k p ≠ p.safety then (bad .badSafety, x)
    else if neighbour && !bnd then (bad .stale, x)
    else
      let counter := fieldAt pl 8 6
      let num := if neighbour then counter * 64 + p.seq % 64 else p.seq
      if neighbour && p.seq / 64 != counter % 2 ^ 26 then (bad .stale, x)
      else if !winPasses (!neighbour) (winOf? x addr src.kslot) num then (bad .stale, x)
      else
        let x1 := markSeq (!neighbour) addr src.kslot num x
        let x2 := if bnd then noteFrame addr counter x1 else x1
        if !isFresh s.cfg x.counter (fieldAt pl 0 6) then (bad .stale, x2)
        else if bnd then
          if pl.length ≠ 16 + 12 * fieldAt pl 14 1 then (.drop .badLen, x2)
          else match boundaryReq? s x2 { pair := addr / 2048, frame := counter, entries := boundaryEntries pl } with
            | some r => (.take r, x2)
            | none => (.drop .badState, x2)
        else if pl.length ≠ vitalLen p.opc then (.fail .badLen, x2)
        else match vitalReq? src p.opc pl with
          | some r => (.take r, x2)
          | none => (.fail .badLen, x2)

/-- The counters of a status answered or discarded by the lanes (R295, R296). -/
def countVital (s : State) (st : Status) : State :=
  let c := s.cmd
  match st with
  | .badSafety => { s with cmd := { c with safety := satAdd 65535 1 c.safety, sawSafety := true } }
  | .stale => { s with cmd := { c with stale := satAdd 65535 1 c.stale, sawStale := true } }
  | _ => s

end Sys2Proof.Machine
end

