-- ==== Sys2Proof/Machine/Image.lean ====
section
/-! DEFINITION. The status image (R289, R316, R317), the ranges of the service address space beyond the registers
(R297, R306, R307, R312), and the reports made from the image (R290). -/

namespace Sys2Proof.Machine

open Sys2Proof

/-! ## The words of the image (R289) -/

/-- An object's state word; zero for an unused index (R289). -/
def objectWord (x : Inter) (i : Nat) : Nat :=
  match objOf? x i with
  | none => 0
  | some o =>
    let rep := if o.ty = .boundary then o.rep % 2 + 2 * (o.border % 2) else o.rep
    let flags := bit o.valid + 2 * bit (o.settle != 0) + 4 * bit (!(crumbsOn x.crumbs i).isEmpty) + 8 * bit o.block
    o.ty.code * 2 ^ 24 + rep % 256 * 65536 + o.cmd % 256 * 256 + flags

/-- REL_TMR remaining in ms (R289): the transaction's while it times, otherwise the timer at rest. -/
def relRemaining (st : Station) (x : Inter) (r : Nat) : Nat := (readWord st x (.tmRemain ((stRoute? st r).map (·.timer) |>.getD 0))).toNat

/-- The first word of a route entry: state, slot, APPROACH, OVERLAP (R289, R290); 0xFF and zeros for a route
without a definition. -/
def routeWord (st : Station) (x : Inter) (r : Nat) : Nat :=
  match stRoute? st r with
  | none => 0xFF000000
  | some _ =>
    let t := txnOfRoute? x r
    routeState x r % 256 * 2 ^ 24 + routeSlot x r % 256 * 65536
      + ((t.map (·.approach.code)).getD 0) * 256 + (t.map (·.overlap.code)).getD 0

def routeEntry (st : Station) (x : Inter) (r : Nat) : Bytes :=
  match stRoute? st r with
  | none => be 1 0xFF ++ be 7 0
  | some _ => be 4 (routeWord st x r) ++ be 4 (relRemaining st x r)

def emptyStation : Station :=
  { imgId := 0, mzpid := 0, prtid := 0, variant := 0, epoch := 0, wcetUs := 0, nobj := 0, objects := []
    groups := [], routes := [], timers := [], edges := [], latches := [], logic := [], holds := []
    stationCodes := [], settle := 3, bage := 5, tripSignal := [], inputs := [], nodes := [], couplers := []
    neighbours := [], layout := [], sigk1 := 0, sigk2 := 0, migration := [] }

/-- The station data in use, or that of no image. -/
def stationOf (s : State) : Station := s.mzp.getD emptyStation

/-- The register copies of a drain (R317): the listed registers of each block below 0x0F00, its fault
sub-block, and Cluster 1 of FRN_. -/
def registerCopies (s : State) : List (Nat × Word) :=
  let words := fun (base : Nat) => (List.range 960).filterMap fun k => (regView s (base + 4 * k)).map (base + 4 * k, ·)
  let faults := fun (b : Blk) => (List.range 4).filterMap fun k =>
    (regView s (b.base + 0xF000 + 4 * k)).map (b.base + 0xF000 + 4 * k, ·)
  Blk.all.flatMap (fun b => words b.base ++ faults b) ++ words 0x48000

/-- The image as the lanes write it at a drain (R316). -/
def writeImage (s : State) : State :=
  { s with image := { frame := s.core.counter, msw := msw s, inter := s.core, regs := registerCopies s } }

def copyOf (im : Image) (a : Nat) : Word := ((im.regs.find? (·.1 == a)).map (·.2)).getD 0

/-- The word of a byte string at a byte address, least significant byte first (R9); zero past its end. -/
def wordAt (bs : Bytes) (o : Nat) : Word := w32 (leVal (slice bs o 4))

/-- The word at an offset of the status image window (R316, R317), byte `k` of the image at byte address `k` of the word
(R9). Which half of a field of 8 bytes lies at the lower address is open: here the low half, as the `_LO` registers and
`PRL_CRUMB_LO_n` lie below their high halves. DESIGN CHOICE (log entry 108). -/
def imageWord (s : State) (o : Nat) : Word :=
  let im := s.image
  let st := stationOf s
  if o = 0 ∨ o = 0x1FFF8 then w32 im.frame
  else if o = 4 ∨ o = 0x1FFFC then w32 (im.frame / 2 ^ 32)
  else if o = 8 then w32 im.msw
  else if 0x100 ≤ o ∧ o < 0x4100 then w32 (objectWord im.inter ((o - 0x100) / 4))
  else if 0x4100 ≤ o ∧ o < 0x8100 then
    let e := routeEntry st im.inter ((o - 0x4100) / 8)
    if o % 8 = 0 then wordAt e 0 else w32 (fieldAt e 4 4)
  else if 0x8100 ≤ o ∧ o < 0xA100 then
    let e := crumbEntry im.inter.crumbs ((o - 0x8100) / 8)
    if o % 8 = 0 then w32 e else w32 (e / 2 ^ 32)
  else if 0xB000 ≤ o ∧ o < 0x1A000 then
    let p := (o - 0xB000) / 0x1000
    let k := o % 0x1000
    if k < 0xF00 then copyOf im (if p = 14 then 0x48000 + k else p * 0x10000 + k)
    else if k < 0xF10 ∧ p < 14 then copyOf im (p * 0x10000 + 0xF000 + (k - 0xF00))
    else 0
  else 0

/-! ## The other windows (R297) -/

/-- The bytes that a reader of a queue port sees from offset 0: header word and payload of the head item; a
header of 0 where the queue is empty (R307). The low half of the 64-bit header lies at the lower address (log entry 108). -/
def portBytes (x : XbrBlk) (q : Nat) : Bytes :=
  match (queueOf x q).items with
  | [] => be 8 0
  | i :: _ => le 8 (i.iseq * 2 ^ 48 + i.conn % 16 * 2 ^ 44 + i.data.length % 65536) ++ i.data

/-- A service read of one word anywhere in the service address space (R297): the windows of this file, and
the registers and staging space. A wafer's bytes stand in State as what they say, so a word of a wafer
window is a free value (log entry 7). -/
def serviceRead (s : State) (a : Nat) : Except Nat Word :=
  if s.xbr.fenced then .error 8
  else if a % 4 ≠ 0 then .error 2
  else if 0x02000000 ≤ a ∧ a < 0x02020000 then .ok (imageWord s (a - 0x02000000))
  else if 0x02100000 ≤ a ∧ a < 0x02110000 then .ok (wordAt s.xbr.xfer (a - 0x02100000))
  else if 0x02200000 ≤ a ∧ a < 0x02300000 then .ok (Config.freeWord s.free)
  else if 0x02300000 ≤ a ∧ a < 0x02380000 then .ok (Config.freeWord s.free)
  else if 0x03000000 ≤ a ∧ a < 0x03060000 then
    if a % 0x10000 < 0x4000 then .ok (wordAt (portBytes s.xbr ((a - 0x03000000) / 0x10000)) (a % 0x10000))
    else .error 1
  else readAt s a

/-- An access to a queue port compares the queue's pointers (R311); no other address has anything that an access changes
(R305). -/
def touchPort (s : State) (a : Nat) : State :=
  if 0x03000000 ≤ a ∧ a < 0x03060000 ∧ a % 0x10000 < 0x4000 ∧ !s.xbr.fenced then touchQueue s ((a - 0x03000000) / 0x10000) else s

/-- One word read through the bridge; an error completes with all ones (R301). -/
def readOne (s : State) (a : Nat) : Word × State :=
  let s := touchPort s a
  match serviceRead s a with
  | .ok w => (w, { s with free := s.free + 1 })
  | .error c => (0xFFFFFFFF, accessError s a c false)

def readMany (s : State) (a : Nat) : Nat → List Word × State
  | 0 => ([], s)
  | n + 1 =>
    let r := readOne s a
    let more := readMany r.2 (a + 4) n
    (r.1 :: more.1, more.2)

/-! ## STATE_REPORT (R290) -/

/-- Identifiers of every used object and every defined route, ascending. -/
def reportIds (st : Station) : List Nat :=
  sortBy id (st.objects.map (·.idx)) ++ sortBy id (st.routes.map fun r => 0x8000 + r.num)

/-- The word of an identifier. -/
def reportWord (st : Station) (x : Inter) (i : Nat) : Nat :=
  if i ≥ 0x8000 then routeWord st x (i - 0x8000) else objectWord x i

/-- The entries of a report: those changed since the last one, up to the place there is, then up to 64 of the
rolling refresh. -/
def reportEntries (st : Station) (x : Inter) (u : Subscription) : List Nat × List Nat :=
  let ids := reportIds st
  let changed := (ids.filter fun i =>
    (u.seen.find? (·.1 == i)).map (·.2) != some (reportWord st x i)).take 1363
  let rolled := ((ids ++ ids).drop u.roll).take (min 64 (min ids.length (1363 - changed.length)))
  (changed, rolled)

/-- One report to a subscriber (R290). -/
def sendReport (s : State) (u : Subscription) : State :=
  let st := stationOf s
  let x := s.image.inter
  let (changed, rolled) := reportEntries st x u
  let all := changed ++ rolled
  let body := be 6 s.image.frame ++ be 2 s.image.msw ++ be 2 all.length ++ be 2 0
    ++ all.flatMap fun i => be 2 i ++ be 4 (reportWord st x i)
  let s1 := sendPlain s u.entry 2 0x59 0 (partnerAt s u.entry).addr body
  let n := (reportIds st).length
  let v := { u with seen := all.map (fun i => (i, reportWord st x i)) ++ u.seen.filter fun p => !all.contains p.1
                    roll := if n = 0 then 0 else (u.roll + rolled.length) % n }
  let subs := s1.cmd.subs.map fun w => if w.entry == u.entry then v else w
  { s1 with cmd := { s1.cmd with subs := subs } }

/-- Reports after the COMMIT of a frame (R290). -/
def sendReports (s : State) : State :=
  s.cmd.subs.foldl (fun s u => if u.period ≠ 0 ∧ s.image.frame % u.period = 0 then sendReport s u else s) s

end Sys2Proof.Machine
end

