-- ==== Sys2Proof/Machine/Bridge.lean ====
section
/-! DEFINITION. The commands of the exchange bridge and of single registers (R297 to R320, R12). -/

namespace Sys2Proof.Machine

open Sys2Proof

/-- A service access to the bridge's own registers: with the bridge fenced it ends with cause 8 and does
nothing else (R301, R320). -/
def unlessFenced (s : State) (a : Nat) (f : State → State) : State :=
  if s.xbr.fenced then accessError s a 8 true else f s

/-- FLATCH_CLEAR (R327): a write of 1 to FLATCH bits, where the lifecycle permits it (R284). -/
def execFlatchClear (src : Src) (blk : Blk) (mask : Word) (s : State) : Out :=
  if s.sec.life = .retired then .next s
  else .next (writeLatch s blk { addr := src.addr } mask)

/-- XBR_QACK (R308). -/
def execXbrQack (q iseq : Nat) (s : State) : Out :=
  .next (unlessFenced s 0x60060 fun s => ackQueue s q iseq)

/-- XBR_QPUSH (R309): the service processor pushes CMD_IN under semaphore 0; the vital side (`master` 0)
pushes queues 1 to 5 and never waits. -/
def execXbrQpush (q conn : Nat) (data : Bytes) (master : Nat) (s : State) : Out :=
  if master = 0 then
    if 1 ≤ q ∧ q ≤ 5 then .next (pushTo s q conn data) else .next s
  else if q = 0 then .next (unlessFenced s 0x60064 fun s => servicePush s master conn data)
  else .next (unlessFenced s 0x60064 fun s => accessError s 0x60064 9 true)

/-- XBR_QFLUSH (R310). -/
def execXbrQflush (q : Nat) (s : State) : Out :=
  .next (unlessFenced s 0x60068 fun s => if q ≤ 5 then flushQueues s (2 ^ q) else s)

/-- SEM_ACQUIRE (R303): REQ 1 with the master's OWNER number. -/
def execSemAcquire (n master now : Nat) (s : State) : Out :=
  let s := later s now
  .next (unlessFenced s (0x60020 + 4 * n) fun s => writeSem s n (mkWord [(31, 1), (0, master % 256)]))

/-- SEM_RELEASE (R303): REQ 0 with the holder's OWNER number. -/
def execSemRelease (n master : Nat) (s : State) : Out :=
  .next (unlessFenced s (0x60020 + 4 * n) fun s => writeSem s n (mkWord [(0, master % 256)]))

/-- SEMAPHORE_TIMEOUT (R303): a semaphore held for more than 1 ms is released; SEM_TIMEOUT is live for the
frame (R320). -/
def execSemaphoreTimeout (n now : Nat) (s : State) : Out :=
  let s := later s now
  match s.xbr.sems[n]? with
  | none => .next s
  | some m =>
    if m.req ∧ s.now > m.takenAt + 1000 then
      .next { s with xbr := { s.xbr with sems := s.xbr.sems.set n {}, sawSem := true } }
    else .next s

/-- TRANSFER_TIMEOUT (R300, R301). -/
def execTransferTimeout (addr : Nat) (write : Bool) (s : State) : Out :=
  .next (accessError s addr 4 write)

/-! ## Writes of the service processor (R297, R299 to R302, R309) -/

/-- A word written into a byte string at a byte address, least significant byte first (R9); zeros where the string ends
before. -/
def putWord (bs : Bytes) (o : Nat) (w : Word) : Bytes :=
  let padded := bs ++ List.replicate (o + 4 - bs.length) 0
  padded.take o ++ le 4 w.toNat ++ padded.drop (o + 4)

/-- A write into the inbound wafer window (R297, R312). What a segment carries stands in State as WAFER_SEGMENT brings
it; a word written here completes and has no reader in the model (log entry 7). -/
def inboundWrite (s : State) : Except Nat State :=
  if s.dpx.role ≠ .standby then .error 3 else if !s.xbr.winFree then .error 9 else .ok s

/-- A write into port 0 (R309): the item that the writer assembles; after a flush its remaining writes are discarded until
its next push (R310). -/
def portWrite (s : State) (o : Nat) (w : Word) : State :=
  let t := touchQueue s 0
  if t.xbr.portCut then t else { t with xbr := { t.xbr with port := putWord t.xbr.port o w } }

/-- A write into the windows (R297). -/
def windowWrite (s : State) (a : Nat) (w : Word) : Except Nat State :=
  if 0x02100000 ≤ a ∧ a < 0x02110000 then
    .ok { s with xbr := { s.xbr with xfer := putWord s.xbr.xfer (a - 0x02100000) w } }
  else if 0x02300000 ≤ a ∧ a < 0x02380000 then inboundWrite s
  else if 0x03000000 ≤ a ∧ a < 0x03004000 then .ok (portWrite s (a - 0x03000000) w)
  else if a < 0x02020000 ∨ (0x02200000 ≤ a ∧ a < 0x02300000)
      ∨ (0x03010000 ≤ a ∧ a < 0x03060000 ∧ a % 0x10000 < 0x4000) then .error 3
  else .error 1

/-- A service write to XBR_QPUSH (R309): the item is what stands in port 0, LEN bytes of it. -/
def qpushWrite (s : State) (master : Nat) (w : Word) : State :=
  if fieldOf w 16 3 = 0 then
    let n := fieldOf w 0 16
    servicePush s master (fieldOf w 28 4) (slice (s.xbr.port ++ List.replicate n 0) 0 n)
  else accessError s 0x60064 9 true

/-- A service write of one aligned word, or the cause of its error (R297, R299, R301). -/
def serviceWrite (s : State) (master a : Nat) (w : Word) : Except Nat State :=
  let orUnmapped := fun (t : Option State) => match t with
    | some t => .ok t
    | none => .error 1
  if a = 0x60064 then .ok (qpushWrite s master w)
  else if 0x60000 ≤ a ∧ a < 0x70000 then orUnmapped (writeAt s {} a w)
  else if 0x01000000 ≤ a ∧ a < 0x010E0000 then orUnmapped (writeStaging s (a - 0x01000000) w)
  else if a < 0x000E0000 then .error (if (regView s a).isSome then 3 else 1)
  else if a < 0x000F0000 ∧ s.sec.dbg ≠ .d0 then .error 3
  else if 0x02000000 ≤ a then windowWrite s a w
  else .error 1

/-- How many words a transfer moves (R302): of a write, its first and those after it. -/
def Transfer.size (t : Transfer) : Nat := if t.write then t.more.length + 1 else t.count

/-- Whether an address lies in register, observation or staging space, where no burst is permitted (R302). -/
def singleSpace (s : State) (a : Nat) : Bool :=
  a < 0x000E0000 || (a < 0x000F0000 && s.sec.dbg != .d0) || (0x01000000 ≤ a && a < 0x010E0000)

/-- The cause that ends a whole transfer before any of its words is looked at (R10, R301 to R303). Which cause is reported
where several hold is open. DESIGN CHOICE (log entry 116). -/
def transferCause? (s : State) (t : Transfer) (a : Nat) : Option Nat :=
  let n := t.size
  if s.xbr.fenced then some 8
  else if t.exclusive then some 6
  else if t.bytes ≠ 4 ∨ a % 4 ≠ 0 then some 2
  else if 1 < n ∧ singleSpace s a then some 7
  else none

/-- Words written at rising addresses, all of them or the cause of the first error. -/
def writeWords (master : Nat) : State → Nat → List Word → Except Nat State
  | s, _, [] => .ok s
  | s, a, w :: ws =>
    match serviceWrite s master a w with
    | .error c => .error c
    | .ok t => writeWords master t (a + 4) ws

/-- Words read at rising addresses, all of them or the cause of the first error. -/
def readWords (s : State) (a : Nat) : Nat → Except Nat (List Word)
  | 0 => .ok []
  | n + 1 =>
    match serviceRead s a with
    | .error c => .error c
    | .ok w => (readWords { s with free := s.free + 1 } (a + 4) n).map (w :: ·)

/-- The parts of a transfer of `n` words: it is cut at every 256-byte boundary (R302). -/
def partsOf (a : Nat) : Nat → Nat → List (Nat × Nat)
  | 0, _ => []
  | fuel + 1, n =>
    let m := min n ((256 - a % 256) / 4)
    if m = 0 then [] else (a, m) :: partsOf (a + 4 * m) fuel (n - m)

/-- One part of a write: a transfer of its own, carried out whole or, at an error, not at all (R301, R302). -/
def writePart (master : Nat) (p : State × List Word) (part : Nat × Nat) : State × List Word :=
  let (s, ws) := p
  match writeWords master s part.1 (ws.take part.2) with
  | .ok t => (t, ws.drop part.2)
  | .error c => (accessError s part.1 c true, ws.drop part.2)

/-- One part of a read: its words, or all ones (R301). -/
def readPart (s : State) (part : Nat × Nat) : State :=
  let t := touchPort s part.1
  match readWords t part.1 part.2 with
  | .ok ws => { t with free := t.free + part.2, xbr := { t.xbr with readData := t.xbr.readData ++ ws } }
  | .error c =>
    let u := accessError t part.1 c false
    { u with xbr := { u.xbr with readData := u.xbr.readData ++ List.replicate part.2 0xFFFFFFFF } }

/-- A service transfer (R300 to R302, R304): the RETRY terminations that it meets are counted and change nothing else; then
it completes, or ends as an error. A read writes nothing, so its `word` says nothing. -/
def serviceTransfer (s : State) (t : Transfer) (master a : Nat) (word : Word) : State :=
  let s1 := { s with xbr := { s.xbr with retry := satAdd 0xFFFFFFFF t.crossed s.xbr.retry, readData := [] } }
  let n := t.size
  match transferCause? s1 t a with
  | some c =>
    let s2 := accessError s1 a c t.write
    if t.write then s2 else { s2 with xbr := { s2.xbr with readData := List.replicate n 0xFFFFFFFF } }
  | none =>
    if t.write then ((partsOf a n n).foldl (writePart master) (s1, word :: t.more)).1
    else (partsOf a n n).foldl readPart s1

/-- A write of one word that the lanes make to carry out REG_WRITE (R291, R297): the live address of an
ST field and its staging address have the same effect (R299). -/
def laneWrite (s : State) (wr : Writer) (a : Nat) (w : Word) : Option State :=
  if a % 4 ≠ 0 then none
  else if 0x01000000 ≤ a ∧ a < 0x010E0000 then writeStaging s (a - 0x01000000) w
  else if a < 0x000E0000 then writeAt s wr a w
  else none

/-- REGISTER_WRITE (R10, R12): an access by the lanes for the address `writer`, or by the service processor's master
`writer` under R297; an access that ends as an error counts as one (R301). -/
def execRegisterWrite (acc : Access) (writer addr : Nat) (word : Word) (now : Nat) (s : State) : Out :=
  let s := later s now
  match acc with
  | .lanes =>
    .next ((laneWrite s { addr := writer } addr word).getD (accessError s addr (if addr % 4 ≠ 0 then 2 else 1) true))
  | .service t => .next (serviceTransfer s t writer addr word)

/-- A write to a clear register (R12). -/
def clrWrite (s : State) (a : Nat) (w : Word) : State := (writeClr s a w).getD s

/-- FRM_PHCLR (R70). -/
def execFrmPhclr (word : Word) (s : State) : Out := .next (clrWrite s 0x1003C word)

/-- PRL_CCLR (R153). -/
def execPrlCclr (word : Word) (s : State) : Out := .next (clrWrite s 0x30024 word)

/-- VOT_CLR (R183). -/
def execVotClr (word : Word) (s : State) : Out := .next (clrWrite s 0x2001C word)

/-- BST_CLR (R203). -/
def execBstClr (word : Word) (s : State) : Out := .next (clrWrite s 0xA0034 word)

/-- FRN_CLR (R239). -/
def execFrnClr (c : Cluster) (word : Word) (s : State) : Out :=
  .next (clrWrite s (0x40018 + 0x8000 * c.num) word)

/-- LIO_CLR (R267). -/
def execLioClr (word : Word) (s : State) : Out := .next (clrWrite s 0x5002C word)

/-- CMD_CLR (R295). -/
def execCmdClr (word : Word) (s : State) : Out := .next (clrWrite s 0xD0020 word)

/-- XBR_CLR (R319). -/
def execXbrClr (word : Word) (s : State) : Out := .next (clrWrite s 0x6001C word)

/-- DPX_CLR (R362). -/
def execDpxClr (word : Word) (s : State) : Out := .next (clrWrite s 0x70020 word)

/-- EVR_CLR (R406). -/
def execEvrClr (word : Word) (s : State) : Out := .next (clrWrite s 0x90024 word)

/-- PWR_CLR (R425). -/
def execPwrClr (word : Word) (s : State) : Out := .next (clrWrite s 0xB0008 word)

/-- BRIDGE_ECC (R301, R320): an uncorrectable error in bridge memory; the access ends with cause 5 and the
source is live until restart. -/
def execBridgeEcc (addr now : Nat) (s : State) : Out :=
  .next (raise (accessError (later s now) addr 5 false) .xbr xBRIDGE_ECC)

end Sys2Proof.Machine
end

