-- ==== Sys2Proof/Machine/Recorder.lean ====
section
/-! DEFINITION. The event recorder's commands (R392 to R407). -/

namespace Sys2Proof.Machine

open Sys2Proof

/-- A loss of records raises EVT_LOSS (R396). -/
def settleLoss (s : State) : State :=
  if s.evr.sawLoss then raise { s with evr := { s.evr with sawLoss := false } } .evr rEVT_LOSS else s

/-- The head of EVT_OUT is consumed (R308). -/
def popEvt (s : State) : State :=
  { s with xbr := setQueue s.xbr 2 consumeHead }

/-- EVENT_RECORD_TAKEN (R394, R395, R397): the head item is taken, numbered and stamped with the time of
its frame's tick; one whose LEN is wrong is discarded and counted as lost in EVT_OUT. -/
def execEventRecordTaken (now : Nat) (s : State) : Out :=
  let s0 := later s now
  let s := if s0.xbr.fenced || !svcRuns s0 then s0 else touchQueue s0 2
  match s.xbr.q2.items with
  | [] => .next s
  | i :: _ =>
    if s.xbr.fenced || !svcRuns s then .next s
    else if recLenField i.data + 16 != i.data.length then
      let e := s.evr
      .next (settleLoss { popEvt s with evr :=
        { e with lossLane := satAdd 65535 1 e.lossLane, lossAt := some s.now, sawLoss := true } })
    else .next (settleLoss (bufferRec (tellLoss (popEvt s)) s.evr.tickAt (recOfBytes i.data)))

/-- Whether a trigger of R397 holds. -/
def flushTrigger (s : State) : Bool :=
  s.evr.buffer.any (·.r.sev ≥ 1) || keptBytes s.evr.buffer ≥ 196608
    || s.now ≥ s.evr.lastFlush + 1000000

/-- FLUSH (R397). -/
def execFlush (now : Nat) (s : State) : Out :=
  let s := later s now
  if flushTrigger s && svcRuns s then .next (startFlush s) else .next s

/-- The number after the last of a batch, journalled with the flush (R395). -/
def afterLast (ks : List Kept) (dflt : Nat) : Nat :=
  match ks.getLast? with
  | some k => k.r.num + 1
  | none => dflt

/-- A further flush for the triggers that arose during one (R397). -/
def flushAgain (s : State) : State :=
  if s.evr.again then startFlush { s with evr := { s.evr with again := false } } else s

/-- The shut-down mark, once the flush of step 3 of R413 has committed (R397). -/
def markShutdown (s : State) : State :=
  if s.pwr.power = .holdup ∧ s.pwr.huStopped ∧ s.evr.flushing = none ∧ s.evr.buffer = [] then
    { s with evr := { s.evr with mark := true, closed := true } }
  else s

/-- CRC-32C over a batch's records (R397). -/
def batchCrc (ks : List Kept) : Nat := (crc32c (ks.flatMap fun k => recBytes k.r)).toNat

/-- A batch with its head and commit word. -/
def batchOf (ks : List Kept) : Batch :=
  { first := (ks.head?.map fun k => k.r.num).getD 0, count := ks.length, crc := batchCrc ks, recs := ks }

/-- A batch that start-up keeps: its commit word and its CRC are valid (R397). -/
def batchOk (b : Batch) : Bool := b.committed && b.count == b.recs.length && b.crc == batchCrc b.recs

/-- A batch committed in MRAM (R397). -/
def commitBatch (s : State) : State :=
  match s.evr.flushing with
  | none => s
  | some b =>
    let e := s.evr
    { s with evr := { e with mram := e.mram ++ [batchOf b], flushing := none
                             journal := afterLast b e.journal, mark := false } }

/-- FLUSH_END (R397, R398): the batch is committed and the next number journalled; a batch that a fault of
the MRAM kept from being written stays in the buffer and raises MRAM_ERR. -/
def execFlushEnd (ok : Bool) (now : Nat) (s : State) : Out :=
  let s := later s now
  match s.evr.flushing with
  | none => .next s
  | some b =>
    if ok then
      let s1 := lower (commitBatch s) .evr rMRAM_ERR
      .next (markShutdown (flushAgain s1))
    else
      let e := s.evr
      .next (raise { s with evr := { e with flushing := none, again := false, buffer := b ++ e.buffer } } .evr rMRAM_ERR)

/-- Bytes of a stored record: prefix of 8 and the record, padded to 8 (R399). -/
def storedBytes (k : Kept) : Nat := 8 + (recSize k.r + 7) / 8 * 8

/-- How many of a list of records fit a segment of 1 MiB with its head and seal (R398, R399). -/
def fitSegment : Nat → List Kept → Nat
  | _, [] => 0
  | room, k :: ks => if storedBytes k ≤ room then 1 + fitSegment (room - storedBytes k) ks else 0

/-- The first `n` records leave the MRAM (R398). -/
def dropRecs : Nat → List Batch → List Batch
  | _, [] => []
  | 0, bs => bs
  | n + 1, b :: bs =>
    if (batchLeft b).length ≤ n + 1 then dropRecs (n + 1 - (batchLeft b).length) bs
    else { b with moved := b.moved + (n + 1) } :: bs

/-- A stored record: OPSEC, PCC and CHK, the record, and zeros up to a multiple of 8 bytes (R399). -/
def storedRec (k : Kept) (chk : Nat) : Bytes :=
  let bs := be 4 k.opsec ++ be 2 k.pcc ++ be 2 chk ++ recBytes k.r
  bs ++ be ((8 - bs.length % 8) % 8) 0

/-- CHK of a record: the CRC-16 of R141 over it without padding (R399). -/
def recChk (k : Kept) : Nat := (crc16 (recBytes k.r)).toNat

/-- A segment's head before its CRC (R399). -/
def segHead (g : Segment) : Bytes := be 8 g.seq ++ be 8 g.first ++ be 4 g.count ++ g.prev ++ be 24 0

/-- The seal over a segment's head and its stored records (R399). -/
def sealOf (g : Segment) : Bytes :=
  sha384Bytes (segHead g ++ be 4 g.hcrc ++ (g.recs.zip g.chks).flatMap fun p => storedRec p.1 p.2)

/-- A segment as it is written and closed (R399). -/
def closeSegment (seq : Nat) (prev : Bytes) (ks : List Kept) : Segment :=
  let g : Segment := { seq := seq, first := (ks.head?.map fun k => k.r.num).getD 0, count := ks.length, prev := prev
                       hcrc := 0, recs := ks, chks := ks.map recChk, close := [] }
  let h := { g with hcrc := (crc32c (segHead g)).toNat }
  { h with close := sealOf h }

/-- SEGMENT_COPY (R398, R399): a segment's worth of records goes to the ring, is read back and leaves the
MRAM; one segment is kept erased. DESIGN CHOICE (log entry 129): the first segment of all has the sequence number 1 and a
seal of zeros for the one before it. A ring that cannot be written keeps the records in MRAM and
raises RING_ERR. At HOLDUP no copy is made. -/
def execSegmentCopy (ok : Bool) (s : State) : Out :=
  let e := s.evr
  let ks := mramKept e
  if mramBytes e < 1048576 || s.pwr.power = .holdup || !svcRuns s then .next s
  else if !ok then .next (raise s .evr rRING_ERR)
  else
    let n := fitSegment (1048576 - 144) ks
    let g := match e.ring.getLast? with
      | some p => closeSegment (p.seq + 1) p.close (ks.take n)
      | none => closeSegment 1 (be 48 0) (ks.take n)
    let ring := e.ring ++ [g]
    let e1 := { e with ring := if ring.length > 4095 then ring.drop 1 else ring
                       mram := dropRecs n e.mram }
    .next (lower { s with evr := e1 } .evr rRING_ERR)

/-- MARK: once per hour of operating time (R393). -/
def execMark (now : Nat) (s : State) : Out :=
  let s := later s now
  if s.now ≥ s.evr.markAt + 3600000000 && svcRuns s then
    .next (svcRec { s with evr := { s.evr with markAt := s.now } } 0x15 0 [])
  else .next s

/-! ## Lane diagnostic records (R405) -/

def diagOf (e : EvrBlk) : Lane → DiagRing
  | .l1 => e.diag1
  | .l2 => e.diag2
  | .l3 => e.diag3

def setDiag (e : EvrBlk) (l : Lane) (d : DiagRing) : EvrBlk :=
  match l with
  | .l1 => { e with diag1 := d }
  | .l2 => { e with diag2 := d }
  | .l3 => { e with diag3 := d }

/-- The newest records that 64 KiB hold. -/
def trimDiag : List Rec → List Rec
  | [] => []
  | r :: rs => if ((r :: rs).map recSize).sum > 65536 then trimDiag rs else r :: rs

/-- One item of a DIAG queue enters its lane's ring, numbered and stamped; one whose LEN is wrong is discarded. -/
def diagItem (s : State) (d : DiagRing) (i : QItem) : DiagRing :=
  if recLenField i.data + 16 != i.data.length then d
  else
    let (tq, t) := stampOf s s.evr.tickAt
    { recs := trimDiag (d.recs ++ [{ recOfBytes i.data with num := d.next, tq := tq, time := t }])
      next := (d.next + 1) % 2 ^ 32 }

/-- The service processor takes a lane's DIAG queue into its ring (R306, R405). -/
def takeDiag (s : State) (l : Lane) : State :=
  if s.xbr.fenced || !svcRuns s then s
  else
    let s := touchQueue s (2 + l.num)
    { s with evr := setDiag s.evr l ((queueOf s.xbr (2 + l.num)).items.foldl (diagItem s) (diagOf s.evr l))
             xbr := setQueue s.xbr (2 + l.num) (consume fun _ => true) }

/-- The three DIAG queues. DESIGN CHOICE (log entry 130): they are taken at every drain, and no command forms a lane
diagnostic record, for which the spec names no occasion. -/
def takeDiags (s : State) : State := Lane.all.foldl takeDiag s

/-! ## Time (R401 to R403) -/

/-- Calendar time in ns now, where known. -/
def utcNow? (s : State) : Option Int := s.evr.base.map fun b => b + 1000 * s.now

/-- A step of calendar time, with its TIME record (R393, R403). -/
def stepTime (s : State) (src : TimeSrc) (utc : Int) : State :=
  let old := (stampOf s s.now).2
  let s1 := { s with evr := { s.evr with base := some (utc - 1000 * s.now), tsrc := src } }
  svcRec s1 0x13 0 (be 1 src.code ++ be 1 0 ++ be 8 old ++ be 8 (stampOf s1 s1.now).2)

/-- Clamping of a correction to a slew of 500 ppm over the time since the last Sync (R403). -/
def slewBy (o : Int) (us : Nat) : Int :=
  let top : Int := us / 2
  if o > top then top else if o < -top then -top else o

/-- A Sync while locked: a correction of 1 ms or more is a step, a smaller one is slewed (R403). -/
def syncLocked (utc : Int) (s : State) : State :=
  match utcNow? s with
  | none => s
  | some u =>
    let o := u - utc
    let since := s.now - s.evr.syncAt.getD s.now
    let s1 := { s with evr := { s.evr with offset := o, syncAt := some s.now } }
    if o ≥ 1000000 || o ≤ -1000000 then stepTime s1 .ptp utc
    else { s1 with evr := { s1.evr with base := s1.evr.base.map fun b => b - slewBy o since } }

/-- A Sync before lock: 16 consecutive intervals within 10 µs lock the clock (R402); the lock is a step
(R403). -/
def syncUnlocked (utc : Int) (s : State) : State :=
  let here := utc - 1000 * s.now
  let good := match s.evr.ptpBase with
    | some b => decide (b - here ≤ 10000 ∧ here - b ≤ 10000)
    | none => false
  let n := if good then s.evr.goodSyncs + 1 else 0
  let s1 := { s with evr := { s.evr with ptpBase := some here, goodSyncs := n, syncAt := some s.now } }
  if n ≥ 16 then
    lower (stepTime { s1 with evr := { s1.evr with lock := true, offset := 0 } } .ptp utc) .evr rTIME_HOLD
  else s1

/-- PTP_SYNC (R402, R403): a Sync of another domain, or with PTP disabled, is not taken. -/
def execPtpSync (domain : Nat) (utc : Int) (now : Nat) (s : State) : Out :=
  let s := later s now
  if fieldOf s.cfg.evrCtl 8 1 = 0 || domain != fieldOf s.cfg.evrCtl 0 8 || !svcRuns s then .next s
  else .next (if s.evr.lock then syncLocked utc s else syncUnlocked utc s)

/-- PTP_UNLOCK: no valid Sync for 5 s (R402). -/
def execPtpUnlock (now : Nat) (s : State) : Out :=
  let s := later s now
  match s.evr.syncAt with
  | none => .next s
  | some t =>
    if s.now < t + 5000000 then .next s
    else
      let s1 := { s with evr := { s.evr with goodSyncs := 0, ptpBase := none, syncAt := none } }
      if s.evr.lock then
        .next (raise { s1 with evr := { s1.evr with lock := false, tsrc := .held } } .evr rTIME_HOLD)
      else .next s1

/-- The RTC takes the calendar time (R403). -/
def writeRtc (s : State) : State :=
  match utcNow? s with
  | none => s
  | some u => { s with evr := { s.evr with rtc := some u, rtcAt := s.now } }

/-- RTC_WRITE: every 60 s (R403). -/
def execRtcWrite (now : Nat) (s : State) : Out :=
  let s := later s now
  if s.now ≥ s.evr.rtcAt + 60000000 then .next (writeRtc s) else .next s

end Sys2Proof.Machine
end

