-- ==== Sys2Proof/Machine/Access.lean ====
section
/-! DEFINITION. Who may send what: steps 7 and 8 of R282 with the lifecycle (R284), the maintenance session (R409),
recovery mode (R387), the keyless state (R421) and a fenced bridge (R320). -/

namespace Sys2Proof.Machine

open Sys2Proof

/-- Whether a partner may send a class at all: it is in the partner table and has the class (R271, R282 step
8). -/
def hasClass (s : State) (src : Src) (c : Class) : Bool :=
  let p := partnerAt s src.entry
  p.addr != 0xFFFF && p.classes / 2 ^ classBit c % 2 == 1

/-- What steps 7 and 8 give: the packet passes, it is answered with a status, or nothing is sent. -/
inductive Gate
  | pass
  | answer (st : Status)
  | silent
  deriving DecidableEq, Repr

/-- The opcodes available under VER 0x01 (R283). -/
def oldVersion (opc : Nat) : Bool := opc == 0x50 || opc == 0x51 || opc == 0x52 || opc == 0x55 || opc == 0xE0

/-- The opcodes served in recovery mode (R387). -/
def recoveryServes (opc : Nat) : Bool :=
  opc == 0x80 || opc == 0x81 || opc == 0x50 || opc == 0x51 || (0xC0 ≤ opc && opc ≤ 0xC4) || opc == 0x91

/-- The lifecycle's answer to a class, none where it admits it (R284). -/
def lifeRefuses (l : Life) (opc : Nat) : Option Status :=
  match classOf opc, l with
  | .vital, .factory => some .notAuth
  | .vital, .retired => some .notAuth
  | .maint, .sealed => if opc == 0x88 || opc == 0x8A || opc == 0x8D then some .badState else none
  | .maint, .retired => if opc == 0x80 || opc == 0x81 || opc == 0x82 || opc == 0x8E then none else some .notAuth
  | .update, .retired => some .notAuth
  | _, _ => none

/-- The sending partner holds the maintenance session (R284, R409). -/
def inSession (s : State) (src : Src) : Bool :=
  match s.sec.session with
  | some k => k.entry == src.entry && k.addr == (partnerAt s src.entry).addr
  | none => false

def needsSession (opc : Nat) : Bool := (classOf opc = .maint || classOf opc = .update) && opc != 0x80

/-- Maintenance and update opcodes that the service processor carries out without the bridge (R320, R291). -/
def withoutBridge (opc : Nat) : Bool :=
  opc == 0x80 || opc == 0x81 || opc == 0x90 || opc == 0x91 || opc == 0x92 || opc == 0xC2

/-- Steps 7 and 8 of R282 for a command of a partner entry that is not vital. -/
def gateOf (s : State) (src : Src) (opc : Nat) : Gate :=
  let p := partnerAt s src.entry
  if p.addr = 0xFFFF ∨ !svcRuns s then .silent
  else if (s.upd.recov || s.sec.keyless) && p.conn != 13 then .silent
  else if src.ver = 1 ∧ !oldVersion opc then .answer .badOpc
  else if s.upd.recov && !recoveryServes opc then .answer .badState
  else if !hasClass s src (classOf opc) then .answer .notAuth
  else match lifeRefuses s.sec.life opc with
    | some st => .answer st
    | none =>
      if needsSession opc && !inSession s src then .answer .notAuth
      else if s.sec.keyless && classOf opc = .diag then .answer .badState
      else if s.xbr.fenced && (classOf opc = .maint || classOf opc = .update) && !withoutBridge opc then .answer .badState
      else .pass

/-- A valid packet has come from a partner: its silence ends and its session goes on (R296, R409). -/
def hearFrom (s : State) (entry : Nat) : State :=
  let c := s.cmd
  let live := fun (k : Session) => if k.entry == entry then { k with lastAt := s.now } else k
  { s with cmd := { c with heard := (entry, s.now) :: c.heard.filter (·.1 != entry), silent := c.silent.filter (· != entry) }
           sec := { s.sec with session := s.sec.session.map live } }

/-- A command that the service processor answers. -/
def gated (s : State) (src : Src) (opc : Nat) (f : State → State) : State :=
  match gateOf s src opc with
  | .silent => s
  | .answer st => reply (if st = .badOpc then s else countOther s) src opc st []
  | .pass => f (hearFrom s src.entry)

end Sys2Proof.Machine
end

