-- ==== Sys2Proof/Machine/Commit.lean ====
section
/-! DEFINITION. Staging and COMMIT (R313 to R315): the consistency check of the staged configuration and
partner table, its application, and what follows from a changed value (R185, R358). -/

namespace Sys2Proof.Machine

open Sys2Proof

/-! ## The consistency check (R314) -/

/-- Ranges of the ST fields: lowest bit, width, least and greatest value (the register tables). -/
def fieldRanges : StReg → List (Nat × Nat × Nat × Nat)
  | .frmCtl => [(8, 8, 5, 50), (0, 3, 0, 5)]
  | .frmOvr => [(8, 2, 0, 3), (0, 5, 0, 25)]
  | .votCtl => [(8, 3, 1, 7), (0, 8, 1, 168)]
  | .prlCtl => [(0, 8, 1, 168)]
  | .frnCtl0 => [(8, 4, 2, 8), (0, 4, 2, 8)]
  | .frnCtl1 => [(8, 4, 2, 8), (0, 4, 2, 8)]
  | .lioCtl => [(16, 8, 1, 60), (8, 8, 1, 60), (0, 8, 10, 250)]
  | .dpxCtl => [(24, 6, 1, 32), (16, 8, 20, 200), (8, 8, 2, 50), (0, 2, 0, 2)]
  | .updCtl => [(16, 8, 5, 120), (8, 8, 1, 60)]
  | .evrCtl => [(0, 8, 0, 127)]
  | .bstCtl => [(8, 8, 10, 240), (0, 5, 1, 24)]
  | .secCtl => [(0, 8, 5, 120)]
  | .cmdCtl => [(16, 16, 1, 65535), (0, 8, 1, 250)]
  | .cmdAddr => [(8, 3, 0, 2)]
  | _ => []

/-- Whether the field is staged: its staged value differs from its value in effect (R313). -/
def fieldStaged (s : State) (r : StReg) (lsb width : Nat) : Bool :=
  fieldOf (stagedOf s r) lsb width != fieldOf (cfgGet s.cfg r) lsb width

/-- A staged field outside its range (R314 step 1). -/
def rangeFails (s : State) (r : StReg) : Bool :=
  (fieldRanges r).any fun f =>
    let v := fieldOf (stagedOf s r) f.1 f.2.1
    fieldStaged s r f.1 f.2.1 && !(f.2.2.1 ≤ v && v ≤ f.2.2.2)

/-- The block whose FSEV a register is. -/
def fsevBlock? (r : StReg) : Option Blk := Blk.all.find? fun b => fsevReg b = r

/-- A severity FENCE staged for a source of a block without a fence unit (R330). -/
def fenceFails (s : State) (r : StReg) : Bool :=
  match fsevBlock? r with
  | none => false
  | some b => !hasFenceUnit b && (List.range (sourceCount b)).any fun n =>
      fieldStaged s r (2 * n) 2 && fieldOf (stagedOf s r) (2 * n) 2 == 2

/-- A combined rule: whether it fails on the staged configuration, and the fields it involves as
register, lowest bit and width. -/
structure Combined where
  fails : Bool
  fields : List (StReg × Nat × Nat)

/-- EVALUATE worst case of the active marzipan image in µs. -/
def activeWcet (s : State) : Nat := (s.mzp.map (·.wcetUs)).getD 0

/-- R49: the EVALUATE budget of 45 % of *T* holds the worst case. -/
def wcetFits (c : Cfg) (wcet : Nat) : Bool := wcet * 100 ≤ periodUs c * 45

/-- The combined rules of R314 step 2. -/
def combinedRules (s : State) : List Combined :=
  let c := stagedCfg s
  let period := (StReg.frmCtl, 0, 3)
  [ { fails := !wcetFits c (activeWcet s), fields := [period] },
    { fails := skewUs c * 40 > periodUs c, fields := [period, (.frmCtl, 8, 8)] },
    { fails := toffeeUs c * 100 < 2 * periodUs c * (100 + 2 * ovrExt c)
      fields := [period, (.frmOvr, 0, 5), (.dpxCtl, 8, 8)] },
    { fails := !hasKey s 2 0 (permitKsel c), fields := [(.prlCtl, 8, 1)] },
    { fails := fieldOf c.frnCtl0 16 2 == 0, fields := [(.frnCtl0, 16, 2)] },
    { fails := fieldOf c.frnCtl1 16 2 == 0, fields := [(.frnCtl1, 16, 2)] },
    { fails := fieldOf c.updCtl 8 8 ≥ fieldOf c.updCtl 16 8, fields := [(.updCtl, 8, 16)] },
    { fails := keyedLanes s (laneKsel c) < 2, fields := [(.secCtl, 8, 1)] } ]

/-- The lowest-addressed register with a staged field that a failing rule involves (R314). -/
def combinedNames (s : State) (k : Combined) : Option Nat :=
  if k.fails then
    ((k.fields.filter fun f => fieldStaged s f.1 f.2.1 f.2.2).map fun f => f.1.addr).min?
  else none

/-! ## The partner table (R269 to R271) -/

/-- The table that a COMMIT would put into effect. -/
def stagedTable (s : State) : List Partner :=
  s.stagedPartners.foldl (fun ps p => ps.set p.1 p.2) s.cmd.partners

/-- Classes a partner on a connector may be given (R269): witness, query and diagnostic on X10; vital
control, query and diagnostic on X11 and X12; query, maintenance, update and diagnostic on X13. -/
def classesOn (conn : Nat) : Nat :=
  match conn with
  | 10 => 0x32
  | 11 => 0x13
  | 12 => 0x13
  | 13 => 0x1E
  | _ => 0

/-- The check of R271 on entry `n` of a table. -/
def partnerFails (c : Cfg) (ps : List Partner) (n : Nat) (p : Partner) : Bool :=
  if p.addr = 0xFFFF then false
  else
    let others := (ps.zipIdx.filter fun q => q.2 != n && q.1.addr != 0xFFFF).map (·.1)
    let kind := p.addr / 256 % 8
    let pair := p.addr / 2048
    let vital := p.classes % 2 = 1
    p.classes &&& classesOn p.conn != p.classes
      || others.any (fun q => q.addr == p.addr || (q.ip == p.ip && q.udpp == p.udpp))
      || (others.filter (·.conn == p.conn)).length ≥ 16
      || (vital && !(kind == 4 || (kind ≤ 1 && pair != ownPair c)))

/-- Addresses of the staged partner entries that fail (R314: `CMD_PTN_n`). -/
def partnerNames (s : State) : List Nat :=
  let ps := stagedTable s
  s.stagedPartners.filterMap fun p =>
    if partnerFails (stagedCfg s) ps p.1 ((ps[p.1]?).getD {}) then some (0xD0100 + 4 * p.1) else none

/-- Whether a register or partner entry is staged (R314 result 2). -/
def anythingStaged (s : State) : Bool :=
  !(stagedRegs s).isEmpty || s.stagedPartners.any fun p => tableEntry s p.1 != p.2

/-- The consistency check: the lowest address that a failing check names, none where every check passes
(R314). -/
def commitCheck (s : State) : Option Nat :=
  let ranges := (StReg.all.filter fun r => rangeFails s r || fenceFails s r).map StReg.addr
  (ranges ++ (combinedRules s).filterMap (combinedNames s) ++ partnerNames s).min?

/-! ## Application -/

/-- Recalculation of a lane's due time at a change of INTV, from the end of its last test (R185); a lane not tested yet is
due at its share of the new interval after the anchor (DEDUCED, log entry 122). A test that a latent mark makes due stays
so (R187), and one that has started gets its due time at its end (R201). -/
def redue (s : State) (c : Cfg) (b : BstBlk) (l : Lane) : BstBlk :=
  let intv := 3600000000 * fieldOf c.bstCtl 0 5
  let t := testOf b l
  let next := match t.lastEnd with
    | some e => some (e + intv)
    | none => b.anchor.map (· + l.num * intv / 3)
  if (laneOf s.vot l).latent then setTest b l fun t => { t with sched := next }
  else if t.due.isNone then b
  else setTest b l fun t => { t with due := next, isDue := decide ((next.getD 0) ≤ s.now) }

/-- The lanes that a live source of the vote or of the proof test names. -/
def namedLanes (s : State) (b : Blk) (n : Nat) : List Lane :=
  match b with
  | .vot => if n = vLATENT then Lane.all.filter fun l => (laneOf s.vot l).latent else []
  | .bst => Lane.all.filter fun l =>
      let t := testOf s.bst l
      (n = bPT_HOLD && t.hold) || (n = bPT_LATE && t.late) || (n = bRESTORE_FAIL && t.restoreFail)
        || (n = bKEYZ_FAIL && t.keyzFail)
  | _ => []

/-- The reaction of a live source whose severity a COMMIT raised, the record among it (R333, R338). -/
def reactRaised (old : Cfg) (s : State) (b : Blk) : State :=
  (List.range (sourceCount b)).foldl (fun s n =>
    if isLive s b n && (sevOf old b n).code < (sevOf s.cfg b n).code then
      let sev := sevOf s.cfg b n
      let ls := namedLanes s b n
      let s1 := faultRec s b n sev
      if ls.isEmpty then react s1 b n sev none else ls.foldl (fun s l => react s b n sev (some l)) s1
    else s) s

/-- Application of every staged value (R314 result 0); the watch of a new partner entry begins (R271, R296). -/
def applyStaged (s : State) : State :=
  let old := s.cfg
  let new := stagedCfg s
  let changed := s.stagedPartners.map (·.1)
  let heard := changed.map (fun n => (n, s.now)) ++ s.cmd.heard.filter fun p => !changed.contains p.1
  let s1 := { s with cfg := new, staged := [], stagedPartners := []
                     cmd := { s.cmd with partners := stagedTable s, heard := heard }
                     xbr := { s.xbr with cgen := (s.xbr.cgen + 1) % 256 }
                     upd := { s.upd with saved := false } }
  let s2 := if toffeeUs old ≠ toffeeUs new then sendConfigSet s1 1 (toffeeUs new / 1000) else s1
  let s3 := if periodUs old ≠ periodUs new then sendConfigSet s2 2 (periodUs new / 1000) else s2
  let s4 := if fieldOf old.bstCtl 0 5 ≠ fieldOf new.bstCtl 0 5 then
      { s3 with bst := Lane.all.foldl (redue s3 new) s3.bst }
    else s3
  Blk.all.foldl (reactRaised old) (retryRefused s4)

/-- CONFIG record of a COMMIT (R393). -/
def commitRecord (s : State) (result addr : Nat) : State :=
  frameRec s 0x08 0 (be 1 1 ++ be 1 result ++ be 4 addr)

/-- One evaluation of a COMMIT: the result and the address it names (R314). -/
def evalCommit (s : State) : State :=
  let done := fun (s : State) (r a : Nat) =>
    commitRecord { s with xbr := { s.xbr with cpend := false, cresult := r, cadr := a
                                              cfc := s.core.counter % 2 ^ 24 } } r a
  if !anythingStaged s then done s 2 0
  else match commitCheck s with
    | some a => done s 1 a
    | none => done (applyStaged s) 0 0

/-- STAGE_DISCARD: every staging copy and staged partner entry returns to the value in effect (R314). -/
def discardStaged (s : State) : State := { s with staged := [], stagedPartners := [] }

end Sys2Proof.Machine
end

