-- ==== Sys2Proof/Machine/Exchange.lean ====
section
/-! DEFINITION. Banks and what follows from a change of the active bank (R365, R366, R382 to R385), and the
remap of the committed state to another instance layout (R379 to R381). -/

namespace Sys2Proof.Machine

open Sys2Proof

/-! ## Banks -/

/-- The numbers of a part's bank pairs, as R390 indexes them. -/
def pairNums : Part → List Nat
  | .lfw => [0, 1, 2]
  | .prt => [3]
  | .mzp => [4]
  | .svc => [5]
  | .ocf => [6]

def setUpdPair (u : UpdBlk) (n : Nat) (f : BankPair → BankPair) : UpdBlk :=
  match n with
  | 0 => { u with lfw1 := f u.lfw1 }
  | 1 => { u with lfw2 := f u.lfw2 }
  | 2 => { u with lfw3 := f u.lfw3 }
  | 3 => { u with prt := f u.prt }
  | 4 => { u with mzp := f u.mzp }
  | 5 => { u with svc := f u.svc }
  | _ => { u with ocf := f u.ocf }

def mapPairs (u : UpdBlk) (f : BankPair → BankPair) : UpdBlk :=
  (List.range 7).foldl (fun u n => setUpdPair u n f) u

def anyPair (u : UpdBlk) (p : BankPair → Bool) : Bool := (List.range 7).any fun n => p (updPair u n)

/-- BANK_BAD follows the banks (R340). -/
def noteBanks (s : State) : State :=
  setLive s .upd uBANK_BAD (anyPair s.upd fun p => p.a.state = .bad || p.b.state = .bad)

/-- An image of a part cannot read the settings in force (R340, R385). -/
def unreadable (s : State) (part : Part) : State :=
  raise { s with upd := { s.upd with incompat := some part } } .upd uSETTINGS_INCOMPATIBLE

/-- A transfer overwrites the bank of a part's new image: what was raised of that image ends. DESIGN CHOICE (log entry 128). -/
def bankRewritten (s : State) (part : Part) : State :=
  let s1 := noteBanks s
  if s1.upd.incompat = some part then lower { s1 with upd := { s1.upd with incompat := none } } .upd uSETTINGS_INCOMPATIBLE else s1

/-- One bank of a pair: B where `onB` says so. -/
def bankOn (p : BankPair) (onB : Bool) : Bank := if onB then p.b else p.a

def setBank (p : BankPair) (onB : Bool) (f : Bank → Bank) : BankPair :=
  if onB then { p with b := f p.b } else { p with a := f p.a }

/-- The other bank becomes the active one, each with its new state; a bank without an image that has run keeps its
state. -/
def switchPair (new old : BankSt) (p : BankPair) : BankPair :=
  let was := fun (b : Bank) => if b.state = .confirmed ∨ b.state = .unconfirmed then { b with state := old } else b
  let q := setBank (setBank p (!p.onB) fun b => { b with state := new }) p.onB was
  { q with onB := !p.onB }

/-- UPDATE record of a bank's new state (R393). The spec gives its SEV as 0 or 1 and not when which, so it is a
free value (log entry 7). -/
def bankRecord (s : State) (part : Part) (st : BankSt) (img : Nat) : State :=
  let (w, s1) := takeFree s
  frameRec s1 0x0A (w.toNat % 2) (be 1 part.code ++ be 1 st.code ++ be 4 img)

def setPairs (s : State) (part : Part) (f : BankPair → BankPair) : State :=
  { s with upd := (pairNums part).foldl (fun u n => setUpdPair u n f) s.upd }

/-- A part's other banks become active (R375, R384). -/
def switchPart (s : State) (part : Part) (new old : BankSt) : State :=
  let s1 := setPairs s part (switchPair new old)
  let n := ((pairNums part).head?).getD 0
  bankRecord s1 part new (hdrImgId (activeBank (updPair s1.upd n)).header)

/-- The confirm window opens (R382). -/
def openWindow (s : State) (part : Part) (withPrt : Bool) : State :=
  let u : Unconf := { part := part, since := s.now, healthyFrom := s.now, withPrt := withPrt }
  raise { s with upd := { s.upd with unconf := some u } } .upd uCONFIRM_PENDING

def closeWindow (s : State) : State := lower { s with upd := { s.upd with unconf := none } } .upd uCONFIRM_PENDING

/-- SETFMT of an image header (R366). -/
def hdrSetFmt (h : Bytes) : Nat := fieldAt h 40 2
def hdrSetMin (h : Bytes) : Nat := fieldAt h 42 2
def hdrEpoch (h : Bytes) : Nat := fieldAt h 7 1

/-- The settings that stand in the area (R385). -/
def storedSettings (s : State) : Settings :=
  match s.upd.copyA, s.upd.copyB with
  | some a, some b => if a.intact then a else b
  | some a, none => a
  | none, some b => b
  | none, none => { fmt := s.upd.setfmt, cfg := s.cfg, partners := s.cmd.partners }

/-- The settings area at a confirmation with another format: the retained copy in the old one, then B, then A
(R385). -/
def rewriteSettings (s : State) (fmt : Nat) : State :=
  if fmt = s.upd.setfmt then s
  else
    let old := storedSettings s
    let new := { old with fmt := fmt, intact := true }
    { s with upd := { s.upd with retained := some old, copyB := some new, copyA := some new, setfmt := fmt } }

/-- Confirmation of the UNCONFIRMED part (R383, R385). -/
def confirmPart (s : State) : State :=
  match s.upd.unconf with
  | none => s
  | some u =>
    let n := ((pairNums u.part).head?).getD 0
    let h := (activeBank (updPair s.upd n)).header
    let s1 := if u.part = .lfw ∨ u.part = .svc then rewriteSettings s (hdrSetFmt h) else s
    let set_ := fun (p : BankPair) => setBank p p.onB fun b => { b with state := .confirmed }
    let s2 := setPairs s1 u.part set_
    let s3 := if u.withPrt then setPairs s2 .prt set_ else s2
    closeWindow (bankRecord s3 u.part .confirmed (hdrImgId h))

/-- Whether the health condition of the UNCONFIRMED part holds now (R382). -/
def healthHolds (s : State) (u : Unconf) : Bool :=
  let odd := isLive s .vot vODD_LANE || isLive s .vot vSIG_FAIL
  let mzp := !anySafeStopLive s && !odd && !isLive s .frm fBUDGET
  match u.part with
  | .lfw => !odd && !isLive s .vot vRESYNC_FAIL
      && Lane.all.all (fun l => isVoting s.vot l || s.dpx.role = .standby || s.dpx.role = .witness)
      && [s.upd.lfw1, s.upd.lfw2, s.upd.lfw3].all fun p => (activeBank p).state = .unconfirmed
  | .svc => s.cmd.partners.zipIdx.all fun p => p.1.addr == 0xFFFF || p.1.silent == 0 || !s.cmd.silent.contains p.2
  | .mzp => mzp && (!u.withPrt || (!s.prl.fenced && !isLive s .prl pINST_OUT && !isLive s .prl pLOCK_MISMATCH))
  | _ => true

/-- A source named for the part restarts the HEALTH time (R382). -/
def watchHealth (s : State) : State :=
  match s.upd.unconf with
  | none => s
  | some u =>
    if healthHolds s u then s
    else { s with upd := { s.upd with unconf := some { u with healthyFrom := s.now, healthy := false } } }

/-- Confirmation at the drain, where it does not wait for UPD_CONFIRM (R383). -/
def confirmDue (s : State) : State :=
  if (s.upd.unconf.map (·.healthy)).getD false && fieldOf s.cfg.updCtl 0 1 = 0 then confirmPart s else s

/-! ## Remap (R379 to R381) -/

/-- The instances of a layout that take nothing over from another one: those that the table does not map, and
those that break a condition of R380. -/
def unmappedOf (old new : Station) (table : List UnmappedInst) : List UnmappedInst :=
  table
    ++ (new.objects.filter fun d => !old.objects.any fun e => e.idx == d.idx && e.ty = d.ty).map (fun d => .object d.idx)
    ++ (new.groups.filter fun d => !old.groups.contains d).map (fun d => .group d.num)
    ++ (new.timers.filter fun d => !old.timers.any fun e => e.num == d.num && e.kind = d.kind && e.presetMs == d.presetMs).map
        (fun d => .timer d.num)
    ++ (new.edges.filter fun d => !old.edges.any fun e => e.num == d.num && e.input = d.input && e.restr == d.restr).map
        (fun d => .edge d.num)
    ++ (new.latches.filter fun d => !old.latches.any fun e => e.num == d.num && e.restr == d.restr).map
        (fun d => .latch d.num)

/-- The committed state in another layout (R380). -/
def remapInter (old new : Station) (table : List UnmappedInst) (x : Inter) : Inter :=
  let un := unmappedOf old new table
  { x with
    objs := new.objects.map fun d => if un.contains (.object d.idx) then coldObj d else (objOf? x d.idx).getD (coldObj d)
    groups := new.groups.map fun d => if un.contains (.group d.num) then coldGroup d else (grpOf? x d.num).getD (coldGroup d)
    timers := new.timers.map fun d => if un.contains (.timer d.num) then coldTimer d else (timerOf? x d.num).getD (coldTimer d)
    edges := new.edges.map fun d => if un.contains (.edge d.num) then coldEdge d else (edgeOf? x d.num).getD (coldEdge d)
    latches := new.latches.map fun d => if un.contains (.latch d.num) then coldLatch d else (latchOf? x d.num).getD (coldLatch d)
    prlObjs := new.objects.map fun d => (prlOf? x d.idx).getD { idx := d.idx, rep := substituteRep d.ty }
    tripCmd := new.tripSignal.zipIdx.map fun p => (x.tripCmd[p.2]?).getD false
    unmapped := un, unmappedFor := new.settle }

/-- What the table towards `new` leaves unmapped when coming from the image `base` (R380), none where it does not
map from there. -/
def forwardTable? (new : Station) (base : Nat) : Option (List UnmappedInst) :=
  (new.migration.find? (·.baseImg == base)).map (·.unmapped)

/-- The reverse table of `cur` back to the image `base`. -/
def reverseTable? (cur : Station) (base : Nat) : Option (List UnmappedInst) :=
  (cur.migration.find? (·.baseImg == base)).map (·.reverseUnmapped)

/-- Station data of a bank. -/
def bankStation? (b : Bank) : Option Station :=
  match b.content with
  | .mzp st => some st
  | _ => none

def bankPrt? (b : Bank) : Option Prt :=
  match b.content with
  | .prt p => some p
  | _ => none

/-- The preloads of an exchange are dropped. -/
def dropPreloads (v : VotBlk) : VotBlk := allLanes v fun b => { b with preloaded := false }

/-- The exchange itself: remap, bank switch, and the confirm window or the end of the fallback (R379, R384). -/
def doExchange (s : State) (e : Exchange) : State :=
  match s.mzp, bankStation? (otherBank s.upd.mzp) with
  | some old, some new =>
    let table := ((if e.back then reverseTable? old new.imgId else forwardTable? new old.imgId)).getD []
    let s1 := retryRefused { s with
      mzp := some new, core := remapInter old new table s.core, vot := dropPreloads s.vot
      upd := { s.upd with exchange := none, xframe := s.core.counter + 1 } }
    if e.back then
      let s2 := switchPart s1 .mzp .confirmed (if e.reject then .rejected else .previous)
      closeWindow { s2 with upd := { s2.upd with fbk := false } }
    else openWindow (switchPart s1 .mzp .unconfirmed .previous) .mzp false
  | _, _ => s

/-- The exchange at the drain before its frame, or at the first later one at which three lanes are VOTING and
every lane has completed its preload (R379). -/
def exchangeDrain (s : State) : State :=
  match s.upd.exchange with
  | none => s
  | some e =>
    if s.core.counter + 1 ≥ e.frame && (votingLanes s.vot).length == 3 && Lane.all.all (fun l => (laneOf s.vot l).preloaded)
        && !s.sys.stopped then doExchange s e
    else if s.core.counter + 1 ≥ e.frame && e.due.isNone then
      { s with upd := { s.upd with exchange := some { e with due := some (s.frm.tick + s.frm.T) } } }
    else s

/-! ## Fallback (R384) -/

/-- FALLBACK stays live until the next restart (R340). -/
def tellFallback (s : State) (auto : Bool) : State :=
  raise { s with upd := { s.upd with fbkAuto := auto } } .upd uFALLBACK

def lanePair (l : Lane) : Nat := l.num - 1

/-- The bank pair of one lane switches, and the lane boots from it (R377, R384). -/
def laneSwitch (s : State) (l : Lane) (new old : BankSt) : State :=
  let s1 := { s with upd := setUpdPair s.upd (lanePair l) (switchPair new old)
                     vot := setLane s.vot l fun b => { b with booting := true, why := .update, wantIn := false
                                                              wantBoot := false, tries := 0 } }
  bankRecord s1 .lfw new (hdrImgId (activeBank (updPair s1.upd (lanePair l))).header)

/-- A lane returns to its previous bank. -/
def laneBack (s : State) (l : Lane) : State :=
  laneSwitch s l .confirmed (if s.upd.fbkAuto then .rejected else .previous)

/-- Whether a lane runs an UNCONFIRMED image. -/
def onNewBank (s : State) (l : Lane) : Bool := (activeBank (updPair s.upd (lanePair l))).state = .unconfirmed

/-- Lanes that run the firmware that a fallback leaves: what is UNCONFIRMED, and where nothing is, what has a
predecessor. -/
def fallsBack (s : State) (l : Lane) : Bool :=
  let p := updPair s.upd (lanePair l)
  onNewBank s l || (!Lane.all.any (onNewBank s) && (otherBank p).state = .previous)

/-- Every lane on the new bank is to go back, lane by lane (R377, R384). -/
def lfwFallback (s : State) (auto : Bool) : State :=
  let v := Lane.all.foldl (fun v l => if fallsBack s l then setLane v l fun b => { b with wantBoot := true } else v) s.vot
  tellFallback { s with vot := v, upd := { s.upd with fbk := true } } auto

/-- The fallback of the lane firmware ends once every lane has left the new image. -/
def lfwFallbackEnd (s : State) : State :=
  if s.upd.fbk && s.upd.exchange.isNone && s.upd.svcAt.isNone && s.upd.fbkTo.isEmpty
      && !Lane.all.any (fun l => (laneOf s.vot l).wantBoot) then
    let s1 := { s with upd := { s.upd with fbk := false } }
    if (s.upd.unconf.map (·.part)) == some .lfw then closeWindow s1 else s1
  else s

/-- A lane that fails to boot or to come back on the new firmware falls back at once, and the rest of the part
with it (R377). -/
def laneFails (s : State) (l : Lane) : State :=
  if onNewBank s l then laneBack (lfwFallback s true) l else s

end Sys2Proof.Machine
end

