-- ==== Sys2Proof/Machine/Tables.lean ====
section
/-! DEFINITION. The tables of the images whose byte layout the spec gives: object descriptors (R72), and of the Praline table
image its header, conflict matrix, aspect map, guard records, page CRC table and footprint words (R130, R131, R148). What else
an image says comes as it is (log entry 6). -/

namespace Sys2Proof.Machine

open Sys2Proof

/-! ## Object descriptors (R72) -/

/-- TYPE; none for an unused index and for a value that is invalid. -/
def objTyOf? : Nat → Option ObjTy
  | 1 => some .point
  | 2 => some .signal
  | 3 => some .track
  | 4 => some .crossing
  | 5 => some .boundary
  | _ => none

/-- LOC and ELEM. -/
def locOf (ty : ObjTy) (loc elem : Nat) : Loc :=
  if ty = .boundary then .nowhere
  else if loc / 0x8000 % 2 = 1 then .local (loc % 256) elem
  else .field (if loc / 256 % 2 = 1 then .c1 else .c0) (loc % 256) elem

/-- One descriptor, with the rest of the object's station data; none where the index is unused. -/
def decodeObj (d : Bytes) (base : ObjDesc) : Option ObjDesc :=
  let f := fieldAt d
  (objTyOf? (f 0 1)).map fun ty =>
    { base with
      ty := ty, loc := locOf ty (f 2 2) (f 4 1), twoContact := f 1 1 % 2 == 1, approachLit := f 1 1 / 2 % 2 == 1
      parent := if f 6 2 = 0xFFFF then none else some (f 6 2), inst := f 8 2 }

/-- The object table: a descriptor of 16 bytes for each index from 0 on. -/
def decodeObjects (table : Bytes) (rest : List ObjDesc) : List ObjDesc :=
  rest.filterMap fun o => decodeObj (slice table (16 * o.idx) 16) o

/-! ## The Praline table image (R130) -/

/-- ASSIGN of a footprint word: none for 127; the outer none for a value that fails the table load (R131). -/
def assignOf? (a : Nat) : Option (Option Nat) :=
  if a ≤ 63 then some (some a) else if a = 127 then some none else none

/-- One footprint word (R131). -/
def decodeFp (w : Word) : Option FpEntry :=
  match CrumbKind.ofCode? (fieldOf w 17 3), assignOf? (fieldOf w 9 7) with
  | some k, some a => some { obj := fieldOf w 20 12, kind := k, pos := fieldOf w 16 1, assign := a }
  | _, _ => none

/-- All of a list, or none. -/
def allOf {α β : Type} (f : α → Option β) : List α → Option (List β)
  | [] => some []
  | x :: xs => match f x, allOf f xs with
    | some y, some ys => some (y :: ys)
    | _, _ => none

/-- A bit of a table, the most significant bit of a byte first. -/
def tableBit (bs : Bytes) (start n : Nat) : Bool := fieldAt bs (start + n / 8) 1 / 2 ^ (7 - n % 8) % 2 == 1

/-- The pairs that the conflict matrix marks, row by row. -/
def decodeConflicts (bs : Bytes) (start n : Nat) : List (Nat × Nat) :=
  (List.range n).flatMap fun r => (List.range n).filterMap fun c => if tableBit bs start (r * n + c) then some (r, c) else none

/-- The 16 limits of a route, the first in the high half of the first byte. -/
def decodeLimits (bs : Bytes) (start r : Nat) : List Nat :=
  (List.range 16).map fun k => fieldAt bs (start + 8 * r + k / 2) 1 / (if k % 2 = 0 then 16 else 1) % 16

/-- A guard record (R148). -/
def decodeGuard (bs : Bytes) (start n : Nat) : GuardDef :=
  let f := fun o k => fieldAt bs (start + 8 * n + o) k
  { pair := f 0 1, dir := f 1 1, trip := f 2 1, thr := f 3 1, sig := if f 4 2 = 0xFFFF then none else some (f 4 2), quiet := f 6 1 }

/-- The header's own checks: MAGIC, FORMAT, LEN and HCRC (R130, R147 step 1). -/
def prtHeaderOk (bs : Bytes) : Bool :=
  64 ≤ bs.length && fieldAt bs 0 4 == 0x50524C54 && fieldAt bs 4 2 == 3 && fieldAt bs 28 4 == bs.length
    && fieldAt bs 60 4 == (crc32c (bs.take 60)).toNat

/-- Every page against the page CRC table. DESIGN CHOICE (log entry 121): the pages that the table itself lies in are not
held against it. -/
def pagesOk (bs : Bytes) : Bool :=
  let at_ := fieldAt bs 52 4
  (List.range (at_ / 4096)).all fun k => (crc32c (slice bs (4096 * k) 4096)).toNat == fieldAt bs (at_ + 4 * k) 4

/-- A route of the table, with its limits of the aspect map. -/
def decodeRoute (bs : Bytes) (r : RouteSays) : Option PrtRoute :=
  (allOf decodeFp r.footprint).map fun fp =>
    { num := r.num, entry := r.entry, exit := r.exit, footprint := fp, limits := decodeLimits bs (fieldAt bs 44 4) r.num
      path := r.path, approach := r.approach, approachMs := r.approachMs, overlapMs := r.overlapMs }

/-- The table that an image loads as; none where its load fails (R130, R131, R147 step 1). -/
def decodePrt (bs : Bytes) (map : List MapEntry) (routes : List RouteSays) (trips : List (Option Nat)) : Option Prt :=
  let f := fieldAt bs
  if !prtHeaderOk bs || !pagesOk bs || 16 < f 20 1 then none
  else (allOf (decodeRoute bs) routes).map fun rs =>
    { prtid := f 8 4, mzpid := f 12 4, variant := f 6 1, settle := f 21 1, bage := f 22 2, cwarn := f 24 2, ccrit := f 26 2
      objects := map.filter (·.idx < f 16 2), routes := rs.filter (·.num < f 18 2)
      conflicts := decodeConflicts bs (f 40 4) (f 18 2)
      guards := (List.range (f 20 1)).map (decodeGuard bs (f 48 4)), tripSignal := trips }

/-! ## What an image says -/

/-- The content of a target image, from its bytes and what else it says. A Praline table that fails its load says nothing. -/
def contentOf (image : Bytes) : ImageSays → Content
  | .opaqueImage => .opaqueImage
  | .mzp st table => .mzp { st with objects := decodeObjects table st.objects }
  | .prt map routes trips => ((decodePrt image map routes trips).map Content.prt).getD .opaqueImage
  | .ocf ids => .ocf ids

end Sys2Proof.Machine
end

