-- ==== Sys2Proof/Machine/Delivery.lean ====
section
/-! DEFINITION. What a delivery is: the header check (R366, R369, R370), blocks and their bitmap (R371, R372), the
delta records that build the target (R373), and the verification (R374). -/

namespace Sys2Proof.Machine

open Sys2Proof

/-! ## The image header (R366) -/

def hdrPart (h : Bytes) : Nat := fieldAt h 5 1
def hdrVariant (h : Bytes) : Nat := fieldAt h 6 1
def hdrEpMin (h : Bytes) : Nat := fieldAt h 8 1
def hdrEpMax (h : Bytes) : Nat := fieldAt h 9 1
def hdrDelta (h : Bytes) : Nat := fieldAt h 10 1
def hdrIssMin (h : Bytes) : Nat := fieldAt h 11 1
def hdrBaseId (h : Bytes) : Nat := fieldAt h 16 4
def hdrTlen (h : Bytes) : Nat := fieldAt h 24 4
def hdrDlen (h : Bytes) : Nat := fieldAt h 28 4
def hdrMzpid (h : Bytes) : Nat := fieldAt h 32 4
def hdrPrtid (h : Bytes) : Nat := fieldAt h 36 4
def hdrWepMin (h : Bytes) : Nat := fieldAt h 44 1

/-- The largest image of a part (R364). -/
def largestImage : Part → Nat
  | .lfw => 0x400000
  | .prt => 0x200000
  | .mzp => 0x1000000
  | .svc => 0x800000
  | .ocf => 0x100000

/-- The first bank pair of a part. -/
def firstPair (s : State) (p : Part) : BankPair := updPair s.upd (((pairNums p).head?).getD 0)

def allParts : List Part := [.lfw, .prt, .mzp, .svc, .ocf]

/-- The header of a part's active image, none where no image runs. -/
def activeHeader (s : State) (p : Part) : Option Bytes :=
  let b := activeBank (firstPair s p)
  if b.state = .confirmed ∨ b.state = .unconfirmed then some b.header else none

/-- The EPOCH of each of two images lies within the range of the other (R369). -/
def epochsFit (h k : Bytes) : Bool :=
  hdrEpMin k ≤ hdrEpoch h && hdrEpoch h ≤ hdrEpMax k && hdrEpMin h ≤ hdrEpoch k && hdrEpoch k ≤ hdrEpMax h

/-- An image fits its own range and the active images of every part not among `mine` (R369). -/
def epochOk (s : State) (mine : List Part) (h : Bytes) : Bool :=
  7 ≤ hdrEpoch h && hdrEpMin h ≤ hdrEpoch h && hdrEpoch h ≤ hdrEpMax h
    && (allParts.filter fun q => !mine.contains q).all fun q => match activeHeader s q with
      | some k => epochsFit h k
      | none => true

/-- The active bank is the same in all three lanes. -/
def lanesOnOneBank (u : UpdBlk) : Bool := u.lfw1.onB == u.lfw2.onB && u.lfw2.onB == u.lfw3.onB

/-- The header check of R370 in its order: the status of the first check that fails. -/
def headerCheck (s : State) (part : Part) (onB : Bool) (h : Bytes) : Option Status :=
  let p := firstPair s part
  let base := activeBank p
  if fieldAt h 60 4 ≠ (crc32c (h.take 60)).toNat then some .hdrBad
  else if fieldAt h 0 4 ≠ 0x5558494D ∨ fieldAt h 4 1 ≠ 1 ∨ hdrPart h ≠ part.code
      ∨ (hdrVariant h ≠ s.sys.variant ∧ hdrVariant h ≠ 0) ∨ s.sys.issue < hdrIssMin h then some .wrongTarget
  else if hdrDelta h ≠ 0 ∧ (s.upd.recov ∨ hdrBaseId h ≠ bankImgId base) then some .wrongTarget
  else if hdrImgId h = 0 ∨ hdrTlen h = 0 ∨ largestImage part < hdrTlen h ∨ hdrDlen h < 113 then some .badLen
  else if !epochOk s [part] h then some .epoch
  else if onB = p.onB ∨ (part = .lfw ∧ !lanesOnOneBank s.upd) then some .order
  else if (otherBank p).state = .previous ∧ base.state = .unconfirmed then some .confirmPending
  else none

/-! ## Blocks (R371) -/

/-- Length of block `n` of a delivery stream. -/
def blockLen (h : Bytes) (n : Nat) : Nat :=
  if n + 1 = nblkOf h then hdrDlen h - 4096 * n else 4096

/-- The delivery stream as received. -/
def streamOf (t : UpdTransfer) : Bytes :=
  (List.range (nblkOf t.header)).flatMap fun n => ((t.blocks.find? (·.1 == n)).map (·.2)).getD []

/-- Up to `n` bits of the bitmap from a first block on, packed eight to a byte (R372). -/
def bitmapBytes (have_ : List Nat) (first n : Nat) : Bytes :=
  (List.range ((n + 7) / 8)).map fun k =>
    BitVec.ofNat 8 (((List.range 8).map fun j =>
      let b := 8 * k + j
      if b < n ∧ have_.contains (first + b) then 2 ^ (7 - j) else 0).foldl (· + ·) 0)

/-! ## The delta records (R373) -/

/-- A run's bytes in place. -/
def overlay (block : Bytes) (off : Nat) (data : Bytes) : Bytes :=
  block.take off ++ data ++ block.drop (off + data.length)

/-- The runs of a PATCH record: the block, and what follows in the stream. -/
def patchRuns : Nat → Bytes → Bytes → Option (Bytes × Bytes)
  | 0, block, rest => some (block, rest)
  | n + 1, block, rest =>
    let off := fieldAt rest 0 2
    let len := fieldAt rest 2 2
    if rest.length < 4 + len ∨ len = 0 ∨ 4096 < len ∨ block.length < off + len then none
    else patchRuns n (overlay block off (slice rest 4 len)) (rest.drop (4 + len))

/-- Blocks of a base image. -/
def baseBlocks (base : Bytes) : Nat := (base.length + 4095) / 4096

/-- One record on what has been built so far: the target and the rest of the stream, none where it builds
none. -/
def deltaRecord (base : Bytes) (tlen : Nat) (rest acc : Bytes) : Option (Bytes × Bytes) :=
  let op := fieldAt rest 0 1
  let count := fieldAt rest 2 2
  let arg := fieldAt rest 4 4
  let left := tlen - acc.length
  let size := min (4096 * count) left
  if rest.length < 8 ∨ count = 0 then none
  else if op = 4 then
    if baseBlocks base ≤ arg ∨ left = 0 then none
    else
      match patchRuns count (slice base (4096 * arg) (min 4096 left)) (rest.drop 8) with
      | some (b, more) => some (acc ++ b, more)
      | none => none
  else if left ≤ 4096 * (count - 1) then none
  else if op = 1 then
    if baseBlocks base < arg + count then none else some (acc ++ slice base (4096 * arg) size, rest.drop 8)
  else if op = 2 then
    if rest.length < 8 + size then none else some (acc ++ slice rest 8 size, rest.drop (8 + size))
  else if op = 3 then some (acc ++ List.replicate size 0, rest.drop 8)
  else none

/-- The target image that a stream of delta records builds (R373); the count of bytes bounds that of records. -/
def buildTarget (base : Bytes) (tlen : Nat) : Nat → Bytes → Bytes → Option Bytes
  | 0, rest, acc => if rest.isEmpty && acc.length == tlen then some acc else none
  | n + 1, rest, acc =>
    if rest.isEmpty then (if acc.length = tlen then some acc else none)
    else match deltaRecord base tlen rest acc with
      | some (a, more) => buildTarget base tlen n more a
      | none => none

/-! ## Verification (R374) -/

/-- The bank that a transfer which passes leaves, none where the target or the signature fails. -/
def verifiedBank (s : State) (t : UpdTransfer) (told : ImageSays) : Option Bank :=
  let stream := streamOf t
  let cut := stream.length - 112
  let trailer := stream.drop cut
  let base := if hdrDelta t.header = 0 then [] else (activeBank (firstPair s t.part)).image
  match buildTarget base (hdrTlen t.header) cut (stream.take cut) [] with
  | none => none
  | some image =>
    let key := fieldAt trailer 0 4
    let sig := slice trailer 16 96
    if s.sec.imageKeys.contains key && signatureOk key (t.header ++ image) sig then
      some { state := .verified, header := t.header, keyId := key, signature := sig, content := contentOf image told, image := image }
    else none

end Sys2Proof.Machine
end

