-- ==== Sys2Proof/Machine/Coding.lean ====
section
/-! DEFINITION. The arithmetic coding of a lane's words, its code signature and its state hash (R155 to R161). -/

namespace Sys2Proof.Machine

open Sys2Proof

/-- The code constant A (R155). -/
def codeConst : Int := 58659

/-- The frame constant D_f of frame n (R156). -/
def frameConst (n : Nat) : Nat := 1 + n * 32749 % 58658

/-- The coded word of a value under the signature of its variable, in the frame with constant `d` (R155). -/
def codeWord (v : Int) (b d : Nat) : BitVec 64 := BitVec.ofInt 64 (codeConst * v + b + d)

/-- The residue of a coded result (R158). -/
def residue (r : BitVec 64) (d : Nat) : Nat := ((r.toInt - d) % codeConst).toNat

/-- The value that an output decodes to, none where the division leaves a remainder (R157). -/
def decodeWord? (r : BitVec 64) (b d : Nat) : Option Int :=
  if (r.toInt - b - d) % codeConst = 0 then some ((r.toInt - b - d) / codeConst) else none

/-- The multiplier M of the signature (R158). -/
def sigMul : BitVec 64 := 0x00000100000001B3#64

/-- The fold of residues in execution order, from the frame counter (R158). -/
def foldSig (n : Nat) (rs : List Nat) : BitVec 64 :=
  rs.foldl (fun s r => s * sigMul + BitVec.ofNat 64 r) (BitVec.ofNat 64 n)

/-- The signature that the image makes a lane expect in frame n (R158). -/
def expectedSig (st : Station) (n : Nat) : BitVec 64 := BitVec.ofNat 64 n * st.sigk1 + st.sigk2

/-- The mixing of word `a` of the committed state area (R161). -/
def mixWord (a : Nat) (w : BitVec 64) : BitVec 64 :=
  let z := w ^^^ (BitVec.ofNat 64 a * 0x9E3779B97F4A7C15#64)
  let z := (z ^^^ (z >>> 33)) * 0xFF51AFD7ED558CCD#64
  let z := (z ^^^ (z >>> 33)) * 0xC4CEB9FE1A85EC53#64
  z ^^^ (z >>> 33)

/-- The coded words of the committed state area (R155, R161). -/
def codedArea (st : Station) (x : Inter) : List (BitVec 64) :=
  st.layout.map fun p => codeWord (readWord st x p.1) p.2 (frameConst x.counter)

/-- The hash over words in the order of their indices (R161). -/
def hashWords (ws : List (BitVec 64)) : BitVec 64 := ws.zipIdx.foldl (fun h p => h ^^^ mixWord p.2 p.1) 0

/-- The state hash (R161). -/
def stateHash (st : Station) (x : Inter) : BitVec 64 := hashWords (codedArea st x)

/-- The digest of slice k that a lane forms at the drain, over its words as read from memory (R171). -/
def sliceDigest (ws : List (BitVec 64)) (k : Nat) : BitVec 64 :=
  (ws.zipIdx.filter fun p => p.2 % 256 == k).foldl (fun h p => h ^^^ mixWord p.2 p.1) 0

/-! ## A lane's own words (R157 to R161) -/

/-- The error of one word among those of a lane. -/
def errAt (errs : List (Nat × BitVec 64)) (a : Nat) : BitVec 64 :=
  (errs.filter (·.1 == a)).foldl (fun e p => e + p.2) 0

/-- The words that a lane holds where those computed alike are `ws`: what it brings forward from one frame constant to the
next, or computes, keeps its error (R157). -/
def laneWords (ws : List (BitVec 64)) (errs : List (Nat × BitVec 64)) : List (BitVec 64) :=
  ws.zipIdx.map fun p => p.1 + errAt errs p.2

/-- The hash that a lane keeps over its writes: at the write of a word that has changed without one, the old value read back
is the changed one (R161). `was` are the words of the frame before, `ups` the lane's changed ones. -/
def laneHash (was ws : List (BitVec 64)) (ups wrong : List (Nat × BitVec 64)) : BitVec 64 :=
  let readBack := fun (h : BitVec 64) (p : Nat × BitVec 64) => match was[p.1]? with
    | some w => h ^^^ mixWord p.1 w ^^^ mixWord p.1 (w + p.2)
    | none => h
  ups.foldl readBack (hashWords (laneWords ws (ups ++ wrong)))

/-- The residues of a lane's coded results in execution order (R158): of the words it holds, and for an intermediate result
its destination's signature, which is the residue whatever the value. -/
def laneResidues (st : Station) (n : Nat) (ws : List (BitVec 64)) : List Nat :=
  st.code.map fun c => match c.2.bind fun a => ws[a]? with
    | some w => residue w (frameConst n)
    | none => c.1

/-- A lane's decoded code signature (R158). -/
def laneSigOf (st : Station) (n : Nat) (ws : List (BitVec 64)) : BitVec 64 := foldSig n (laneResidues st n ws)

/-- The object whose output a word of the area is: its commanded state, or a section's RESTORE word (R85, R160). -/
def outputOf : WordRef → Option Nat
  | .cmd i => some i
  | .restore i => some i
  | _ => none

/-- What output mapping decodes of a lane's words (R157): object and value for each output word. -/
def outputsDecoded (st : Station) (n : Nat) (ws : List (BitVec 64)) : List (Nat × Option Int) :=
  (st.layout.zip ws).filterMap fun p => (outputOf p.1.1).map fun i => (i, decodeWord? p.2 p.1.2 (frameConst n))

end Sys2Proof.Machine
end

