-- ==== Sys2Proof/Machine/FieldSide.lean ====
section
/-! DEFINITION. The local vital I/O's commands: the barrier link, the field side and its tests (R241 to R268),
and the overrun guards that Praline runs on every refresh (R149, R150). -/

namespace Sys2Proof.Machine

open Sys2Proof

def updVital (s : State) (f : LioVital → LioVital) : State :=
  { s with lio := { s.lio with vital := f s.lio.vital } }

def updField (s : State) (f : FieldSide → FieldSide) : State :=
  { s with lio := { s.lio with field := f s.lio.field } }

/-- Whether the field side runs: powered, and not held in reset (R248). -/
def fieldRuns (f : FieldSide) : Bool := f.powered && !f.inReset

/-! ## Switches -/

/-- A trip channel is de-energised: a DEGRADED one opens its working switch and is LOCKED (R262). -/
def openTrip (t : TripBlk) : TripBlk :=
  { t with f1 := false, f2 := false, app := false, locked := t.locked || (t.degraded && t.app) }

def openOut (o : OutBlk) : OutBlk := { o with f1 := false, f2 := false, app := false }

def openTrips (f : FieldSide) : FieldSide := { f with trips := f.trips.map openTrip }

/-- Every output and trip channel opens. -/
def openAll (f : FieldSide) : FieldSide := { openTrips f with outs := f.outs.map openOut }

/-- Every switch open and the hold state RESTART (R256). -/
def toRestart (f : FieldSide) : FieldSide :=
  { openAll f with hold := .restart, succ := 0, holdFrom := none, cmd := none }

/-- The group switch of an output's bank; bank 2 is the trip bank. -/
def groupOk (f : FieldSide) (bank : Nat) : Bool :=
  match bank with
  | 0 => f.grp0
  | 1 => f.grp1
  | _ => f.grpT

/-- Whether group switches may be closed at all: out of RESTART, unfenced, without supply latch. -/
def groupsClosed (f : FieldSide) : Bool := f.hold ≠ .restart && !f.fence && !f.suplatch

/-- An output's load is energised: both switches and the group switch closed (R254). -/
def outOn (f : FieldSide) (n : Nat) : Bool :=
  match f.outs[n]? with
  | some o => o.app && o.f1 && o.f2 && !o.locked && groupOk f (n / 8) && groupsClosed f
  | none => false

/-- A trip channel is energised (R254, R245, R262). -/
def tripOn (f : FieldSide) (c : Nat) : Bool :=
  match f.trips[c]? with
  | some t => t.app && t.f1 && t.f2 && !t.locked && !t.masked && f.grpT && groupsClosed f
  | none => false

def anythingOn (f : FieldSide) : Bool :=
  (List.range 16).any (outOn f) || (List.range 4).any (tripOn f)

/-! ## The local output command (R255, R256) -/

/-- The outputs that a command energises through the output map (R242). -/
def energised (st : Station) (m : LocCmd) : List Nat :=
  m.entries.flatMap fun e =>
    match stObj? st e.obj with
    | some d => ((d.outMap.find? (·.1 == e.state)).map (·.2)).getD []
    | none => []

/-- Step 2 of R256: place, objects and first local channels against the configuration, and signatures. -/
def locChecks (s : State) (keys : List PlainKey) (m : LocCmd) : Bool :=
  m.entries.length ≤ nOutputs s && m.trips.length == nTrips s
    && m.entries.all (fun e => match s.mzp.bind fun st => stObj? st e.obj with
      | some d => match d.loc with
        | .local first _ => first == e.chan
        | _ => false
      | none => false)
    && pairSigned keys (locSigned s.cfg m) m.sig1 m.sig2

/-- Step 4 of R256: every permissive entry and every energised trip channel carries its valid tag. -/
def locTagged (s : State) (keys : List PlainKey) (m : LocCmd) : Bool :=
  let objOk := m.entries.all fun e =>
    let t := ((s.mzp.bind fun st => stObj? st e.obj).map (·.ty)).getD .signal
    isRestrictive t e.state || tagValid keys 2 0 (locMessage s.cfg m e) e.tag
  let tripOk := (List.range m.trips.length).all fun c =>
    !((m.trips[c]?).getD false) ||
      match s.mzp.bind fun st => stTripOf st c with
      | some sig => tagValid keys 2 0 (tripMessage s.cfg m.frame c sig) ((m.tripTags[c]?).getD nullTag)
      | none => false
  objOk && tripOk

/-- The checks by which both checkers judge a command with a new FRAME (R256 steps 2 and 4). -/
def locAccepted (s : State) (m : LocCmd) : Bool :=
  let f := s.lio.field
  locChecks s f.kmsgs m && locTagged s f.kmsgs m

/-- One output under an accepted command; below 20.4 V it is not newly energised (R260). -/
def setOut (supply on f1 f2 : Bool) (o : OutBlk) : OutBlk :=
  { o with f1 := if f1 then on else o.f1, f2 := if f2 then on else o.f2
           app := on && (o.app || supply) }

/-- One trip channel under an accepted command (R256, R262); one whose mask bit is set stays open (R150, R266). -/
def setTrip (supply on f1 f2 : Bool) (t : TripBlk) : TripBlk :=
  if on && !t.masked then
    { t with f1 := if f1 then true else t.f1, f2 := if f2 then true else t.f2, app := t.app || supply }
  else openTrip t

/-- An accepted command takes effect on the switches of the checkers that accepted it (R256 step 5). -/
def applyLoc (st : Station) (m : LocCmd) (f1 f2 : Bool) (f : FieldSide) : FieldSide :=
  let on := energised st m
  { f with outs := f.outs.zipIdx.map fun p => setOut f.x2Ok (on.contains p.2) f1 f2 p.1
           trips := f.trips.zipIdx.map fun p => setTrip f.x2Ok ((m.trips[p.2]?).getD false) f1 f2 p.1 }

/-- What each checker does with the command of a downstream frame (R256): each accepts a FRAME greater than the last that it
has accepted. A command accepted in RESTART is recorded and counted; RESTART itself ends with RESTART_END. -/
def takeLoc (s : State) (d : DownIn) (m : LocCmd) : State :=
  let f1 := !d.f1Discards && decide (s.lio.field.lastF < m.frame)
  let f2 := !d.f2Discards && decide (s.lio.field.lastF2 < m.frame)
  match s.mzp with
  | none => s
  | some st =>
    if !s.lio.field.keyed || !locAccepted s m || !(f1 || f2) then s
    else
      let now := s.now
      let drive := s.lio.field.drive
      updField s fun f =>
        let both := f1 && f2
        let g := { f with lastF := if f1 then m.frame else f.lastF, lastF2 := if f2 then m.frame else f.lastF2, cmd := some m
                          fdis := f1 != f2 }
        match f.hold with
        | .restart =>
          if drive && both then { g with succ := if m.frame = f.lastF + 1 then f.succ + 1 else 1 }
          else { g with succ := 0 }
        | _ => { applyLoc st m f1 f2 g with hold := .live, holdFrom := some now }

/-! ## The downstream frame (R245) -/

/-- Trip mask bits: TRIPPED guards, and guards whose pair has a faulted input (R150). -/
def tripMask (s : State) (c : Nat) : Bool :=
  let gs := (s.prt.map (·.guards)).getD []
  let flt := s.lio.vital.up.iflt
  gs.zipIdx.any fun p => p.1.trip == c &&
    (((s.prl.guards[p.2]?).map (·.tripped)).getD false
      || (flt[p.1.pair]?).getD false || (flt[p.1.pair + 1]?).getD false)

/-- DRIVE: the module is ACTIVE or ALONE (R245, R352). -/
def driveBit (s : State) : Bool :=
  s.sys.ready && !s.upd.recov && (s.dpx.role = .active || s.dpx.role = .alone)

/-- A key takes the place of the one that a list holds for its type, index and slot. -/
def storeKey (ks : List PlainKey) (k : PlainKey) : List PlainKey :=
  ks.filter (fun j => !(j.ktype == k.ktype && j.index == k.index && j.slot == k.slot)) ++ [k]

/-- A key segment (R249): the third of a message completes it, and its key is held from there on; the last message completes
the round, and with it a key that the round does not carry is gone. DEDUCED (log entry 125): segments are accepted in order,
and none after a message that does not unwrap, so that KST shows the vital side that the round is to be repeated. -/
def takeSegment (d : DownIn) (round : List PlainKey) (seg : Nat) (f : FieldSide) : FieldSide :=
  let f0 := if seg = 0 then { f with kround := [], kbad := false, kseg := 0 } else f
  if f0.kbad || (seg != 0 && seg != f0.kseg + 1) then { f0 with kbad := true }
  else
    match round[seg / 3]? with
    | some k =>
      if seg % 3 ≠ 2 then { f0 with kseg := seg }
      else if !d.unwraps then { f0 with kbad := true }
      else
        let f1 := { f0 with kseg := seg, kmsgs := storeKey f0.kmsgs k, kround := f0.kround ++ [k] }
        if seg + 1 = 3 * round.length then { f1 with kmsgs := f1.kround, keyed := true, kbad := true } else f1
    | none => f0

/-- Counts of a lost frame (R244, R267). -/
def countLost (fault : LinkFault) (s : State) : State :=
  updVital s fun v =>
    { v with lost := satAdd 65535 1 v.lost
             crcErr := if fault = .badCrc then satAdd 65535 1 v.crcErr else v.crcErr }

/-- What the field side takes from a frame that arrives, up to its command (R245, R247, R249, R263, R264). -/
def takeControl (s : State) (d : DownIn) : State :=
  let v := s.lio.vital
  let mask := (List.range 4).map (tripMask s)
  let now := s.now
  let drive := driveBit s
  updField s fun f =>
    let f0 := { f with lossRun := 0, barrierLost := false, downSeq := some v.downSeq, drive := drive
                       fence := v.fence && !v.restart }
    let f1 := if f0.fence then openAll f0 else f0
    let f2 := if v.restart then { toRestart f1 with restartAt := some now } else f1
    let f3 := if v.kzero then { toRestart f2 with keyed := false, kmsgs := [], kbad := true } else f2
    let f4 := if v.kseg < 3 * v.keys.length && !v.kzero then takeSegment d v.keys v.kseg f3 else f3
    let f5 := if drive && f4.keyed then f4 else toRestart f4
    let f6 := if 1 ≤ v.test ∧ v.test ≤ 4 then { f5 with locating := some (v.test - 1) } else f5
    { f6 with trips := f6.trips.zipIdx.map fun p =>
        let m := (mask[p.2]?).getD false
        { (if m then openTrip p.1 else p.1) with masked := m } }

/-- What the vital side leaves behind once it has sent a frame. -/
def sentDown (s : State) : State :=
  let now := s.now
  let seq := s.lio.vital.downSeq
  let s1 := updVital s fun v =>
    let last := v.kseg + 1 = 3 * v.keys.length
    { v with downSeq := (v.downSeq + 1) % 65536, restart := false, test := 0
             kseg := if v.kseg < 3 * v.keys.length then v.kseg + 1 else v.kseg
             ksentAt := if last then some now else v.ksentAt }
  { s1 with sent := s1.sent ++ [.barrierDown seq] }

/-- The vital side has its rails: in BACKUP and OFF it sends and takes no barrier frame (R412). -/
def vitalOn (s : State) : Bool := s.pwr.power = .run || s.pwr.power = .holdup

/-- BARRIER_DOWNSTREAM_FRAME (R245, R247, R249, R256): the vital side sends, and the field side takes a frame
that arrives. The frame's command is taken before the mask is applied, so that the mask wins (R266). A vital side
without its rails sends nothing, and a field side that runs on X2 misses the frame (R248, R412). -/
def execBarrierDownstreamFrame (f : DownIn) (now : Nat) (s : State) : Out :=
  let s := later s now
  if !vitalOn s then
    .next (if fieldRuns s.lio.field then updField s fun x => { x with lossRun := x.lossRun + 1 } else s)
  else if !fieldRuns s.lio.field then .next (sentDown s)
  else if f.fault ≠ .arrives then
    .next (sentDown (countLost f.fault (updField s fun x => { x with lossRun := x.lossRun + 1 })))
  else
    let s1 := takeControl s f
    let s2 := match s.lio.vital.current with
      | some m => if s.lio.vital.stopped then s1 else takeLoc s1 f m
      | none => s1
    .next (sentDown s2)

/-- RESTART_END (R256): after three successive accepted commands with DRIVE 1, the third takes effect. -/
def execRestartEnd (now : Nat) (s : State) : Out :=
  let s := later s now
  let t := s.now
  match s.mzp, s.lio.field.cmd with
  | some st, some m =>
    if s.lio.field.hold = .restart ∧ 3 ≤ s.lio.field.succ ∧ s.lio.field.drive ∧ s.lio.field.keyed
        ∧ s.lio.field.restartAt = none then
      .next (updField s fun f => { applyLoc st m true true f with hold := .live, holdFrom := some t, succ := 0 })
    else .next s
  | _, _ => .next s

/-- TOFFEE_EXPIRY (R256): every output and trip channel opens at the end of the toffee window. -/
def execToffeeExpiry (now : Nat) (s : State) : Out :=
  let s := later s now
  match s.lio.field.holdFrom with
  | some t =>
    if s.lio.field.hold = .live ∧ t + toffeeUs s.cfg ≤ s.now then
      let t1 := s.now
      .next (updField s fun f =>
        { openAll f with hold := .expired, holdFrom := none, openedAt := if anythingOn f then some t1 else f.openedAt })
    else .next s
  | none => .next s

/-! ## The upstream frame (R246) -/

/-- Input fault bits: an input faulted by its own tests, by discrepancy, or by its bank while no location
test has finished (R251, R253). -/
def inputFault (f : FieldSide) (n : Nat) : Bool :=
  let own := match f.ins[n]? with
    | some i => i.shuntFault || i.located || i.discFault
    | none => false
  own || ((f.ibf[n / 8]?).getD false && !((f.ibTested[n / 8]?).getD false))

def inputCfg (s : State) (n : Nat) : InputCfg :=
  ((s.mzp.bind fun st => st.inputs[n]?)).getD { filt := 0, mode := .single, disc := 0 }

def isCounting (m : InMode) : Bool := m = .paired || m = .countSingle

def isTwoContact (m : InMode) : Bool := m = .equivalent || m = .antivalent

/-- The restrictive reading of an input (R250). -/
def restrReading (s : State) (n : Nat) : Bool := (inputCfg s n).mode = .antivalent && n % 2 == 1

/-- Whether an input shows its permissive reading after filtering. -/
def showsPerm (s : State) (n : Nat) : Bool :=
  (((s.lio.field.ins[n]?).map (·.value)).getD false) != restrReading s n

/-- The input image (R250, R251): the resolved value of a channel with a discrepancy fault stays 0. -/
def imageBit (s : State) (n : Nat) : Bool :=
  let v := ((s.lio.field.ins[n]?).map (·.value)).getD false
  if isTwoContact (inputCfg s n).mode then
    let k := n - n % 2
    if n % 2 == 0 then showsPerm s k && showsPerm s (k + 1) && !((s.lio.field.ins[k]?).map (·.discFault)).getD false
    else showsPerm s (k - k % 2) != showsPerm s (k - k % 2 + 1)
  else v

/-- Minutes left to DEGX (R267). -/
def degLeft (s : State) (t : TripBlk) : Nat :=
  match t.degSince with
  | some t0 =>
    let lim := t0 + 60000000 * fieldOf s.cfg.lioCtl 8 8
    if t.degraded && !t.degx then (lim - s.now + 59999999) / 60000000 else 0
  | none => 0

/-- The upstream frame as the field side forms it; what the variant lacks reads 0, and without field supply nothing reads
energised (R246, R248). -/
def formUp (s : State) : UpFrame :=
  let f := s.lio.field
  let outs := List.range (nOutputs s)
  let trips := List.range (nTrips s)
  let pairs := List.range 4
  let pairOf := fun n => if n < nPairs s then f.pairs[n]? else none
  { hold := f.hold, fenced := f.fence, suplatch := f.suplatch, fdis := f.fdis || f.selfTestBad
    grp := [f.grp0 && groupsClosed f, f.grp1 && groupsClosed f && nOutputs s > 8, f.grpT && groupsClosed f]
    image := (List.range (nInputs s)).map (imageBit s)
    iflt := (List.range (nInputs s)).map (inputFault f)
    ibf := f.ibf, obf := [!f.grp0, !f.grp1], tbf := !f.grpT, keyed := f.keyed, kseg := f.kseg
    cnt0 := pairs.map fun n => ((pairOf n).map (·.cnt0)).getD 0
    cnt1 := pairs.map fun n => ((pairOf n).map (·.cnt1)).getD 0
    seqe := pairs.map fun n => ((pairOf n).map (·.seqe)).getD 0
    orb := outs.map fun n => outOn f n && f.x2 != 0
    oapp := outs.map fun n => ((f.outs[n]?).map fun o => o.f1 && o.f2).getD false
    trip := trips.map fun c => match f.trips[c]? with
      | some t => (tripOn f c && f.x2 != 0, t.masked, t.degraded, t.locked)
      | none => (false, false, false, false)
    x2 := f.x2, lastF := f.lastF, degx := (f.trips.take (nTrips s)).map (·.degx)
    tresBank := f.tresBank, tres := f.tres, oflt := f.oflt
    degLeft := (f.trips.take (nTrips s)).map (degLeft s)
    ocode := (f.outs.take (nOutputs s)).map (·.code) }

/-- The keys of a round: three lane keys and the permit key, each in every slot that holds it (R249). -/
def keyRound (s : State) : List PlainKey :=
  s.sec.plain.filter fun k => k.ktype == 1 || (k.ktype == 2 && k.index == 0)

/-- A key round starts: from segment 0 (R249). -/
def startKeyRound (s : State) : State :=
  let ks := keyRound s
  updVital s fun v => { v with keys := ks, kseg := 0, ksentAt := none }

/-! ## Overrun guards (R149, R150) -/

/-- One guard on one refresh: its count, its trip, and the time of the last count on its pair. -/
def guardStep (now : Nat) (was up : UpFrame) (d : GuardDef) (g : GuardBlk) : GuardBlk :=
  let p := d.pair / 2
  let diff := fun (m : Nat) (a b : List Nat) => ((b[p]?).getD 0 + m - (a[p]?).getD 0) % m
  let d0 := diff 65536 was.cnt0 up.cnt0
  let d1 := diff 65536 was.cnt1 up.cnt1
  let e := diff 256 was.seqe up.seqe
  let add := (if d.dir = 0 then d0 else d1) + e
  let g1 := if d0 + d1 + e = 0 then g else { g with lastAt := some now }
  if !g1.armed then g1
  else if g1.count + add ≥ d.thr then { g1 with count := g1.count + add, armed := false, tripped := true }
  else { g1 with count := g1.count + add }

/-- Praline's guards on an upstream frame; every trip is recorded (R149, R151). -/
def guardRefresh (was : UpFrame) (s : State) : State :=
  match s.prt with
  | none => s
  | some p =>
    let up := s.lio.vital.up
    let one := fun (s : State) (q : GuardDef × Nat) =>
      match s.prl.guards[q.2]? with
      | none => s
      | some g =>
        let g1 := guardStep s.now was up q.1 g
        let pr := q.1.pair / 2
        let seq := (was.seqe[pr]?).getD 0 != (up.seqe[pr]?).getD 0
        let flt := (up.iflt[q.1.pair]?).getD false || (up.iflt[q.1.pair + 1]?).getD false
        let s1 := { s with prl := { s.prl with guards := s.prl.guards.set q.2 g1
                                               sawSeq := s.prl.sawSeq || seq } }
        let s2 := if seq || flt then raise s1 .prl pGUARD_FAULT else s1
        if g1.tripped && !g.tripped then
          frameRec (raise s2 .prl pGUARD_TRIP) 0x06 0 (be 2 q.2 ++ be 1 3 ++ be 1 0)
        else s2
    p.guards.zipIdx.foldl one s

/-- The block's sources that follow an upstream frame (R268). -/
def lioSources (s : State) : State :=
  let u := s.lio.vital.up
  let s1 := setLive s .lio lFIELD_SIDE u.fdis
  let s2 := setLive s1 .lio lIN_BANK (u.ibf.any id)
  let s3 := setLive s2 .lio lIN_CHAN (u.iflt.any id)
  let s4 := setLive s3 .lio lOUT_SHORT (u.obf.any id || u.tbf)
  let s5 := setLive s4 .lio lOUT_SWITCH (u.ocode.any (· == 3))
  let s6 := setLive s5 .lio lSUPPLY (u.suplatch || u.x2 < 1920 || u.x2 > 3000)
  let s7 := setLive s6 .lio lTRIP_DEGRADED (u.trip.any fun t => t.2.2.1)
  let s8 := setLive s7 .lio lTRIP_LOCK (u.trip.any fun t => t.2.2.2)
  setLive s8 .lio lTOFFEE_EXP (u.hold = .expired)

/-- Sequence errors since the last clear (R267). -/
def addSeqErr (was up : UpFrame) (acc : List Nat) : List Nat :=
  acc.zipIdx.map fun p =>
    satAdd 255 (((up.seqe[p.2]?).getD 0 + 256 - (was.seqe[p.2]?).getD 0) % 256) p.1

/-- KST shows that the round sent is complete (R249). -/
def roundDone (v : LioVital) (up : UpFrame) : Bool :=
  up.keyed && v.kseg ≥ 3 * v.keys.length && up.kseg + 1 == 3 * v.keys.length

/-- BARRIER_UPSTREAM_FRAME (R246, R247, R148): the vital side and Praline take a frame that arrives. -/
def execBarrierUpstreamFrame (fault : LinkFault) (now : Nat) (s : State) : Out :=
  let s := later s now
  if !vitalOn s then .next s
  else if !fieldRuns s.lio.field ∨ fault ≠ .arrives then
    .next (countLost fault (updVital s fun v => { v with lossRun := v.lossRun + 1 }))
  else
    let up := formUp s
    let was := s.lio.vital.up
    let seq := s.lio.field.upSeq
    let s1 := updField s fun f => { f with upSeq := (f.upSeq + 1) % 65536 }
    let s2 := updVital s1 fun v =>
      { v with up := up, upSeq := some seq, lossRun := 0, linkUp := true, barrierLost := false
               x2min := some (min up.x2 (v.x2min.getD up.x2)), seqErr := addSeqErr was up v.seqErr
               keys := if roundDone v up then [] else v.keys }
    let s3 := lower { s2 with sent := s2.sent ++ [.barrierUp seq] } .lio lBARRIER
    let s4 := if !up.keyed && s3.lio.vital.keys.isEmpty && !s3.lio.vital.kzero then startKeyRound s3 else s3
    .next (lioSources (guardRefresh was s4))

/-- BARRIER_LOSS (R247): two consecutive frames lost in one direction. -/
def execBarrierLoss (up : Bool) (now : Nat) (s : State) : Out :=
  let s := later s now
  if (if up then s.lio.vital.lossRun else s.lio.field.lossRun) < 2 then .next s
  else if up then
    .next (if vitalOn s then raise (updVital s fun v => { v with barrierLost := true }) .lio lBARRIER else s)
  else if fieldRuns s.lio.field then .next (updField s fun f => { openTrips f with barrierLost := true })
  else .next s

/-- KEY_ROUND_REPEAT (R249): KST does not show the last segment within 2 ms. -/
def execKeyRoundRepeat (now : Nat) (s : State) : Out :=
  let s := later s now
  let v := s.lio.vital
  match v.ksentAt with
  | some t =>
    if !v.keys.isEmpty && v.kseg ≥ 3 * v.keys.length && t + 2000 ≤ s.now && !roundDone v v.up then
      .next (updVital s fun v => { v with kseg := 0, ksentAt := none })
    else .next s
  | none => .next s

/-! ## Inputs (R250 to R253) -/

def setIn (f : FieldSide) (n : Nat) (g : InBlk → InBlk) : FieldSide :=
  match f.ins[n]? with
  | some i => { f with ins := f.ins.set n (g i) }
  | none => f

def setChan (f : FieldSide) (k : Nat) (g : ChanBlk → ChanBlk) : FieldSide :=
  match f.chans[k]? with
  | some c => { f with chans := f.chans.set k (g c) }
  | none => f

/-- The two-contact timing of a channel after an input's value changed (R251). -/
def channelTiming (s : State) (n : Nat) : State :=
  let k := n / 2
  if !isTwoContact (inputCfg s n).mode then s
  else
    let p0 := showsPerm s (2 * k)
    let p1 := showsPerm s (2 * k + 1)
    let now := s.now
    updField s fun f => setChan f k fun c =>
      { c with disSince := if p0 != p1 then some (c.disSince.getD now) else none
               restrSince := if !p0 && !p1 then some (c.restrSince.getD now) else none }

/-- INPUT_CHANGE (R250): the level at an input's terminal changes, for both comparators. A restrictive value
enters at once, a permissive one after FILT. -/
def execInputChange (input : Nat) (level : Bool) (now : Nat) (s : State) : Out :=
  let s := later s now
  if !fieldRuns s.lio.field ∨ nInputs s ≤ input then .next s
  else
    let c := inputCfg s input
    let restr := restrReading s input
    let t := s.now
    let s1 := updField s fun f => setIn f input fun i =>
      let i1 := { i with level := level, cmp1 := level, cmp2 := level, disSince := none }
      if isCounting c.mode then { i1 with value := level }
      else if level = restr ∨ c.filt = 0 then { i1 with value := level, since := none }
      else if i1.value = level then i1
      else { i1 with since := some (i.since.getD t) }
    .next (channelTiming s1 input)

/-- FILT_EXPIRY (R250). -/
def execFiltExpiry (input now : Nat) (s : State) : Out :=
  let s := later s now
  match s.lio.field.ins[input]? with
  | some i => match i.since with
    | some t =>
      if t + 250 * (inputCfg s input).filt ≤ s.now then
        .next (channelTiming (updField s fun f => setIn f input fun i =>
          { i with value := i.level, since := none }) input)
      else .next s
    | none => .next s
  | none => .next s

def faultChannel (f : FieldSide) (k : Nat) (on : Bool) : FieldSide :=
  setIn (setIn f (2 * k) fun i => { i with discFault := on }) (2 * k + 1) fun i => { i with discFault := on }

/-- DISCREPANCY_EXPIRY (R251). -/
def execDiscrepancyExpiry (chan now : Nat) (s : State) : Out :=
  let s := later s now
  match (s.lio.field.chans[chan]?).bind (·.disSince) with
  | some t =>
    if t + 10000 * (inputCfg s (2 * chan)).disc ≤ s.now then .next (updField s fun f => faultChannel f chan true)
    else .next s
  | none => .next s

/-- DISCREPANCY_FAULT_CLEAR (R251): both contacts restrictive together for 1 s. -/
def execDiscrepancyFaultClear (chan now : Nat) (s : State) : Out :=
  let s := later s now
  match (s.lio.field.chans[chan]?).bind (·.restrSince) with
  | some t =>
    if t + 1000000 ≤ s.now then .next (updField s fun f => faultChannel f chan false) else .next s
  | none => .next s

/-- One sample of a counting pair: the levels, and how long the level before lasted in µs (R252). -/
def pairSample (mode : InMode) (b : PairBlk) (x : Bool × Bool × Nat) : PairBlk :=
  let a := x.1
  let c := x.2.1
  let (a0, c0) := b.cur
  if (a, c) = b.cur then b
  else
    let err := (a != a0 && c != c0) || x.2.2 < 16
    let b1 := { b with cur := (a, c)
                       seqe := if err then (b.seqe + 1) % 256 else b.seqe, bad := b.bad || err }
    let home := !a && !c
    let up0 := if mode = .countSingle then a && !a0
      else home && b.entry == some (true, false) && b.cur == (false, true)
    let up1 := if mode = .countSingle then c && !c0
      else home && b.entry == some (false, true) && b.cur == (true, false)
    { b1 with cnt0 := if up0 && !b1.bad then (b1.cnt0 + 1) % 65536 else b1.cnt0
              cnt1 := if up1 && !b1.bad then (b1.cnt1 + 1) % 65536 else b1.cnt1
              entry := if home then none else some (b.entry.getD (a, c))
              bad := b1.bad && !home }

/-- AXLE_COUNT (R252): the samples that a pair's decoder has seen. -/
def execAxleCount (pair : Nat) (levels : List (Bool × Bool × Nat)) (now : Nat) (s : State) : Out :=
  let s := later s now
  let m := (inputCfg s (2 * pair)).mode
  if !fieldRuns s.lio.field ∨ nPairs s ≤ pair ∨ !isCounting m then .next s
  else match s.lio.field.pairs[pair]? with
    | some b =>
      let b1 := levels.foldl (pairSample m) b
      .next (updField s fun f => { f with pairs := f.pairs.set pair b1 })
    | none => .next s

/-- COMPARATOR_DISAGREEMENT (R252, R253): lasting 1 ms it sets the bank fault bit; on a counting input it is a
sequence error. -/
def execComparatorDisagreement (input now : Nat) (s : State) : Out :=
  let s := later s now
  if !fieldRuns s.lio.field ∨ nInputs s ≤ input then .next s
  else
    let b := input / 8
    let s1 := updField s fun f => setIn { f with ibf := f.ibf.set b true, ibTested := f.ibTested.set b false }
      input fun i => { i with cmp2 := !i.cmp1 }
    if isCounting (inputCfg s input).mode then
      .next (updField s1 fun f => match f.pairs[input / 2]? with
        | some p =>
          { f with pairs := f.pairs.set (input / 2) { p with seqe := (p.seqe + 1) % 256, bad := true } }
        | none => f)
    else .next s1

/-- SHUNT_TEST (R253): a failed one faults the input at once; in a bank whose location test is asked for it is
abandoned (R266). -/
def execShuntTest (input : Nat) (ok : Bool) (s : State) : Out :=
  let f := s.lio.field
  if !fieldRuns f ∨ nInputs s ≤ input ∨ f.locating = some (input / 8) ∨ ok then .next s
  else .next (updField s fun f => setIn f input fun i => { i with shuntFault := true })

/-- LOCATION_TEST (R253): `bad` are the inputs of the bank whose comparators disagree. -/
def execLocationTest (bank : Nat) (bad : List Nat) (aborted : Bool) (s : State) : Out :=
  if !fieldRuns s.lio.field ∨ s.lio.field.locating ≠ some bank then .next s
  else if aborted then
    .next (updField s fun f => { f with locating := none, tresBank := bank, tres := 2 })
  else
    let here := bad.filter fun n => n / 8 == bank
    .next (updField s fun f =>
      { f with locating := none, tresBank := bank, tres := if here.isEmpty then 0 else 1
               ibTested := f.ibTested.set bank true
               ibf := if here.isEmpty then f.ibf.set bank false else f.ibf
               ins := f.ins.zipIdx.map fun p =>
                 if here.contains p.2 then { p.1 with located := true } else p.1 })

/-! ## Outputs (R257 to R260) -/

def setOutAt (f : FieldSide) (n : Nat) (g : OutBlk → OutBlk) : FieldSide :=
  match f.outs[n]? with
  | some o => { f with outs := f.outs.set n (g o) }
  | none => f

def setTripAt (f : FieldSide) (c : Nat) (g : TripBlk → TripBlk) : FieldSide :=
  match f.trips[c]? with
  | some t => { f with trips := f.trips.set c (g t) }
  | none => f

/-- Code 3: both switches open and the output is locked off (R259). -/
def lockOut (f : FieldSide) (n : Nat) : FieldSide :=
  { setOutAt f n (fun o => { o with app := false, locked := true, code := 3 }) with oflt := (n, 3) }

/-- OFF_PULSE (R257): the periodic off-pulse of an energised output or close test of one that is off. -/
def execOffPulse (out : Nat) (ok : Bool) (now : Nat) (s : State) : Out :=
  let s := later s now
  if !fieldRuns s.lio.field ∨ nOutputs s ≤ out then .next s
  else
    let s1 := { s with sent := s.sent ++ [.switchTest out] }
    if ok then .next s1 else .next (updField s1 fun f => lockOut f out)

/-- TRIP_CHANNEL_TEST (R261, R262). -/
def execTripChannelTest (chan : Nat) (res : TripResult) (now : Nat) (s : State) : Out :=
  let s := later s now
  let t0 := s.now
  if !fieldRuns s.lio.field ∨ nTrips s ≤ chan then .next s
  else match res with
    | .pass => .next s
    | .degraded =>
      let on := tripOn s.lio.field chan
      .next (updField s fun f => setTripAt f chan fun t =>
        if t.degraded then t
        else { t with degraded := true, degSince := some t0, locked := t.locked || !on })
    | .locked =>
      .next (updField s fun f => setTripAt f chan fun t =>
        { t with f1 := false, f2 := false, app := false, locked := true })

/-- DEGX (R262): DEGT after the channel became DEGRADED. -/
def execDegx (chan now : Nat) (s : State) : Out :=
  let s := later s now
  let t0 := s.now
  match s.lio.field.trips[chan]? with
  | some t => match t.degSince with
    | some since =>
      if t.degraded && !t.degx && since + 60000000 * fieldOf s.cfg.lioCtl 8 8 ≤ s.now then
        .next (updField s fun f => setTripAt f chan fun t => { t with degx := true, degxAt := some t0 })
      else .next s
    | none => .next s
  | none => .next s

/-- DEGX_OPEN (R262): still energised 1 s after DEGX was set. -/
def execDegxOpen (chan now : Nat) (s : State) : Out :=
  let s := later s now
  match (s.lio.field.trips[chan]?).bind (·.degxAt) with
  | some t =>
    if tripOn s.lio.field chan && t + 1000000 ≤ s.now then
      .next (updField s fun f => setTripAt f chan openTrip)
    else .next s
  | none => .next s

/-- A bank's group switch opens, to be classified 1 ms later; every output of the bank is off (R259). -/
def openGroup (now bank out : Nat) (f : FieldSide) : FieldSide :=
  match bank with
  | 0 => { f with grp0 := false, openAt0 := some now, openOut0 := some out }
  | 1 => { f with grp1 := false, openAt1 := some now, openOut1 := some out }
  | _ => { openTrips f with grpT := false, openAtT := some now, openOutT := some out }

/-- OUTPUT_FAULT (R259): a mismatch confirmed on an output or trip channel: `short` an off one that reads
energised at its positive terminal, otherwise a switch or current fault. In a bank already opened there is no
further reaction than its record: it is the output with the most recent fault (R246, R266). -/
def execOutputFault (out : Nat) (trip short : Bool) (now : Nat) (s : State) : Out :=
  let s := later s now
  let t := s.now
  let bank := if trip then 2 else out / 8
  if !fieldRuns s.lio.field ∨ (if trip then nTrips s else nOutputs s) ≤ out then .next s
  else if !groupOk s.lio.field bank then
    .next (if trip then s else updField s fun f => { f with oflt := (out, ((f.outs[out]?).map (·.code)).getD 0) })
  else if short then .next (updField s (openGroup t bank out))
  else if trip then
    .next (updField s fun f => setTripAt f out fun t =>
      { t with f1 := false, f2 := false, app := false, locked := true })
  else .next (updField s fun f => lockOut f out)

/-- FAULT_CLASSIFICATION (R259): 1 ms after the group switch opened, code 1 where the terminal still reads
high, code 2 where it reads low. -/
def execFaultClassification (bank : Nat) (high : Bool) (now : Nat) (s : State) : Out :=
  let s := later s now
  let f := s.lio.field
  let at_ := match bank with | 0 => f.openAt0 | 1 => f.openAt1 | _ => f.openAtT
  let of_ := match bank with | 0 => f.openOut0 | 1 => f.openOut1 | _ => f.openOutT
  let code := if high then 1 else 2
  match at_, of_ with
  | some t, some o =>
    if t + 1000 ≤ s.now then
      .next (updField s fun f =>
        let g := if bank ≤ 1 then { setOutAt f o (fun b => { b with code := code }) with oflt := (o, code) } else f
        match bank with
        | 0 => { g with openAt0 := none }
        | 1 => { g with openAt1 := none }
        | _ => { g with openAtT := none })
    else .next s
  | _, _ => .next s

/-- SUPPLY_SAG (R260): X2 out of 19.2 to 30 V for 10 ms, with something energised when the sag began (R266). A value within
that range opens nothing, and below 20.4 V holds new commands back. -/
def execSupplySag (x2 now : Nat) (s : State) : Out :=
  let s := later s now
  if !fieldRuns s.lio.field then .next s
  else
    let t := s.now
    .next (updField s fun f =>
      let g := { f with x2 := x2, x2Ok := f.x2Ok && decide (2040 ≤ x2 ∧ x2 ≤ 3000) }
      let lit := anythingOn f || (f.openedAt.map fun k => decide (t < k + 10000)).getD false
      if (x2 < 1920 ∨ 3000 < x2) ∧ lit then { openAll g with suplatch := true } else g)

/-- A field side that starts, with its protective latches as they were (R248, R249, R256). -/
def startField (f : FieldSide) : FieldSide :=
  { toRestart f with powered := true, inReset := false, keyed := false, kmsgs := [], kbad := true
                     downSeq := none, lossRun := 0, barrierLost := false, lastF := 0, lastF2 := 0, fence := false
                     fdis := false, locating := none, restartAt := none }

/-- A field side without power or held in reset: all outputs off, no key held. -/
def stopField (f : FieldSide) : FieldSide := { toRestart f with keyed := false, kmsgs := [], kbad := true }

/-- X2_LOSS (R248, R442): the UX-4810's field side resets; the UX-4820's runs on, its outputs without supply. -/
def execX2Loss (now : Nat) (s : State) : Out :=
  let s := later s now
  let small := s.sys.variant = 0x10
  .next (updField s fun f =>
    let g := { f with x2 := 0, x2Ok := false }
    if small then { stopField g with powered := false } else g)

/-- X2_RETURN (R248, R260): the UX-4810's field side starts again. -/
def execX2Return (x2 now : Nat) (s : State) : Out :=
  let s := later s now
  let small := s.sys.variant = 0x10
  .next (updField s fun f =>
    let g := { f with x2 := x2, x2Ok := f.x2Ok && decide (2040 ≤ x2 ∧ x2 ≤ 3000) }
    if small && !f.powered && x2 ≥ 1600 then startField g else g)

/-- An output or trip channel whose accepted command could not be applied for want of supply (R260). -/
def applyHeld (f : FieldSide) : FieldSide :=
  { f with outs := f.outs.map fun o => { o with app := o.app || (o.f1 && o.f2) }
           trips := f.trips.map fun t => { t with app := t.app || (t.f1 && t.f2) } }

/-- X2_WITHIN_RANGE (R260): X2 has stayed within 20.4 to 30 V for 1 s. -/
def execX2WithinRange (x2 now : Nat) (s : State) : Out :=
  let s := later s now
  if 2040 ≤ x2 ∧ x2 ≤ 3000 then
    .next (updField s fun f => applyHeld { f with x2 := x2, x2Ok := true })
  else .next s

/-- CONVERTER (R248): the UX-4820's converter leaves its limits; the field side is held in reset. -/
def execConverter (now : Nat) (s : State) : Out :=
  let s := later s now
  if s.sys.variant = 0x10 then .next s
  else
    let s1 := updField s fun f => { stopField f with inReset := true }
    .next (raise (updVital s1 fun v => { v with converterBad := true }) .lio lCONVERTER)

/-- CONVERTER_RECOVERY (R248): the field side starts again. -/
def execConverterRecovery (now : Nat) (s : State) : Out :=
  let s := later s now
  if s.sys.variant = 0x10 ∨ !(s.lio.vital.converterBad || s.lio.field.inReset) then .next s
  else
    let s1 := updField s fun f => if f.powered then startField f else { f with inReset := false }
    .next (lower (updVital s1 fun v => { v with converterBad := false }) .lio lCONVERTER)

/-- RESTART_TESTS_END (R263): the results of the tests of a local I/O restart take effect. -/
def execRestartTestsEnd (res : RestartTests) (now : Nat) (s : State) : Out :=
  let s := later s now
  if !fieldRuns s.lio.field ∨ s.lio.field.restartAt = none then .next s
  else
    let bad := res.badInputs
    .next (updField s fun f =>
      { toRestart f with
        suplatch := false, fence := false, restartAt := none, fdis := false, selfTestBad := res.selfTestBad
        grp0 := !res.badBanks.contains 0, grp1 := !res.badBanks.contains 1, grpT := !res.badBanks.contains 2
        openAt0 := none, openAt1 := none, openAtT := none, openedAt := none
        outs := (toRestart f).outs.zipIdx.map fun p =>
          let lock := res.badOutputs.contains p.2
          let short := res.badBanks.contains (p.2 / 8)
          { p.1 with locked := lock, code := if lock then 3 else if short then p.1.code else 0 }
        trips := f.trips.zipIdx.map fun p =>
          let ok := !res.badTrips.contains p.2
          let t := openTrip p.1
          { t with locked := !ok, degraded := t.degraded && !ok, degSince := if ok then none else t.degSince
                   degx := t.degx && !ok, degxAt := if ok then none else t.degxAt }
        ins := f.ins.zipIdx.map fun p =>
          { p.1 with located := p.1.located && bad.contains p.2, shuntFault := bad.contains p.2 }
        ibf := f.ibf.zipIdx.map fun p =>
          p.1 && f.ins.zipIdx.any fun i => i.2 / 8 == p.2 && i.1.located && bad.contains i.2 })

end Sys2Proof.Machine
end

