-- ==== Sys2Proof/Machine/Security.lean ====
section
/-! DEFINITION. Keys, debug level and lifecycle: what takes effect at a drain, and zeroisation (R408, R411, R416 to
R418). -/

namespace Sys2Proof.Machine

open Sys2Proof

/-! ## Keys -/

/-- The current wrapping counter of a key (R418). -/
def keyCounter (c : SecBlk) (kt ix sl : Nat) : Nat :=
  ((c.counters.find? fun k => k.1 == kt && k.2.1 == ix && k.2.2.1 == sl).map (·.2.2.2)).getD 0

/-- The counter advances: no blob made before unwraps any more (R418). -/
def bumpCounter (c : SecBlk) (kt ix sl : Nat) : SecBlk :=
  { c with counters := (kt, ix, sl, keyCounter c kt ix sl + 1) ::
      c.counters.filter fun k => !(k.1 == kt && k.2.1 == ix && k.2.2.1 == sl) }

/-- A blob that the element unwraps (R414, R418). -/
def usableBlob (c : SecBlk) (b : Blob) : Bool :=
  c.kek && b.gen == c.kekGen && b.ctr == keyCounter c b.ktype b.index b.slot

def sameKey (kt ix sl : Nat) (k : PlainKey) : Bool := k.ktype == kt && k.index == ix && k.slot == sl

/-- A key in plain form replaces the one it had. -/
def putKey (ks : List PlainKey) (k : PlainKey) : List PlainKey :=
  ks.filter (fun j => !sameKey k.ktype k.index k.slot j) ++ [k]

/-- A newly loaded session key empties the window of its partner and slot (R417). -/
def emptyWindow (s : State) (entry slot : Nat) : State :=
  let a := (partnerAt s entry).addr
  updInter s fun x => { x with wins := x.wins.filter fun w => !(w.partner == a && w.kslot == slot) }

def takeKey (s : State) (k : PlainKey) : State :=
  let s1 := { s with sec := { s.sec with plain := putKey s.sec.plain k } }
  if k.ktype = 5 then emptyWindow s1 k.index k.slot else s1

/-- Keys loaded and erased take effect; a changed lane or permit key starts a round of the key channel (R249,
R417). -/
def applyKeys (s : State) : State :=
  let c := s.sec
  let round := c.coming.any (fun k => k.ktype ≤ 2) || c.going.any (fun g => g.1 ≤ 2)
  let left := c.plain.filter fun k => !c.going.any fun g => sameKey g.1 g.2.1 g.2.2 k
  let s1 := c.coming.foldl takeKey { s with sec := { c with plain := left, coming := [], going := [] } }
  if round then startKeyRound s1 else s1

/-- Zeroisation of every plain key; the vital side sets KZERO (R249, R418). DEDUCED (log entry 131): it leaves every blob
usable, as the blobs unwrap with matching counters at the start that follows a shut-down. -/
def zeroisePlain (s : State) : State :=
  { s with sec := { s.sec with plain := [], coming := [], going := [] }
           lio := { s.lio with vital := { s.lio.vital with kzero := true, keys := [], kseg := 0 } } }

/-- Entry into RETIRED: every blob, counter and plain key (R408, R418). -/
def eraseEvery (s : State) : State :=
  let c := s.sec.blobs.foldl (fun c b => bumpCounter c b.ktype b.index b.slot) s.sec
  { s with sec := { c with plain := [], coming := [], going := [], blobs := [], initialKey := false } }

/-! ## Debug level and lifecycle -/

/-- Every halt is released: the lane is to be resynchronised (R180). -/
def releaseHalts (s : State) : State :=
  { s with vot := allLanes s.vot fun b => { b with wantIn := b.wantIn || b.state = .halted, wantHalt := false } }

/-- The debug level becomes `d` (R411); below D2 every halt is released, at D3 every plain key is zeroised. -/
def setDebug (s : State) (d : Dbg) (l : Option Lane) : State :=
  let keep := 2 ≤ d.code
  let s1 := { s with sec := { s.sec with dbg := d, dlane := if keep then l else none, wantDbg := none } }
  let s2 := if keep then s1 else releaseHalts s1
  let s3 := if d = .d3 then zeroisePlain s2 else s2
  setLive s3 .sec eDEBUG_OPEN (d ≠ .d0)

/-- CONFIG record of a change of lifecycle or of TAMPER_REARM (R408, R415): the spec names its type and no EVENT
for it, so EVENT is a free value (log entry 7). -/
def configRecord (s : State) : State :=
  let (w, s1) := takeFree s
  frameRec s1 0x08 0 (be 1 (w.toNat % 256) ++ be 1 0 ++ be 4 0)

/-- A change of the lifecycle state (R408, R410). -/
def changeLife (s : State) (t : Life) : State :=
  let was := s.sec.life
  let s1 := setDebug { s with sec := { s.sec with life := t, wantLife := none } } .d0 none
  let s2 := if was = .factory ∧ t = .commission then { s1 with sec := { s1.sec with initialKey := false } } else s1
  configRecord (if t = .retired then eraseEvery s2 else s2)

end Sys2Proof.Machine
end

