-- ==== Sys2Proof/Machine/Field.lean ====
section
/-! DEFINITION. The field clusters' commands (R205 to R240). -/

namespace Sys2Proof.Machine

open Sys2Proof

/-- Bit of a source of a cluster: those of Cluster 1 stand 8 higher (R240). -/
def nAt (c : Cluster) (n : Nat) : Nat := n + 8 * c.num

/-- The cycle number after another, modulo 2^32 (R211). -/
def nextCycle (n : Nat) : Nat := (n + 1) % 2 ^ 32

/-- Cycles from `a` to `b` modulo 2^32 (R211). -/
def cyclesSince (a b : Nat) : Nat := (b + 2 ^ 32 - a) % 2 ^ 32

def FrnBlk.isRoot (f : FrnBlk) : Bool := f.state = .cold || f.state = .run || f.state = .syncOnly

/-- A sync node of the schedule table (R227). -/
def isSyncNode (s : State) (c : Cluster) (n : Nat) : Bool :=
  ((s.mzp.bind fun st => stNode? st c n).map (·.sync)).getD false

/-! ## Cycle start (R209, R219, R225, R230, R231, R240) -/

/-- Whether any admitted node has been heard in the cycle in progress. -/
def admittedHeard (f : FrnBlk) : Bool := f.nodes.any fun b => b.state = .admitted && b.heard

/-- A silent cycle that R355 does not count: at a port in FOLLOW, or in the first 16 cycles of RUN after a
takeover, a cycle in which no admitted node is heard. -/
def silenceSpared (f : FrnBlk) : Bool :=
  !admittedHeard f && (f.state = .follow || f.state = .followNoSync ||
    match f.runCycles with
    | some k => k ≤ 16
    | none => false)

/-- A node at the end of a cycle: heard or missing (R232); what the cycle had valid is that of the last one (R239). -/
def closeNode (spared : Bool) (b : NodeBlk) : NodeBlk :=
  let b := { b with va := b.nowA, vb := b.nowB, nowA := false, nowB := false }
  if b.heard then { b with heard := false, missing := 0, clean := b.clean + 1, devPrev := b.dev }
  else
    let back := if b.state = .oneClean then (if b.wasDropped then .dropped else .ranging) else b.state
    { b with state := back, missing := if spared && b.state = .admitted then b.missing else b.missing + 1
             clean := 0, dev := none, devPrev := none }

/-- Every admitted node valid on one channel only, with both channels enabled (R233). -/
def oneChannelOnly (s : State) (c : Cluster) (f : FrnBlk) : Bool :=
  let adm := f.nodes.filter (·.state = .admitted)
  chanOn s c .a && chanOn s c .b && !adm.isEmpty && adm.all fun b => b.heard && b.nowA != b.nowB

/-- A guardian at the end of a cycle (R225): CLOSED while its table fails its CRC; in LISTEN the fourth slot 0 frame in a row
opens it, in RUN the fourth one lost in a row closes it; BLOCKED it stays until its 10,000 cycles are over. DESIGN CHOICE
(log entry 118): a module port's guardian follows the slot 0 frames that its own port forms, and holds its δ, which no one
ranges, so that it never waits in RANGING. -/
def guardCycle (bad slot0 : Bool) (g : GuardianBlk) : GuardianBlk :=
  let g := { g with cut := false }
  if bad then { g with state := .closed, good := 0, lost := 0 }
  else match g.state with
    | .closed => { g with state := .listen, good := 0, lost := 0 }
    | .listen =>
      if !slot0 then { g with good := 0 }
      else if g.good ≥ 3 then { g with state := .run, good := 0, lost := 0 }
      else { g with good := g.good + 1 }
    | .blocked => g
    | _ => if slot0 then { g with lost := 0 }
      else if g.lost ≥ 3 then { g with state := .listen, good := 0, lost := 0 }
      else { g with lost := g.lost + 1 }

/-- The end of the cycle in progress: what its silence and its cuts leave, and the sources evaluated in every field cycle
(R233, R240, R326). A valid copy breaks the silence of R240 also where the other channel's copy differs. -/
def closeCycle (env : CycleEnv) (s : State) (c : Cluster) : State :=
  let f := frnOf s c
  let one := if oneChannelOnly s c f then f.oneChan + 1 else 0
  let silent := if f.nodes.isEmpty || f.nodes.any (fun b => b.nowA || b.nowB) then 0 else f.silent + 1
  let cut := f.guardA.cut || f.guardB.cut
  let spared := silenceSpared f
  let paced := s.dpx.takeAt.isSome && f.state = .run &&
    (c = .c0 || (s.frn0.state = .off))
  let all := (s.dpx.takeNodes.filter (·.1 = c)).all fun p =>
    f.nodes.any fun b => b.node == p.2 && b.heard
  let s0 := if paced then
      { s with dpx := { s.dpx with takeGood := if all then s.dpx.takeGood + 1 else 0 } }
    else s
  let s1 := setFrn s0 c fun f =>
    { f with oneChan := one, silent := silent, nodes := f.nodes.map (closeNode spared)
             partnerPrev := f.partnerSync, partnerSync := none
             guardA := guardCycle (env.tableBad.contains .a) (!f.mute) f.guardA
             guardB := guardCycle (env.tableBad.contains .b) (!f.mute) f.guardB }
  let s2 := setLive s1 .frn (nAt c nCHANNEL) (3 ≤ one)
  let s3 := setLive s2 .frn (nAt c nCLUSTER_DOWN) (3 ≤ silent)
  let s4 := setLive s3 .frn (nAt c nDROPOUT) ((frnOf s3 c).nodes.any (·.state = .dropped))
  let s5 := setLive (setLive s4 .frn (nAt c nGUARDIAN) cut) .frn (nAt c nSCHEDULE) env.scheduleBad
  if f.cycle % 16 = 15 then setLive s5 .frn (nAt c nADMIT_FAIL) (f.refusedAt = some f.cycle) else s5

/-- The port's state in the cycle that starts (R177, R230, R352). -/
def portCycle (f : FrnBlk) (relinquished : Bool) : FrnBlk :=
  let f1 := if f.begun then { f with cycle := nextCycle f.cycle } else { f with begun := true }
  let heardSync := f.nodes.any fun b => b.state = .admitted && b.dev.isSome
  let st :=
    if f.goRun then .run
    else if f.stopPending || (relinquished && f.isRoot) then .syncOnly
    else match f.state with
      | .cold => if f1.cycle ≥ 4 then .run else .cold
      | .follow | .followNoSync => if heardSync then .follow else .followNoSync
      | other => other
  let out := f.stopPending || st = .syncOnly
  { f1 with state := st
            goRun := false
            stopPending := false
            mute := !f.goRun && (f.mute || f.muteDue)
            muteDue := false
            runCycles := if f.goRun then some 1 else f.runCycles.map (· + 1)
            current := if out then [] else f1.current
            nodes := f1.nodes.map fun b =>
              { b with withdrawn := b.withdrawn || b.withdrawDue, withdrawDue := false } }

/-- Whether the coupler above a party is ranged, so that the party can be: the module port needs none (R232). -/
def reachable (f : FrnBlk) (ch : Chan) (up : Option Nat) : Bool :=
  match up with
  | none => true
  | some n => f.couplers.any fun k => k.num == n && k.chan = ch && k.dly.isSome

/-- The couplers and nodes that the sweep of a channel asks, in its order (R231); a subtree enters once its coupler has been
ranged (R232). -/
def sweepOf (s : State) (c : Cluster) (ch : Chan) : List Party :=
  let f := frnOf s c
  let upOfCoupler := fun (n : Nat) => (s.mzp.bind fun st =>
    st.couplers.find? fun k => k.cluster = c && k.chan = ch && k.num == n).bind (·.up)
  let upOfNode := fun (n : Nat) => (s.mzp.bind fun st => stNode? st c n).bind fun d => match ch with
    | .a => d.upA
    | .b => d.upB
  let level := fun (n : Nat) => ((s.mzp.bind fun st =>
    st.couplers.find? fun k => k.cluster = c && k.chan = ch && k.num == n).map (·.level)).getD 0
  let cs := f.couplers.filter fun k => k.chan = ch && k.dly.isNone && !k.refused && reachable f ch (upOfCoupler k.num)
  let ns := f.nodes.filter fun b => b.state ≠ .refused && b.state ≠ .dropped
    && (match ch with | .a => b.dlyA | .b => b.dlyB).isNone && reachable f ch (upOfNode b.node)
  (sortBy (fun k : CouplerBlk => level k.num * 64 + k.num) cs).map (fun k => .coupler k.num)
    ++ (sortBy (·.node) ns).map fun b => .node b.node

/-- The place of a party in the sweep's order. -/
def partyKey (s : State) (c : Cluster) (ch : Chan) : Party → Nat
  | .coupler n => ((s.mzp.bind fun st =>
      st.couplers.find? fun k => k.cluster = c && k.chan = ch && k.num == n).map (·.level)).getD 0 * 64 + n
  | .node n => 100000 + n

/-- The next party of the sweep: the first after the one asked last, or the first (R231). -/
def nextParty? (s : State) (c : Cluster) (ch : Chan) (last : Option Party) : Option Party :=
  let ps := sweepOf s c ch
  match last with
  | none => ps.head?
  | some l => match ps.find? fun p => partyKey s c ch p > partyKey s c ch l with
    | some p => some p
    | none => ps.head?

/-- A RANGE request on one channel; the party drops its δ (R231). -/
def askRange (s : State) (c : Cluster) (ch : Chan) : State :=
  let f := frnOf s c
  let last := match ch with | .a => f.sweepA | .b => f.sweepB
  if !chanOn s c ch then s
  else match nextParty? s c ch last with
    | none => s
    | some p =>
      let s1 := sendOn s c ch (dynamicBytes s c 0xC3 p ch [])
      let ask := some (p, f.cycle)
      let s2 := setFrn s1 c fun f => match ch with
        | .a => { f with askA := ask, sweepA := some p }
        | .b => { f with askB := ask, sweepB := some p }
      match p with
      | .coupler _ => s2
      | .node n => setNode s2 c n fun b => { b with state := if b.state = .absent then .ranging else b.state }

/-- RANGED in the cycle after a reply (R231). -/
def sendRanged (s : State) (c : Cluster) (ch : Chan) : State :=
  let f := frnOf s c
  match (match ch with | .a => f.rangedA | .b => f.rangedB) with
  | none => s
  | some (p, d) =>
    let s1 := sendOn s c ch (dynamicBytes s c 0xC5 p ch (be 2 d))
    setFrn s1 c fun f => match ch with
      | .a => { f with rangedA := none }
      | .b => { f with rangedB := none }

/-- An empty message: what slots 0 to 15 carry before the first release point (R230). -/
def emptyMsg (s : State) (slot : Nat) : DlMsg :=
  { slot := slot, frame := s.core.counter, entries := []
    sig1 := (Config.freeWord s.free).setWidth 64, sig2 := (Config.freeWord (s.free + 1)).setWidth 64 }

/-- Slots 0 to 15 of a cycle in RUN (R216). -/
def sendDownlink (s : State) (c : Cluster) : State :=
  let cur := (frnOf s c).current
  let msgs := if cur.isEmpty then (List.range 16).map (emptyMsg s) else cur
  let s1 := if cur.isEmpty then { s with free := s.free + 2 } else s
  msgs.foldl (fun s m => sendBoth s c fun _ => downlinkBytes s c m) s1

/-- What a port sends at a cycle start (R223, R230). -/
def sendCycle (s : State) (c : Cluster) : State :=
  match (frnOf s c).state with
  | .off => s
  | .run => sendDownlink s c
  | .follow | .followNoSync => sendBoth s c fun _ => syncBytes s c 0xFF
  | .cold | .syncOnly => sendBoth s c fun _ => syncBytes s c 0

/-- Pointers of mailboxes change without a write (R240). -/
def upsetMailboxes (env : CycleEnv) (c : Cluster) (s : State) : State :=
  env.mailbox.foldl (fun s e => setNode s c e.1 fun b =>
    match e.2 with
    | (true, true) => { b with frozenN := 1 - b.frozenN }
    | (true, false) => { b with frozen := 1 - b.frozen }
    | (false, true) => { b with latestN := 1 - b.latestN }
    | (false, false) => { b with latest := 1 - b.latest }) s

/-- FIELD_CYCLE_START (R209, R211, R219, R230, R231). -/
def execFieldCycleStart (c : Cluster) (env : CycleEnv) (s : State) : Out :=
  let s := upsetMailboxes env c (later s env.now)
  if (frnOf s c).state = .off then .next s
  else
    let s1 := if (frnOf s c).begun then closeCycle env s c else s
    let s2 := setFrn s1 c fun f => { portCycle f (gaveUp s1) with cycleAt := s1.now }
    let running := (frnOf s2 c).state = .run
    let paced := s2.dpx.takeAt.isSome && running && (c = .c0 || s2.frn0.state = .off)
    let s3 := if paced then { s2 with dpx := { s2.dpx with takeCycles := s2.dpx.takeCycles + 1 } } else s2
    let s4 := sendCycle s3 c
    let asks := running || (frnOf s4 c).state = .cold
    if asks then
      let s5 := sendRanged (sendRanged s4 c .a) c .b
      if (frnOf s5 c).cycle % 16 = 15 then .next (askRange (askRange s5 c .a) c .b) else .next s5
    else .next s4

/-! ## Clock synchronisation (R227) -/

/-- The fault-tolerant average: the discarded extremes, the mean of the rest towards zero, the count. -/
def ftAverage (vs : List Int) : Int :=
  let n := vs.length
  let k := if n > 7 then 2 else 1
  if n > 2 * k then
    let mid := ((vs.mergeSort (· ≤ ·)).drop k).take (n - 2 * k)
    Int.tdiv (mid.foldl (· + ·) 0) (n - 2 * k : Nat)
  else 0

def clampTo (lim : Int) (v : Int) : Int := max (-lim) (min lim v)

/-- OFFSET_CORRECTION (R227): at macrotick 9,500 of an odd cycle. -/
def execOffsetCorrection (c : Cluster) (now : Nat) (s : State) : Out :=
  let s := later s now
  let f := frnOf s c
  if f.state = .off ∨ !f.begun ∨ f.cycle % 2 = 0 then .next s
  else
    let sync := f.nodes.filter fun b => b.state = .admitted && b.heard && isSyncNode s c b.node
    let devs := sync.filterMap (·.dev) ++ f.partnerSync.toList
    let both := (sync.filterMap fun b => match b.dev, b.devPrev with
      | some d, some p => some (d - p)
      | _, _ => none) ++ (match f.partnerSync, f.partnerPrev with
      | some d, some p => [d - p]
      | _, _ => [])
    let raw := ftAverage (0 :: devs)
    let off := clampTo 40 raw
    let n := devs.length + 1
    let prec := (devs.map fun d => d.natAbs * 8).foldl max 0
    let s1 := setFrn s c fun f =>
      { f with offs := off, rate := clampTo 8 (f.rate + ftAverage (0 :: both)), prec := min 65535 prec
               nsync := n }
    .next (setLive s1 .frn (nAt c nSYNC_LOSS) (raw ≠ off || n < 3))

/-! ## Uplinks (R220, R221, R232 to R234) -/

/-- Whether an uplink copy is valid for a node (R221): CRC and VCHK, type, node and NEL, SYNCED and RANGED,
and its start within the guardian window of 0.12 µs before to 2.20 µs after the action point. -/
def uplinkOk (s : State) (c : Cluster) (d : NodeDef) (a : Arrival) : Bool :=
  let n := a.data.length
  let head := a.data.take (16 + 2 * d.nel)
  n == 24 + 2 * d.nel && fieldAt a.data 0 1 == 0xB1 && fieldAt a.data 1 1 == d.node
    && fieldAt a.data 14 1 == d.nel
    && fieldAt a.data (n - 4) 4 == (crc32c (a.data.take (n - 4))).toNat
    && fieldAt a.data (n - 8) 4 == (vchk (ownPair s.cfg) c.num d.node head).toNat
    && fieldAt a.data 6 2 / 0x4000 == 3
    && -15 ≤ a.dev && a.dev ≤ 275

/-- The reports of an uplink (R220). -/
def reportsOf (nel : Nat) (bs : Bytes) : List Report :=
  (List.range nel).map fun k =>
    let w := fieldAt bs (16 + 2 * k) 2
    { state := w / 0x1000, fault := w / 0x800 % 2 == 1, aux := w % 256 }

/-- The valid uplink goes into the buffer that is not frozen (R54, R234). -/
def writeMailbox (b : NodeBlk) (u : Uplink) : NodeBlk :=
  if b.frozen = 0 then { b with buf1 := some u, latest := 1, latestN := 0 }
  else { b with buf0 := some u, latest := 0, latestN := 1 }

/-- No buffer holds an uplink received after the admission (R98). -/
def beforeAdmission (b : NodeBlk) : NodeBlk :=
  let old := fun (u : Uplink) => { u with admitted := false }
  { b with buf0 := b.buf0.map old, buf1 := b.buf1.map old }

/-- Admission at the end of the slot in the second of two consecutive valid cycles (R232); a refused
party stays refused (R231). -/
def admitStep (b : NodeBlk) : NodeBlk :=
  match b.state with
  | .admitted => b
  | .refused => b
  | .notConfigured => b
  | _ =>
    if b.clean ≥ 1 then
      { beforeAdmission b with state := .admitted, wasDropped := false, altCfg := none
                               cfgId := if b.altCfg.isSome then b.ranCfg else b.cfgId }
    else { b with state := .oneClean, wasDropped := b.wasDropped || b.state = .dropped }

/-- The copy taken from A and B (R233), and the errors counted. -/
def takeCopy (okA okB : Bool) (a b : Option Arrival) : Option (Arrival × Bool) × Nat × Nat :=
  match okA, okB with
  | true, false => (a.map (·, true), 0, 0)
  | false, true => (b.map (·, false), 1, 0)
  | false, false => (none, 0, 0)
  | true, true =>
    if a.map (·.data) = b.map (·.data) then (a.map (·, true), 0, 0) else (none, 1, 1)

/-- UPLINK (R221, R232, R233, R234, R355): the copies of one node's uplink that a cycle's slot brings. -/
def execUplink (c : Cluster) (node : Nat) (copyA copyB : Option Arrival) (now : Nat) (s : State) : Out :=
  let s := later s now
  let f := frnOf s c
  match nodeOf? s c node, s.mzp.bind fun st => stNode? st c node with
  | some _, some d =>
    if f.state = .off then .next s
    else
      let okA := linkOn s c .a && (copyA.map (uplinkOk s c d)).getD false
      let okB := linkOn s c .b && (copyB.map (uplinkOk s c d)).getD false
      let (taken, eA, eB) := takeCopy okA okB copyA copyB
      let both := chanOn s c .a && chanOn s c .b
      let s0 := setNode s c node fun b => { b with nowA := okA, nowB := okB }
      let s1 := setFrn s0 c fun f =>
        { f with errA := if both then satAdd 65535 eA f.errA else f.errA
                 errB := if both then satAdd 65535 eB f.errB else f.errB }
      match taken with
      | none => .next s1
      | some (a, _) =>
        let follows := f.state = .follow || f.state = .followNoSync
        let cyc := if follows then fieldAt a.data 2 4 else f.cycle
        let s2 := setFrn s1 c (numberCycle cyc)
        let u : Uplink := { cycle := cyc, nstat := fieldAt a.data 6 2, lastF := fieldAt a.data 8 6
                            reports := reportsOf d.nel a.data }
        .next (setNode (checkMailboxes s2 c fun b => b.node == node) c node fun b =>
          let b1 := admitStep (writeMailbox b { u with admitted := b.state = .admitted })
          { b1 with heard := true, lastValid := some cyc, dev := some a.dev })
  | _, _ => .next s

/-- SYNC_FRAME (R223): the STANDBY module's port counts as a sync node at a root. -/
def execSyncFrame (c : Cluster) (arr : Arrival) (now : Nat) (s : State) : Out :=
  let s := later s now
  let ok := match unCrc? arr.data with
    | some h => h.length == 12 && fieldAt h 0 1 == 0xA2 && fieldAt h 1 1 == 0xFF && fieldAt h 8 2 == 0
        && fieldAt h 10 1 == c.num
    | none => false
  if (frnOf s c).isRoot && ok then .next (setFrn s c fun f => { f with partnerSync := some arr.dev })
  else .next s

/-- Consecutive cycles without a valid uplink once the cycle in progress counts too. -/
def missingNow (f : FrnBlk) (b : NodeBlk) : Nat :=
  if b.heard then 0 else if silenceSpared f then b.missing else b.missing + 1

/-- DROPOUT (R232): declared at the end of the slot; the withdrawal bit follows at the next cycle start
(R219), and entries for the node are restricted from then on (R97). -/
def execDropout (c : Cluster) (node : Nat) (s : State) : Out :=
  let f := frnOf s c
  match nodeOf? s c node with
  | some b =>
    if f.state ≠ .off ∧ b.state = .admitted ∧ missingNow f b ≥ dropLimit s c then
      let s1 := setNode s c node fun b =>
        { b with state := .dropped, wasDropped := true, withdrawDue := true, onlyRestr := true }
      let s2 := setFrn s1 c fun f => { f with svc := f.svc.filter (·.node != node) }
      .next (raise s2 .frn (nAt c nDROPOUT))
    else .next s
  | none => .next s

/-- RETURN_TO_ABSENT (R232). -/
def execReturnToAbsent (c : Cluster) (node : Nat) (s : State) : Out :=
  let f := frnOf s c
  match nodeOf? s c node with
  | some b =>
    let silent := match b.lastValid with
      | some k => decide (64 ≤ cyclesSince k f.cycle)
      | none => true
    if b.state = .dropped && silent then
      .next (setNode s c node fun b =>
        { b with state := .absent, dlyA := none, dlyB := none, wasDropped := false })
    else .next s
  | none => .next s

/-! ## Ranging (R231) -/

/-- What the module's record says of a party: schedule table identifier and the configuration identifiers
that it accepts (R231, R386). -/
def recordOf (s : State) (c : Cluster) (ch : Chan) : Party → Option (Nat × List Nat)
  | .coupler n => (s.mzp.bind fun st =>
      st.couplers.find? fun k => k.cluster = c && k.chan = ch && k.num == n).map fun k => (k.schedId, [k.cfgId])
  | .node n => (s.mzp.bind fun st => stNode? st c n).map fun d =>
      let b := nodeOf? s c n
      (d.schedId, ((b.bind (·.cfgId)).getD d.cfgId) :: (b.bind (·.altCfg)).toList)

/-- A party's delay on a channel. -/
def setDelay (s : State) (c : Cluster) (ch : Chan) (p : Party) (d : Option Nat) (cfgId : Nat) : State :=
  match p with
  | .coupler n => setFrn s c fun f =>
      let cs := updAll (fun k : CouplerBlk => k.chan = ch && k.num == n) (fun k => { k with dly := d }) f.couplers
      { f with couplers := cs }
  | .node n => setNode s c n fun b => match ch with
      | .a => { b with dlyA := d, ranCfg := some cfgId }
      | .b => { b with dlyB := d, ranCfg := some cfgId }

/-- A party is refused: no RANGED is sent, and ADMIT_FAIL is raised (R231). -/
def refuseParty (s : State) (c : Cluster) (ch : Chan) (p : Party) : State :=
  let s1 := match p with
    | .coupler n => setFrn s c fun f =>
        let cs := updAll (fun k : CouplerBlk => k.chan = ch && k.num == n) (fun k => { k with refused := true })
          f.couplers
        { f with couplers := cs }
    | .node n => setNode s c n fun b => { b with state := .refused }
  raise (setFrn s1 c fun f => { f with refusedAt := some f.cycle }) .frn (nAt c nADMIT_FAIL)

/-- RANGE_REPLY (R231): `late` is the lateness of the reply in microticks; δ is half of it, refused above
60.0 µs or where an identifier differs. -/
def execRangeReply (c : Cluster) (chan : Chan) (data : Bytes) (late now : Nat) (s : State) : Out :=
  let s := later s now
  let f := frnOf s c
  match (match chan with | .a => f.askA | .b => f.askB), unCrc? data with
  | some (p, cyc), some h =>
    if h.length ≠ 20 ∨ fieldAt h 0 1 ≠ 0xC4 ∨ fieldAt h 8 2 ≠ 8 ∨ fieldAt h 1 1 ≠ p.kind
        ∨ fieldAt h 2 1 ≠ p.num ∨ cyc ≠ f.cycle then .next s
    else
      let s1 := setFrn s c fun f => match chan with
        | .a => { f with askA := none }
        | .b => { f with askB := none }
      let d := late / 2
      match recordOf s c chan p with
      | none => .next s1
      | some (sched, cfgs) =>
        if fieldAt h 12 4 ≠ sched ∨ !cfgs.contains (fieldAt h 16 4) ∨ d > 7500 then
          .next (refuseParty s1 c chan p)
        else
          let s2 := setDelay s1 c chan p (some d) (fieldAt h 16 4)
          .next (setFrn s2 c fun f => match chan with
            | .a => { f with rangedA := some (p, d) }
            | .b => { f with rangedB := some (p, d) })
  | _, _ => .next s

/-- RANGING_WINDOW_TIMEOUT (R231): the party stays unranged until its next turn. -/
def execRangingWindowTimeout (c : Cluster) (chan : Chan) (s : State) : Out :=
  let f := frnOf s c
  match (match chan with | .a => f.askA | .b => f.askB) with
  | none => .next s
  | some (p, _) =>
    let s1 := setFrn s c fun f => match chan with
      | .a => { f with askA := none }
      | .b => { f with askB := none }
    match p with
    | .coupler _ => .next s1
    | .node n => .next (setNode s1 c n fun b =>
        { b with state := if b.state = .ranging && b.dlyA.isNone && b.dlyB.isNone then .absent else b.state })

/-! ## Service answers (R224) -/

/-- An upstream service frame: node, code, REF, content; none where it is discarded (R213, R222, R224). -/
structure SvcIn where
  node : Nat
  code : Nat
  ref : Nat
  content : Bytes
  deriving DecidableEq, Repr

def parseSvc? (data : Bytes) : Option SvcIn :=
  match unCrc? data with
  | none => none
  | some h =>
    if h.length < 20 ∨ fieldAt h 0 1 ≠ 0xC2 ∨ fieldAt h 8 2 + 12 ≠ h.length ∨ fieldAt h 1 1 ≠ 0 then none
    else some { node := fieldAt h 2 1, code := fieldAt h 12 1, ref := fieldAt h 16 4, content := h.drop 20 }

/-- The waiting frame that an answer names is answered. -/
def answered (s : State) (c : Cluster) (v : SvcIn) : State :=
  setFrn s c fun f => { f with svc := f.svc.filter fun w => !(w.node == v.node && w.snum == v.ref) }

def svcFor? (s : State) (c : Cluster) (v : SvcIn) : Option SvcOut :=
  (frnOf s c).svc.find? fun w => w.node == v.node && w.snum == v.ref

/-- ACK (R224, R386): the frame it answers is no longer repeated; a status other than 0 to an OCF frame ends
the node's distribution. -/
def execAck (c : Cluster) (data : Bytes) (s : State) : Out :=
  match parseSvc? data with
  | some v =>
    if v.code ≠ 0x81 then .next s
    else
      let w := svcFor? s c v
      let bad := fieldAt v.content 0 1 ≠ 0 && (w.map fun w => 2 ≤ w.code && w.code ≤ 4) == some true
      let s1 := answered s c v
      if bad then .next (setNode s1 c v.node fun b => { b with ocfWant := false, ocfState := 0 })
      else .next s1
  | none => .next s

/-- The image of an OCF package held in a bank that may be distributed (R386). -/
def ocfImage? (s : State) (pkg : Nat) : Option Bank :=
  [s.upd.ocf.a, s.upd.ocf.b].find? fun b =>
    (b.state = .verified || b.state = .confirmed) && hdrImgId b.header == pkg

/-- Blocks of a package (R224). -/
def ocfCount (image : Bytes) : Nat := (image.length + 3967) / 3968

/-- One OCF_BLOCK to a node (R224). -/
def sendOcfBlock (s : State) (c : Cluster) (node pkg : Nat) (image : Bytes) (k : Nat) : State :=
  let part := slice image (3968 * k) 3968
  sendService s c node 0x02 pkg (be 4 k ++ be 4 (ocfCount image) ++ be 4 (crc32c part).toNat ++ part)

/-- OCF_STATE (R224, R386): the first block missing is sent again; a verified package waits for the order to
restart. -/
def execOcfState (c : Cluster) (data : Bytes) (s : State) : Out :=
  match parseSvc? data with
  | some v =>
    if v.code ≠ 0x82 then .next s
    else
      let pkg := fieldAt v.content 0 4
      let missing := fieldAt v.content 8 4
      let st := fieldAt v.content 12 1
      let s1 := setNode (answered s c v) c v.node fun b =>
        { b with ocfState := st, ocfMissing := missing, ocfReceived := fieldAt v.content 4 4
                 ocfWant := b.ocfWant || (st == 2 && b.ocfPkg == pkg) }
      match nodeOf? s1 c v.node, ocfImage? s1 pkg with
      | some b, some bank =>
        if b.ocfPkg = pkg ∧ st ≤ 1 ∧ missing ≠ 0xFFFFFFFF ∧ missing < ocfCount bank.image then
          .next (sendOcfBlock s1 c v.node pkg bank.image missing)
        else .next s1
      | _, _ => .next s1
  | none => .next s

/-- DIAG_REPLY (R224): data defined by the node maker; nothing of the module's state follows from it. -/
def execDiagReply (c : Cluster) (data : Bytes) (s : State) : Out :=
  match parseSvc? data with
  | some v => if v.code = 0x83 then .next (answered s c v) else .next s
  | none => .next s

/-- CONFIG_SET_REPEAT (R224): an unacknowledged CONFIG_SET or OCF_RESTART is repeated every 16th cycle. -/
def execConfigSetRepeat (c : Cluster) (node : Nat) (s : State) : Out :=
  let f := frnOf s c
  let due := fun (w : SvcOut) => w.node == node && (w.code == 0x01 || w.code == 0x04)
    && decide (16 ≤ cyclesSince w.sentCycle f.cycle)
  let s1 := (f.svc.filter due).foldl (fun s w => sendSvc s c w) s
  .next (setFrn s1 c fun f => { f with svc := updAll due (fun w => { w with sentCycle := f.cycle }) f.svc })

/-- Whether a node may be ordered to restart (R386): no crumb on its elements, and every one commanded
restrictive in the last released frame. -/
def nodeQuiet (s : State) (c : Cluster) (node : Nat) : Bool :=
  match s.mzp with
  | none => true
  | some st =>
    let os := (nodeObjs st c node).map (·.2)
    let ent := ((frnOf s c).current.flatMap (·.entries)).find? (·.node == node)
    let cmdOf := fun (d : ObjDesc) (k : Nat) => match ent with
      | some e => isRestrictive d.ty ((e.states[k]?).getD 0)
      | none => true
    os.all (fun d => (crumbsOn s.core.crumbs d.idx).isEmpty)
      && (nodeObjs st c node).all fun p => cmdOf p.2 p.1

/-- OCF_RESTART (R386): the order to restart onto the package, and the two configuration identifiers
accepted until the node is next admitted. A refused node is tried again with it (R231). -/
def execOcfRestart (c : Cluster) (node : Nat) (s : State) : Out :=
  match nodeOf? s c node with
  | some b =>
    if b.ocfWant && nodeQuiet s c node then
      let new := ((ocfImage? s b.ocfPkg).bind fun k => match k.content with
        | .ocf ids => ids.find? (·.1 == node)
        | _ => none).map (·.2)
      let s1 := setNode s c node fun b =>
        { b with ocfWant := false, altCfg := new, state := if b.state = .refused then .absent else b.state }
      .next (sendService s1 c node 0x04 b.ocfPkg [])
    else .next s
  | none => .next s

/-! ## Guardians (R225) -/

/-- GUARDIAN_VIOLATION (R225, R226): the transmission is cut; the third violation within 1,000 cycles blocks
the guardian, for good where it is the second within 1 h. -/
def execGuardianViolation (c : Cluster) (chan : Chan) (now : Nat) (s : State) : Out :=
  let s := later s now
  let f := frnOf s c
  let g := guardOf f chan
  if g.state ≠ .run then .next s
  else
    let vs := f.cycle :: g.violations.filter fun k => cyclesSince k f.cycle < 1000
    let block := vs.length ≥ 3
    let recent := g.blockedTimes.any fun t => s.now < t + 3600000000
    let g1 := if block then
        { g with state := .blocked, violations := [], blockedAt := some f.cycle, cut := true
                 blockedTimes := s.now :: g.blockedTimes, forever := recent }
      else { g with violations := vs, cut := true }
    .next (raise (setFrn s c fun f => setGuard f chan fun _ => g1) .frn (nAt c nGUARDIAN))

/-- GUARDIAN_BLOCKED_EXPIRY (R225). -/
def execGuardianBlockedExpiry (c : Cluster) (chan : Chan) (s : State) : Out :=
  let f := frnOf s c
  let g := guardOf f chan
  let over_ := match g.blockedAt with
    | some k => decide (10000 ≤ cyclesSince k f.cycle)
    | none => false
  if g.state = .blocked && over_ && !g.forever then
    .next (setFrn s c fun f => setGuard f chan fun g =>
      { g with state := .listen, blockedAt := none, good := 0 })
  else .next s

end Sys2Proof.Machine
end

