-- ==== Sys2Proof/Machine/Crumbs.lean ====
section
/-! DEFINITION. The lock store in work: how a footprint entry meets the crumbs on its object (R103,
R104), the claim of all requested transactions (R111, R112), and the freeing of crumbs (R115 to
R119). The lanes run the same rules on their shadow as Praline on its store (R27, R108). -/

namespace Sys2Proof.Machine

open Sys2Proof

/-- How a footprint entry meets its object's crumbs (R103, R104). -/
inductive Meet
  | new | join | handOver | conflict
  deriving DecidableEq, Repr

/-- R103 and R104; an entry that fails its check on the read is not built upon (R141). `mayTake s` says that the claimant's entry signal is the exit signal of the
transaction in slot `s`. -/
def meet (cs : List Crumb) (mayTake : Nat → Bool) (e : FpEntry) : Meet :=
  let on := crumbsOn cs e.obj
  if on.any crumbBad then .conflict
  else if on.any (·.pos != e.pos) then .conflict
  else if e.kind.shared then
    if on.any (·.shr) then .join else .new
  else match on.find? (!·.shr) with
    | none => .new
    | some c =>
      if c.kind = .overlap ∧ e.kind = .route ∧ mayTake c.owner then .handOver else .conflict

/-- Taking one entry of a footprint (R103, R104, R111). -/
def takeEntry (slot : Nat) (cs : List Crumb) (e : FpEntry) : List Crumb :=
  if e.kind.shared then
    if (sharedOn cs e.obj).isSome then
      updFirst (fun c => c.obj == e.obj && c.shr) (fun c => { c with refs := c.refs + 1, flip := 0 }) cs
    else
      cs ++ [{ shr := true, kind := e.kind, pos := e.pos, owner := 0xFF, refs := 1, obj := e.obj }]
  else if (exclOn cs e.obj).isSome then
    updFirst (fun c => c.obj == e.obj && !c.shr)
      (fun c => { c with kind := .route, owner := slot, tmg := false, flip := 0 }) cs
  else
    cs ++ [{ shr := false, kind := e.kind, pos := e.pos, owner := slot, refs := 1, obj := e.obj }]

/-- The outcome of one claim (R111). -/
inductive ClaimRes
  | claimed | conflict | short
  deriving DecidableEq, Repr

/-- One walk of a footprint: the crumbs it needs, or none where it meets a conflict or a reserved
object (R111). `barred` is a block of R287 on a point out of position. -/
def walk (cs : List Crumb) (reserved : List Nat) (mayTake : Nat → Bool)
    (barred : FpEntry → Bool) : List FpEntry → Option Nat
  | [] => some 0
  | e :: es =>
    if reserved.contains e.obj || barred e then none
    else match meet cs mayTake e with
      | .conflict => none
      | .new => (walk cs reserved mayTake barred es).map (· + 1)
      | _ => walk cs reserved mayTake barred es

/-- What a claim round carries from one claim to the next (R111, R112). -/
structure Claims where
  cs : List Crumb
  reserved : List Nat := []
  freeRes : Nat := 0
  results : List (Nat × ClaimRes) := []
  deriving DecidableEq, Repr

/-- A claim of the round (R111): slot, footprint, and what R104 asks of the claimant. -/
def claimOne (fp : Nat → List FpEntry) (mayTake : Nat → Nat → Bool) (barred : FpEntry → Bool)
    (c : Claims) (t : Nat × Nat) : Claims :=
  let es := fp t.2
  match walk c.cs c.reserved (mayTake t.2) barred es with
  | none =>
    { c with reserved := c.reserved ++ es.map (·.obj)
             results := c.results ++ [(t.1, .conflict)] }
  | some need =>
    if need > freeCrumbs c.cs - c.freeRes then
      { c with reserved := c.reserved ++ es.map (·.obj), freeRes := c.freeRes + need
               results := c.results ++ [(t.1, .short)] }
    else
      { c with cs := es.foldl (takeEntry t.1) c.cs
               results := c.results ++ [(t.1, .claimed)] }

/-- The REQUESTED transactions, oldest first: slot and route (R106, R111). -/
def requestedByAge (x : Inter) : List (Nat × Nat) :=
  let ts := x.txns.filter fun t => t.state = .requested && !t.byCancel
  (sortBy (·.age) (sortBy (·.order) ts)).map fun t => (t.slot, t.route)

/-- A block on a point bars a claim that requires another position than the one it is detected in
(R287). -/
def pointBarred (x : Inter) (e : FpEntry) : Bool :=
  match objOf? x e.obj with
  | some o => o.ty = .point && o.block && !(o.valid && o.rep == posRep e.pos)
  | none => false

/-- R104: whether route `r` may take over overlap crumbs of the transaction in a slot. -/
def mayTakeOver (x : Inter) (entry exit : Nat → Option Nat) (r s : Nat) : Bool :=
  match txnOfSlot? x s with
  | some t => (exit t.route).isSome && exit t.route == entry r
  | none => false

/-- A claim round over a route table and a store (R111). -/
def claimRound (x : Inter) (cs : List Crumb) (fp : Nat → List FpEntry) (entry exit : Nat → Option Nat) : Claims :=
  (requestedByAge x).foldl (claimOne fp (mayTakeOver x entry exit) (pointBarred x)) { cs := cs }

/-- The round on Praline's table and store. -/
def prlRound (p : Prt) (x : Inter) : Claims :=
  claimRound x x.crumbs (fun r => ((prtRoute? p r).map (·.footprint)).getD [])
    (fun r => (prtRoute? p r).map (·.entry)) (fun r => (prtRoute? p r).map (·.exit))

/-- The round on the lanes' station data and their shadow of the store (R27, R108). -/
def laneRound (st : Station) (x : Inter) : Claims :=
  claimRound x x.shadow (fun r => ((stRoute? st r).map (stFootprint st)).getD [])
    (fun r => (stRoute? st r).map (·.entry)) (fun r => (stRoute? st r).map (·.exit))

/-- Objects of a route's path and overlap sections (R108 transition 2). -/
def routeSections (st : Station) (rd : RouteDef) : List Nat :=
  ((rd.path.map (·.ref)) ++ rd.overlapSections).flatMap fun r => (stObjsOf st r).map (·.1)

/-- Objects of the overlap (R99). -/
def overlapObjs (st : Station) (rd : RouteDef) : List Nat :=
  (rd.overlapSections ++ rd.overlapPoints.map (·.1)).flatMap fun r => (stObjsOf st r).map (·.1)

/-- A claim that succeeded (R108 transition 2): crumbs held, SECTION.SLOT set, overlap LOCKED from here on, that of a
route without overlap elements as well (R116). -/
def applyClaimed (st : Station) (rd : RouteDef) (slot : Nat) (x : Inter) : Inter :=
  let held := (stFootprint st rd).map (·.obj)
  let secs := routeSections st rd
  let x1 := setTxn x slot fun t =>
    { t with state := .claimed, held := held, overlap := .locked }
  { x1 with objs := x1.objs.map fun o =>
      if o.ty = .track && secs.contains o.idx then { o with slot := slot } else o }

/-- Overlap hand-over seen from the transaction that gives the crumbs (R104). -/
def giveOverlap (st : Station) (cs : List Crumb) (t : Txn) : Txn :=
  match stRoute? st t.route with
  | none => t
  | some rd =>
    let gone := (overlapObjs st rd).filter fun i =>
      t.held.contains i && ((exclOn cs i).map (·.owner)).getD 255 != t.slot
    if gone.isEmpty then t
    else
      let held := t.held.filter fun i => !gone.contains i
      let left := (overlapObjs st rd).any held.contains
      { t with held := held, handed := t.handed ++ gone
               overlap := if left then t.overlap else .free }

/-- One claim's outcome on its transaction (R108 transitions 2 to 4, R113). -/
def applyResult (st : Station) (fin : FrameIn) (x : Inter) (r : Nat × ClaimRes) : Inter :=
  match txnOfSlot? x r.1 with
  | none => x
  | some t =>
    match r.2 with
    | .claimed =>
      match stRoute? st t.route with
      | some rd => addRec (applyClaimed st rd r.1 x) (routeRec t 1 2)
      | none => x
    | res =>
      let x1 := if res = .short then
          { x with claimShort := satAdd 0xFFFFFFFF 1 x.claimShort, shorts := t.route :: x.shorts }
        else { x with claimConf := satAdd 0xFFFFFFFF 1 x.claimConf }
      if t.admittedAt + t.waitMs * 1000 ≤ fin.tick then
        addRec (setTxn x1 r.1 fun u => { u with state := .refused }) (routeRec t 1 9)
      else x1

/-- The crumbs of a claim that both took, in the lanes' shadow (R27, R108). -/
def shadowClaim (st : Station) (x : Inter) (cs : List Crumb) (r : Nat × ClaimRes) : List Crumb :=
  match r.2, (txnOfSlot? x r.1).bind fun t => stRoute? st t.route with
  | .claimed, some rd => (stFootprint st rd).foldl (takeEntry r.1) cs
  | _, _ => cs

/-- The claims of a frame (R111): taken where Praline and the lanes agree on every result; where they
differ Praline's store stands and the transactions concerned keep their state (R143). -/
def doClaims (st : Station) (p : Prt) (fin : FrameIn) (x : Inter) : Inter :=
  let a := prlRound p x
  let b := laneRound st x
  let agreed := a.results.filter fun r => b.results.contains r
  let shadow := agreed.foldl (shadowClaim st x) x.shadow
  let x1 := { x with crumbs := a.cs, shadow := shadow, lockDiff := x.lockDiff || agreed != a.results || agreed != b.results }
  let x2 := agreed.foldl (applyResult st fin) x1
  { x2 with txns := x2.txns.map (giveOverlap st x2.shadow) }

/-- While Praline is fenced no claim is made; the wait limit still runs (R113, R146). DESIGN CHOICE (log entry 105): each
request that waits counts in each frame as a claim failed by conflict, and is answered as one. -/
def noClaims (st : Station) (fin : FrameIn) (x : Inter) : Inter :=
  (requestedByAge x).foldl (fun y t => applyResult st fin y (t.1, .conflict)) x

/-! ## Freeing (R115 to R119) -/

/-- Whether a footprint holds the object shared (R99, R102). -/
def holdsShared (fp : List FpEntry) (i : Nat) : Bool :=
  ((fp.find? (·.obj == i)).map (·.kind.shared)).getD false

/-- Frees one object's crumb of a slot: an exclusive one goes, a shared one loses a reference and goes
with its last (R115). -/
def freeOne (slot : Nat) (shared : Bool) (cs : List Crumb) (i : Nat) : List Crumb :=
  if shared then
    match sharedOn cs i with
    | none => cs
    | some c =>
      if c.refs ≤ 1 then cs.filter fun d => !(d.obj == i && d.shr)
      else updFirst (fun d => d.obj == i && d.shr) (fun d => { d with refs := d.refs - 1, flip := 0 }) cs
  else cs.filter fun d => !(d.obj == i && !d.shr && d.owner == slot)

def freeAll (slot : Nat) (fp : List FpEntry) (cs : List Crumb) (is : List Nat) : List Crumb :=
  is.foldl (fun acc i => freeOne slot (holdsShared fp i) acc i) cs

/-- Objects whose crumb a release would free and not only decrement. -/
def wouldFree (slot : Nat) (fp : List FpEntry) (cs : List Crumb) (is : List Nat) : List Nat :=
  is.filter fun i =>
    if holdsShared fp i then ((sharedOn cs i).map (·.refs)).getD 0 ≤ 1
    else ((exclOn cs i).map (·.owner)).getD 255 == slot

/-- Whether an object shows STOP by Praline's own reading, valid and settled (R114, R127). -/
def prlStop (x : Inter) (i : Nat) : Bool :=
  let v := prlSeen x i
  v.valid && !v.settling && v.state == sgStop

/-- An entry of the object map (R130), and the type it gives. -/
def mapEntry? (p : Prt) (i : Nat) : Option MapEntry := p.objects.find? (·.idx == i)

def prlType? (p : Prt) (i : Nat) : Option ObjTy := (mapEntry? p i).map (·.ty)

/-- A path section of Praline's table, folded from its own reading of the members (R77, R115). -/
def prlFold (look : Nat → Seen) (os : List Nat) : Seen := foldMembers .track (os.map fun i => (look i, false))

/-- Praline's sample of an object in the frame before (R90). -/
def prlWas (x : Inter) (i : Nat) : Seen :=
  match prlOf? x i with
  | some o => ⟨o.wasRep, o.wasOk, false⟩
  | none => ⟨0, false, false⟩

/-- A section in a state by Praline's own reading, valid and settled. -/
def prlSection (x : Inter) (os : List Nat) (state : Nat) : Bool :=
  let v := prlFold (prlSeen x) os
  v.valid && !v.settling && v.state == state

/-- The fall of a section by Praline's own reading: OCCUPIED before, CLEAR now, both samples valid (R90, R115). -/
def prlFall (x : Inter) (os : List Nat) : Bool :=
  let w := prlFold (prlWas x) os
  prlSection x os scClear && w.valid && w.state == scOccupied

/-- The overlap sections of a route in Praline's table. -/
def prlOverlap (p : Prt) (r : PrtRoute) : List Nat :=
  (r.footprint.filter fun e => e.kind = .overlap && prlType? p e.obj == some .track).map (·.obj)

/-- Praline's own reading of the approach of a signal: every section that a route from it names is valid, settled and
CLEAR, and there is one (R449). -/
def prlApproachClear (p : Prt) (x : Inter) (sig : Nat) : Bool :=
  let os := (p.routes.filter (·.entry == sig)).flatMap (·.approach)
  !os.isEmpty && os.all fun i => prlSection x [i] scClear

def trackOf (x : Inter) (slot : Nat) : PrlTrack := (x.prlTracks.find? (·.slot == slot)).getD { slot := slot }

/-- The count of a transaction's release time begins: for the overlap only with the berth section OCCUPIED by Praline's
own reading (R114, R116, R118). -/
def startTrack (x : Inter) (r : PrtRoute) (t : Txn) (k : PrlTrack) : PrlTrack :=
  let berth := (r.path.getLast?).map fun os => prlSection x os scOccupied
  let ms := if t.relUse = .overlap then r.overlapMs else r.approachMs
  if t.relUse = .nothing || (t.relUse = .overlap && berth == some false) then { k with use := .nothing, remain := 0, q := false }
  else { k with use := t.relUse, remain := ms, q := ms == 0 }

/-- What Praline sees of one transaction in the frame (R90, R115): its path since no kind 1 permit of the route stands,
and its timing, counted as a RELEASE timer (R88). -/
def stepTrack (p : Prt) (fin : FrameIn) (x : Inter) (t : Txn) : PrlTrack :=
  let k := trackOf x t.slot
  match prtRoute? p t.route with
  | none => k
  | some r =>
    let n := List.range r.path.length
    let at_ := fun (i : Nat) => (r.path[i]?).getD []
    let stands := x.permits.any fun q => q.kind == 1 && q.route == t.route
    let fell := n.filter fun i => k.fell.contains i || (k.occ.contains i && prlFall x (at_ i))
    let occ := n.filter fun i => k.occ.contains i || (let v := prlFold (prlSeen x) (at_ i); v.valid && v.state == scOccupied)
    let k1 := if stands then { k with occ := [], fell := [] } else { k with occ := occ, fell := fell }
    if t.relUse ≠ k1.use then startTrack x r t k1
    else if k1.use = .nothing then k1
    else
      let left := k1.remain - countMs fin .release
      { k1 with remain := left, q := left == 0 }

def stepTracks (p : Prt) (fin : FrameIn) (x : Inter) : Inter := { x with prlTracks := x.txns.map (stepTrack p fin x) }

/-- A timing that the frame's transitions began (R116): Praline's count begins with the lanes'. -/
def startTracks (p : Prt) (x : Inter) : Inter :=
  let one := fun (t : Txn) =>
    let k := trackOf x t.slot
    match prtRoute? p t.route with
    | some r => if t.relUse = k.use then k else startTrack x r t k
    | none => k
  { x with prlTracks := x.txns.map one }

/-- Whether an entry of the permit list depends on a crumb of an object, the shared or the exclusive one (R139): a
route's kind 1 permit on those of its footprint, an offer's kind 4 permit on its boundary crumb. -/
def permitNeeds (p : Prt) (q : Permit) (shared : Bool) (i : Nat) : Bool :=
  (q.kind == 1 && (((prtRoute? p q.route).map (·.footprint)).getD []).any fun e => e.obj == i && e.kind.shared == shared)
    || (q.kind == 4 && q.obj == i && !shared)

/-- Praline's own reading, table and count show what R114 to R118 ask of a release. -/
def prlReads (p : Prt) (x : Inter) (t : Txn) (why : RelWhy) : Bool :=
  match prtRoute? p t.route with
  | none => false
  | some r =>
    let k := trackOf x t.slot
    match why with
    | .passage => prlStop x r.entry && k.occ.contains 0
    | .track i => k.occ.contains i && k.fell.contains i && prlSection x ((r.path[i]?).getD []) scClear
        && prlSection x ((r.path[i + 1]?).getD []) scOccupied
    | .overlapEnd => k.use = .overlap && k.q && (prlOverlap p r).all fun i => prlSection x [i] scClear
    | .cancel => !((exclOn x.crumbs r.entry).map (·.appr)).getD false
    | .approachEnd => prlStop x r.entry && ((k.use = .approach && k.q) || prlApproachClear p x r.entry)
    | .emergency => prlStop x r.entry && k.use = .emergency && k.q

/-- Praline's own proof of a release (R119, R139): what it frees is sound, no entry of its permit list depends on it, and
its own reading shows the condition. -/
def prlProves (p : Prt) (x : Inter) (t : Txn) (r : Release) : Bool :=
  let fp := ((prtRoute? p t.route).map (·.footprint)).getD []
  let freed := wouldFree r.slot fp x.crumbs r.objs
  (freed.all fun i => !(crumbsOn x.crumbs i).any crumbBad && !x.permits.any fun q => permitNeeds p q (holdsShared fp i) i)
    && prlReads p x t r.why

/-- What follows a release on its transaction (R108 transitions 12, 14, 16 to 18). -/
def afterRelease (w : RelWhy) (objs : List Nat) (t : Txn) : Txn :=
  let held := t.held.filter fun i => !objs.contains i
  match w with
  | .passage => { t with held := held, approach := .free }
  | .track k => { t with held := held, released := k + 1 }
  | .overlapEnd => { t with held := held, overlap := .free, relUse := .nothing, relQ := false, ovDone := true }
  | .cancel => { t with held := held, state := .cancelled, approach := .free, overlap := .free }
  | .approachEnd =>
    { t with held := held, state := .cancelled, approach := .free, overlap := .free
             relUse := .nothing, relQ := false }
  | .emergency =>
    { t with held := held, approach := .free, overlap := .free, relUse := .nothing, relQ := false
             ended := true }

/-- The drive of a point whose last crumb has gone while it is MOVING is kept (R110). -/
def keepMoving (cs : List Crumb) (o : ObjInst) : ObjInst :=
  if o.ty = .point && (crumbsOn cs o.idx).isEmpty && o.valid && o.rep == ptMoving
      && o.cmd != ptcNone then
    { o with move := some o.cmd, kept := true }
  else o

/-- An object after a release: SECTION.SLOT and DIR end with the hold, a moving point is kept
moving (R80, R110). -/
def afterFreed (r : Release) (cs : List Crumb) (o : ObjInst) : ObjInst :=
  if r.objs.contains o.idx then
    match o.ty with
    | .track => if o.slot == r.slot then { o with slot := 255 } else o
    | .boundary => { o with dir := dirNone }
    | _ => keepMoving cs o
  else o

/-- One release (R111, R119, R143). -/
def doRelease (st : Station) (p : Prt) (x : Inter) (r : Release) : Inter :=
  match txnOfSlot? x r.slot with
  | none => x
  | some t =>
    if prlProves p x t r then
      let fp := ((prtRoute? p t.route).map (·.footprint)).getD []
      let mine := ((stRoute? st t.route).map (stFootprint st)).getD []
      let cs := freeAll r.slot mine x.shadow r.objs
      let x1 := { x with crumbs := freeAll r.slot fp x.crumbs r.objs, shadow := cs }
      let x2 := setTxn x1 r.slot (afterRelease r.why r.objs)
      let x3 := { x2 with objs := x2.objs.map (afterFreed r cs) }
      match r.why with
      | .cancel => addRec x3 (routeRec t t.state.code 8)
      | .approachEnd => addRec x3 (routeRec t t.state.code 8)
      | .emergency => addRec x3 (routeRec t t.state.code 10)
      | _ => x3
    else
      setTxn { x with lockDiff := true } r.slot fun u =>
        if r.why = .cancel then { u with byCancel := false } else u

/-- The releases of the frame, before any claim (R111). -/
def doReleases (st : Station) (p : Prt) (x : Inter) : Inter :=
  let x1 := x.plan.foldl (doRelease st p) x
  { x1 with plan := [] }

/-- Sets APPR and TMG of an exclusive crumb, in the store and in the shadow (R27, R102). -/
def markCrumb (x : Inter) (slot i : Nat) (appr tmg : Bool) : Inter :=
  let on := fun (c : Crumb) => c.obj == i && !c.shr && c.owner == slot && !crumbBad c
  let f := fun (c : Crumb) => { c with appr := appr, tmg := tmg, flip := 0 }
  { x with crumbs := updFirst on f x.crumbs, shadow := updFirst on f x.shadow }

/-- TMG of the overlap crumbs of a transaction (R102, R116). -/
def markOverlap (x : Inter) (slot : Nat) (tmg : Bool) : Inter :=
  let on := fun (c : Crumb) => c.kind = .overlap && c.owner == slot && !crumbBad c
  let f := fun (c : Crumb) => { c with tmg := tmg, flip := 0 }
  { x with crumbs := updAll on f x.crumbs, shadow := updAll on f x.shadow }

end Sys2Proof.Machine
end

