-- ==== Sys2Proof/Machine/Routes.lean ====
section
/-! DEFINITION. The lanes' side of routes: the vital requests as INPUT takes them (R106, R117, R118,
R286, R287, R444, R448), the transitions of EVALUATE (R108 to R118), the commands of objects (R85
step 5, R446, R447) and the permissive requests (R129). -/

namespace Sys2Proof.Machine

open Sys2Proof

def seenSt (st : Station) (x : Inter) (r : Ref) : Seen := seenRef st (seenObj x) r

/-- Valid, settled and in a state. -/
def shows (v : Seen) (state : Nat) : Bool := v.valid && !v.settling && v.state == state

/-- A signal that proves STOP: valid, settled, reported STOP; DARK never does (R74, R114). -/
def provesStop (x : Inter) (i : Nat) : Bool := shows (seenObj x i) sgStop

/-- First path section OCCUPIED and valid (R108 transition 11). -/
def trainEntered (st : Station) (x : Inter) (rd : RouteDef) : Bool :=
  match rd.path with
  | [] => false
  | s :: _ => let v := seenSt st x s.ref; v.valid && v.state == scOccupied

/-- The aspect limit of a route for its exit signal as reported; an exit signal that is invalid or
settling is read as DARK (R113, R126). -/
def limitOf (limits : List Nat) (exit : Seen) : Nat :=
  (limits[if exit.valid && !exit.settling then exit.state else sgDark]?).getD 0

/-- The aspect that the lanes would command: the route's own within its limit (R113, R130). -/
def routeAspect (x : Inter) (rd : RouteDef) : Nat :=
  min rd.aspect (limitOf rd.limits (seenObj x rd.exit))

/-- Trip channels assigned to a signal (R126). -/
def channelsOf (st : Station) (sig : Nat) : List Nat :=
  (List.range st.tripSignal.length).filter fun c => stTripOf st c == some sig

/-- Whether a channel has a TRIPPED guard (R151). -/
def chanTripped (p : Prt) (fin : FrameIn) (c : Nat) : Bool :=
  fin.tripped.any fun g => ((p.guards[g]?).map (·.trip)) == some c

/-- Whether a channel has a TRIPPED or faulted guard (R126 kind 5, R447). -/
def chanGuarded (p : Prt) (fin : FrameIn) (c : Nat) : Bool :=
  chanTripped p fin c || fin.pairFault.any fun g => ((p.guards[g]?).map (·.trip)) == some c

/-- Whether a trip channel of the signal holds it at STOP: a TRIPPED guard, LOCKED or DEGX (R113,
R151, R262). -/
def sigTripBad (st : Station) (p : Prt) (fin : FrameIn) (sig : Nat) : Bool :=
  (channelsOf st sig).any fun c => chanTripped p fin c || fin.tripOut.contains c

/-- A point, flank signal, section, crossing or boundary entry of a footprint as R113 asks of it. -/
def entryMet (x : Inter) (rd : RouteDef) (e : FpEntry) : Bool :=
  match (objOf? x e.obj).map ObjInst.ty with
  | some .point => shows (seenObj x e.obj) (posRep e.pos)
  | some .signal =>
    if e.obj == rd.entry then
      let v := seenObj x e.obj
      v.valid && !v.settling && !((objOf? x e.obj).map (·.lampFlt)).getD true
    else shows (seenObj x e.obj) sgStop || shows (seenObj x e.obj) sgDark
  | some .track => shows (seenObj x e.obj) scClear
  | some .crossing => shows (seenObj x e.obj) lxSecured
  | some .boundary =>
    if e.pos == 0 then !(seenObj x e.obj).settling else shows (seenObj x e.obj) bdGranted
  | none => false

/-- The conditions of R113 for a route. -/
def condsMet (st : Station) (p : Prt) (fin : FrameIn) (x : Inter) (rd : RouteDef) : Bool :=
  (stFootprint st rd).all (entryMet x rd)
    && !sigTripBad st p fin rd.entry
    && routeAspect x rd != 0

def blockedObj (x : Inter) (i : Nat) : Bool := ((objOf? x i).map (·.block)).getD false

/-- Blocks that refuse a route at admission (R287). -/
def routeBlocked (st : Station) (x : Inter) (rd : RouteDef) : Bool :=
  x.blockedRoutes.contains rd.num || blockedObj x rd.entry
    || (routeSections st rd).any (blockedObj x)
    || (rd.boundary.map fun b => blockedObj x b.1).getD false

/-! ## Vital requests at INPUT -/

/-- Lowest free transaction slot (R106). -/
def freeSlot? (x : Inter) : Option Nat :=
  firstBelow 128 fun s => (txnOfSlot? x s).isNone

def ask (src : Src) (opc : Nat) (b : AskBody) (x : Inter) : Inter :=
  { x with asks := x.asks ++ [{ src := src, opc := opc, body := b }] }

/-- The checks of R106 in their order; the last gives the slot. -/
def admitCheck (st : Station) (x : Inter) (route : Nat) : Except Status (RouteDef × Nat) :=
  match stRoute? st route with
  | none => .error .badState
  | some rd =>
    if (txnOfRoute? x route).isSome then .error .badState
    else if holdsExpr st x x rd.inhibit || routeBlocked st x rd then .error .refused
    else match freeSlot? x with
      | none => .error .busy
      | some s => .ok (rd, s)

/-- ROUTE_SET as INPUT takes it (R106, R108 transition 1). -/
def doRouteSet (st : Station) (fin : FrameIn) (src : Src) (route waitS : Nat) (x : Inter) :
    Inter :=
  match admitCheck st x route with
  | .error e => ask src 0x10 (.fixed e) x
  | .ok (_, s) =>
    let t : Txn := { slot := s, route := route, age := x.counter, order := x.txns.length
                     admittedAt := fin.tick, waitMs := waitS * 1000, state := .requested }
    ask src 0x10 (.claim route) (addRec { x with txns := x.txns ++ [t] } (routeRec t 0 1))

/-- The release of all that a transaction holds. -/
def releaseAll (t : Txn) (w : RelWhy) : Release := { slot := t.slot, objs := t.held, why := w }

/-- Whether the approach is proved clear on cancellation: APPR 0 and the signal reporting STOP, both
valid (R114). -/
def approachIsClear (x : Inter) (sig : Nat) : Bool :=
  !((objOf? x sig).map (·.appr)).getD true && provesStop x sig

/-- Cancellation of a transaction whose approach lock is held (R114, R117, R108 transitions 15, 17). -/
def cancelLocked (rd : RouteDef) (t : Txn) (x : Inter) : Inter :=
  if approachIsClear x rd.entry then
    let x1 := setTxn x t.slot fun u =>
      { u with byCancel := true, wantCancel := false, state := .releasing, relUse := .approach, relRemain := 0
               relQ := true }
    addRec x1 (routeRec t t.state.code 7)
  else
    let x1 := setTxn x t.slot fun u =>
      { u with byCancel := true, wantCancel := false, state := .releasing, approach := .timing, relUse := .approach
               relRemain := rd.approachMs, relQ := false, relNew := true }
    markCrumb (addRec x1 (routeRec t t.state.code 7)) t.slot rd.entry true true

/-- ROUTE_CANCEL as INPUT takes it (R108 transitions 5, 14, 15; R109, R114, R117, R120). What becomes of one for a
transaction in CLEARED EVALUATE decides, on the frame's inputs. -/
def doRouteCancel (st : Station) (src : Src) (route : Nat) (x : Inter) : Inter :=
  match stRoute? st route, txnOfRoute? x route with
  | some _, some t =>
    let done := ask src 0x11 (.txnState route)
    let bad := ask src 0x11 (.fixed .badState)
    if t.byCancel || t.ended || t.wantCancel then bad x
    else match t.state with
      | .requested =>
        done (addRec (setTxn x t.slot fun u => { u with state := .cancelled, byCancel := true })
          (routeRec t 1 8))
      | .claimed | .setting | .proved =>
        let x1 := setTxn x t.slot fun u => { u with byCancel := true }
        done { x1 with plan := x1.plan ++ [releaseAll t .cancel] }
      | .cleared => ask src 0x11 (.cancelled route) (setTxn x t.slot fun u => { u with wantCancel := true })
      | _ => bad x
  | _, _ => ask src 0x11 (.fixed .badState) x

/-- EMERGENCY_RELEASE as INPUT takes it (R118, R108 transition 18). -/
def doEmergency (st : Station) (src : Src) (route : Nat) (x : Inter) : Inter :=
  match stRoute? st route, txnOfRoute? x route with
  | some rd, some t =>
    if t.ended || !(t.state = .inUse || t.state = .releasing) then
      ask src 0x12 (.fixed .badState) x
    else if t.relUse = .emergency then ask src 0x12 (.txnState route) x
    else
      let x1 := setTxn x t.slot fun u =>
        { u with state := .releasing, relUse := .emergency
                 relRemain := rd.approachMs, relQ := false, relNew := true
                 overlap := if u.overlap = .timing then .locked else u.overlap }
      let x2 := if t.state = .inUse then addRec x1 (routeRec t 6 7) else x1
      ask src 0x12 (.txnState route) (markOverlap x2 t.slot false)
  | _, _ => ask src 0x12 (.fixed .badState) x

/-- The points a POINT_MOVE names with the position each is moved to, 0 NORMAL and 1 REVERSE, none
where the target is no point and no point group (R78, R286). -/
def moveTargets (st : Station) (grp : Bool) (n pos : Nat) : Option (List (Nat × Nat)) :=
  if grp then
    match stGroup? st n with
    | some d => if d.ty = .point then
        some ((stObjsOf st (.grp n)).map fun m => (m.1, if m.2 then 1 - pos else pos))
      else none
    | none => none
  else
    match stObj? st n with
    | some d => if d.ty = .point then some [(n, pos)] else none
    | none => none

/-- Whether a point may not be moved individually: it holds a crumb, is invalid, settling or blocked
(R286). -/
def moveRefused (x : Inter) (i : Nat) : Bool :=
  match objOf? x i with
  | some o => !(crumbsOn x.shadow i).isEmpty || !o.valid || o.settle != 0 || o.block
  | none => true

/-- POINT_MOVE as INPUT takes it (R286, R444); `pos` is 1 NORMAL or 2 REVERSE. -/
def doPointMove (st : Station) (src : Src) (grp : Bool) (n pos : Nat) (x : Inter) : Inter :=
  match moveTargets st grp n (pos - 1) with
  | none => ask src 0x13 (.fixed .badState) x
  | some ms =>
    if ms.any fun m => moveRefused x m.1 then ask src 0x13 (.fixed .refused) x
    else if ms.all fun m => shows (seenObj x m.1) (posRep m.2) then ask src 0x13 (.fixed .done) x
    else
      ask src 0x13 (.fixed .accepted)
        (ms.foldl (fun y m => setObj y m.1 fun o => { o with move := some (posCmd m.2), kept := false }) x)

/-- SECTION_RESTORE as INPUT takes it (R286, R448). -/
def doSectionRestore (st : Station) (src : Src) (i : Nat) (x : Inter) : Inter :=
  match stObj? st i, objOf? x i with
  | some d, some o =>
    if d.ty = .track ∧ d.restorable ∧ o.rep = scDisturbed then
      ask src 0x14 (.fixed .accepted) (setObj x i fun u => { u with restore := true })
    else ask src 0x14 (.fixed .badState) x
  | _, _ => ask src 0x14 (.fixed .badState) x

/-- BLOCK as INPUT takes it, `set` or clear, on a route or an object (R286, R287). -/
def doBlock (st : Station) (src : Src) (route : Bool) (n : Nat) (set : Bool) (x : Inter) : Inter :=
  if route then
    if (stRoute? st n).isSome then
      let rest := x.blockedRoutes.filter (· != n)
      ask src 0x15 (.fixed .done) { x with blockedRoutes := if set then n :: rest else rest }
    else ask src 0x15 (.fixed .badState) x
  else if (stObj? st n).isSome then
    ask src 0x15 (.fixed .done) (setObj x n fun o => { o with block := set })
  else ask src 0x15 (.fixed .badState) x

/-- GUARD_ACK as INPUT takes it: the acknowledge request is formed where the guard is defined and
TRIPPED in the frozen inputs (R152, R286). -/
def doGuardAck (p : Prt) (fin : FrameIn) (src : Src) (g : Nat) (x : Inter) : Inter :=
  if (p.guards[g]?).isSome && fin.tripped.contains g then
    ask src 0x18 (.fixed .accepted) { x with acks := x.acks ++ [g] }
  else ask src 0x18 (.fixed .badState) x

/-- STATION_CMD as INPUT takes it (R286). -/
def doStationCmd (st : Station) (src : Src) (code arg : Nat) (x : Inter) : Inter :=
  if st.stationCodes.contains code then
    ask src 0x19 (.fixed .accepted) { x with stationCmd := some (code, arg) }
  else ask src 0x19 (.fixed .badState) x

/-- BOUNDARY_STATE as INPUT takes it (R136, R288): OFFER becomes ENTRY and BORDER becomes BORDER; a verified
tag makes an offer of GRANTED valid to Praline, an offer of WITHHELD takes its grant away at once. -/
def doBoundary (pair frame : Nat) (offers : List BoundaryOffer) (x : Inter) : Inter :=
  let one := fun (x : Inter) (o : BoundaryOffer) =>
    let x1 := setObj x o.obj fun b => { b with offerIn := o.offer, borderIn := o.border }
    let seen := o.verified && o.offer == bdGranted
    let prl := updFirst (fun q : PrlObj => q.idx == o.obj) (fun q =>
      { q with rep := if seen then bdGranted else if o.offer == bdGranted then q.rep else bdWithheld }) x1.prlObjs
    { x1 with fresh := o.obj :: x1.fresh, prlObjs := prl
              freshTag := if seen then o.obj :: x1.freshTag else x1.freshTag }
  let x1 := offers.foldl one x
  if offers.any fun o => o.verified && o.offer == bdGranted then
    { x1 with bTags := { pair := pair, frame := frame } :: x1.bTags.filter (·.pair != pair) }
  else x1

/-- One vital request as INPUT takes it (R286). -/
def takeVital (st : Station) (p : Prt) (fin : FrameIn) (x : Inter) : VReq → Inter
  | .routeSet src r w => doRouteSet st fin src r w x
  | .routeCancel src r => doRouteCancel st src r x
  | .emergency src r => doEmergency st src r x
  | .pointMove src g n q => doPointMove st src g n q x
  | .restore src i => doSectionRestore st src i x
  | .block src r n b => doBlock st src r n b x
  | .guardAck src g => doGuardAck p fin src g x
  | .stationCmd src c a => doStationCmd st src c a x
  | .boundary pr f os => doBoundary pr f os x
  | .answered src opc s => ask src opc (.fixed s) x

/-! ## Transitions in EVALUATE (R108) -/

/-- The last path section of a route. -/
def berth? (rd : RouteDef) : Option PathSec := rd.path[rd.path.length - 1]?

def berthOccupied (st : Station) (x : Inter) (rd : RouteDef) : Bool :=
  match berth? rd with
  | some b => shows (seenSt st x b.ref) scOccupied
  | none => false

def overlapClear (st : Station) (x : Inter) (rd : RouteDef) : Bool :=
  rd.overlapSections.all fun r => shows (seenSt st x r) scClear

/-- Elapsed ms of the RELEASE timer of a route in this frame; in the frame that starts it it does not count (R88, R89,
R99). -/
def tickRel (fin : FrameIn) (t : Txn) : Txn :=
  match t.relUse with
  | .nothing => t
  | _ =>
    if t.relNew then { t with relNew := false }
    else
    let r := t.relRemain - countMs fin .release
    { t with relRemain := r, relQ := r == 0 }

/-- Start, stop or count of the overlap timing of a transaction in RELEASING by passage (R116): started in the first frame
with the berth section OCCUPIED, again only with the overlap CLEAR, and not after its expiry. A route without overlap
elements is timed in the same way. -/
def stepOverlap (st : Station) (fin : FrameIn) (x : Inter) (rd : RouteDef) (t : Txn) : Txn :=
  match t.relUse with
  | .overlap =>
    if t.overlap = .timing ∧ overlapClear st x rd = false then
      { t with relUse := .nothing, relQ := false, overlap := .locked }
    else tickRel fin t
  | .nothing =>
    if !t.ovDone && berthOccupied st x rd && (t.overlap = .free || !t.ovTimed || overlapClear st x rd) then
      { t with ovTimed := true, relUse := .overlap, relRemain := rd.overlapMs, relQ := rd.overlapMs == 0
               overlap := if t.overlap = .free then .free else .timing }
    else t
  | _ => tickRel fin t

/-- What has been seen of the path sections since IN USE (R115). -/
def watchPath (st : Station) (x : Inter) (rd : RouteDef) (t : Txn) : Txn :=
  let n := rd.path.length
  let isOcc := fun k => match rd.path[k]? with
    | some s => let v := seenSt st x s.ref; v.valid && v.state == scOccupied
    | none => false
  let fellNow := fun k => match rd.path[k]? with
    | some s => ((edgeOf? x s.edge).map (·.fall)).getD false
    | none => false
  let occ := (List.range n).filter fun k => t.occ.contains k || isOcc k
  let fell := (List.range n).filter fun k => t.fell.contains k || (t.occ.contains k && fellNow k)
  { t with occ := occ, fell := fell }

/-- Objects freed with path section `k`: its sections, its points and their flank elements (R115),
as far as the transaction still holds them. -/
def sectionObjs (st : Station) (t : Txn) (s : PathSec) : List Nat :=
  ((s.ref :: (s.points ++ s.flank).map (·.1)).flatMap fun r => (stObjsOf st r).map (·.1)).filter t.held.contains

/-- The sectional release due in this frame, if any (R115). -/
def sectionDue (st : Station) (x : Inter) (rd : RouteDef) (t : Txn) : List Release :=
  let k := t.released
  match rd.path[k]?, rd.path[k + 1]? with
  | some a, some b =>
    if t.occ.contains k && t.fell.contains k && shows (seenSt st x a.ref) scClear
        && shows (seenSt st x b.ref) scOccupied then
      [{ slot := t.slot, objs := sectionObjs st t a, why := .track k }]
    else []
  | _, _ => []

/-- The release of the entry-signal crumb by passage (R114). -/
def passageDue (x : Inter) (rd : RouteDef) (t : Txn) : List Release :=
  if !t.byCancel && t.held.contains rd.entry && provesStop x rd.entry then
    [{ slot := t.slot, objs := [rd.entry], why := .passage }]
  else []

/-- The releases at the end of a timing (R114, R116, R118). -/
def timedDue (x : Inter) (rd : RouteDef) (t : Txn) : List Release :=
  match t.relUse with
  | .overlap =>
    if t.relQ then
      [{ slot := t.slot, objs := t.held.filter (· != rd.entry), why := .overlapEnd }]
    else []
  | .approach => if t.relQ && provesStop x rd.entry then [releaseAll t .approachEnd] else []
  | .emergency => if t.relQ && provesStop x rd.entry then [releaseAll t .emergency] else []
  | .nothing => []

/-- Objects already called for by earlier releases of the frame are not called for again. -/
def planMore (x : Inter) (rs : List Release) : Inter :=
  let one := fun (y : Inter) (r : Release) =>
    let gone := (y.plan.filter (·.slot == r.slot)).flatMap (·.objs)
    { y with plan := y.plan ++ [{ r with objs := r.objs.filter fun i => !gone.contains i }] }
  rs.foldl one x

/-- One transaction in IN USE or RELEASING: what it saw, its timing, its releases. -/
def stepHeld (st : Station) (fin : FrameIn) (rd : RouteDef) (t0 : Txn) (x : Inter) : Inter :=
  let t1 := watchPath st x rd t0
  let t2 := if t1.state = .inUse then t1
    else if t1.byCancel then tickRel fin t1
    else stepOverlap st fin x rd t1
  let x1 := setTxn x t2.slot fun _ => t2
  let x2 := if t2.overlap = .timing ∧ t0.overlap ≠ .timing then markOverlap x1 t2.slot true
    else if t0.overlap = .timing ∧ t2.overlap ≠ .timing then markOverlap x1 t2.slot false
    else x1
  let passing := if t2.byCancel then [] else passageDue x rd t2 ++ sectionDue st x rd t2
  planMore x2 (passing ++ timedDue x rd t2)

/-- Moves a transaction to a state, with its record (R108, R393). -/
def goTo (t : Txn) (s : RouteSt) (x : Inter) : Inter :=
  addRec (setTxn x t.slot fun u => { u with state := s }) (routeRec t t.state.code s.code)

/-- Transition 6: the boundary's DIR is set; points and crossings follow from the state (R108). -/
def toSetting (rd : RouteDef) (t : Txn) (x : Inter) : Inter :=
  let x1 := goTo t .setting x
  match rd.boundary with
  | some b => setObj x1 b.1 fun o => { o with dir := if b.2 then dirIn else dirOut }
  | none => x1

/-- One transaction through the transitions of EVALUATE, before PROVE (R108, R120). DESIGN CHOICE (log entry 106): of
transitions 6 and 7 one is taken in a frame; the spec lets 13 follow 11 and 8 follow 7 in a frame and is silent on these. -/
def stepTxn (st : Station) (p : Prt) (fin : FrameIn) (x : Inter) (slot : Nat) : Inter :=
  match txnOfSlot? x slot with
  | none => x
  | some t =>
    match stRoute? st t.route with
    | none => x
    | some rd =>
      let met := condsMet st p fin x rd
      if t.ended then x
      else match t.state with
        | .claimed => if t.byCancel then x else toSetting rd t x
        | .setting =>
          if !t.byCancel && met && !blockedObj x rd.entry then goTo t .proved x else x
        | .proved =>
          if !t.byCancel && (!met || blockedObj x rd.entry) then goTo t .setting x else x
        | .cleared =>
          if trainEntered st x rd then
            let t1 := { t with state := .inUse, wantCancel := false }
            stepHeld st fin rd t1 (goTo t .inUse x)
          else if t.wantCancel then
            let x1 := cancelLocked rd t x
            match txnOfSlot? x1 slot with
            | some u => stepHeld st fin rd u x1
            | none => x1
          else if !met then goTo t .setting x else x
        | .inUse | .releasing => stepHeld st fin rd t x
        | _ => x

/-! ## Commands of objects and permissive requests (R85 step 5, R93, R96) -/

/-- Objects whose crumbs the frame's releases free for a transaction. -/
def goneFrom (x : Inter) (slot : Nat) : List Nat :=
  (x.plan.filter (·.slot == slot)).flatMap (·.objs)

/-- Transactions that hold an object and keep it in this frame. -/
def holders (x : Inter) (i : Nat) : List Txn :=
  x.txns.filter fun t => t.held.contains i && !(goneFrom x t.slot).contains i

/-- Position that a transaction requires of a point (R100). -/
def requiredPos (st : Station) (t : Txn) (i : Nat) : Nat :=
  match stRoute? st t.route with
  | some rd => (((stFootprint st rd).find? (·.obj == i)).map (·.pos)).getD 0
  | none => 0

/-- The command of a point (R108 transition 6, R110, R444): the position that a transaction in
SETTING or PROVED needs and the point does not show; one already commanded for a holder is kept;
then an individual move until it reports that position or LOST, or a kept drive until it reports either position or
LOST. -/
def pointCmd (st : Station) (x p : Inter) (o : ObjInst) : Nat × Option Nat :=
  let was := ((objOf? p o.idx).map (·.cmd)).getD ptcNone
  let hs := holders x o.idx
  let want := hs.filterMap fun t =>
    let pos := requiredPos st t o.idx
    if was == posCmd pos || ((t.state = .setting || t.state = .proved)
        && !shows (seenObj x o.idx) (posRep pos)) then some (posCmd pos) else none
  let isNew := ((objOf? p o.idx).map (·.move)).getD none != o.move
  match want with
  | c :: _ => (c, none)
  | [] =>
    match o.move with
    | none =>
      if was != ptcNone && hs.isEmpty && !(crumbsOn x.shadow o.idx).isEmpty && o.rep == ptMoving then
        (was, some was)
      else (ptcNone, none)
    | some c =>
      if o.kept && o.rep != ptMoving then (ptcNone, none)
      else if !isNew && (o.rep == posRep (c - 1) || o.rep == ptLost) then (ptcNone, none)
      else if isNew && o.rep == posRep (c - 1) then (ptcNone, none)
      else (c, some c)

/-- The routes from a signal in a state. -/
def signalTxn? (st : Station) (x : Inter) (sig : Nat) (s : RouteSt) : Option (Txn × RouteDef) :=
  (x.txns.filterMap fun t =>
    match stRoute? st t.route with
    | some rd => if rd.entry == sig && t.state = s && !t.ended && !t.byCancel then some (t, rd)
        else none
    | none => none).head?

/-- DARK in place of STOP: an approach-lit signal with no train on the approach (R74). -/
def restSignal (st : Station) (o : ObjInst) : Nat :=
  match stObj? st o.idx with
  | some d => if d.approachLit && !o.appr && o.valid && o.settle == 0 then sgDark else sgStop
  | none => sgStop

/-- What the lanes propose for an object: command, move word, and the request that a permissive
command needs (R85 step 5). -/
structure Proposal where
  cmd : Nat
  move : Option Nat := none
  want : Option Permit := none
  deriving DecidableEq, Repr

def quiet (o : ObjInst) : Bool := o.valid && o.settle == 0

/-- Whether a point group that contains the object, at whatever level, is invalid; its members are commanded NONE
(R92). -/
def groupBad (st : Station) (x : Inter) (i : Nat) : Bool :=
  st.groups.any fun d => d.ty = .point && ((stObjsOf st (.grp d.num)).map (·.1)).contains i
    && !(foldGroup st (seenObj x) d).valid

/-- The proposal for one object (R74, R93, R96, R446). -/
def propose (st : Station) (p x : Inter) (o : ObjInst) : Proposal :=
  match o.ty with
  | .track => { cmd := 0 }
  | .point =>
    if !quiet o || groupBad st x o.idx then { cmd := ptcNone }
    else
      let c := pointCmd st x p o
      if c.1 == ptcNone then { cmd := ptcNone, move := c.2 }
      else { cmd := c.1, move := c.2, want := some { obj := o.idx, kind := 2, state := c.1 } }
  | .signal =>
    if !quiet o then { cmd := sgStop }
    else match signalTxn? st x o.idx .cleared with
      | some (t, rd) =>
        let a := routeAspect x rd
        { cmd := a, want := some { obj := o.idx, kind := 1, state := a, route := t.route } }
      | none =>
        match signalTxn? st x o.idx .proved with
        | some (t, rd) =>
          { cmd := restSignal st o
            want := some { obj := o.idx, kind := 1, state := routeAspect x rd, route := t.route } }
        | none => { cmd := restSignal st o }
  | .crossing =>
    let held := !(crumbsOn x.shadow o.idx).isEmpty
    let hold := ((st.holds.find? (·.1 == o.idx)).map fun h => holdsExpr st x p h.2).getD false
    let was := ((objOf? p o.idx).map (·.cmd)).getD lxClose
    if o.demand > 0 || held || !quiet o || hold then { cmd := lxClose }
    else if was == lxClose && o.block then { cmd := lxClose }
    else { cmd := lxOpen, want := some { obj := o.idx, kind := 3, state := lxOpen } }
  | .boundary =>
    let offered := (holders x o.idx).any fun t =>
      requiredPos st t o.idx == 0 && !t.byCancel && !(t.state = .claimed || t.state = .requested)
    if quiet o && !o.block && offered && o.dir == dirIn then
      { cmd := bdGranted, want := some { obj := o.idx, kind := 4, state := bdGranted } }
    else { cmd := bdWithheld }

/-- DEMAND: transactions that hold the group's CROSSING crumb (R446). -/
def demandOf (x : Inter) (i : Nat) : Nat := (holders x i).length

/-- One object's block: its command as proposed, and the request that a permissive command needs (R85). -/
def runObject (st : Station) (p : Inter) (i : Nat) (y : Inter × List (Nat × Permit)) : Inter × List (Nat × Permit) :=
  match objOf? y.1 i with
  | none => y
  | some o0 =>
    let o := if o0.ty = .crossing then { o0 with demand := demandOf y.1 i } else o0
    let q := propose st p y.1 o
    (setObj y.1 i fun _ => { o with cmd := q.cmd, move := q.move, kept := o.kept && q.move.isSome },
      y.2 ++ (q.want.map fun w => (i, w)).toList)

/-- The kind 5 requests, in ascending channel: with the signal's own request, and no guard or channel against it (R129,
R447). -/
def tripRequests (st : Station) (prt : Prt) (fin : FrameIn) (wants : List (Nat × Permit)) : List Permit :=
  (List.range st.tripSignal.length).filterMap fun c =>
    match stTripOf st c with
    | some sig =>
      if wants.any (fun w => w.1 == sig && w.2.kind == 1) && !chanGuarded prt fin c && !fin.tripOut.contains c then
        some { obj := sig, kind := 5, state := 1, chan := c : Permit }
      else none
    | none => none

/-! ## After PROVE -/

def permitOf? (x : Inter) (i kind : Nat) : Option Permit :=
  x.permits.find? fun q => q.obj == i && q.kind == kind

/-- One transaction after the decision record: transitions 8, 10, 13 and 16 (R108). -/
def finishTxn (st : Station) (fin : FrameIn) (x : Inter) (slot : Nat) : Inter :=
  match txnOfSlot? x slot with
  | none => x
  | some t =>
    match stRoute? st t.route with
    | none => x
    | some rd =>
      let mine := match permitOf? x rd.entry 1 with
        | some q => q.route == t.route
        | none => false
      match t.state with
      | .proved =>
        if mine && !t.byCancel then
          let x1 := goTo t .cleared (setTxn x slot fun u => { u with approach := .locked })
          let a := ((permitOf? x rd.entry 1).map (·.state)).getD sgStop
          markCrumb (setObj x1 rd.entry fun o => { o with cmd := a }) slot rd.entry true false
        else x
      | .cleared => if mine then x else goTo t .setting x
      | .inUse =>
        if t.released + 1 ≥ rd.path.length then
          let x1 := goTo t .releasing x
          match txnOfSlot? x1 slot with
          | some u =>
            let v := stepOverlap st fin x1 rd u
            let x2 := setTxn x1 slot fun _ => v
            if v.overlap = .timing then markOverlap x2 slot true else x2
          | none => x1
        else x
      | .releasing =>
        if t.held.isEmpty && !t.byCancel && !t.ended then
          addRec (setTxn x slot fun u => { u with ended := true }) (routeRec t 7 10)
        else x
      | _ => x

def finishTxns (st : Station) (fin : FrameIn) (x : Inter) : Inter :=
  (x.txns.map (·.slot)).foldl (finishTxn st fin) x

/-- The lanes apply the decision record: a permissive command without its permit is restrictive
(R138, R143). -/
def applyDecision (x : Inter) : Inter :=
  { x with
    objs := x.objs.map fun o =>
      if isRestrictive o.ty o.cmd then o
      else if x.permits.any fun q => q.obj == o.idx && q.state == o.cmd && q.kind != 5 then o
      else { o with cmd := restrictiveCmd o.ty, move := none }
    tripCmd := (List.range x.tripCmd.length).map fun c =>
      x.permits.any fun q => q.kind == 5 && q.chan == c }

/-- What a vital request is answered once the frame's outcome is known (R106, R117, R286). -/
def answer (x : Inter) (a : Ask) : Status × Bytes :=
  let slotState := fun (r : Nat) =>
    match txnOfRoute? x r with
    | some _ => be 1 (routeSlot x r) ++ be 1 (routeState x r)
    | none => be 1 255 ++ be 1 0
  match a.body with
  | .fixed s =>
    if a.opc == 0x10 || a.opc == 0x11 || a.opc == 0x12 then (s, be 1 255 ++ be 1 0) else (s, [])
  | .claim r => (if x.shorts.contains r then .deferred else .accepted, slotState r)
  | .txnState r => (.done, slotState r)
  | .cancelled r =>
    if ((txnOfRoute? x r).map (·.byCancel)).getD false then (.done, slotState r) else (.badState, be 1 255 ++ be 1 0)

/-- COMMAND record of a vital request (R393). -/
def commandRec (a : Ask) (s : Status) : Rec :=
  { ty := 0x05, sev := 0
    body := be 1 a.opc ++ be 1 s.code ++ be 2 a.src.addr ++ be 2 a.src.tag ++ be 4 a.src.seq }

/-- The replies and COMMAND records of the frame's requests, in queue order (R160 part 4, R286). -/
def answerAll (x : Inter) : Inter :=
  let one := fun (y : Inter) (a : Ask) =>
    let r := answer x a
    let rep : Reply := { entry := a.src.entry, ver := a.src.ver, tag := a.src.tag, seq := a.src.seq
                         opc := a.opc, status := r.1, body := r.2, kslot := some a.src.kslot }
    addRec { y with replies := y.replies ++ [rep] } (commandRec a r.1)
  { x.asks.foldl one x with asks := [] }

/-- The drain's part of the transactions: an ended one leaves, its slot is free (R109). -/
def dropEnded (x : Inter) : Inter :=
  { x with txns := x.txns.filter fun t =>
      !(t.ended || t.state = .cancelled || t.state = .refused) }

end Sys2Proof.Machine
end

