-- ==== Sys2Proof/Machine/Proving.lean ====
section
/-! DEFINITION. Praline's proving of requests and standing permits (R126 to R129, R138, R146), and one
whole frame of the lanes and Praline from the frozen inputs to the decided output (R85, R111, R128). -/

namespace Sys2Proof.Machine

open Sys2Proof

/-- The commands and the lock store as committed at the previous drain, on which permits are proved
(R126). -/
structure Committed where
  crumbs : List Crumb
  txns : List Txn
  deriving DecidableEq, Repr

/-- Sections in which the detection mapping places a point (R126 kind 2, R130). -/
def prlSections (p : Prt) (i : Nat) : List Nat :=
  ((mapEntry? p i).map (·.sections)).getD []

/-- The first reason of a list of checks, 0 where all pass. -/
def firstReason : List (Bool × Nat) → Nat
  | [] => 0
  | (ok, r) :: rest => if ok then firstReason rest else r

/-- Whether the committed store holds a footprint entry for a slot (R126 kind 1): exclusive under the
owner with its position, handed over to a transaction from the exit signal, or shared with its
position. -/
def entryHeld (p : Prt) (c : Committed) (exit slot : Nat) (e : FpEntry) : Bool :=
  if e.kind.shared then ((sharedOn c.crumbs e.obj).map (·.pos)) == some e.pos
  else match exclOn c.crumbs e.obj with
    | none => false
    | some k =>
      k.pos == e.pos && (k.owner == slot ||
        (e.kind = .overlap && k.kind = .route && c.txns.any fun t =>
          t.slot == k.owner && ((prtRoute? p t.route).map (·.entry)) == some exit))

/-- A footprint entry's crumb fails its check (R142). -/
def entryCorrupt (c : Committed) (e : FpEntry) : Bool :=
  (crumbsOn c.crumbs e.obj).any crumbBad

/-- Why a footprint entry's reading fails kind 1, 0 where it holds (R126, R127). -/
def readingFails (p : Prt) (x : Inter) (entry : Nat) (e : FpEntry) : Nat :=
  let v := prlSeen x e.obj
  match prlType? p e.obj with
  | some .point =>
    if !v.valid then rsDetect else if v.settling then rsSettle
    else if v.state == posRep e.pos then 0 else rsDetect
  | some .signal =>
    if e.obj == entry then 0
    else if !v.valid then rsFlank else if v.settling then rsSettle
    else if v.state == sgStop || v.state == sgDark then 0 else rsFlank
  | some .track =>
    if !v.valid then rsSection else if v.settling then rsSettle
    else if v.state == scClear then 0 else rsSection
  | some .crossing =>
    if !v.valid then rsCrossing else if v.settling then rsSettle
    else if v.state == lxSecured then 0 else rsCrossing
  | some .boundary =>
    if e.pos == 0 then 0
    else if !v.valid then rsBoundary else if v.settling then rsSettle
    else if v.state == bdGranted then 0 else rsBoundary
  | none => rsDetect

/-- Whether the conflict matrix marks two routes, in either row (R126, R130). -/
def conflicts (p : Prt) (r q : Nat) : Bool :=
  p.conflicts.contains (r, q) || p.conflicts.contains (q, r)

/-- A trip channel assigned to the signal in Praline's table has a TRIPPED guard (R151). -/
def prlTripped (p : Prt) (fin : FrameIn) (sig : Nat) : Bool :=
  (List.range p.tripSignal.length).any fun c => prtTripOf p c == some sig && chanTripped p fin c

/-- Kind 1 (R126): reason of failure, 0 where every condition holds. `others` are the permits that
stand at this moment, those issued earlier in the same PROVE included. A TRIPPED guard on a channel of the signal fails
it with reason GUARD (R151). -/
def failsSignal (p : Prt) (fin : FrameIn) (c : Committed) (x : Inter) (others : List Permit) (q : Permit) : Nat :=
  match prtRoute? p q.route with
  | none => rsLock
  | some r =>
    if prlTripped p fin q.obj then rsGuard else
    match exclOn c.crumbs q.obj, c.txns.find? (·.route == q.route) with
    | some k, some t =>
      if r.entry != q.obj || k.kind ≠ .route || k.pos != 1 || k.owner != t.slot then rsLock
      else if r.footprint.any (entryCorrupt c) then rsCorrupt
      else if !r.footprint.all (entryHeld p c r.exit t.slot) then rsLock
      else
        let why := firstReason (r.footprint.map fun e =>
          let f := readingFails p x r.entry e
          (f == 0, f))
        if why != 0 then why
        else if q.state > limitOf r.limits (prlSeen x r.exit) then rsAspect
        else if others.any fun o => o.kind == 1 && o.route != q.route
            && conflicts p q.route o.route then rsConflict
        else 0
    | _, _ => rsLock

/-- Kind 2 (R126): `alone` is an individual move or a standing permit. DESIGN CHOICE (log entry 107): the point itself must be
valid and out of its settle period also where its sections show it free, though none of the conditions named for that case
reads its report. -/
def failsPoint (p : Prt) (c : Committed) (x : Inter) (alone : Bool) (q : Permit) : Nat :=
  let on := crumbsOn c.crumbs q.obj
  let v := prlSeen x q.obj
  if on.any crumbBad then rsCorrupt
  else if on.any fun k => posCmd k.pos != q.state then rsLock
  else if on.isEmpty && !alone then rsLock
  else if !v.valid then rsDetect
  else if v.settling then rsSettle
  else if v.state == posRep (q.state - 1) then 0
  else
    let bad := (prlSections p q.obj).map fun i =>
      let s := prlSeen x i
      if !s.valid then rsSection else if s.settling then rsSettle
      else if s.state == scClear then 0 else rsSection
    firstReason (bad.map fun b => (b == 0, b))

/-- Kind 3 (R126). -/
def failsCrossing (c : Committed) (x : Inter) (q : Permit) : Nat :=
  let v := prlSeen x q.obj
  if !(crumbsOn c.crumbs q.obj).isEmpty then rsLock
  else if !v.valid then rsCrossing else if v.settling then rsSettle else 0

/-- Kind 4 (R126). -/
def failsOffer (c : Committed) (x : Inter) (q : Permit) : Nat :=
  let v := prlSeen x q.obj
  match exclOn c.crumbs q.obj with
  | some k =>
    if crumbBad k then rsCorrupt
    else if k.kind ≠ .boundary || k.pos != 0 then rsLock
    else if !v.valid then rsBoundary else if v.settling then rsSettle else 0
  | none => rsLock

/-- Kind 5 (R126, R151): GUARD where a guard of the channel is TRIPPED or faulted, SIGNAL where the assigned signal holds no
kind 1 permit. -/
def failsTrip (p : Prt) (fin : FrameIn) (others : List Permit) (q : Permit) : Nat :=
  if chanGuarded p fin q.chan then rsGuard
  else if prtTripOf p q.chan != some q.obj || !others.any (fun o => o.kind == 1 && o.obj == q.obj) then rsSignal
  else 0

/-- The reason for which a permit or request fails, 0 where its conditions hold (R126). -/
def fails (p : Prt) (fin : FrameIn) (c : Committed) (x : Inter) (others : List Permit)
    (alone : Bool) (q : Permit) : Nat :=
  match q.kind with
  | 1 => failsSignal p fin c x others q
  | 2 => failsPoint p c x alone q
  | 3 => failsCrossing c x q
  | 4 => failsOffer c x q
  | 5 => failsTrip p fin others q
  | _ => rsLock

/-! ## Standing permits (R138) -/

/-- One entry of the permit list against what the lanes propose: kept, removed where the lanes do not
command the same state, revoked where it fails. Kind 5 entries are judged after the others. -/
def reprove (p : Prt) (fin : FrameIn) (c : Committed) (wants : List Permit) (x : Inter)
    (q : Permit) : Inter :=
  if !wants.contains q then x
  else
    let why := fails p fin c x (x.permits ++ x.requests) true q
    if why == 0 then { x with permits := x.permits ++ [q] }
    else { x with revoked := x.revoked ++ [(q, why)] }

/-- Re-proof of the permit list (R128, R138), but for kind 5 entries: these depend on their signal's permit of the same
frame, so `retrip` judges them once that has been decided (R126, R129). -/
def reproveAll (p : Prt) (fin : FrameIn) (c : Committed) (wants : List Permit) (x : Inter) : Inter :=
  (x.permits.filter (·.kind != 5)).foldl (reprove p fin c wants) { x with permits := [], requests := [] }

def retrip (p : Prt) (fin : FrameIn) (c : Committed) (wants trips : List Permit) (x : Inter) : Inter :=
  trips.foldl (reprove p fin c wants) x

/-! ## New requests (R129) -/

/-- One request: denied or issued (R126, R129). -/
def proveOne (p : Prt) (fin : FrameIn) (c : Committed) (fenced : Bool) (x : Inter) (q : Permit) :
    Inter :=
  if x.permits.contains q then x
  else
    let alone := ((objOf? x q.obj).map fun o => o.move.isSome && !o.kept).getD false
    let why := if fenced then rsFenced
      else if x.permits.length ≥ 1024 then rsFull
      else fails p fin c x x.permits alone q
    if why == 0 then { x with permits := x.permits ++ [q], requests := x.requests ++ [q] }
    else { x with denied := x.denied ++ [(q, why)], requests := x.requests ++ [q] }

/-- The new requests of a frame: those without a standing permit, at most 256, and none that only one
lane passed (R129, R143). -/
def newRequests (x : Inter) (single : List Nat) (reqs : List Permit) : List Permit :=
  (reqs.filter fun q => !x.permits.contains q && !single.contains q.obj).take 256

/-- A cancellation that a fenced Praline does not carry out: the transaction keeps its state (R143,
R146). -/
def keepUncancelled (t : Txn) : Txn :=
  if t.state = .claimed || t.state = .setting || t.state = .proved then { t with byCancel := false }
  else t

/-- The new requests of a frame and the standing kind 5 entries, `trips`: requests that name an object, then what depends
on their signals' permits (R126, R129, R138). -/
def proveRequests (p : Prt) (fin : FrameIn) (c : Committed) (reqs trips new : List Permit) (x : Inter) : Inter :=
  let x1 := (new.filter (·.kind != 5)).foldl (proveOne p fin c false) x
  (new.filter (·.kind == 5)).foldl (proveOne p fin c false) (retrip p fin c reqs trips x1)

/-- PROVE (R128): releases, claims, requests; a fenced Praline frees nothing, claims nothing and
denies every request (R146). `single` are objects whose requests the lanes did not pass alike. -/
def prove (st : Station) (p : Prt) (fin : FrameIn) (fenced : Bool) (single : List Nat)
    (c : Committed) (reqs : List Permit) (x : Inter) : Inter :=
  let new := newRequests x single reqs
  if fenced then
    let x1 := { x with permits := [], plan := [], requests := [], txns := x.txns.map keepUncancelled }
    (newRequests x1 single reqs).foldl (proveOne p fin c true) (noClaims st fin x1)
  else
    let trips := x.permits.filter (·.kind == 5)
    let x1 := doReleases st p (stepTracks p fin (reproveAll p fin c reqs x))
    proveRequests p fin c reqs trips new (doClaims st p fin x1)

/-! ## One frame -/

/-- The PRALINE records of a frame: denials and revocations (R143, R393). -/
def decisionRecs (x : Inter) : Inter :=
  let ds := x.denied.map fun d => prlRec d.1.obj 1 d.2
  let rs := x.revoked.map fun d => prlRec d.1.obj 2 d.2
  (ds ++ rs).foldl addRec x

/-- The compiler's order of the station logic (R85 step 4, R86). Every instance is executed in every frame (R84), so what an
image does not list runs too. DESIGN CHOICE (log entry 142): sections' edge detectors and routes before the listed items,
and after them objects, timers, edge detectors and latches. -/
def logicOrder (st : Station) : List LogicItem :=
  let left := fun (is : List LogicItem) => is.filter fun i => !st.logic.contains i
  let occ := st.edges.filter fun d => match d.input with
    | .occupied _ => true
    | _ => false
  let rest := st.edges.filter fun d => !occ.contains d
  let latches := st.latches.filter fun d => !st.errors.contains (.latch d.num)
  left (occ.map fun d => .edge d.num) ++ left (st.routes.map fun d => .route d.num) ++ st.logic
    ++ left (st.objects.map fun d => .object d.idx) ++ left (st.timers.map fun d => .timer d.num)
    ++ left (rest.map fun d => .edge d.num) ++ left (latches.map fun d => .latch d.num)

/-- One item of the order: a later item reads what an earlier one wrote (R86); the requests are gathered for PROVE. -/
def runItem (st : Station) (prt : Prt) (fin : FrameIn) (p : Inter) (y : Inter × List (Nat × Permit)) (i : LogicItem) :
    Inter × List (Nat × Permit) :=
  match i with
  | .route r => match txnOfRoute? y.1 r with
    | some t => (stepTxn st prt fin y.1 t.slot, y.2)
    | none => y
  | .object i => runObject st p i y
  | .timer n => (runTimer st fin p n y.1, y.2)
  | .edge n => (runEdge st p n y.1, y.2)
  | .latch n => (runLatch st p n y.1, y.2)

/-- Steps 4 and 5 of EVALUATE: the instances, and the requests in ascending object index, kind 5 after them in ascending
channel (R85, R129). -/
def evaluate (st : Station) (prt : Prt) (fin : FrameIn) (p x : Inter) : Inter × List Permit :=
  let (x1, wants) := (logicOrder st).foldl (runItem st prt fin p) (x, [])
  (x1, (sortBy (·.1) wants).map (·.2) ++ tripRequests st prt fin wants)

/-- The requests that INPUT took, on the frame's mapped inputs, in queue order (R106, R286). -/
def takeTodo (st : Station) (prt : Prt) (fin : FrameIn) (x : Inter) : Inter :=
  x.todo.foldl (takeVital st prt fin) { x with todo := [] }

/-- EVALUATE and PROVE of a frame whose INPUT has been taken (R85, R128): `p0` is the committed state, `x` the frame's
state after INPUT. -/
def evalAndProve (st : Station) (prt : Prt) (fin : FrameIn) (fenced : Bool) (single : List Nat)
    (p0 x : Inter) : Inter :=
  let c : Committed := { crumbs := p0.crumbs, txns := p0.txns }
  let x1 := takeTodo st prt fin (mapInputs st prt fin x)
  let (x2, reqs) := evaluate st prt fin p0 x1
  let x3 := prove st prt fin fenced single c reqs x2
  let x4 := finishTxns st fin x3
  decisionRecs (stopDenied st (applyDecision (if fenced then x4 else startTracks prt x4)))

/-- What the lanes carry to the next frame: the ended transactions leave, the store is compacted
(R105, R109). -/
def afterDrain (x : Inter) : Inter :=
  let y := dropEnded x
  { y with crumbs := compacted y.crumbs, shadow := compacted y.shadow, unmappedFor := y.unmappedFor - 1 }

end Sys2Proof.Machine
end

