-- ==== Sys2Proof/Machine/Freeze.lean ====
section
/-! DEFINITION. The freeze of a frame's inputs (R29, R54, R91, R98, R234, R242): the mailboxes and the local input
image as the frame reads them. -/

namespace Sys2Proof.Machine

open Sys2Proof

/-! ## Mailboxes -/

def frozenBuf (b : NodeBlk) : Option Uplink := if b.frozen = 0 then b.buf0 else b.buf1

/-- Row of R91 that makes every object of a node invalid, 0 where none does (R98, R234, R240). -/
def nodeCause (s : State) (c : Cluster) (f : FrnBlk) (b : NodeBlk) : Nat :=
  if f.fenced || f.state = .off || b.state ≠ .admitted then 1
  else match frozenBuf b with
    | none => 1
    | some u =>
      if !u.admitted then 1
      else if cyclesSince u.cycle f.cycle > staleLimit s c then 2 else 0

/-- One node at the freeze: its latest buffer is frozen, and the restriction of R97 ends where it is valid. -/
def freezeNode (s : State) (c : Cluster) (f : FrnBlk) (b : NodeBlk) : NodeBlk :=
  let b1 := { b with frozen := b.latest, frozenN := 1 - b.latest }
  let bad := nodeCause s c f b1 != 0
  { b1 with wasInvalid := bad, onlyRestr := b1.onlyRestr && bad }

/-- The freeze of a cluster's mailboxes; it compares their pointers (R240). -/
def freezeCluster (s : State) (c : Cluster) : State :=
  let t := checkMailboxes s c (fun _ => true)
  setFrn t c fun f => { f with nodes := f.nodes.map (freezeNode t c f) }

/-- What the frozen uplink shows of an element (R91, R220). -/
def fieldObs (s : State) (d : ObjDesc) (c : Cluster) (node elem : Nat) : Obs :=
  let f := frnOf s c
  match f.nodes.find? (·.node == node) with
  | none => { idx := d.idx, rep := substituteRep d.ty, cause := 1 }
  | some b =>
    let k := nodeCause s c f b
    match (frozenBuf b).bind fun u => u.reports[elem]? with
    | none => { idx := d.idx, rep := substituteRep d.ty, cause := if k = 0 then 3 else k }
    | some r =>
      { idx := d.idx, rep := r.state, lamp := d.ty = .signal && r.aux % 2 == 1
        cause := if k ≠ 0 then k else if r.fault then 3 else 0 }

/-! ## Local objects -/

/-- The inputs of a local object's channels (R242). -/
def localInputs (first count : Nat) : List Nat := (List.range (2 * count)).map (2 * first + ·)

/-- The value that the inputs spell, the first most significant (log entry 6). -/
def spelled (bs : List Bool) : Nat := bs.foldl (fun acc b => 2 * acc + bit b) 0

/-- What the frozen upstream frame shows of a local object (R91, R242, R264). DESIGN CHOICE (log entry 111): inputs that spell
a value which the object's map does not list make it invalid by cause 4, as a fault of its inputs does. -/
def localObs (s : State) (d : ObjDesc) (first count : Nat) : Obs :=
  let v := s.lio.vital
  let u := v.frozen
  let ins := localInputs first count
  let flt := ins.any fun n => (u.iflt[n]?).getD true
  let val := spelled (ins.map fun n => (u.image[n]?).getD false)
  let rep := (d.inMap.find? (·.1 == val)).map (·.2)
  let lamp := match d.lampInput with
    | some n => (u.image[n]?).getD true
    | none => false
  { idx := d.idx, rep := rep.getD (substituteRep d.ty), lamp := lamp
    cause := if v.barrierLost || !v.linkUp || v.fence then 5 else if flt || rep.isNone then 4 else 0 }

/-- What the frozen inputs show of an object; a boundary object is in neither (R73). -/
def obsOf (s : State) (d : ObjDesc) : List Obs :=
  match d.loc with
  | .field c n e => [fieldObs s d c n e]
  | .local k m => [localObs s d k m]
  | .nowhere => []

/-! ## The frame's inputs -/

/-- Guards whose pair has a faulted input (R150). -/
def pairFaults (s : State) : List Nat :=
  let gs := (s.prt.map (·.guards)).getD []
  let flt := s.lio.vital.frozen.iflt
  (List.range gs.length).filter fun n => match gs[n]? with
    | some d => (flt[d.pair]?).getD false || (flt[d.pair + 1]?).getD false
    | none => false

/-- Guards TRIPPED now. -/
def trippedNow (s : State) : List Nat :=
  (List.range s.prl.guards.length).filter fun n => ((s.prl.guards[n]?).map (·.tripped)).getD false

/-- Trip channels LOCKED or with DEGX set in the frozen frame (R262). -/
def tripsOut (s : State) : List Nat :=
  let u := s.lio.vital.frozen
  (List.range 4).filter fun c =>
    ((u.trip[c]?).map fun t => t.2.2.2).getD false || (u.degx[c]?).getD false

/-- Location tests that the lanes request (R253): of a bank whose fault bit this frame is the first to see. DESIGN CHOICE (log
entry 124): one request a frame in the order of the banks, and a test that was aborted is requested again. -/
def askLocation (was : UpFrame) (v : LioVital) : LioVital :=
  let seen := fun b => (v.frozen.ibf[b]?).getD false
  let fresh := (List.range 4).filter fun b =>
    seen b && (!(was.ibf[b]?).getD false || (v.frozen.tres == 2 && v.frozen.tresBank == b))
  match v.testWant ++ fresh.filter fun b => !v.testWant.contains b with
  | [] => v
  | b :: bs => { v with test := b + 1, testWant := bs }

/-- The local image and the register copies of the block are those of the last upstream frame; COUNT_ERR
follows the sequence errors since the last tick (R267, R268). -/
def freezeLocal (s : State) : State :=
  let v := s.lio.vital
  let errs := v.up.seqe != v.seqeTick
  let lanes := s.dpx.role = .active || s.dpx.role = .alone
  setLive (updVital s fun v =>
    let v1 := { v with frozen := v.up, seqeTick := v.up.seqe }
    if lanes then askLocation v.frozen v1 else v1) .lio lCOUNT_ERR errs

/-- Tick position in the Cluster 0 field cycle: a macrotick is 100 ns (R70). DESIGN CHOICE (log entry 110): Cluster 0 was
synchronised at the tick where its port is on and has begun a cycle, is not in FOLLOW without sync, and SYNC_LOSS is not
live. -/
def noteTickPosition (s : State) : State :=
  let f := s.frn0
  let ok := f.begun && f.state ≠ .off && f.state ≠ .followNoSync && !isLive s .frn nSYNC_LOSS
  { s with frm := { s.frm with fcValid := ok, cycLo := f.cycle % 65536
                               mt := min 9999 (10 * (s.now - f.cycleAt)) } }

/-- The freeze (R54). -/
def freezeInputs (s : State) : State :=
  noteTickPosition (freezeLocal (freezeCluster (freezeCluster s .c0) .c1))

/-- Time from the last tick to now in µs, 0 before the first frame has ended (R88). -/
def sinceTick (s : State) : Nat := if s.frm.ended then s.now - s.frm.tick else 0

/-- The frame's inputs, once frozen. -/
def frameInputs (s : State) (st : Station) : FrameIn :=
  { obs := st.objects.flatMap (obsOf s)
    tripped := trippedNow s
    pairFault := pairFaults s
    tripOut := tripsOut s
    tick := s.now
    elapsed := sinceTick s
    takeover := if s.dpx.gapDue then some (s.now - s.dpx.gapFrom) else none }

end Sys2Proof.Machine
end

