-- ==== Sys2Proof/Machine/Query.lean ====
section
/-! DEFINITION. The query and diagnostic commands, answered by the service processor (R283 to R285, R289, R290,
R293, R404, R405). A command whose partner entry is empty comes from no partner and is not answered. -/

namespace Sys2Proof.Machine

open Sys2Proof

/-- A query or diagnostic command (R282 steps 7 and 8). -/
def answerQuery (s : State) (src : Src) (opc : Nat) (f : State → State) : State := gated s src opc f

/-- Firmware version of a lane's booted image, 0 where none is booted. -/
def lfwVersion (s : State) (l : Lane) (p : BankPair) : Nat :=
  if (laneOf s.vot l).booted != 0 then fieldAt (activeBank p).header 20 4 else 0

/-- IDENTITY's reply fields (R289). -/
def identityBody (s : State) : Bytes :=
  be 1 s.sys.variant ++ be 1 s.sys.issue
    ++ be 1 (runningEpoch s) ++ be 1 (ownPair s.cfg) ++ be 1 (ownKind s.cfg) ++ be 1 s.sec.life.code ++ be 2 0
    ++ be 4 ((s.mzp.map (·.mzpid)).getD 0) ++ be 4 ((s.prt.map (·.prtid)).getD 0)
    ++ be 4 (lfwVersion s .l1 s.upd.lfw1) ++ be 4 (lfwVersion s .l2 s.upd.lfw2) ++ be 4 (lfwVersion s .l3 s.upd.lfw3)
    ++ be 4 (fieldAt (activeBank s.upd.svc).header 20 4) ++ be 8 s.sys.serial

/-- IDENTITY (R289). -/
def execIdentity (src : Src) (s : State) : Out :=
  .next (answerQuery s src 0x50 fun s => reply s src 0x50 .done (identityBody s))

/-- STATUS (R289): copies of the status image (R317). -/
def execStatus (src : Src) (s : State) : Out :=
  .next (answerQuery s src 0x51 fun s =>
    reply s src 0x51 .done ([0x20004, 0x20008, 0x3000C, 0x10008, 0x70004].flatMap fun a =>
      be 4 (copyOf s.image a).toNat))

/-- Whether a range of a read opcode is one that R289 answers. -/
def rangeOk (first count most size : Nat) : Bool := 1 ≤ count && count ≤ most && first + count ≤ size

/-- OBJECT_READ (R289). -/
def execObjectRead (src : Src) (first count : Nat) (s : State) : Out :=
  .next (answerQuery s src 0x52 fun s =>
    if rangeOk first count 1024 4096 then
      reply s src 0x52 .done (be 2 count ++ (List.range count).flatMap fun k =>
        be 4 (objectWord s.image.inter (first + k)))
    else reply s src 0x52 .badLen [])

/-- ROUTE_READ (R289). -/
def execRouteRead (src : Src) (first count : Nat) (s : State) : Out :=
  .next (answerQuery s src 0x53 fun s =>
    if rangeOk first count 1022 2048 then
      reply s src 0x53 .done (be 2 count ++ (List.range count).flatMap fun k =>
        routeEntry (stationOf s) s.image.inter (first + k))
    else reply s src 0x53 .badLen [])

/-- CRUMB_READ (R289). -/
def execCrumbRead (src : Src) (first count : Nat) (s : State) : Out :=
  .next (answerQuery s src 0x54 fun s =>
    if rangeOk first count 1022 1024 then
      reply s src 0x54 .done (be 2 count ++ (List.range count).flatMap fun k =>
        be 8 (crumbEntry s.image.inter.crumbs (first + k)))
    else reply s src 0x54 .badLen [])

/-! ## EVENT_READ (R404) -/

/-- A record as a reply carries it: with VER 1 its TIME is replaced by OPSEC, PCC and 0 of the stored prefix, and
TMODE is 1 (R283, R401). -/
def recordOut (ver : Nat) (k : Kept) : Bytes :=
  if ver = 1 then
    recBytes { k.r with tmode := true, time := k.opsec % 2 ^ 32 * 2 ^ 32 + k.pcc % 65536 * 65536 }
  else recBytes k.r

/-- A DAMAGED record in place of what cannot be walked (R393, R404). -/
def damagedRec (s : State) (first last : Nat) : Kept :=
  numbered s s.now
    { ty := 0x14, sev := 1, orig := true, msw := msw s, body := be 8 first ++ be 8 last }

/-- The record stands at the place of the first that it replaces. -/
def damagedAt (s : State) (first last : Nat) : Kept :=
  let k := damagedRec s first last
  { k with r := { k.r with num := first } }

/-- The chain of seals holds at a segment: the CRC of its head, and the seal of the segment before it, by what stands there
(R404). -/
def chainHolds (before : Option Segment) (g : Segment) : Bool :=
  g.hcrc == (crc32c (segHead g)).toNat && match before with
    | some p => g.prev == p.close && p.close == sealOf p
    | none => true

/-- One segment as the walk finds it after the one before it: its records up to the first that fails its CHK, and what
stands for the rest (R404). -/
def walkSegment (s : State) (before : Option Segment) (g : Segment) (last : Nat) : List Kept × Bool :=
  if !chainHolds before g then
    match g.recs.head? with
    | some k => ([damagedAt s k.r.num last], true)
    | none => ([], true)
  else
    let good := ((g.recs.zip g.chks).takeWhile fun p => p.2 == recChk p.1).map (·.1)
    match g.recs.drop good.length with
    | [] => (good, false)
    | k :: _ => (good ++ [damagedAt s k.r.num last], true)

/-- The number before the first of the next segment, or before the first record after the ring. -/
def lastOfSegment (e : EvrBlk) (k : Nat) : Nat :=
  let rest := (e.ring.drop (k + 1)).flatMap (·.recs) ++ mramKept e ++ e.flushing.getD [] ++ e.buffer
  match rest.head? with
  | some r => r.r.num - 1
  | none => e.next - 1

/-- Every record that a reader meets, in ascending number, and whether the ring shows damage (R404). -/
def walkRecords (s : State) : List Kept × Bool :=
  let e := s.evr
  let segs := e.ring.zipIdx.map fun g => walkSegment s (if g.2 = 0 then none else e.ring[g.2 - 1]?) g.1 (lastOfSegment e g.2)
  let rest := mramKept e ++ e.flushing.getD [] ++ e.buffer
  (segs.flatMap (·.1) ++ rest, segs.any (·.2))

/-- What a walk takes: the records, and NEXT (R404); `room` is what is left of MAXB, `scan` of the 65,536. -/
def takeRecords (minsev ver : Nat) : Nat → Nat → List Kept → Nat → List Bytes × Nat
  | _, _, [], next => ([], next)
  | _, 0, k :: _, _ => ([], k.r.num)
  | room, scan + 1, k :: ks, next =>
    if k.r.sev < minsev then takeRecords minsev ver room scan ks next
    else
      let bs := recordOut ver k
      if bs.length > room then ([], k.r.num)
      else
        let (more, n) := takeRecords minsev ver (room - bs.length) scan ks next
        (bs :: more, n)

/-- EVENT_READ (R289, R404). -/
def execEventRead (src : Src) (start maxb minsev : Nat) (s : State) : Out :=
  .next (answerQuery s src 0x55 fun s =>
    if minsev > 3 then reply s src 0x55 .badLen []
    else
      let (all, damaged) := walkRecords s
      let room := if maxb = 0 ∨ maxb > 8172 then 8172 else maxb
      let (bs, n) := takeRecords minsev src.ver room 65536 (all.filter fun k => start ≤ k.r.num) s.evr.next
      let s1 := if damaged then raise s .evr rRING_ERR else s
      reply s1 src 0x55 .done (be 2 bs.length ++ be 8 n ++ bs.flatten))

/-- SUBSCRIBE (R290). -/
def execSubscribe (src : Src) (period : Nat) (s : State) : Out :=
  .next (answerQuery s src 0x56 fun s =>
    if period > 250 then reply s src 0x56 .badLen []
    else
      let rest := s.cmd.subs.filter (·.entry != src.entry)
      let subs := if period = 0 then rest else rest ++ [{ entry := src.entry, period := period }]
      reply { s with cmd := { s.cmd with subs := subs } } src 0x56 .done [])

/-- TIME_READ (R289). -/
def execTimeRead (src : Src) (now : Nat) (s : State) : Out :=
  let s := later s now
  .next (answerQuery s src 0x57 fun s =>
    let src3 := if s.evr.base.isNone then TimeSrc.none else s.evr.tsrc
    reply s src 0x57 .done (be 8 (stampOf s s.now).2 ++ be 1 src3.code ++ be 1 0))

/-! ## Diagnostic commands (R293) -/

/-- ECHO. -/
def execEcho (src : Src) (data : Bytes) (s : State) : Out :=
  .next (answerQuery s src 0xE0 fun s =>
    if data.length > 8182 then reply s src 0xE0 .badLen [] else reply s src 0xE0 .done data)

/-- PORT_COUNTERS, for the connector that received the request. -/
def execPortCounters (src : Src) (conn : Nat) (s : State) : Out :=
  .next (answerQuery s src 0xE1 fun s =>
    let c := (s.cmd.ports.find? (·.conn == conn)).getD { conn := conn }
    reply s src 0xE1 .done ([c.received, c.d1, c.d2, c.d5, c.d12, c.d13, c.replies].flatMap fun n =>
      be 4 (min n 0xFFFFFFFF)))

/-- LANE_DIAG (R293, R405): the rules of R404 without the severity filter; `maxb` is the room of the reply, 0
for the largest. -/
def execLaneDiag (src : Src) (lane start maxb : Nat) (s : State) : Out :=
  .next (answerQuery s src 0xE2 fun s =>
    match Lane.ofNat? lane with
    | none => reply s src 0xE2 .badLen []
    | some l =>
      let d := diagOf s.evr l
      let room := if maxb = 0 ∨ maxb > 8172 then 8172 else maxb
      let ks := (d.recs.filter fun r => start ≤ r.num).map fun r => ({ r := r, opsec := 0, pcc := 0 } : Kept)
      let (bs, n) := takeRecords 0 src.ver room 65536 ks d.next
      reply s src 0xE2 .done (be 2 bs.length ++ be 8 n ++ bs.flatten))

end Sys2Proof.Machine
end

