-- ==== Sys2Proof/Machine/Vital.lean ====
section
/-! DEFINITION. The vital control commands (R106, R117, R118, R286 to R288): a request that has passed steps 1 to
17 of R282 and reaches the lanes. Between two frames it is taken at once, and the next frame answers it;
while a frame is in progress it waits for the next INPUT (R30). -/

namespace Sys2Proof.Machine

open Sys2Proof

/-- What a request taken between two frames reads of the frame that answers it. -/
def betweenFrames (s : State) : FrameIn :=
  { tripped := trippedNow s, tick := s.frm.nextTick.getD s.now }

def isRouteSet : VReq → Bool
  | .routeSet _ _ _ => true
  | _ => false

/-- INPUT takes no more of its kind: 32 packets, and none from the ninth ROUTE_SET on; what waits is taken first (R286). -/
def inputFull (s : State) (r : VReq) : Bool :=
  !s.cmd.inbox.isEmpty || 32 ≤ s.core.asks.length || (isRouteSet r && 8 ≤ (s.core.asks.filter (·.opc == 0x10)).length)

/-- A request taken by the lanes: now, or at the next INPUT. -/
def putRequest (s : State) (r : VReq) : State :=
  match s.mzp with
  | some st =>
    if s.work.isNone && !inputFull s r then { s with core := takeVital st (prtOf s) (betweenFrames s) s.core r }
    else { s with cmd := { s.cmd with inbox := s.cmd.inbox ++ [r] } }
  | none => s

/-- A request that the lanes answer with a status and do not carry out. -/
def putStatus (s : State) (src : Src) (opc : Nat) (st : Status) : State :=
  updInter s (ask src opc (.fixed st))

/-- Whether the lanes take vital packets: ACTIVE or ALONE, not stopped (R282 step 12, R285). -/
def takesVital (s : State) : Bool := (s.dpx.role = .active || s.dpx.role = .alone) && !s.sys.stopped && !s.dpx.relinquished

/-- A vital control command (R282 steps 8 and 12, R284, R296, R278, R320); none is one with a parameter outside its
stated values (R282 step 17). -/
def vitalRow (s : State) (src : Src) (opc : Nat) (r : Option VReq) : State :=
  let p := partnerAt s src.entry
  if p.addr = 0xFFFF ∨ s.xbr.fenced ∨ !svcRuns s then s
  else if !hasClass s src .vital || s.sec.life = .factory || s.sec.life = .retired then
    reply s src opc .notAuth []
  else if !takesVital s then s
  else if s.cmd.fenced then putStatus s src opc .notAuth
  else if p.addr / 256 % 8 ≤ 3 then putStatus (countVital s .stale) src opc .stale
  else match r with
    | some r => putRequest (hearFrom s src.entry) r
    | none => putStatus s src opc .badLen

/-- ROUTE_SET (R106). A wait limit above 600 s is a parameter outside its range (R286). -/
def execRouteSet (src : Src) (route wait : Nat) (s : State) : Out :=
  .next (vitalRow s src 0x10 (if wait ≤ 600 then some (.routeSet src route wait) else none))

/-- ROUTE_CANCEL (R117). -/
def execRouteCancel (src : Src) (route : Nat) (s : State) : Out :=
  .next (vitalRow s src 0x11 (some (.routeCancel src route)))

/-- EMERGENCY_RELEASE (R118). -/
def execEmergencyRelease (src : Src) (route : Nat) (s : State) : Out :=
  .next (vitalRow s src 0x12 (some (.emergency src route)))

/-- POINT_MOVE (R286, R444); a position other than 1 or 2 is answered BAD_LEN. -/
def execPointMove (src : Src) (group : Bool) (target pos : Nat) (s : State) : Out :=
  .next (vitalRow s src 0x13 (if pos = 1 ∨ pos = 2 then some (.pointMove src group target pos) else none))

/-- SECTION_RESTORE (R286, R448). -/
def execSectionRestore (src : Src) (obj : Nat) (s : State) : Out :=
  .next (vitalRow s src 0x14 (some (.restore src obj)))

/-- BLOCK with action set (R287). -/
def execBlockSet (src : Src) (onRoute : Bool) (target : Nat) (s : State) : Out :=
  .next (vitalRow s src 0x15 (some (.block src onRoute target true)))

/-- BLOCK with action clear (R287). -/
def execBlockClear (src : Src) (onRoute : Bool) (target : Nat) (s : State) : Out :=
  .next (vitalRow s src 0x15 (some (.block src onRoute target false)))

/-- GUARD_ACK (R152, R286). -/
def execGuardAck (src : Src) (guard : Nat) (s : State) : Out :=
  .next (vitalRow s src 0x18 (if guard ≤ 15 then some (.guardAck src guard) else none))

/-- STATION_CMD (R286). -/
def execStationCmd (src : Src) (code arg : Nat) (s : State) : Out :=
  .next (vitalRow s src 0x19 (some (.stationCmd src code arg)))

/-- BOUNDARY_STATE (R136, R288): from a partner of another pair with vital control; its FRAME becomes the FREF of
the module's next packets to it. -/
def execBoundaryState (src : Src) (msg : BoundaryIn) (s : State) : Out :=
  let p := partnerAt s src.entry
  if p.addr = 0xFFFF ∨ s.xbr.fenced ∨ !svcRuns s ∨ !hasClass s src .vital ∨ s.sec.life = .factory ∨ s.sec.life = .retired ∨ !takesVital s
      ∨ s.cmd.fenced ∨ p.addr / 256 % 8 > 3 ∨ p.addr / 2048 ≠ msg.pair then .next s
  else
    let s1 := updInter s (noteFrame p.addr msg.frame)
    match boundaryReq? s1 s1.core msg with
    | some r => .next (countOk (putRequest (hearFrom s1 src.entry) r))
    | none => .next (countOther s1)

end Sys2Proof.Machine
end

