-- ==== Sys2Proof/Machine/Emit.lean ====
section
/-! DEFINITION. EMIT (R29, R55, R164, R216, R217, R255, R288): the downlink messages, the local output command and
the boundary states of a frame, signed by the signing pair, with Praline's tags. -/

namespace Sys2Proof.Machine

open Sys2Proof

/-- Permit kind of an object's commanded state (R126). -/
def kindOf : ObjTy → Nat
  | .signal => 1
  | .point => 2
  | .crossing => 3
  | .boundary => 4
  | .track => 0

/-- The tag of a message under a key of a type in the slot in use, the null tag where Praline holds none (R128, R134). -/
def tagUnder (s : State) (ktype index : Nat) (msg : Bytes) : BitVec 64 :=
  let slot := permitKsel s.cfg
  match plainKey? s ktype index slot with
  | some k => tagOf k slot msg
  | none => nullTag

/-- The tag of the frame under the permit key (R135). -/
def freshTagOf (s : State) (msg : Bytes) : BitVec 64 := tagUnder s 2 0 msg

/-- Praline holds a permit for the object's commanded state (R128). -/
def permitted (x : Inter) (o : ObjInst) : Bool :=
  !isRestrictive o.ty o.cmd && x.permits.any fun q => q.obj == o.idx && q.kind == kindOf o.ty && q.state == o.cmd

/-- The tag field of an object (R128, R133): place, node, element or neighbour are those of Praline's own object map
(R130). An offer's tag is under the border key of the neighbour (R136). -/
def objTag (s : State) (x : Inter) (o : ObjInst) : BitVec 64 :=
  match mapEntry? (prtOf s) o.idx with
  | none => nullTag
  | some m =>
    let msg := fun (place whr elem : Nat) =>
      permitMessage x.counter (ownPair s.cfg) place whr elem o.idx (kindOf o.ty) o.cmd
    if !permitted x o then nullTag
    else if m.ty = .boundary then tagUnder s 3 m.pair (msg placeBoundary m.pair 0)
    else match m.loc with
      | .field c n e => freshTagOf s (msg (placeCluster c) n e)
      | .local k _ => freshTagOf s (msg placeLocal k 0)
      | .nowhere => nullTag

/-! ## Signing (R164, R165) -/

/-- The keys with which the signing pair signs, none where one of them holds no key. -/
def signers (s : State) (a b : Lane) : Option (Key × Key) :=
  let slot := laneKsel s.cfg
  match plainKey? s 1 a.num slot, plainKey? s 1 b.num slot with
  | some k, some l => some (k, l)
  | _, _ => none

/-! ## Downlink -/

/-- The node's entry (R217): nibbles of its elements, tags of the commandable ones. -/
def nodeEntry (s : State) (st : Station) (x : Inter) (d : NodeDef) (bad : Bool) : DlEntry :=
  let os := nodeObjs st d.cluster d.node
  let at_ := fun (e : Nat) => (os.find? (·.1 == e)).map (·.2)
  let nib := fun (e : Nat) => match at_ e with
    | some k => match objOf? x k.idx with
      | some o => if commandable k then o.cmd else if k.restorable then bit o.restore else 0
      | none => 0
    | none => 0
  let tags := (os.filter fun p => commandable p.2).map fun p => match objOf? x p.2.idx with
    | some o => objTag s x o
    | none => nullTag
  { node := d.node, offset := d.offset, states := (List.range d.nel).map nib, tags := tags, restr := bad }

/-- One message of a cluster, signed (R216). -/
def downlinkMsg (s : State) (st : Station) (x : Inter) (c : Cluster) (a b : Lane) (ka kb : Key) (slot : Nat) : DlMsg :=
  let f := frnOf s c
  let here := st.nodes.filter fun d => d.cluster = c && d.slot == some slot
  let bad := fun (n : Nat) => ((f.nodes.find? (·.node == n)).map (·.wasInvalid)).getD true
  let m : DlMsg := { slot := slot, frame := x.counter, entries := here.map fun d => nodeEntry s st x d (bad d.node)
                     sig1 := 0, sig2 := 0 }
  let signed := messageBody s.cfg c m true ++ be 16 0
  { m with sig1 := laneSig ka a.num (laneKsel s.cfg) signed, sig2 := laneSig kb b.num (laneKsel s.cfg) signed }

/-- The back buffers of a cluster (R55); a fenced cluster has no downlink (R240). -/
def emitCluster (s : State) (st : Station) (x : Inter) (a b : Lane) (ka kb : Key) (c : Cluster) : State :=
  let f := frnOf s c
  if f.fenced || f.state = .off then s
  else setFrn s c fun f => { f with back := (List.range 16).map (downlinkMsg s st x c a b ka kb) }

/-! ## The local output command (R255) -/

/-- Commandable local objects, in ascending index. -/
def localObjs (st : Station) : List (ObjDesc × Nat) :=
  sortBy (·.1.idx) (st.objects.filterMap fun d => match d.loc with
    | .local k _ => if commandable d then some (d, k) else none
    | _ => none)

def localCommand (s : State) (st : Station) (x : Inter) (a b : Lane) (ka kb : Key) : LocCmd :=
  let entry := fun (p : ObjDesc × Nat) => (objOf? x p.1.idx).map fun o : ObjInst =>
    { obj := o.idx, chan := p.2, kind := if isRestrictive o.ty o.cmd then 0 else kindOf o.ty, state := o.cmd
      tag := objTag s x o : LocEntry }
  let trips := (List.range (nTrips s)).map fun c => (x.tripCmd[c]?).getD false
  let tags := (List.range (nTrips s)).map fun c =>
    match x.permits.find? fun q => q.kind == 5 && q.chan == c with
    | some q => if (trips[c]?).getD false then freshTagOf s (tripMessage s.cfg x.counter c q.obj) else nullTag
    | none => nullTag
  let m : LocCmd := { frame := x.counter, entries := (localObjs st).filterMap entry, trips := trips, tripTags := tags
                      lane1 := a.num, lane2 := b.num, sig1 := 0, sig2 := 0 }
  let signed := locSigned s.cfg m
  { m with sig1 := laneSig ka a.num (laneKsel s.cfg) signed, sig2 := laneSig kb b.num (laneKsel s.cfg) signed }

/-! ## Boundary states (R288) -/

/-- The module's own border section towards a boundary object: CLEAR only where every section of it is valid,
settled and CLEAR. -/
def ownBorder (x : Inter) (d : ObjDesc) : Nat :=
  if !d.sections.isEmpty && d.sections.all fun i => let v := seenObj x i; v.valid && !v.settling && v.state == scClear
  then bdClear else bdOccupied

/-- Entries towards a neighbour pair, in ascending index. -/
def boundaryBytes (s : State) (st : Station) (x : Inter) (pair : Nat) : List Bytes :=
  (sortBy (fun d : ObjDesc => d.idx) (st.objects.filter fun d => d.ty = .boundary && (d.neighbour.map (·.1)) == some pair)).filterMap
    fun d => (objOf? x d.idx).map fun o =>
      be 2 o.idx ++ be 1 (if permitted x o then bdGranted else bdWithheld) ++ be 1 (ownBorder x d)
        ++ be 8 (objTag s x o).toNat

/-- BOUNDARY_STATE to one module of a neighbour pair. FREF before any packet from it is a free value (log entry 7). -/
def boundaryTo (st : Station) (x : Inter) (s : State) (entry : Nat) : State :=
  let p := partnerAt s entry
  let pair := p.addr / 2048
  let slot := cmdKsel s.cfg
  let (w, s) := takeFree s
  let fref := ((x.peerFrames.find? (·.partner == p.addr)).map (·.frame)).getD w.toNat
  let es := (boundaryBytes s st x pair).take 64
  let pay := be 6 fref ++ be 1 slot ++ be 1 0 ++ be 6 x.counter ++ be 1 es.length ++ be 1 0 ++ es.flatten
  match formVital s entry 2 0x40 0 p.addr slot x.counter pay with
  | (s1, some d) => { s1 with cmd := { s1.cmd with frameOut := s1.cmd.frameOut ++ [d] } }
  | (s1, none) => s1

/-- One to each module of each neighbour pair (R288). -/
def emitBoundary (s : State) (st : Station) (x : Inter) : State :=
  let s0 := { s with cmd := { s.cmd with frameOut := [], frameAnswered := [], frameStored := [] } }
  let ours := (List.range s.cmd.partners.length).filter fun n =>
    let p := partnerAt s n
    p.addr != 0xFFFF && p.addr / 256 % 8 ≤ 1 && p.classes % 2 == 1
      && st.neighbours.any fun q => q.1 == p.addr / 2048
  ours.foldl (boundaryTo st x) s0

/-- EMIT into the back buffers; nothing leaves before the release point. Where one lane of the pair cannot sign,
nothing of the frame is released (R164). -/
def emit (s : State) (st : Station) (x : Inter) (a b : Lane) : Option State :=
  match signers s a b with
  | none => none
  | some (ka, kb) =>
    let s1 := emitCluster (emitCluster s st x a b ka kb .c0) st x a b ka kb .c1
    let cmdL := localCommand s st x a b ka kb
    let s2 := if s1.lio.vital.stopped then s1 else updVital s1 fun v => { v with back := some cmdL }
    some (emitBoundary s2 st x)

/-! ## The release point (R55, R97, R219) -/

/-- The withdrawal bit is cleared at the release point whose downlink comes from an evaluation in which the node
was invalid, or from one since it is valid again; otherwise it keeps the entry withdrawn, since a message
is signed whole (R97, R216, R219). -/
def clearWithdrawal (b : NodeBlk) : NodeBlk :=
  if b.wasInvalid || !b.onlyRestr then { b with withdrawn := false, withdrawDue := false } else b

/-- The back buffers of a cluster become current. -/
def releaseCluster (f : FrnBlk) : FrnBlk :=
  if f.back.isEmpty then f
  else { f with current := f.back, back := [], nodes := f.nodes.map clearWithdrawal }

end Sys2Proof.Machine
end

