-- ==== Sys2Proof/Machine/Vote.lean ====
section
/-! DEFINITION. The vote (R50, R159, R162 to R164, R169, R176): which lanes have published, the signing pair, the
odd lanes, and the shadow frames of lanes in RESYNC. -/

namespace Sys2Proof.Machine

open Sys2Proof

/-- Two publications agree in all three items (R24); the vote lets none with SIGF agree (R159). -/
def sameItems (p q : Pub) : Bool := p.ov == q.ov && p.hash == q.hash && p.sig == q.sig

def pubsAgree (v : VotBlk) (a b : Lane) : Bool :=
  match (laneOf v a).pub, (laneOf v b).pub with
  | some p, some q => !p.sigf && !q.sigf && sameItems p q
  | _, _ => false

/-- The signing pair: the two lowest-numbered agreeing lanes of those that count (R25, R164). -/
def signingPair (v : VotBlk) (ls : List Lane) : Option (Lane × Lane) :=
  [(Lane.l1, Lane.l2), (.l1, .l3), (.l2, .l3)].find? fun p =>
    ls.contains p.1 && ls.contains p.2 && pubsAgree v p.1 p.2

/-- Times of the VOTING lanes' publications, earliest first. -/
def pubTimes (v : VotBlk) : List Nat :=
  sortBy id ((votingLanes v).filterMap fun l => (laneOf v l).pub.map (·.pubAt))

/-- Latest moment of the vote instant after a tick (R162): 0.70 T + EXT of the frame. -/
def voteDeadline (s : State) : Nat := s.frm.tick + s.frm.T * 70 / 100 + s.frm.ext

/-- The vote instant, as far as it is known (R50, R162): every VOTING lane has published, or the allowance after the second
publication has passed, and at the latest the deadline. -/
def voteInstant (s : State) : Nat :=
  let ts := pubTimes s.vot
  let all := if ts.length == (votingLanes s.vot).length then (ts.getLast?).getD (voteDeadline s) else voteDeadline s
  let skew := match ts[1]? with
    | some t => t + skewUs s.cfg
    | none => voteDeadline s
  min (min all skew) (voteDeadline s)

/-- Whether the vote instant has come. -/
def voteDue (s : State) : Bool := decide (voteInstant s ≤ s.now)

/-- The VOTING lanes whose publications count: those made by the vote instant (R50, R162). -/
def countedLanes (s : State) : List Lane :=
  (votingLanes s.vot).filter fun l => match (laneOf s.vot l).pub with
    | some p => decide (p.pubAt ≤ voteInstant s)
    | none => false

/-- Bits of VOT_ODD from bit 4 up: OV, SH, CS, LATE, SIGF, VOTER (R183). -/
def oddBitsOf (good : Pub) (counted voter : Bool) (p : Option Pub) : Nat :=
  match p with
  | some q => if counted then bitsOf [q.ov != good.ov, q.hash != good.hash, q.sig != good.sig, false, q.sigf, voter]
      else bitsOf [false, false, false, true, false, voter]
  | none => bitsOf [false, false, false, true, false, voter]

/-- An odd-lane event: counted and shown (R183). -/
def noteOdd (s : State) (l : Lane) (bits frame : Nat) : State :=
  { s with vot := { setLane s.vot l (fun b => { b with odd := satAdd 255 1 b.odd }) with
    oddLane := l.num, oddBits := bits, oddFrame := frame % 2 ^ 32 } }

/-- A lane found odd: ODD_LANE, fenced at once (R166, R167, R184). -/
def makeOdd (s : State) (l : Lane) (bits frame : Nat) : State :=
  laneFence (raiseAt (lower (noteOdd s l bits frame) .vot vODD_LANE) .vot vODD_LANE (some l)) l

/-- No majority (R176, R177). -/
def noMajority (s : State) : State :=
  raise { s with vot := { s.vot with noMaj := true } } .vot vNOMAJ

/-- A load or shadow frame of a lane failed (R168, R169, R184). -/
def resyncFail (s : State) (l : Lane) : State :=
  let v := setLane s.vot l fun b => { b with tries := b.tries + 1 }
  raiseAt { s with vot := { v with sawResync := true } } .vot vRESYNC_FAIL (some l)

/-- One shadow frame of a lane in RESYNC (R169): it matches, or the lane is fenced. -/
def shadowFrame (good : Pub) (s : State) (l : Lane) : State :=
  let b := laneOf s.vot l
  if b.state ≠ .resync then s
  else match b.pub with
    | some p =>
      if sameItems p good && !p.sigf then
        { s with vot := setLane s.vot l fun b => { b with shadow := satAdd 3 1 b.shadow } }
      else laneFence (resyncFail s l) l
    | none => laneFence (resyncFail s l) l

/-- A vote unit outvoted by two identical verdicts (R163): its lane is fenced at once, and the event shown. One whose
publication disagrees as well is an odd lane too, and is counted as one event. -/
def outvote (s : State) (l : Lane) (bits frame : Nat) : State :=
  let s1 := noteOdd s l bits frame
  laneFence (raiseAt { s1 with vot := { s1.vot with sawVoter := true } } .vot vVOTER_DISAGREE (some l)) l

/-- The lanes outside the signing pair that do not agree with it (R164), among those VOTING when the vote began. -/
def oddLanes (v : VotBlk) (counted ls : List Lane) (a b : Lane) : List Lane :=
  ls.filter fun l => l ≠ a && l ≠ b && !(counted.contains l && pubsAgree v a l)

/-- The vote (R163, R164): the state after fencing, and the signing pair, none where there is no majority. An outvoted vote
unit's lane does not sign. -/
def vote (s : State) (env : VoteEnv) (frame : Nat) : State × Option (Lane × Lane) :=
  let ls := votingLanes s.vot
  let counted := countedLanes s
  let bad := env.badVoter.filter ls.contains
  if ls.length < 2 || env.noVerdict || (ls.length == 2 && bad.isSome) then (s, none)
  else match signingPair s.vot (counted.filter fun l => bad ≠ some l) with
    | none => (match bad with
        | some l => outvote s l 32 frame
        | none => s, none)
    | some (a, b) =>
      match (laneOf s.vot a).pub with
      | none => (s, none)
      | some good =>
        let odd := oddLanes s.vot counted ls a b
        let bits := fun (l : Lane) => oddBitsOf good (counted.contains l) (bad == some l) (laneOf s.vot l).pub
        let one := fun (s : State) (l : Lane) => makeOdd s l (bits l) frame
        let s1 := (odd.filter fun l => bad ≠ some l).foldl one s
        let s2 := match bad with
          | some l =>
            let t := outvote s1 l (if odd.contains l then bits l else 32) frame
            if odd.contains l then raiseAt (lower t .vot vODD_LANE) .vot vODD_LANE (some l) else t
          | none => s1
        let s3 := Lane.all.foldl (shadowFrame good) s2
        let s4 := { s3 with vot := { s3.vot with signA := a.num, signB := b.num, sig := good.sig, hash := good.hash } }
        (if odd.isEmpty then lower s4 .vot vODD_LANE else s4, some (a, b))

end Sys2Proof.Machine
end

