-- ==== Sys2Proof/Machine/Drain.lean ====
section
/-! DEFINITION. COMMIT and the drain (R29, R47, R52, R53, R57 to R64, R71): the work of R53 in its order, and what
other chapters place at the drain (the file 95_what_each_step_holds lists it). -/

namespace Sys2Proof.Machine

open Sys2Proof

/-! ## COMMIT -/

/-- The state that a frame starts from: records lost since the tick before are counted in it, and the LOSS record stands
ahead of every other record of the frame, where EVT_OUT has room for it (R24, R396). -/
def startWork (s : State) : State :=
  let n := s.core.lost + s.evr.lostDue
  let told := n ≠ 0 ∧ queueRoom s.xbr 2 28
  let x := { s.core with lost := if told then 0 else n }
  let r : Rec := { ty := 0x10, sev := 1, body := be 4 n ++ be 1 1 ++ be 1 0 }
  { s with work := some (if told then addRec x r else x), evr := { s.evr with lostDue := 0 } }

/-- The items that INPUT took are consumed (R308). -/
def consumeTaken (s : State) : State :=
  let x := (touchQueue s 0).xbr
  { touchQueue s 0 with xbr := { setQueue x 0 (consume fun i => x.taken.contains i.iseq) with cmdSet := [], taken := [] } }

/-- Praline's counts of the frame (R153). -/
def countPermits (s : State) : State :=
  let x := s.core
  let p := s.prl
  let d := x.denied.getLast?
  let r := x.revoked.getLast?
  { s with prl := { p with
      ppeak := max p.ppeak x.permits.length
      denyCount := satAdd 65535 x.denied.length p.denyCount
      denyReason := (d.map (·.2)).getD p.denyReason
      denyObj := (d.map (·.1.obj)).getD p.denyObj
      revCount := satAdd 65535 x.revoked.length p.revCount
      revReason := (r.map (·.2)).getD p.revReason
      revObj := (r.map (·.1.obj)).getD p.revObj } }

/-- COMMIT of a frame whose vote stood: the proposed state becomes the committed one, records and replies leave,
the items taken are consumed (R29, R160, R286, R308). Replies and records are those of the vector that the vote agreed on.
`released` says that two lanes signed: replies of a frame that is not released are never sent (R285). -/
def commitFrame (s : State) (x : Inter) (v : OutVec) (released : Bool) : State :=
  let s1 := { s with core := { answerAll x with replies := v.replies, recs := v.recs }, work := none }
  let s2 := v.recs.foldl pushRec s1
  let s3 := if released then holdReplies s2 v.replies else s2
  armGuards (countPermits (consumeTaken s3))

/-! ## Praline's instances (R141, R142, R144, R145) -/

def instsIn (p : PrlBlk) : List Inst := Inst.all.filter fun i => (instOf p i).state = .isIn

/-- Time with two instances IN (R145). DESIGN CHOICE (log entry 112): DUOH counts from the moment at which an instance leaves
IN, and its time is brought up to date at every drain. -/
def countDuo (s : State) : State :=
  let p := s.prl
  if (instsIn p).length = 2 then
    { s with prl := { p with duoUs := p.duoUs + (s.now - p.duoFrom.getD s.now), duoFrom := some s.now } }
  else { s with prl := { p with duoFrom := none } }

/-- An outvoted instance is OUT, and ABSENT the second time within 24 h; the time with two IN counts from here (R145). -/
def instOut (s : State) (i : Inst) : State :=
  let s := countDuo s
  let again := match (instOf s.prl i).outAt with
    | some t => decide (s.now < t + 86400000000)
    | none => false
  countDuo { s with prl := setInst s.prl i fun b =>
    { b with state := if again then .absent else .out, equal := 0, outAt := some s.now } }

/-- INST_OUT is live while an instance is OUT or in RESEED (R154). -/
def instSource (s : State) : State :=
  setLive s .prl pINST_OUT (Inst.all.any fun i => (instOf s.prl i).state = .out || (instOf s.prl i).state = .reseed)

/-- Whether an instance's copy of the store differs from the majority's in an entry that is used. -/
def copyDiffers (cs : List Crumb) (b : InstBlk) : Bool :=
  b.off.any fun o => o.2.2 != 0 && cs.any fun c => c.obj == o.1 && c.shr == o.2.1

/-- The two-of-three majority (R144): of three IN one that differs is outvoted, two IN that differ have no majority. -/
def voteInsts (bad : List Inst) (s : State) : State :=
  let ins := instsIn s.prl
  let odd := ins.filter fun i => bad.contains i || copyDiffers s.core.crumbs (instOf s.prl i)
  let majority := 2 ≤ ins.length && (odd.isEmpty || (ins.length == 3 && odd.length == 1))
  let s0 := setLive s .prl pINST_NOMAJ (!majority)
  if majority then odd.foldl instOut s0 else s0

/-- An instance that is OUT is re-seeded: what its copies held otherwise is gone; one with a failing table page stays OUT
(R145, R147). -/
def reseed (p : PrlBlk) (i : Inst) : PrlBlk :=
  setInst p i fun b => if b.state = .out ∧ !b.tableBad then { b with state := .reseed, equal := 0, off := [] } else b

def drainInsts (s : State) : State :=
  instSource (countDuo { s with prl := Inst.all.foldl reseed s.prl })

/-! ## Step 1: compaction and the store check (R105, R121, R142) -/

/-- What has been upset in an instance's own store (R141). -/
def upsetStore (d : DrainEnv) (p : PrlBlk) : PrlBlk :=
  d.corrupt.foldl (fun p u => setInst p u.1 fun b => { b with off := u.2 :: b.off }) p

/-- The bits that an instance's copy of an entry has upset. -/
def copyFlip (b : InstBlk) (c : Crumb) : Nat :=
  (b.off.filter fun o => o.1 == c.obj && o.2.1 == c.shr).foldl (fun m o => m ^^^ o.2.2) 0

/-- An entry that fails its check in the majority of the instances IN is corrupt in the store, and stays at its number from
here on (R142). -/
def checkEntry (p : PrlBlk) (c : Crumb × Nat) : Crumb :=
  let flips := (instsIn p).map fun i => copyFlip (instOf p i) c.1
  let bad := flips.filter fun m => crumbBad { c.1 with flip := c.1.flip ^^^ m }
  if 2 ≤ bad.length then { c.1 with flip := c.1.flip ^^^ bad.headD 0, place := some (c.1.place.getD c.2) } else c.1

/-- The check of every entry, after compaction; what the majority holds is no longer another content of an instance. -/
def checkStore (d : DrainEnv) (s : State) : State :=
  let p := upsetStore d s.prl
  let y := { s.core with crumbs := s.core.crumbs.zipIdx.map (checkEntry p) }
  let stays := fun (o : Nat × Bool × Nat) => !y.crumbs.any fun c => c.obj == o.1 && c.shr == o.2.1 && c.place.isSome
  let gone := fun (b : InstBlk) => { b with off := b.off.filter stays }
  { s with core := y, prl := Inst.all.foldl (fun p i => setInst p i gone) p }

/-- A lane's shadow of the store, as it holds it (R27). -/
def laneShadow (v : VotBlk) (x : Inter) (l : Lane) : List Crumb :=
  let mine := fun (c : Crumb) => (laneOf v l).shadowOff.filter fun o => o.1 == c.obj && o.2.1 == c.shr
  x.shadow.map fun c => { c with flip := (mine c).foldl (fun m o => m ^^^ o.2.2) c.flip }

/-- The store digest against that of every VOTING lane's shadow (R142). -/
def digestsDiffer (s : State) : Bool :=
  (votingLanes s.vot).any fun l =>
    let sh := laneShadow s.vot s.core l
    sh != s.core.crumbs && storeDigest sh != storeDigest s.core.crumbs

def pressureOf (p : Prt) (free : Nat) : Pressure :=
  if free < p.ccrit then .critical else if free < p.cwarn then .low else .normal

/-- Compaction, check of every entry in every instance, digest against the lanes' shadows, and crumb pressure. -/
def compactStore (d : DrainEnv) (s : State) : State :=
  let v := d.shadowOff.foldl (fun v u => setLane v u.1 fun b => { b with shadowOff := u.2 :: b.shadowOff }) s.vot
  let s0 := voteInsts [] (checkStore d { s with core := afterDrain s.core, vot := v })
  let y := s0.core
  let free := freeCrumbs y.crumbs
  let press := (s0.prt.map fun p => pressureOf p free).getD .normal
  let s1 := { s0 with prl := { s0.prl with
    store := y.crumbs, digest := storeDigest y.crumbs, free := free, press := press
    cpeak := max s0.prl.cpeak y.crumbs.length } }
  let s2 := if press = s0.prl.press then s1
    else frameRec s1 0x06 0 (be 2 free ++ be 1 5 ++ be 1 press.code)
  let s3 := setLive (setLive s2 .prl pCRUMB_LOW (press = .low)) .prl pCRUMB_CRIT (press = .critical)
  let s4 := setLive s3 .prl pCRUMB_CORRUPT (y.crumbs.any crumbBad)
  if digestsDiffer s4 then raise s4 .prl pLOCK_MISMATCH else s4

/-- Praline's sources of the frame (R143, R154). -/
def pralineSources (s : State) : State :=
  let x := s.core
  let s1 := if x.lockDiff then raise s .prl pLOCK_MISMATCH else s
  let s2 := setLive s1 .prl pDENY_DISAGREE (!x.denied.isEmpty || !x.revoked.isEmpty)
  let s3 := setLive s2 .prl pGUARD_FAULT (!(pairFaults s).isEmpty || s.prl.sawSeq)
  { s3 with prl := { s3.prl with sawSeq := false }, core := clearFrame s3.core }

/-- Praline's sources that do not belong to a frame (R145, R147, R154): a limit that a COMMIT has raised above DUOH is not
reached. -/
def pralineIdle (s : State) : State :=
  let s1 := setLive s .prl pKEY_ABSENT (!hasKey s 2 0 0 && !hasKey s 2 0 1)
  if s1.prl.duoUs < 3600000000 * fieldOf s1.cfg.prlCtl 0 8 then lower s1 .prl pDUO_LIMIT else s1

/-! ## Step 2: configuration (R31, R314, R315) -/

/-- COMMAND record of a command that the lanes have taken (R393). -/
def takenRec (src : Src) (opc : Nat) (st : Status) : Rec :=
  { ty := 0x05, sev := 0, body := be 1 opc ++ be 1 st.code ++ be 2 src.addr ++ be 2 src.tag ++ be 4 src.seq }

/-- The record leaves at once; a module whose CMD_IN is not taken forms none. -/
def tellTaken (s : State) (src : Src) (opc : Nat) (st : Status) : State :=
  let r := takenRec src opc st
  if lanesTake s then pushRec s { r with body := be 6 s.core.counter ++ r.body } else s

/-- An answer that the lanes form to a command that is not vital, and its record, at once. -/
def answerNow (s : State) (src : Src) (opc : Nat) (st : Status) (body : Bytes) : State :=
  let s1 := if st = .done ∨ st = .accepted then countOk s else s
  laneReply (tellTaken s1 src opc st)
    { entry := src.entry, ver := src.ver, tag := src.tag, seq := src.seq, opc := opc, status := st, body := body } src.addr

/-- The same after the COMMIT of the frame in progress (R291). -/
def laneAnswer (s : State) (src : Src) (opc : Nat) (st : Status) (body : Bytes) : State :=
  match s.work with
  | none => answerNow s src opc st body
  | some x =>
    let s1 := if st = .done ∨ st = .accepted then countOk s else s
    let r : Reply := { entry := src.entry, ver := src.ver, tag := src.tag, seq := src.seq, opc := opc, status := st, body := body }
    { s1 with work := some (addRec { x with replies := x.replies ++ [r] } (takenRec src opc st)) }

/-- A pending COMMIT is evaluated once and answered to everyone who asked (R314, R315). -/
def drainCommit (s : State) : State :=
  if !s.xbr.cpend then s
  else
    let s1 := evalCommit s
    let x := s1.xbr
    let st : Status := if x.cresult = 1 then .refused else .done
    let one := fun (s : State) (a : Src) => laneAnswer s a 0x84 st (be 1 x.cresult ++ be 4 x.cadr)
    x.casks.foldl one { s1 with xbr := { x with casks := [] } }

/-! ## Step 3: the wafer (R344, R345, R359) -/

/-- Header of the lane firmware in use, of Lane 1's bank where none runs. -/
def lfwHeader (s : State) : Bytes := (runningHeader? s).getD (activeBank s.upd.lfw1).header

/-- Epoch of the lane firmware in use. -/
def lfwEpoch (s : State) : Nat := hdrEpoch (lfwHeader s)

/-- The transactions as a wafer carries them (R345): the wait limit as the time that is left of it in ms. -/
def carryWaits (now : Nat) (x : Inter) : Inter :=
  { x with txns := x.txns.map fun t => { t with admittedAt := 0, waitMs := (t.admittedAt + t.waitMs * 1000 - now + 999) / 1000 } }

/-- And as they are taken over: what is left counts from the takeover. -/
def resumeWaits (now : Nat) (x : Inter) : Inter := { x with txns := x.txns.map fun t => { t with admittedAt := now } }

/-- The wafer that the drain forms; `safety` is the length of its Safety section. -/
def waferOf (s : State) (handover : Bool) (safety : Nat) : Wafer :=
  let st := stationOf s
  { pair := ownPair s.cfg, unit := ownKind s.cfg, frame := s.core.counter, epoch := lfwEpoch s, handover := handover
    mzpid := st.mzpid, prtid := (s.prt.map (·.prtid)).getD 0
    len := 64 + 112 + 1024 + 4 * st.layout.length + st.nobj + 2048 + 8192 + safety + 4
    layout := st.imgId, cfg := s.cfg, partners := s.cmd.partners, inter := carryWaits s.frm.tick s.core, guards := s.prl.guards
    hash := s.vot.hash, sig := s.vot.sig }

/-- The conditions of a planned switchover (R359). -/
def switchReady (s : State) : Bool :=
  s.dpx.role = .active && s.dpx.peerReady && !isLive s .dpx dPEER_DOWN && !isLive s .dpx dWITNESS_DOWN

/-- X9 carries what the module sends: its optic is in, and the bridge and the service processor pass it on (R312,
R320, R430). -/
def x9On (s : State) : Bool := opticOn s 9 && !s.xbr.fenced && svcRuns s

/-- Wafer formation: into the outbound window that BUF does not name, and out on X9 (R312, R345, R346). A planned
switchover whose conditions hold makes it the last one; the grant is given up at its frame's release
point (R359). The Safety section's length is not stated beyond its limit of 2 KiB, so it is a free value
(log entry 7). -/
def formWafer (d : DrainEnv) (s : State) : State :=
  if s.dpx.role ≠ .active ∨ s.sys.stopped then s
  else
    let hand := s.dpx.granted && (s.dpx.wanted || s.dpx.commanded) && switchReady s
    let (w, s1) := takeFree s
    let v := waferOf s1 hand (w.toNat % 2049)
    let x := s1.xbr
    { s1 with
      xbr := { x with woutBuf := x.woutValid && !x.woutBuf, woutValid := true, woutLen := v.len }
      dpx := { s1.dpx with wframe := v.frame, wsize := v.len, formed := some v, formedAt := d.drainEnd, handDue := hand
                           wanted := s1.dpx.wanted && !hand, commanded := s1.dpx.commanded && !hand }
      sent := if x9On s1 then s1.sent ++ [.wafer v.frame ((v.len + 1455) / 1456)] else s1.sent }

/-! ## The scrub (R171, R172) -/

/-- SCRUB_NOMAJ, and the rule for no majority (R172, R176). -/
def scrubNoMajority (s : State) : State := noMajority (raise s .vot vSCRUB_NOMAJ)

/-- A latent mark; the lane's test is due at once (R172, R187). -/
def markLatent (s : State) (l : Lane) (word : Nat) : State :=
  let was := (laneOf s.vot l).latent
  let v := { setLane s.vot l (fun b => { b with latent := true }) with scrAdr := word % 65536 }
  raiseAt { s with vot := v, bst := setTest s.bst l fun t =>
      if was then t else { t with due := some s.now, isDue := true, sched := t.due } }
    .vot vLATENT (some l)

/-- A mark that goes without a test leaves the test to its schedule (R172, R187). -/
def unmark (s : State) (l : Lane) : State :=
  let was := (laneOf s.vot l).latent
  { s with vot := setLane s.vot l fun b => { b with latent := false }
           bst := setTest s.bst l fun t => if was then { t with due := t.sched, isDue := false } else t }

/-- What changes without a write in the lanes' memories by the drain (R161, R171). -/
def upsetLanes (d : DrainEnv) (v : VotBlk) : VotBlk :=
  d.upsets.foldl (fun v u => setLane v u.1 fun b => { b with upsets := u.2 :: b.upsets }) v

/-- A lane's words as the drain reads them from its memory. -/
def laneMemory (s : State) (l : Lane) : List (BitVec 64) := laneWords s.frm.area (laneOf s.vot l).upsets

/-- The first word of slice k in which two lanes differ (R171, R172). -/
def firstDiff (k : Nat) (ws us : List (BitVec 64)) : Nat :=
  (((ws.zip us).zipIdx.find? fun p => p.2 % 256 == k && p.1.1 != p.1.2).map (·.2)).getD 0

/-- The scrub compare of the drain: slice k of every VOTING lane, k the frame counter modulo 256 (R171, R172). -/
def scrub (d : DrainEnv) (s0 : State) : State :=
  let s := { s0 with vot := upsetLanes d s0.vot }
  let k := s.core.counter % 256
  let s1 := if k = 255 then { s with vot := { s.vot with passes := satAdd 65535 1 s.vot.passes } } else s
  let dig := fun (l : Lane) => sliceDigest (laneMemory s1 l) k
  let mark := fun (l good : Lane) => markLatent s1 l (firstDiff k (laneMemory s1 good) (laneMemory s1 l))
  match votingLanes s1.vot with
  | [a, b, c] =>
    if dig a = dig b then (if dig a = dig c then s1 else mark c a)
    else if dig a = dig c then mark b a
    else if dig b = dig c then mark a b
    else scrubNoMajority s1
  | [a, b] => if dig a = dig b then s1 else scrubNoMajority s1
  | _ => s1

/-- A marked lane that is one of only two VOTING lanes is repaired from the other (R172). -/
def repair (d : DrainEnv) (s : State) : State :=
  match votingLanes s.vot with
  | [a, b] =>
    let fix := fun (s : State) (l : Lane) =>
      if d.loadFail.contains l then scrubNoMajority s
      else
        let t := unmark s l
        frameRec { t with vot := setLane t.vot l fun b => { b with upsets := [] } } 0x07 0 (be 1 l.num ++ be 1 0 ++ be 1 0 ++ be 1 1)
    let la := (laneOf s.vot a).latent
    let lb := (laneOf s.vot b).latent
    if la && !lb then fix s a else if lb && !la then fix s b else s
  | _ => s

/-! ## Lanes at the drain (R166 to R181, R186, R189) -/

/-- A lane's test starts at the time given, journalled (R192, R201): it is due no longer, and no state of the lane is kept
(R188, R189). -/
def startTest (s : State) (l : Lane) (again : Bool) (at_ : Nat) : State :=
  let begun : LastTest := { result := 3, again := again }
  let b := setTest s.bst l fun t => { t with due := none, isDue := false, late := false }
  let late := [b.t1, b.t2, b.t3].any (·.late)
  setLive { s with
    vot := setLane s.vot l fun b => { b with upsets := [], shadowOff := [] }
    bst := { b with under := some l, startedAt := at_, again := again, journal := b.journal.set (l.num - 1) begun } }
    .bst bPT_LATE late

/-- The retry limit: beyond it a lane stays FENCED, and a repeat test is due at once (R170, R198). -/
def retryLimit (s : State) (l : Lane) : State :=
  let b := laneOf s.vot l
  let recent := b.fences.filter fun t => s.now < t + 86400000000
  let s1 := { s with vot := setLane s.vot l fun b => { b with fences := recent } }
  let s2 := if b.state = .fenced ∧ !b.limited ∧ recent.length > fieldOf s.cfg.votCtl 8 3 then
      raiseAt { s1 with vot := setLane s1.vot l fun b => { b with limited := true } } .vot vRESYNC_LIMIT (some l)
    else s1
  let c := laneOf s2.vot l
  if c.state = .fenced && c.limited && !c.passed && !(testOf s2.bst l).hold && s2.bst.under.isNone then
    startTest s2 l true s2.now
  else s2

/-- Whether a lane waits for resynchronisation (R167, R178, R180, R189, R196, R377). -/
def wantsResync (s : State) (l : Lane) : Bool :=
  let b := laneOf s.vot l
  !b.hwFault && !(testOf s.bst l).hold && !b.booting && s.bst.under != some l && match b.state with
    | .fenced => b.passed || (!b.limited && (b.wantIn || b.why = .fault))
    | .proving => b.passed
    | .halted => b.wantIn
    | _ => false

/-- The other two lanes are VOTING and have signed the frame (R167). -/
def othersSigned (v : VotBlk) (l : Lane) : Bool :=
  let o := Lane.all.filter (· ≠ l)
  o.all (isVoting v) && o.map Lane.num == [v.signA, v.signB]

/-- The due time of a lane is INTV after the drain at which its test ended (R185). -/
def setDue (s : State) (l : Lane) (at_ : Nat) : State :=
  let due := some (at_ + 3600000000 * fieldOf s.cfg.bstCtl 0 5)
  { s with bst := setTest s.bst l fun t => { t with due := due, isDue := false, lastEnd := some at_ } }

/-- The lane from whose committed state the wafer is formed: the lowest-numbered of the signing pair without a latent mark
(R168). -/
def waferLane (v : VotBlk) : Option Lane :=
  Lane.all.find? fun l => (l.num == v.signA || l.num == v.signB) && !(laneOf v l).latent

/-- The load of the wafer fails its hash check: in the loading lane, or because its source has changed (R168). -/
def loadFails (d : DrainEnv) (s : State) (l : Lane) : Bool :=
  d.loadFail.contains l || ((waferLane s.vot).map fun k => !(laneOf s.vot k).upsets.isEmpty).getD false

/-- One lane at the drain: the wafer is loaded and checked (R168). -/
def resyncLane (d : DrainEnv) (s : State) (l : Lane) : State :=
  if !wantsResync s l || !othersSigned s.vot l then s
  else if loadFails d s l then
    let s1 := laneTo (resyncFail s l) l .fenced
    let s2 := { s1 with vot := setLane s1.vot l fun b =>
      { b with fences := s1.now :: b.fences, passed := b.passed && !b.limited } }
    if (laneOf s2.vot l).tries ≥ 2 then laneFails s2 l else s2
  else
    let s1 := laneTo (unmark s l) l .resync
    let s2 := { s1 with vot := setLane s1.vot l fun b =>
      { b with limited := false, passed := false, wantIn := false, why := .none, upsets := [], shadowOff := [] } }
    if (testOf s2.bst l).due.isNone && s2.bst.anchor.isSome then setDue s2 l d.drainEnd else s2

/-- The conditions under which a lane leaves VOTING deliberately (R178). -/
def canLeave (s : State) (l : Lane) : Bool :=
  (votingLanes s.vot).length == 3 && s.vot.duoSince.isNone
    && Lane.all.all fun k => k = l || !(laneOf s.vot k).latent

/-- The same for a request: no other lane is about to leave at the same drain (R178). -/
def mayLeave (s : State) (l : Lane) : Bool :=
  canLeave s l && Lane.all.all fun k => !(laneOf s.vot k).wantOut && !(laneOf s.vot k).wantHalt && !(laneOf s.vot k).wantBoot

def leave (s : State) (l : Lane) (st : LaneSt) (why : OutWhy) : State :=
  let s1 := laneTo s l st
  duoStart { s1 with vot := setLane s1.vot l fun b =>
    { b with why := why, passed := false, wantIn := false, debugged := b.debugged || why = .debug } }

/-- A debug halt, a lane-out, and a boot of other firmware that have been asked for (R178, R180, R377). -/
def leaveAsked (s : State) (l : Lane) : State :=
  let b := laneOf s.vot l
  if b.wantHalt && canLeave s l then leave s l .halted .debug
  else if b.wantOut && canLeave s l then leave s l .fenced .command
  else if b.wantBoot && isVoting s.vot l && canLeave s l then
    let s1 := leave s l .fenced .update
    if s.upd.fbk then laneBack s1 l
    else
      let s2 := laneSwitch s1 l .unconfirmed .previous
      if s2.upd.unconf.isNone then openWindow s2 .lfw false else s2
  else if b.wantBoot && s.upd.fbk && b.state = .fenced then laneBack s l
  else s

/-- What R178 did not allow is not kept for a later drain, but for the lanes of a fallback. -/
def dropAsked (fbk : Bool) (v : VotBlk) : VotBlk :=
  allLanes v fun b => { b with wantOut := false, wantHalt := false, wantBoot := b.wantBoot && fbk }

/-- Whether a lane's test is due. -/
def dueNow (s : State) (t : LaneTest) : Bool :=
  t.isDue || match t.due with
    | some k => decide (k ≤ s.now)
    | none => false

/-- The lane whose test starts at this drain (R186, R187). -/
def testNext (s : State) : Option Lane :=
  let ready := Lane.all.filter fun l =>
    isVoting s.vot l && dueNow s (testOf s.bst l) && !(testOf s.bst l).hold && canLeave s l
  match ready.find? fun l => (laneOf s.vot l).latent with
  | some l => some l
  | none => (sortBy (fun l => ((testOf s.bst l).due).getD 0) ready).head?

/-- A due test starts: the lane leaves here, and the test runs from the tick of the next frame on (R186, R189). -/
def startDueTest (d : DrainEnv) (s : State) : State :=
  match s.bst.under, testNext s with
  | none, some l => startTest (leave s l .proving .test) l false (max (s.frm.tick + s.frm.T) d.drainEnd)
  | _, _ => s

/-- In STANDBY and WITNESS the conditions of R178 do not apply: with no lane under test, the repeat test of a lane that the
retry limit holds starts, or the test that fell due first (R186, R198, R199). -/
def idleTest (s : State) : State :=
  if !(idleRole s && s.sys.ready && s.bst.under.isNone) then s
  else
    let ready := Lane.all.filter fun l => !(testOf s.bst l).hold && !(laneOf s.vot l).booting
    let due := ready.filter fun l => dueNow s (testOf s.bst l)
    let first := (due.find? fun l => (laneOf s.vot l).latent).or (sortBy (fun l => ((testOf s.bst l).due).getD 0) due).head?
    match ready.find? fun l => (laneOf s.vot l).limited, first with
    | some l, _ => startTest s l true s.now
    | none, some l => startTest (laneTo s l .proving) l false s.now
    | none, none => s

/-- The 2oo2 clock at zero: its episode, with extension and limit, is over (R173, R174, R184). -/
def duoReset (s : State) : State :=
  lower { s with vot := { s.vot with duoSince := none, extUsed := false, extH := 0, limitAt := none, stopAtDrain := false } }
    .vot vDUO_LIMIT

/-- The 2oo2 clock returns to zero at the drain of a frame voted by three lanes (R173). -/
def duoZero (s : State) : State := if (votingLanes s.vot).length = 3 then duoReset s else s

/-- The lanes' part of the drain. -/
def drainLanes (d : DrainEnv) (s : State) : State :=
  let s1 := Lane.all.foldl (resyncLane d) (Lane.all.foldl retryLimit (repair d (duoZero s)))
  let s2 := Lane.all.foldl leaveAsked s1
  let s3 := startDueTest d { s2 with vot := dropAsked s2.upd.fbk s2.vot }
  lfwFallbackEnd s3

/-! ## What takes effect at any drain -/

/-- The clear registers (R70, R153, R183, R203, R239, R267, R295, R319, R362, R406, R425). -/
def applyClears (s : State) : State :=
  let f := s.frm
  let v := s.vot
  let p := s.prl
  let b := s.bst
  let w := s.pwr
  let c := s.cmd
  let e := s.evr
  let d := s.dpx
  let io := s.lio.vital
  let x := s.xbr
  let noErr := fun (f : FrnBlk) => if f.clr then { f with errA := 0, errB := 0, clr := false } else f
  let noLoss := fun (q : Queue) => { q with loss := 0 }
  let inter := fun (y : Inter) => if p.clr then { y with claimShort := 0, claimConf := 0 } else y
  { s with
    frm := if f.clrPeak then { f with peak := List.replicate 7 0, overBudget := List.replicate 7 false, clrPeak := false } else f
    vot := if v.clr then { allLanes v (fun b => { b with odd := 0 }) with passes := 0, clr := false } else v
    prl := if p.clr then { p with cpeak := 0, ppeak := 0, denyCount := 0, revCount := 0, clr := false } else p
    core := inter s.core
    frn0 := noErr s.frn0
    frn1 := noErr s.frn1
    lio := if io.clr then { s.lio with vital := { io with lost := 0, crcErr := 0, seqErr := [0, 0, 0, 0], x2min := none, clr := false } }
      else s.lio
    xbr := if x.clr then
        { x with retry := 0, clr := false, q0 := noLoss x.q0, q1 := noLoss x.q1, q2 := noLoss x.q2, q3 := noLoss x.q3
                 q4 := noLoss x.q4, q5 := noLoss x.q5 }
      else x
    dpx := if d.clr then { d with planned := 0, taken := 0, clr := false } else d
    evr := if e.clr then { e with lossSvc := 0, lossLane := 0, clr := false } else e
    bst := if b.clr then { b with pass1 := 0, pass2 := 0, pass3 := 0, fail := 0, clr := false } else b
    pwr := if w.clr then { w with x1min := w.x1, hucnt := 0, clr := false } else w
    cmd := if c.clr then
        { c with rxok := 0, crcErr := 0, otherErr := 0, safety := 0, stale := 0, dup := 0, full := 0, clr := false }
      else c }

/-- A change of lifecycle or debug level asked for takes effect (R408, R411). The level of a halt that R178 did not allow at
the drain is not entered (R180). -/
def applyWants (s : State) : State :=
  let halted := fun (k : Lane) => (laneOf s.vot k).state == LaneSt.halted
  let s1 := match s.sec.wantDbg with
    | some (d, l) =>
      if d = Dbg.d2 ∧ !(l.map halted).getD false then
        { s with sec := { s.sec with wantDbg := none } }
      else setDebug s d l
    | none => s
  match s1.sec.wantLife with
  | some t => changeLife s1 t
  | none => s1

/-- Within a second of an instant. -/
def within1s (now : Nat) (t : Option Nat) : Bool :=
  match t with
  | some k => decide (now < k + 1000000)
  | none => false

/-- A vital control or witness partner without a session key in either slot (R296). -/
def lacksKey (s : State) : Bool :=
  s.cmd.partners.zipIdx.any fun p =>
    p.1.addr != 0xFFFF && (p.1.classes % 2 == 1 || p.1.classes / 32 % 2 == 1) && !hasKey s 5 p.2 0 && !hasKey s 5 p.2 1

/-- Sources defined over the last frame or the last second, and what they were judged by (R184, R204, R296, R320,
R340). -/
def drainSources (s : State) : State :=
  let c := s.cmd
  let x := s.xbr
  let on := fun (b : Blk) (n : Nat) (v : Bool) (s : State) => setLive s b n v
  let s1 := (on .cmd cSAFETY_FAIL c.sawSafety ∘ on .cmd cSTALE_PKT c.sawStale ∘ on .cmd cQUEUE_FULL c.sawFull
    ∘ on .cmd cUNKNOWN_SRC (within1s s.now c.unknownAt) ∘ on .cmd cPARTNER_SILENT (!c.silent.isEmpty)
    ∘ on .cmd cNO_KEY (lacksKey s)) s
  let s2 := (on .xbr xQPTR x.sawQptr ∘ on .xbr xQLOSS x.sawQloss ∘ on .xbr xSEM_TIMEOUT x.sawSem
    ∘ on .xbr xACCESS_ERR x.sawErr) s1
  let s3 := (on .vot vRESYNC_FAIL (s.vot.sawResync && isLive s .vot vRESYNC_FAIL)
    ∘ on .vot vVOTER_DISAGREE (s.vot.sawVoter && isLive s .vot vVOTER_DISAGREE)
    ∘ on .vot vSIG_FAIL (isLive s .vot vSIG_FAIL && Lane.all.any fun l => (((laneOf s.vot l).pub).map (·.sigf)).getD false)
    ∘ on .vot vLATENT (isLive s .vot vLATENT && Lane.all.any fun l => (laneOf s.vot l).latent)
    ∘ on .vot vDEBUG_HALT (Lane.all.any fun l => (laneOf s.vot l).state = .halted)
    ∘ on .vot vRESYNC_LIMIT (Lane.all.any fun l => (laneOf s.vot l).limited)) s2
  let s4 := (on .bst bPT_RETRY s.bst.sawRetry ∘ on .dpx dWAFER_BAD s.dpx.sawWaferBad ∘ on .dpx dTAKEOVER s.dpx.sawTakeover
    ∘ on .sys sSVC_WDOG (within1s s.now s.sys.wdogAt) ∘ on .evr rEVT_LOSS (within1s s.now s.evr.lossAt)
    ∘ on .sec eAUTH_FAIL (within1s s.now s.sec.authAt) ∘ on .upd uTRANSFER_ERR (within1s s.now s.upd.errAt)) s3
  { s4 with
    cmd := { s4.cmd with sawSafety := false, sawStale := false, sawFull := false, badSafety := []
                         vitalOut := s4.cmd.vitalOut.filter fun p => (partnerAt s4 p.1).classes / 32 % 2 == 1 }
    xbr := { s4.xbr with sawQptr := false, sawQloss := false, sawSem := false, sawErr := false }
    vot := { s4.vot with sawResync := false, sawVoter := false }
    bst := { s4.bst with sawRetry := false }
    dpx := { s4.dpx with sawWaferBad := false, sawTakeover := false }
    evr := { s4.evr with sawLoss := false } }

/-- The drain's work that does not belong to a frame; a module whose lanes run no frames does it at the frame tick
of its timebase (R315, R445). -/
def serviceDrain (s : State) : State :=
  confirmDue (watchHealth (drainSources (takeDiags (pralineIdle (applyKeys (applyWants (applyClears s)))))))

/-! ## Step 4 and the end of the drain (R57 to R64, R71) -/

/-- The frame counter (R63, R64). -/
def advanceCounter (s : State) : State :=
  let n := s.core.counter + 1
  { s with core := { s.core with counter := n }
           frm := { s.frm with record := if n / 65536 = s.core.counter / 65536 then s.frm.record else n } }

/-- Phase budgets in percent of T (R45). -/
def budgets : List Nat := [5, 45, 15, 5, 5, 10, 15]

/-- Phase durations: peaks, and BUDGET (R47, R71). -/
def notePhases (T : Nat) (d : DrainEnv) (s : State) : State :=
  let longs := (budgets.zip d.durations).map fun p => decide (p.2 * 100 > p.1 * T)
  let f := s.frm
  let peak := f.peak.zipIdx.map fun p => max p.1 ((d.durations[p.2]?).getD 0)
  let ob := f.overBudget.zipIdx.map fun p => p.1 || (longs[p.2]?).getD false
  setLive { s with frm := { f with peak := peak, overBudget := ob } } .frm fBUDGET (longs.any id)

/-- Lateness, the run of extended frames, and OVERRUN, live while the run is beyond tolerance (R57 to R59, R71): a frame found
so keeps its run beyond until a frame in time ends it. -/
def judgeFrame (d : DrainEnv) (s : State) : State :=
  let f := s.frm
  let late := max (d.drainEnd - (f.tick + f.T)) (f.emitEnd - (f.tick + f.T * 75 / 100))
  let run := if late = 0 then 0 else f.run + 1
  let beyond := late != 0 && (f.beyond || late > f.ext || run > f.cnt)
  setLive { s with frm := { f with late := late, run := run, beyond := beyond } } .frm fOVERRUN beyond

/-- The frame has been carried out, and its last phases run until the times known; the next tick falls at the nominal one or
at the drain's completion (R57). -/
def endFrame (d : DrainEnv) (s : State) : State :=
  let f := s.frm
  let next := if s.sys.stopped || s.dpx.handDue then none else some (max (f.tick + f.T) d.drainEnd)
  { s with frm := { f with drainEnd := d.drainEnd, ended := true, nextTick := next
                           phase := if s.sys.stopped then .idle else .emit } }

/-- The first due times: lane k at k thirds of INTV after the first frame (R185). -/
def anchorTests (c : Cfg) (at_ : Nat) (b : BstBlk) : BstBlk :=
  let one := fun (b : BstBlk) (l : Lane) => setTest b l fun t =>
    { t with due := some (at_ + l.num * (3600000000 * fieldOf c.bstCtl 0 5) / 3) }
  if b.anchor.isSome then b else Lane.all.foldl one { b with anchor := some at_ }

/-- Limit of the 2oo2 clock with any extension (R173, R174). -/
def duoLimitUs (s : State) : Nat := 3600000000 * (fieldOf s.cfg.votCtl 0 8 + s.vot.extH)

/-- A limit that an extension or a COMMIT has put beyond the clock is not reached: DUO_LIMIT is live no longer, and the hour
that follows it counts anew when the clock reaches the limit (R174, R175, R184). -/
def limitMoved (s : State) : State :=
  match s.vot.duoSince with
  | some t =>
    if s.vot.limitAt.isSome && decide (s.now < t + duoLimitUs s) then
      lower { s with vot := { s.vot with limitAt := none, stopAtDrain := false } } .vot vDUO_LIMIT
    else s
  | none => s

/-- A stop asked for at the drain (R175). -/
def stopDue (s : State) : State := if s.vot.stopAtDrain then safeStop s else s

/-- The drain of a frame whose state has been committed, up to the judging of its lateness (R53 and
95_what_each_step_holds). -/
def drainWork (d : DrainEnv) (s : State) : State :=
  let s0 := { s with frm := { s.frm with phase := .drain }
                     bst := if s.frm.ended then s.bst else anchorTests s.cfg d.drainEnd s.bst }
  let s1 := drainCommit (compactStore d (pralineSources s0))
  let s2 := exchangeDrain (formWafer d (scrub d (stopDue (limitMoved s1))))
  let s3 := serviceDrain (drainInsts (drainLanes d s2))
  sendReports (writeImage (notePhases s.frm.T d s3))

/-- The end of a drain: what the frame was late is judged under its own counter, which then advances (R53, R59, R63). -/
def finishDrain (d : DrainEnv) (s : State) : State := endFrame d (advanceCounter (judgeFrame d s))

/-- The whole drain (R53). -/
def drain (d : DrainEnv) (s : State) : State := finishDrain d (drainWork d s)

end Sys2Proof.Machine
end

