-- ==== Sys2Proof/Machine/Start.lean ====
section
/-! DEFINITION. Start-up (R147, R182, R202, R385, R387, R388, R420 to R422): the steps of R420 in their order, from
power-on, from a restart and from a cold start of the interlocking state. -/

namespace Sys2Proof.Machine

open Sys2Proof

/-! ## What a restart keeps -/

/-- The update engine's part in non-volatile memory (R365, R371, R388). -/
def keepUpd (u : UpdBlk) : UpdBlk :=
  { lfw1 := u.lfw1, lfw2 := u.lfw2, lfw3 := u.lfw3, prt := u.prt, mzp := u.mzp, svc := u.svc, ocf := u.ocf
    xfer := u.xfer.map fun t => { t with notes := [] }
    xst := if u.xfer.isSome then 1 else 0
    copyA := u.copyA, copyB := u.copyB, retained := u.retained, atRestart := u.atRestart, lastXid := u.lastXid, fbkTo := u.fbkTo }

/-- The recorder's part: batches whose commit word and CRC are valid, and the ring (R395, R397 to R399). -/
def keepEvr (e : EvrBlk) : EvrBlk :=
  { mram := e.mram.filter batchOk, ring := e.ring, journal := e.journal, mark := e.mark, rtc := e.rtc, rtcAt := e.rtcAt
    powerOnAt := e.powerOnAt }

/-- The security block's part (R408, R414 to R418). -/
def keepSec (c : SecBlk) : SecBlk :=
  { life := c.life, tamper := c.tamper, sealBroken := c.sealBroken, kek := c.kek, kekGen := c.kekGen
    elementOk := c.elementOk, blobs := c.blobs, counters := c.counters, imageKeys := c.imageKeys, initialKey := c.initialKey }

/-- The guardians after a restart: no processor reaches them, so that only a power-on closes them, and a BLOCKED one stays
until its cycles are over, or for good (R225). The cycles count from 0 again. -/
def keepPort (cause : Nat) (f : FrnBlk) : FrnBlk :=
  if cause = 1 then {} else { guardA := (numberCycle 0 f).guardA, guardB := (numberCycle 0 f).guardB }

/-- The module as a restart leaves it before step 1: what is volatile is at its reset value (R371, R388, R397,
R408, R414). -/
def afterReset (s : State) (cause : Nat) : State :=
  { now := s.now, free := s.free, pending := s.pending, sent := s.sent
    upd := keepUpd s.upd, evr := keepEvr s.evr, sec := keepSec s.sec
    pwr := { x1 := s.pwr.x1, x1min := s.pwr.x1, cell := if cause = 1 then 0 else s.pwr.cell
             pcc := s.pwr.pcc, pccMram := s.pwr.pccMram }
    sys := { serial := s.sys.serial, variant := s.sys.variant, issue := s.sys.issue, optics := s.sys.optics
             temp := if cause = 1 then 0 else s.sys.temp, s1down := s.sys.s1down, cause := cause }
    frm := { record := s.frm.record }
    frn0 := keepPort cause s.frn0, frn1 := keepPort cause s.frn1
    bst := { t1 := { last := (s.bst.journal[0]?).getD {} }, t2 := { last := (s.bst.journal[1]?).getD {} }
             t3 := { last := (s.bst.journal[2]?).getD {} }, journal := s.bst.journal }
    dpx := { beat := s.dpx.beat }
    lio := { field := s.lio.field } }

/-! ## Banks at start-up (R368, R384, R387, R388) -/

/-- The stored digest and header checks: a bank that holds an image and fails is BAD. -/
def checkBank (b : Bank) : Bank :=
  if b.intact || b.state = .empty || b.state = .receiving then b else { b with state := .bad }

def checkPair (p : BankPair) : BankPair := { p with a := checkBank p.a, b := checkBank p.b }

/-- An UNCONFIRMED image gives way to its predecessor, where there is one: the new bank is VERIFIED again (R384,
R388). -/
def startPair (p : BankPair) : BankPair :=
  if (activeBank p).state = .unconfirmed ∧ (otherBank p).state = .previous then switchPair .confirmed .verified p
  else if (activeBank p).state = .bad ∧ (otherBank p).state = .previous then
    { setBank p (!p.onB) (fun b => { b with state := .confirmed }) with onB := !p.onB }
  else p

def fellBack (p : BankPair) : Bool :=
  (activeBank p).state = .unconfirmed && (otherBank p).state = .previous

/-- A fallback that waited for the restart (R384, R388). -/
def fallBackNow (u : UpdBlk) (p : Part × Bool) : UpdBlk :=
  let back := fun (q : BankPair) =>
    if (otherBank q).state = .previous then switchPair .confirmed (if p.2 then .rejected else .previous) q else q
  (pairNums p.1).foldl (fun u n => setUpdPair u n back) u

/-- A bank from which a part can run. -/
def usable (p : BankPair) : Bool :=
  (activeBank p).state = .confirmed || (activeBank p).state = .unconfirmed

/-- The settings that the service firmware takes: the first copy that is intact and in a format it reads (R385). -/
def pickSettings (u : UpdBlk) : Option Settings :=
  let h := (activeBank u.svc).header
  let fits := fun (c : Settings) => c.intact && hdrSetMin h ≤ c.fmt && c.fmt ≤ hdrSetFmt h
  (u.copyA.toList ++ u.copyB.toList ++ u.retained.toList).find? fits

/-- Recovery mode (R387). -/
def needsRecovery (u : UpdBlk) : Bool :=
  let lfw := [u.lfw1, u.lfw2, u.lfw3].filter fun p => !usable p
  !usable u.svc || 2 ≤ lfw.length || !usable u.mzp || !usable u.prt

/-- Step 3: banks, fallback of what was UNCONFIRMED, settings, recovery mode. -/
def startBanks (s : State) : State :=
  let u := mapPairs s.upd checkPair
  let u0 := { u.fbkTo.foldl fallBackNow u with fbkTo := [] }
  let fell := anyPair u0 fellBack || !u.fbkTo.isEmpty
  let u1 := mapPairs u0 startPair
  let s1 := noteBanks { s with upd := u1 }
  let s2 := if fell then raise s1 .upd uFALLBACK else s1
  let set_ := pickSettings u1
  let s3 := match set_ with
    | some c => { s2 with upd := { s2.upd with setfmt := c.fmt } }
    | none => raise { s2 with sys := { s2.sys with settingsLost := true } } .sys sSETTINGS_LOST
  { s3 with upd := { s3.upd with recov := needsRecovery u1 } }

/-! ## Activations that wait for a restart of kind 2 (R375, R378) -/

def activateWaiting (s : State) : State :=
  let parts := s.upd.atRestart
  let s1 := parts.foldl (fun s p => switchPart s p .unconfirmed .previous) { s with upd := { s.upd with atRestart := [] } }
  match parts with
  | [] => s1
  | p :: _ => openWindow s1 (if parts.contains .mzp then .mzp else p) (parts.contains .prt)

/-! ## Steps 4 to 9 -/

/-- Step 4: each lane boots its firmware (R377). -/
def bootLane (fail : List Lane) (s : State) (l : Lane) : State :=
  let p := updPair s.upd (lanePair l)
  if fail.contains l || !usable p then
    raiseAt { s with vot := setLane s.vot l fun b => { b with hwFault := true, why := .fault } } .vot vLANE_FAULT (some l)
  else { s with vot := setLane s.vot l fun b => { b with booted := bankImgId (activeBank p) } }

/-- Step 5: the marzipan image; the cluster ports take their nodes and couplers from it. -/
def loadStation (s : State) (st : Station) : State :=
  let nodes := fun (c : Cluster) => (st.nodes.filter (·.cluster = c)).map fun d => ({ node := d.node } : NodeBlk)
  let couplers := fun (c : Cluster) => (st.couplers.filter (·.cluster = c)).map fun d =>
    ({ num := d.num, chan := d.chan } : CouplerBlk)
  { s with mzp := some st
           frn0 := { s.frn0 with nodes := nodes .c0, couplers := couplers .c0 }
           frn1 := { s.frn1 with nodes := nodes .c1, couplers := couplers .c1 } }

def loadMzp (env : StartEnv) (s : State) : State :=
  match bankStation? (activeBank s.upd.mzp) with
  | some st =>
    if env.mzpLoadFail then
      let p := setBank s.upd.mzp s.upd.mzp.onB fun b => { b with state := .bad }
      noteBanks { s with upd := { s.upd with recov := true, mzp := p } }
    else loadStation s st
  | none => { s with upd := { s.upd with recov := true } }

/-- Step 6: checks 1 to 4 of R147, `pralineFail` the first that fails; table identifiers against the image (R132). A table
that fails its load is not in use, and Praline stays fenced. DESIGN CHOICE (log entry 113): a failed step 1 to 4 shows in
`PRL_STAT` and raises no source, since none of the thirteen is named for it. -/
def checkPraline (env : StartEnv) (s : State) : State :=
  let p := bankPrt? (activeBank s.upd.prt)
  let fits := match p, s.mzp with
    | some p, some st => p.mzpid == st.mzpid && p.prtid == st.prtid && p.variant == s.sys.variant && st.variant == s.sys.variant
    | _, _ => false
  let passed := if !fits then 0 else if 1 ≤ env.pralineFail ∧ env.pralineFail ≤ 4 then env.pralineFail - 1 else 4
  { s with prt := if 1 ≤ passed then p else none
           prl := { s.prl with table := 1 ≤ passed, checks := passed, fenced := true } }

/-- Step 7: keys from the blobs; Praline is unfenced once its five checks have passed (R147). -/
def unwrapKeys (s : State) : State :=
  let ks := (s.sec.blobs.filter (usableBlob s.sec)).map fun b =>
    ({ ktype := b.ktype, index := b.index, slot := b.slot, key := b.key } : PlainKey)
  let s1 := { s with sec := { s.sec with plain := ks } }
  let held := hasKey s1 2 0 0 || hasKey s1 2 0 1
  if !held then raise s1 .prl pKEY_ABSENT
  else if s1.prl.checks = 4 then { s1 with prl := { s1.prl with checks := 5, fenced := false } }
  else s1

/-- Step 8: the settings are staged and a COMMIT is evaluated (R421). -/
def startCommit (s : State) : State :=
  match pickSettings s.upd with
  | none => s
  | some c =>
    let staged := (StReg.all.filter fun r => cfgGet c.cfg r ≠ cfgGet s.cfg r).map fun r => (r, cfgGet c.cfg r)
    let parts := (c.partners.zipIdx.filter fun p => tableEntry s p.2 != p.1).map fun p => (p.2, p.1)
    evalCommit { s with staged := staged, stagedPartners := parts }

/-- Keyless: STOPPED, and nothing is driven (R421). -/
def goKeyless (s : State) : State :=
  { s with sec := { s.sec with keyless := true }, sys := { s.sys with stopped := true, step := 0 } }

/-- A lane without its key in the selected slot (R421). -/
def laneKeys (s : State) : State :=
  Lane.all.foldl (fun s l =>
    if hasKey s 1 l.num (laneKsel s.cfg) then s
    else raiseAt { s with vot := setLane s.vot l fun b => { b with hwFault := true, why := .fault } } .vot vLANE_FAULT (some l)) s

/-! ### The injection test (R182) -/

/-- A publication of the test frame with one bit changed in one item: 0 output vector, 1 state hash, 2 code signature. The
changed bit moves from case to case over the first, a middle and the last word of the vector. The test frame in ROM is the
model's own (DESIGN CHOICE, log entry 143). -/
def testPub (item : Option Nat) (at_ bit_ : Nat) : Pub :=
  let flip := fun (k : Nat) => if item == some 0 && at_ % 3 == k then 2 ^ (bit_ % 8) else 0
  let word := fun (k : Nat) => if item == some k then BitVec.ofNat 64 (2 ^ (bit_ % 64)) else 0
  { pubAt := 0, ov := { objs := [(0, flip 0), (1, flip 1), (2, flip 2)] }, hash := word 1, sig := word 2, sigf := false }

/-- The lanes whose publication a pattern changes. -/
def patternLanes (pattern : Nat) : List Lane :=
  match pattern with
  | 0 => [.l1]
  | 1 => [.l2]
  | 2 => [.l3]
  | 3 => [.l1, .l2]
  | 4 => [.l1, .l3]
  | _ => [.l2, .l3]

/-- What a lane publishes in an injection frame: cases 0 to 17 are 6 × item + pattern, cases 18 to 20 withhold a lane's. -/
def injected (case_ : Nat) (l : Lane) : Option Pub :=
  if 18 ≤ case_ then (if l.num + 17 = case_ then none else some (testPub none 0 0))
  else if (patternLanes (case_ % 6)).contains l then some (testPub (some (case_ / 6)) case_ (case_ + l.num))
  else some (testPub none 0 0)

/-- The verdict on the pairs 1–2, 1–3 and 2–3 (R163). -/
def injVerdict (case_ : Nat) : List Bool :=
  let agree := fun (a b : Lane) => match injected case_ a, injected case_ b with
    | some p, some q => sameItems p q
    | _, _ => false
  [agree .l1 .l2, agree .l1 .l3, agree .l2 .l3]

/-- What every vote unit must find: the lane odd and the other two agreeing, or no majority. -/
def injExpected (case_ : Nat) : List Bool :=
  match (if 18 ≤ case_ then case_ - 18 else case_ % 6) with
  | 0 => [false, false, true]
  | 1 => [false, true, false]
  | 2 => [true, false, false]
  | _ => [false, false, false]

/-- A case passes if all three vote units give the expected verdict. -/
def injPasses (env : StartEnv) (case_ : Nat) : Bool :=
  Lane.all.all fun l => !env.injBad.contains (case_, l) && injVerdict case_ == injExpected case_

/-- Step 9: the 21 injection frames, with the result of each case (R182, R183). -/
def inject (env : StartEnv) (s : State) : State :=
  let pass := bitsOf ((List.range 18).map (injPasses env))
  let late := bitsOf ((List.range 3).map fun k => injPasses env (18 + k))
  let ok := (List.range 21).all (injPasses env)
  let s1 := { s with vot := { s.vot with inj := if ok then 2 else 3, injPass := pass, injLate := late } }
  if ok then s1 else raise s1 .vot vINJ_FAIL

/-! ## Step 10: the role (R341, R342, R422) -/

/-- The frame counter of a cold start (R64). -/
def coldCounter (record : Nat) : Nat := (record + 0x10000) / 0x10000 * 0x10000

/-- A cold start of the interlocking state (R422): initial values, no crumb, permit, window or boundary tag, guards
armed with count 0, and the counter. DESIGN CHOICE (log entry 109): the peer's record is the number with which it answered
the start-up, and never less than the WFRAME of its heartbeats. -/
def coldStart (s : State) : State :=
  match s.mzp with
  | none => s
  | some st =>
    let n := coldCounter (max s.frm.record (max s.dpx.peerRecord s.dpx.peerFrame))
    let guards := s.prl.guards.map fun g => { g with armed := false, tripped := false, count := 0 }
    let x := coldInter st n
    armGuards { s with core := x, work := none, frm := { s.frm with record := n }
                       prl := { s.prl with guards := guards, store := [], free := 1024, press := .normal } }

/-- Every lane without a fault of its own is VOTING from the first frame on, from a state just loaded (R175, R182); one that
the retry limit holds stays out until a test of it has passed (R170). -/
def lanesVote (s : State) : State :=
  Lane.all.foldl (fun s l =>
    let b := laneOf s.vot l
    if b.hwFault || b.limited || (testOf s.bst l).hold || s.bst.under == some l then s
    else
      let s1 := laneTo s l .voting
      { s1 with vot := setLane s1.vot l fun b =>
        { b with why := .none, latent := false, debugged := false, passed := false, upsets := [], shadowOff := [] } }) s

/-- A guardian at the start of its port: with a valid table it leaves CLOSED; BLOCKED and LISTEN stand (R225). DESIGN CHOICE
(log entry 118): it opens at once, since the slot 0 frames that it would listen for are those of the port it guards, which
sends them from cycle 0 (R230). -/
def openGuard (g : GuardianBlk) : GuardianBlk := if g.state = .closed then { g with state := .run, good := 0, lost := 0 } else g

/-- A port of an enabled cluster starts, its guardians with it (R225, R230); one whose cluster is fenced stays at SYNC ONLY
until restart. -/
def startPort (s : State) (c : Cluster) (st : PortSt) : State :=
  if (chanOn s c .a || chanOn s c .b) && !(frnOf s c).fenced then
    setFrn s c fun f => { f with state := st, guardA := openGuard f.guardA, guardB := openGuard f.guardB }
  else s

/-- The tests' schedule where the lanes run no frames, anchored at the entry into the role (R199). -/
def anchorAtRole (s : State) : State := { s with bst := anchorTests s.cfg s.now s.bst }

/-- The role is entered (R422). -/
def enterRole (s : State) : State :=
  let s0 := { s with sys := { s.sys with step := 10, ready := true }
                     dpx := { s.dpx with beat := coldCounter s.dpx.beat, beatAt := s.now }
                     cmd := { s.cmd with heard := (List.range 32).map fun n => (n, s.now) } }
  match dpxMode s.cfg with
  | 0 =>
    let s1 := lanesVote (coldStart { s0 with dpx := { s0.dpx with role := .alone } })
    startPort (startPort { s1 with frm := { s1.frm with nextTick := some s1.now } } .c0 .cold) .c1 .cold
  | 1 =>
    let s1 := { s0 with dpx := { s0.dpx with role := .standby, asking := some 2, startedAt := some s0.now } }
    startPort (startPort (anchorAtRole s1) .c0 .follow) .c1 .follow
  | _ => anchorAtRole { s0 with dpx := { s0.dpx with role := .witness, adopting := true, startedAt := some s0.now } }

/-! ## The recorder at start-up (R393, R395, R397, R401, R403) -/

/-- Numbering and calendar time; no source is PTP yet (R402). -/
def loadNumbers (s : State) : State :=
  let e := s.evr
  let base := e.rtc.map fun r => r - 1000 * (e.rtcAt : Int)
  let s1 := { s with evr := { e with next := e.journal, mark := false, clean := e.mark, base := base, lastFlush := s.now
                                     markAt := s.now, tsrc := if base.isSome then .held else .none } }
  raise s1 .evr rTIME_HOLD

/-- The START record, once the role is known (R393). -/
def startRecord (cause : Nat) (s : State) : State :=
  let role := if s.upd.recov then 3 else match dpxMode s.cfg with
    | 0 => Role.code .alone
    | 1 => Role.code .standby
    | _ => Role.code .witness
  svcRec s 0x12 0 (be 2 s.pwr.pcc ++ be 1 (if s.upd.recov then 6 else cause) ++ be 1 (bit s.evr.clean)
    ++ be 1 role ++ be 1 0)

/-! ## The whole sequence -/

/-- Steps 5 to 10 (R420, R422). A module stopped by a source at SAFE-STOP does not reach its role. -/
def startLanes (env : StartEnv) (cause : Nat) (s : State) : State :=
  let s5 := loadMzp env { s with sys := { s.sys with step := 5 } }
  let s7 := unwrapKeys (checkPraline env s5)
  let s8 := startCommit { s7 with sys := { s7.sys with step := 8 } }
  let s9 := startRecord cause s8
  if s9.upd.recov then
    { s9 with dpx := { s9.dpx with role := .alone }, sys := { s9.sys with stopped := true, step := 5 } }
  else if s9.xbr.cresult = 1 ∨ keyedLanes s9 (laneKsel s9.cfg) < 2 ∨ s9.sec.tamper then goKeyless (laneKeys s9)
  else
    let s10 := if s9.sys.stopped then laneKeys s9 else inject env (laneKeys { s9 with sys := { s9.sys with step := 9 } })
    let s11 := { s10 with now := s10.now + env.duration }
    if s11.sys.stopped then s11 else enterRole s11

/-- The confirm window of what starts UNCONFIRMED, which has no predecessor to start from (R387). -/
def resumeWindow (s : State) : State :=
  match ([Part.lfw, .mzp, .svc].find? fun p =>
      (pairNums p).any fun n => (activeBank (updPair s.upd n)).state = .unconfirmed) with
  | some p =>
    if s.upd.unconf.isNone then openWindow s p ((activeBank s.upd.prt).state = .unconfirmed) else s
  | none => s

/-- The field side as a start finds it (R248, R253): a located fault goes where its shunt test passes, and a converter out of
its limits shows again. -/
def fieldAtStart (env : StartEnv) (s : State) : State :=
  let f := s.lio.field
  let ins := f.ins.zipIdx.map fun p =>
    { p.1 with located := p.1.located && env.shuntBad.contains p.2, shuntFault := env.shuntBad.contains p.2 }
  let s1 := { s with lio := { s.lio with
    vital := { s.lio.vital with converterBad := f.inReset }
    field := if fieldRuns f then { f with ins := ins } else f } }
  if f.inReset then raise s1 .lio lCONVERTER else s1

/-- Steps 1 to 4: rails, the element and the tamper seal, the self-test, banks and settings, boot (R202, R415,
R420). -/
def startService (env : StartEnv) (s : State) : State :=
  let s0 := fieldAtStart env { s with dpx := { s.dpx with peerRecord := env.peerRecord.getD 0 } }
  let s1 := if env.railOk then s0 else raise s0 .pwr wRAIL
  let s2 := if env.elementOk then s1 else raise { s1 with sec := { s1.sec with elementOk := false } } .sec eKEY_STORE
  let c := if s2.sec.sealBroken then { s2.sec with tamper := true, kek := false } else s2.sec
  let s3 := if c.kek then { s2 with sec := c } else { s2 with sec := { c with kek := true, kekGen := c.kekGen + 1 } }
  let s4 := if c.tamper then raise s3 .sec eTAMPER else s3
  let s5 := startBanks { s4 with sys := { s4.sys with step := 3 } }
  let s6 := if env.postOk then { s5 with bst := { s5.bst with post := 2 } }
    else raise { s5 with bst := { s5.bst with post := 3 } } .bst bPOST_FAIL
  resumeWindow (Lane.all.foldl (bootLane env.bootFail) { s6 with sys := { s6.sys with step := 4 } })

/-- A start-up from step 1 (R420). An activation that waited for a restart of kind 2 is dropped (R388). -/
def startUp (env : StartEnv) (cause : Nat) (s : State) : State :=
  let s0 := afterReset s cause
  startLanes env cause (startService env (loadNumbers { s0 with upd := { s0.upd with atRestart := [] } }))

/-- A lane that is not booted again keeps its firmware and its own fault. -/
def keepLane (v : VotBlk) (s : State) (l : Lane) : State :=
  let was := laneOf v l
  let s1 := { s with vot := setLane s.vot l fun b =>
    { b with booted := was.booted, hwFault := was.hwFault, why := if was.hwFault then .fault else .none } }
  if was.hwFault then raiseAt s1 .vot vLANE_FAULT (some l) else s1

/-- RESTART of kind 2: steps 5 to 10 without the self-test, on what the lanes have booted (R422); the activations
that wait for it take effect (R375, R378). -/
def coldRestart (env : StartEnv) (s : State) : State :=
  let s0 := loadNumbers (afterReset s 3)
  let boot := s.upd.atRestart.contains .lfw
  let s1 := { s0 with bst := { s0.bst with post := s.bst.post } }
  let s2 := activateWaiting (startBanks s1)
  let s3 := if s2.sec.tamper then raise s2 .sec eTAMPER else s2
  let s4 := if boot then Lane.all.foldl (bootLane env.bootFail) s3
    else Lane.all.foldl (keepLane s.vot) s3
  startLanes env 3 (resumeWindow (fieldAtStart env { s4 with dpx := { s4.dpx with peerRecord := env.peerRecord.getD 0 } }))

end Sys2Proof.Machine
end

