-- ==== Sys2Proof/Machine/Power.lean ====
section
/-! DEFINITION. Power states, tamper, S1, and what the housekeeping measures (R34, R340, R412 to R415, R420, R423,
R430). -/

namespace Sys2Proof.Machine

open Sys2Proof

/-! ## Power states (R412, R413) -/

/-- Whether the module starts up now: from BACKUP or OFF, after a completed shut-down, or for the first time. -/
def mayPowerOn (s : State) : Bool :=
  s.pwr.power = .backup || s.pwr.power = .off || s.pwr.huStopped || s.evr.next == 0

/-- POWER_ON (R412, R414, R420): the power-cycle counter advances, from MRAM's copy after a loss of the domain; the
UX-4820's field side starts with the module. -/
def execPowerOn (env : StartEnv) (now : Nat) (s : State) : Out :=
  let s := later s now
  if !mayPowerOn s then .next s
  else
    let p := s.pwr
    let n := (if p.power = .off then p.pccMram else p.pcc) + 1
    let s1 := { s with pwr := { p with power := .run, pcc := n % 2 ^ 32, pccMram := n % 2 ^ 32 }
                       evr := { s.evr with powerOnAt := s.now }
                       lio := if s.sys.variant = 0x10 then s.lio else { s.lio with field := startField {} } }
    .next (startUp env 1 s1)

/-- X1 as measured, with its minimum (R425). -/
def measureX1 (s : State) (x1 : Nat) : State :=
  { s with pwr := { s.pwr with x1 := x1, x1min := min s.pwr.x1min x1 } }

/-- HOLDUP (R412, R413 step 1): X1 below 16 V for 0.5 ms. The record's WFRAME is that of the last wafer, in ALONE
that of the last frame that has drained (R393). -/
def execHoldup (x1 now : Nat) (s : State) : Out :=
  let s := measureX1 (later s now) x1
  if s.pwr.power ≠ .run ∨ x1 ≥ 160 then .next s
  else
    let p := s.pwr
    let s1 := raise { s with pwr := { p with power := .holdup, huAt := some s.now, huStopped := false, zeroised := false
                                             hucnt := satAdd 255 1 p.hucnt } } .pwr wHOLDUP
    let wf := if s.dpx.role = .alone then s.image.frame else s.dpx.wframe
    let s2 := startFlush (svcRec s1 0x11 1 (be 6 wf ++ be 2 p.pcc))
    .next (writeRtc (setDebug s2 .d0 none))

/-- X1_RETURN (R413 step 2): X1 at least 17.5 V for 1 ms before the stop of step 3. -/
def execX1Return (x1 now : Nat) (s : State) : Out :=
  let s := measureX1 (later s now) x1
  if s.pwr.power = .holdup ∧ !s.pwr.huStopped ∧ 175 ≤ x1 then
    .next (lower { s with pwr := { s.pwr with power := .run, huAt := none } } .pwr wHOLDUP)
  else .next s

/-- Whether so many µs have passed since HOLDUP was entered. -/
def heldUp (s : State) (us : Nat) : Bool :=
  s.pwr.power = .holdup && match s.pwr.huAt with
    | some t => decide (t + us ≤ s.now)
    | none => false

/-- HOLDUP_SAFE_STOP (R413 step 3): still in HOLDUP after 20 ms. The shut-down completes from here on. -/
def execHoldupSafeStop (now : Nat) (s : State) : Out :=
  let s := later s now
  if heldUp s 20000 && !s.pwr.huStopped then
    let s1 := safeStop { s with pwr := { s.pwr with huStopped := true } }
    .next (markShutdown (startFlush s1))
  else .next s

/-- HOLDUP_ZEROISE (R413 step 4): after 25 ms. -/
def execHoldupZeroise (now : Nat) (s : State) : Out :=
  let s := later s now
  if heldUp s 25000 && s.pwr.huStopped && !s.pwr.zeroised then
    .next (zeroisePlain { s with pwr := { s.pwr with zeroised := true } })
  else .next s

/-- BACKUP (R412, R413 step 5): the rails fall; what is volatile is gone, and the UX-4820's field side with it. -/
def execBackup (now : Nat) (s : State) : Out :=
  let s := later s now
  if heldUp s 30000 && s.pwr.huStopped then
    let s1 := afterReset s s.sys.cause
    let io := if s.sys.variant = 0x10 then s1.lio
      else { s1.lio with field := { stopField s1.lio.field with powered := false } }
    .next { s1 with pwr := { s1.pwr with power := .backup, x1 := 0, x1min := 0 }, lio := io }
  else .next s

/-- BACKUP_DOMAIN_LOSS (R414): the domain has no supply left; RTC and KEK are lost. -/
def execBackupDomainLoss (now : Nat) (s : State) : Out :=
  let s := later s now
  if s.pwr.power ≠ .backup then .next s
  else .next { s with pwr := { s.pwr with power := .off }, evr := { s.evr with rtc := none }, sec := { s.sec with kek := false } }

/-! ## Tamper (R414, R415) -/

/-- TAMPER: a broken seal in any powered state sets the latch and erases the KEK; in RUN and HOLDUP every plain key
is zeroised and the module stops. In OFF nothing watches the seal. -/
def execTamper (now : Nat) (s : State) : Out :=
  let s := later s now
  let c := { s.sec with sealBroken := true }
  if s.pwr.power = .off then .next { s with sec := c }
  else
    let s1 := { s with sec := { c with tamper := true, kek := false } }
    if s.pwr.power = .backup then .next s1 else .next (raise (zeroisePlain s1) .sec eTAMPER)

/-! ## S1 (R423) -/

/-- A clean end of the recorder before a restart: the buffer is flushed and the mark written (R397). -/
def closeRecorder (s : State) : State :=
  let s1 := commitBatch (startFlush (commitBatch s))
  { s1 with evr := { s1.evr with mark := s1.evr.buffer.isEmpty, closed := true } }

/-- S1_RELEASE: a press of 50 ms to 8 s, ended by a release, restarts the module; S1 is ignored while masked and in
HOLDUP. `pressed` is in ms. -/
def execS1Release (pressed : Nat) (env : StartEnv) (now : Nat) (s : State) : Out :=
  let s := later s now
  let s := { s with sys := { s.sys with s1down := false } }
  if s.sys.s1mask ∨ s.pwr.power ≠ .run ∨ pressed < 50 ∨ 8000 < pressed then .next s
  else .next (startUp env 4 (closeRecorder s))

/-- S1_STUCK: S1 pressed for longer than 8 s is masked. -/
def execS1Stuck (now : Nat) (s : State) : Out :=
  let s := later s now
  let s1 := { s with sys := { s.sys with s1down := true } }
  if s.sys.s1mask ∨ s.pwr.power ≠ .run then .next s1
  else .next (raise { s1 with sys := { s1.sys with s1mask := true } } .sys sS1_STUCK)

/-- S1_REARM: seen released for 1 s without interruption. -/
def execS1Rearm (now : Nat) (s : State) : Out :=
  let s := later s now
  .next (lower { s with sys := { s.sys with s1mask := false, s1down := false } } .sys sS1_STUCK)

/-! ## Housekeeping -/

/-- CELL_MEASUREMENT (R414): below 2.6 V. -/
def execCellMeasurement (mv : Nat) (s : State) : Out :=
  .next (setLive { s with pwr := { s.pwr with cell := mv } } .pwr wCELL_LOW (mv < 2600))

/-- X1_RANGE (R340, R433): X1 outside 18 to 150 V. -/
def execX1Range (x1 now : Nat) (s : State) : Out :=
  .next (setLive (measureX1 (later s now) x1) .pwr wX1_RANGE (x1 < 180 || 1500 < x1))

/-- TEMP (R340): outside -45 to +75 °C. -/
def execTemp (tenths : Int) (s : State) : Out :=
  .next (setLive { s with sys := { s.sys with temp := tenths } } .sys sTEMP (tenths < -450 || 750 < tenths))

/-- RAIL (R340). -/
def execRail (now : Nat) (s : State) : Out := .next (raise (later s now) .pwr wRAIL)

/-- TIMEBASE_LOSS (R34, R61): the lanes find on their own oscillators that no tick has come. -/
def execTimebaseLoss (now : Nat) (s : State) : Out := .next (raise (later s now) .frm fTIMEBASE)

/-- OPTIC_INSERTED (R430): a qualified optic is enabled, any other carries nothing. -/
def execOpticInserted (conn : Nat) (qualified : Bool) (s : State) : Out :=
  if conn < 5 ∨ 9 < conn then .next s
  else
    let rest := s.sys.optics.filter (· != conn)
    .next { s with sys := { s.sys with optics := if qualified then rest ++ [conn] else rest } }

/-- SVC_WDOG (R340, R393): the service processor restarts; the session is closed, and records that were not in a
committed batch are gone, their numbers not assigned (R397). -/
def execSvcWdog (now : Nat) (s : State) : Out :=
  let s := later s now
  let e := { s.evr with buffer := [], flushing := none, again := false, next := s.evr.journal }
  let s1 := setDebug { s with evr := e, sec := { s.sec with session := none, chal := none } } .d0 none
  .next (pulse { s1 with sys := { s1.sys with wdogAt := some s.now, cause := 5 }, upd := { s1.upd with svcAt := some s.now } }
    .sys sSVC_WDOG)

end Sys2Proof.Machine
end

