-- ==== Sys2Proof/Machine/Update.lean ====
section
/-! DEFINITION. The update commands (R292, R364 to R391): delivery, verification, activation by each route,
confirmation, fallback, and the distribution of object controller packages. -/

namespace Sys2Proof.Machine

open Sys2Proof

/-! ## Answers -/

/-- TRANSFER_ERR follows a refusal with a status of 0x30 to 0x3A (R340). -/
def noteRefusal (s : State) (st : Status) : State :=
  if 0x30 ≤ st.code ∧ st.code ≤ 0x3A then raise { s with upd := { s.upd with errAt := some s.now } } .upd uTRANSFER_ERR
  else s

/-- An answer of the update engine through the service processor. -/
def updReply (s : State) (src : Src) (opc : Nat) (st : Status) (body : Bytes) : State :=
  reply (noteRefusal s st) src opc st body

/-- An answer of the lanes before a fallback begins, which may restart the module. -/
def updAnswerNow (s : State) (src : Src) (opc : Nat) (st : Status) (body : Bytes) : State :=
  answerNow (noteRefusal s st) src opc st body

/-- An answer after the COMMIT of the frame that takes the command (R375). -/
def updLaneReply (s : State) (src : Src) (opc : Nat) (st : Status) (body : Bytes) : State :=
  laneAnswer (noteRefusal s st) src opc st body

/-- Every inactive bank of a part changes. -/
def setInactive (s : State) (part : Part) (f : Bank → Bank) : State :=
  setPairs s part fun p => setBank p (!p.onB) f

/-! ## Transfer (R370 to R372) -/

/-- A transfer opens: the inactive bank is RECEIVING, its former content is lost (R370). -/
def openTransfer (s : State) (part : Part) (onB : Bool) (header : Bytes) : Nat × State :=
  let (w, s1) := takeFree s
  let id := if w.toNat = 0 then 1 else w.toNat
  let s2 := bankRewritten (setInactive s1 part fun _ => { state := .receiving }) part
  let t : UpdTransfer := { id := id, part := part, onB := onB, header := header }
  (id, bankRecord { s2 with upd := { s2.upd with xfer := some t, xst := 1, result := none, lastXid := id } }
    part .receiving (hdrImgId header))

/-- UPD_BEGIN (R370). -/
def rowUpdBegin (src : Src) (part bank : Nat) (header : Bytes) (s : State) : State :=
  gated s src 0xC0 fun s =>
    match Part.ofCode? part with
    | none => updReply s src 0xC0 .badLen []
    | some p =>
      if 1 < bank ∨ header.length ≠ 64 then updReply s src 0xC0 .badLen []
      else if s.upd.verifying then updReply s src 0xC0 .busy []
      else match headerCheck s p (bank == 1) header with
        | some st => updReply s src 0xC0 st []
        | none => match s.upd.xfer with
          | some t =>
            if t.header = header ∧ t.part = p ∧ t.onB = (bank == 1) then
              updReply s src 0xC0 .done (be 4 t.id ++ be 4 t.have_.length)
            else updReply s src 0xC0 .busy []
          | none =>
            let (id, s1) := openTransfer s p (bank == 1) header
            updReply s1 src 0xC0 .done (be 4 id ++ be 4 0)

def execUpdBegin (src : Src) (part bank : Nat) (header : Bytes) (s : State) : Out :=
  .next (rowUpdBegin src part bank header s)

/-- A block is written into the bank, and its note posted into the image transfer window (R371). -/
def writeBlock (s : State) (t : UpdTransfer) (src : Src) (num crc : Nat) (data : Bytes) : State :=
  let t1 := { t with blocks := (num, data) :: t.blocks.filter (·.1 != num), notes := t.notes ++ [(num, src)] }
  let note := le 4 t.id ++ le 4 num ++ le 4 crc ++ le 4 0
  { s with upd := { s.upd with xfer := some t1 }, xbr := { s.xbr with xfer := note ++ s.xbr.xfer.drop 16 } }

/-- UPD_BLOCK (R371): answered once its bit is set. -/
def rowUpdBlock (src : Src) (xid num : Nat) (data : Bytes) (crc : Nat) (s : State) : State :=
  gated s src 0xC1 fun s =>
    if s.upd.verifying then updReply s src 0xC1 .busy []
    else match s.upd.xfer with
      | none => updReply s src 0xC1 .noTransfer []
      | some t =>
        if t.id ≠ xid then updReply s src 0xC1 .noTransfer []
        else if nblkOf t.header ≤ num ∨ data.length ≠ blockLen t.header num then updReply s src 0xC1 .badLen []
        else if (crc32c data).toNat ≠ crc then updReply s src 0xC1 .blockCrc []
        else if t.have_.contains num then updReply s src 0xC1 .done []
        else writeBlock s t src num crc data

def execUpdBlock (src : Src) (xid num : Nat) (data : Bytes) (crc : Nat) (s : State) : Out :=
  .next (rowUpdBlock src xid num data crc s)

/-- BLOCK_NOTE (R371): the block as read back through the image fetch path; its bit is set where the CRC passes, and
otherwise the block stays missing. -/
def execBlockNote (xid num : Nat) (readback : Bytes) (s : State) : Out :=
  match s.upd.xfer with
  | none => .next s
  | some t =>
    match t.blocks.find? (·.1 == num) with
    | none => .next s
    | some b =>
      let asked := (t.notes.filter (·.1 == num)).map (·.2)
      let t1 := { t with notes := t.notes.filter (·.1 != num) }
      if t.id ≠ xid ∨ asked.isEmpty then .next s
      else if crc32c readback = crc32c b.2 then
        let u := { s.upd with xfer := some { t1 with have_ := num :: t.have_ }, result := none, xst := 1 }
        .next (asked.foldl (fun s a => updReply s a 0xC1 .done []) { s with upd := u })
      else
        let u := { s.upd with xfer := some { t1 with blocks := t.blocks.filter (·.1 != num) } }
        .next (asked.foldl (fun s a => updReply s a 0xC1 .blockCrc []) { s with upd := u })

/-- UPD_BITMAP (R372). -/
def rowUpdBitmap (src : Src) (xid first : Nat) (s : State) : State :=
  gated s src 0xC2 fun s =>
    match s.upd.xfer with
    | none => updReply s src 0xC2 .noTransfer []
    | some t =>
      let n := nblkOf t.header
      if t.id ≠ xid then updReply s src 0xC2 .noTransfer []
      else if n ≤ first then updReply s src 0xC2 .badLen []
      else
        let k := min (n - first) 65376
        updReply s src 0xC2 .done (be 4 n ++ be 4 first ++ be 2 k ++ bitmapBytes t.have_ first k)

def execUpdBitmap (src : Src) (xid first : Nat) (s : State) : Out := .next (rowUpdBitmap src xid first s)

/-- The open transfer is closed and its bank EMPTY (R372, R374). -/
def dropTransfer (s : State) (t : UpdTransfer) : State :=
  let s1 := setInactive { s with upd := { s.upd with xfer := none, verifying := false } } t.part fun _ => {}
  bankRecord s1 t.part .empty (hdrImgId t.header)

/-- UPD_ABORT (R372, R389). -/
def rowUpdAbort (src : Src) (xid : Nat) (s : State) : State :=
  gated s src 0xC6 fun s =>
    match s.upd.xfer with
    | none => updReply s src 0xC6 .noTransfer []
    | some t =>
      if t.id ≠ xid then updReply s src 0xC6 .noTransfer []
      else
        let s1 := dropTransfer s t
        updReply { s1 with upd := { s1.upd with xst := 0, result := none } } src 0xC6 .done []

def execUpdAbort (src : Src) (xid : Nat) (s : State) : Out := .next (rowUpdAbort src xid s)

/-! ## Verification (R374) -/

/-- UPD_VERIFY: the verification starts, runs, or has ended with a result. -/
def rowUpdVerify (src : Src) (xid : Nat) (s : State) : State :=
  gated s src 0xC3 fun s =>
    let u := s.upd
    let known := (u.xfer.map (·.id)).getD u.lastXid == xid && (u.xfer.isSome || u.result.isSome)
    if u.verifying then updReply s src 0xC3 .busy []
    else if !known then updReply s src 0xC3 .noTransfer []
    else match u.result with
      | some r => updReply s src 0xC3 r []
      | none => updReply { s with upd := { u with verifying := true, xst := 2 } } src 0xC3 .accepted []

def execUpdVerify (src : Src) (xid : Nat) (s : State) : Out := .next (rowUpdVerify src xid s)

/-- A verified bank stands; an OCF package is confirmed at verification (R374, R382). -/
def bankVerified (s : State) (t : UpdTransfer) (b : Bank) : State :=
  let s1 := setInactive { s with upd := { s.upd with xfer := none } } t.part fun _ => b
  let s2 := bankRecord s1 t.part .verified (hdrImgId t.header)
  if t.part = .ocf then switchPart s2 .ocf .confirmed .previous else s2

/-- VERIFY_END: the four steps of R374; `told` is what the target says beside its bytes (log entry 6). -/
def execVerifyEnd (told : ImageSays) (now : Nat) (s : State) : Out :=
  let s := later s now
  let ended := fun (s : State) (r : Status) (x : Nat) =>
    { s with upd := { s.upd with verifying := false, result := some r, xst := x } }
  match s.upd.verifying, s.upd.xfer with
  | true, some t =>
    if t.have_.length < nblkOf t.header then .next (ended s .incomplete 4)
    else match verifiedBank s t told with
      | none => .next (ended (dropTransfer s t) .signature 4)
      | some b => .next (ended (bankVerified s t b) .done 3)
  | _, _ => .next s

/-! ## Activation (R375 to R379) -/

/-- Header of a part's inactive bank; for a lane-by-lane activation, of the named lane's. -/
def inactiveBank (s : State) (part : Part) (unit : Nat) : Bank :=
  match part, Lane.ofNat? unit with
  | .lfw, some l => otherBank (updPair s.upd (lanePair l))
  | _, _ => otherBank (firstPair s part)

/-- The routes of R375. -/
inductive UpdRoute
  | laneByLane (l : Lane)
  | exchange
  | restart (parts : List Part)
  | idle (parts : List Part)
  | service
  | recovery
  | none
  deriving DecidableEq, Repr

/-- The MZP and PRT that a new MZPID brings together (R375). -/
def pairedPrt (s : State) (h : Bytes) : Bool :=
  let b := otherBank s.upd.prt
  b.state = .verified && hdrMzpid b.header == hdrMzpid h && hdrPrtid b.header == hdrPrtid h

/-- Whether an MZP header names the running MZPID. -/
def sameMzpid (s : State) (h : Bytes) : Bool := hdrMzpid h == hdrMzpid (activeBank s.upd.mzp).header

/-- The route that a part, its unit and the role give; `none` where R375 refuses it with ORDER. -/
def routeOf (s : State) (part : Part) (unit : Nat) : UpdRoute :=
  let h := (inactiveBank s part unit).header
  if s.upd.recov then .recovery
  else match part with
    | .svc => .service
    | .prt => .none
    | .ocf => .none
    | .lfw =>
      if idleRole s then .idle [.lfw]
      else if hdrEpoch h = lfwEpoch s then
        match Lane.ofNat? unit with
        | some l => .laneByLane l
        | none => .none
      else if s.dpx.role = .alone then .restart [.lfw] else .none
    | .mzp =>
      if sameMzpid s h then (if idleRole s then .idle [.mzp] else .exchange)
      else if !pairedPrt s h then .none
      else if idleRole s then .idle [.mzp, .prt]
      else if s.dpx.role = .alone then .restart [.mzp, .prt] else .none

/-- UNIT and DELAY within the values that the route gives them (R375). -/
def fieldsFit (s : State) (part : Part) (unit delay : Nat) : Bool :=
  let laneWise := part = .lfw && !idleRole s && !s.upd.recov && hdrEpoch (inactiveBank s .lfw unit).header == lfwEpoch s
  let online := part = .mzp && !idleRole s && !s.upd.recov && sameMzpid s (inactiveBank s .mzp 0).header
  (if laneWise then 1 ≤ unit && unit ≤ 3 else unit == 0) && (if online then 50 ≤ delay && delay ≤ 65535 else delay == 0)

/-- The conditions of an on-line exchange (R379). -/
def exchangeReady (s : State) : Bool :=
  match s.mzp, bankStation? (otherBank s.upd.mzp) with
  | some old, some new =>
    (s.dpx.role = .active || s.dpx.role = .alone) && !s.sys.stopped && new.mzpid == old.mzpid && new.prtid == old.prtid
      && (forwardTable? new old.imgId).isSome && wcetFits s.cfg new.wcetUs
      && (periodUs s.cfg != 10000 || 5 ≤ ovrExt s.cfg)
  | _, _ => false

/-- Another part is in progress (R281, R376). -/
def partInProgress (s : State) : Bool :=
  s.upd.exchange.isSome || !s.upd.atRestart.isEmpty || s.upd.svcAt.isSome || s.upd.fbk

/-- The parts that a route changes. -/
def routeParts (part : Part) : UpdRoute → List Part
  | .restart ps => ps
  | .idle ps => ps
  | _ => [part]

/-- A marzipan image fits the EVALUATE budget at the frame period in effect, by whatever route it comes in (R49). -/
def wcetHolds (s : State) (part : Part) (b : Bank) : Bool :=
  part ≠ .mzp || match bankStation? b with
    | some st => wcetFits s.cfg st.wcetUs
    | none => true

/-- An activation's refusal, none where it is taken (R375 to R379, R385). DESIGN CHOICE (log entry 115): an image whose worst
case does not fit is refused BAD_STATE on every route, as the exchange refuses it (R49, R379). -/
def activateRefusal (s : State) (part : Part) (unit delay : Nat) : Option Status :=
  let r := routeOf s part unit
  let b := inactiveBank s part unit
  let ps := routeParts part r
  let all := ps.all fun q => (pairNums q).all fun n =>
    (match r with | .laneByLane _ => true | _ => false) || (otherBank (updPair s.upd n)).state = .verified
  let heads := ps.map fun q => (otherBank (firstPair s q)).header
  if !fieldsFit s part unit delay then some .badLen
  else if (s.upd.unconf.map fun u => u.part != part).getD false then some .confirmPending
  else if partInProgress s || r = .none || b.state ≠ .verified || !all then some .order
  else if (part = .lfw ∨ part = .svc) ∧ !s.sys.settingsLost ∧ s.upd.setfmt < hdrSetMin b.header then
    some .settingsIncompatible
  else if !(epochOk s ps b.header && heads.all (fun h => epochOk s ps h && heads.all (epochsFit h))) then some .epoch
  else match r with
    | .laneByLane l => if mayLeave s l && isVoting s.vot l then none else some .badState
    | .exchange => if exchangeReady s then none else some .badState
    | _ => if wcetHolds s part b then none else some .badState

/-- The service processor restarts (R375): its session is gone, CMD_IN receives nothing until it has ended. -/
def restartService (s : State) : State :=
  let s1 := setDebug { s with sec := { s.sec with session := none, chal := none } } .d0 none
  { s1 with upd := { s1.upd with svcAt := some s1.now } }

/-- The images of the active banks are in use in an idle module (R375). -/
def loadIdle (s : State) : State :=
  let s1 := match bankStation? (activeBank s.upd.mzp) with
    | some st => if (s.mzp.map (·.imgId)) == some st.imgId then s else loadStation s st
    | none => s
  match bankPrt? (activeBank s.upd.prt) with
  | some p => { s1 with prt := some p }
  | none => s1

/-- Lanes of an idle module boot what stands in their active banks. -/
def bootIdle (s : State) : State := { s with vot := allLanes s.vot fun b => { b with booting := true, why := .update } }

/-- An activation at once on idle lanes; a STANDBY module then holds no wafer (R375, R381). -/
def activateIdle (s : State) (ps : List Part) : State :=
  let s1 := ps.foldl (fun s p => switchPart s p .unconfirmed .previous) { s with dpx := { s.dpx with held := none } }
  if ps.contains .lfw then openWindow (bootIdle s1) .lfw false
  else openWindow (loadIdle s1) .mzp (ps.contains .prt)

/-- UPD_ACTIVATE (R375 to R379, R387). -/
def rowUpdActivate (src : Src) (part unit delay : Nat) (s : State) : State :=
  gated s src 0xC4 fun s =>
    let yes := fun (s : State) (body : Bytes) => updLaneReply s src 0xC4 .accepted body
    match Part.ofCode? part with
    | none => updReply s src 0xC4 .badLen []
    | some p => match activateRefusal s p unit delay with
      | some st =>
        let s1 := if st = .settingsIncompatible then unreadable s p else s
        if st = .badLen then updReply s1 src 0xC4 st [] else updLaneReply s1 src 0xC4 st []
      | none => match routeOf s p unit with
        | .laneByLane l => yes { s with vot := setLane s.vot l fun b => { b with wantBoot := true } } []
        | .exchange =>
          let f := s.core.counter + delay
          yes { s with upd := { s.upd with exchange := some { frame := f } }, vot := dropPreloads s.vot } (be 6 f)
        | .restart ps => yes { s with upd := { s.upd with atRestart := ps } } []
        | .idle ps => activateIdle (yes s []) ps
        | .service => restartService (openWindow (switchPart (yes s []) .svc .unconfirmed .previous) .svc false)
        | .recovery => switchPart (yes s []) p .unconfirmed .previous
        | .none => s

def execUpdActivate (src : Src) (part unit delay now : Nat) (s : State) : Out :=
  .next (rowUpdActivate src part unit delay (later s now))

/-- LANE_BOOT (R377): the lane has booted and waits to be loaded, or falls back; where nothing is left to fall back to
its fault is its own. -/
def execLaneBoot (lane : Lane) (ok : Bool) (now : Nat) (s : State) : Out :=
  let s := later s now
  let b := laneOf s.vot lane
  if !b.booting then .next s
  else if ok then
    let img := bankImgId (activeBank (updPair s.upd (lanePair lane)))
    .next { s with vot := setLane s.vot lane fun b => { b with booting := false, booted := img, wantIn := !idleRole s } }
  else if onNewBank s lane then .next (laneFails s lane)
  else
    let s1 := { s with vot := setLane s.vot lane fun b => { b with booting := false, hwFault := true, why := .fault } }
    .next (raiseAt s1 .vot vLANE_FAULT (some lane))

/-- PRELOAD (R379): the image has been fetched and its digest and signature pass; one that fails its check at a fetch
is BAD (R368). -/
def execPreload (lane : Lane) (ok : Bool) (s : State) : Out :=
  if s.upd.exchange.isNone then .next s
  else if ok then .next { s with vot := setLane s.vot lane fun b => { b with preloaded := true } }
  else
    let s1 := setInactive { s with vot := setLane s.vot lane fun b => { b with preloaded := false } } .mzp fun b => { b with state := .bad }
    .next (noteBanks (bankRecord s1 .mzp .bad (hdrImgId (otherBank s1.upd.mzp).header)))

/-- EXCHANGE_ABANDON (R379): not made 60 min after the exchange frame. -/
def execExchangeAbandon (now : Nat) (s : State) : Out :=
  let s := later s now
  match s.upd.exchange.bind (·.due) with
  | none => .next s
  | some t =>
    if s.now < t + 3600000000 then .next s
    else
      let b := otherBank s.upd.mzp
      let s1 := { s with upd := { s.upd with exchange := none, fbk := false }, vot := dropPreloads s.vot }
      .next (bankRecord s1 .mzp b.state (hdrImgId b.header))

/-! ## Confirmation (R382, R383) -/

/-- HEALTHY (R382, R383): the condition has held for HEALTH; confirmation follows at the next drain. -/
def execHealthy (now : Nat) (s : State) : Out :=
  let s := later s now
  match s.upd.unconf with
  | none => .next s
  | some u =>
    if healthHolds s u && decide (u.healthyFrom + 60000000 * fieldOf s.cfg.updCtl 8 8 ≤ s.now) then
      .next { s with upd := { s.upd with unconf := some { u with healthy := true } } }
    else .next s

/-- Whether a part is the UNCONFIRMED one, a PRT being so with its MZP (R376). -/
def isUnconf (s : State) (part : Part) : Bool :=
  match s.upd.unconf with
  | some u => u.part = part || (u.withPrt && part = .prt)
  | none => false

/-- UPD_CONFIRM (R383). -/
def rowUpdConfirm (src : Src) (part : Nat) (s : State) : State :=
  gated s src 0xC5 fun s =>
    match Part.ofCode? part with
    | none => updReply s src 0xC5 .badLen []
    | some p =>
      if isUnconf s p && (s.upd.unconf.map (·.healthy)).getD false then updLaneReply (confirmPart s) src 0xC5 .done []
      else updLaneReply s src 0xC5 .badState []

def execUpdConfirm (src : Src) (part : Nat) (s : State) : Out := .next (rowUpdConfirm src part s)

/-! ## Fallback (R384) -/

/-- The state in which a fallback leaves the bank it leaves. -/
def leftState (auto : Bool) : BankSt := if auto then .rejected else .previous

/-- A fallback at once in an idle module. -/
def fallBackIdle (s : State) (ps : List Part) (auto : Bool) : State :=
  let s1 := ps.foldl (fun s p => switchPart s p .confirmed (leftState auto)) s
  let s2 := if ps.contains .lfw then bootIdle s1 else loadIdle s1
  tellFallback (closeWindow { s2 with dpx := { s2.dpx with held := none } }) auto

/-- A fallback that waits for a restart (R384). -/
def fallBackAtRestart (s : State) (ps : List Part) (auto : Bool) : State :=
  tellFallback { s with upd := { s.upd with fbk := true, fbkTo := ps.map fun p => (p, auto) } } auto

/-- Parts that change as one: an MZP of another MZPID with its PRT. -/
def fallbackParts (s : State) (p : Part) : List Part :=
  if (p = .mzp ∨ p = .prt) ∧ !sameMzpid s (otherBank s.upd.mzp).header then [.mzp, .prt] else [p]

/-- A part returns to its PREVIOUS bank by the route that brought the new image in (R378, R384). `env` is what the
start-up finds, where the route is a restart of the module. -/
def fallBack (env : StartEnv) (s : State) (p : Part) (auto : Bool) : State :=
  let ps := fallbackParts s p
  let newEpoch := p = .lfw && hdrEpoch (otherBank s.upd.lfw1).header != lfwEpoch s
  if p = .svc then
    let s1 := switchPart s .svc .confirmed (leftState auto)
    restartService (tellFallback (closeWindow { s1 with upd := { s1.upd with fbk := true } }) auto)
  else if p = .ocf then tellFallback (switchPart s .ocf .confirmed (leftState auto)) auto
  else if idleRole s then fallBackIdle s ps auto
  else if newEpoch || ps.contains .prt then
    let s1 := fallBackAtRestart s ps auto
    if s.dpx.role = .alone then s1
    else if newEpoch && !s.dpx.peerReady then startUp env 2 (closeRecorder s1)
    else { s1 with dpx := { s1.dpx with wanted := true } }
  else if p = .lfw then lfwFallback s auto
  else
    let f := s.core.counter + 50
    let e : Exchange := { frame := f, back := true, reject := auto }
    tellFallback { s with upd := { s.upd with fbk := true, exchange := some e }, vot := dropPreloads s.vot } auto

/-- A settings copy that the firmware of a header can read (R385). -/
def settingsFor (s : State) (h : Bytes) : Bool :=
  (s.upd.copyA.toList ++ s.upd.copyB.toList ++ s.upd.retained.toList).any fun c =>
    c.intact && hdrSetMin h ≤ c.fmt && c.fmt ≤ hdrSetFmt h

/-- Whether a CONFIRMED part may fall back (R384). -/
def mayFallBack (s : State) (p : Part) : Bool :=
  let ps := fallbackParts s p
  let heads := ps.map fun q => (otherBank (firstPair s q)).header
  let back := match s.mzp with
    | some st => (reverseTable? st (hdrImgId (otherBank s.upd.mzp).header)).isSome
    | none => false
  ps.all (fun q => (pairNums q).all fun n => (otherBank (updPair s.upd n)).state = .previous)
    && heads.all (fun h => epochOk s ps h && heads.all (epochsFit h))
    && ((p ≠ .lfw && p ≠ .svc) || heads.all (settingsFor s))
    && (p ≠ .mzp || ps.contains .prt || idleRole s || back) && (p ≠ .prt || ps.contains .mzp)

/-- UPD_FALLBACK (R384). -/
def rowUpdFallback (src : Src) (part : Nat) (env : StartEnv) (s : State) : State :=
  gated s src 0xC7 fun s =>
    match Part.ofCode? part with
    | none => updReply s src 0xC7 .badLen []
    | some p =>
      if partInProgress s then updAnswerNow s src 0xC7 .order []
      else if isUnconf s p then
        if (otherBank (firstPair s p)).state = .previous then
          fallBack env (updAnswerNow s src 0xC7 .accepted []) p true
        else updAnswerNow s src 0xC7 .noFallback []
      else if mayFallBack s p then fallBack env (updAnswerNow s src 0xC7 .accepted []) p false
      else updAnswerNow s src 0xC7 .noFallback []

def execUpdFallback (src : Src) (part : Nat) (env : StartEnv) (now : Nat) (s : State) : Out :=
  .next (rowUpdFallback src part env (later s now))

/-- CONFIRM_WINDOW_EXPIRY (R382, R384): a planned switchover in progress completes first (R389). -/
def execConfirmWindowExpiry (env : StartEnv) (now : Nat) (s : State) : Out :=
  let s := later s now
  match s.upd.unconf with
  | none => .next s
  | some u =>
    let switching := s.dpx.handDue || s.dpx.wanted || s.dpx.commanded
    if s.now < u.since + 60000000 * fieldOf s.cfg.updCtl 16 8 ∨ switching ∨ partInProgress s
        ∨ (pairNums u.part).all (fun n => (otherBank (updPair s.upd n)).state ≠ .previous) then .next s
    else .next (fallBack env s u.part true)

/-- SVC_RESTART_END (R375, R385): the settings are read and the links resume; firmware that cannot read them falls
back at once. A restart by the watchdog writes its START record (R393). -/
def execSvcRestartEnd (ok : Bool) (now : Nat) (s : State) : Out :=
  let s := later s now
  match s.upd.svcAt with
  | none => .next s
  | some t =>
    let s1 := { s with upd := { s.upd with svcAt := none, fbk := s.upd.fbk && !s.upd.fbkTo.isEmpty } }
    let s2 := if s.sys.wdogAt = some t then startRecord 5 s1 else s1
    if ok && (s2.sys.settingsLost || settingsFor s2 (activeBank s2.upd.svc).header) then .next (sendWaiting s2)
    else if (s2.upd.unconf.map (·.part)) == some .svc && (otherBank s2.upd.svc).state = .previous then
      .next (fallBack {} (unreadable s2 .svc) .svc true)
    else .next (raise { s2 with sys := { s2.sys with settingsLost := true } } .sys sSETTINGS_LOST)

/-! ## Object controller packages (R386) -/

/-- Node bits of a mask: bit `i` stands in byte i div 8, bit 7 - (i mod 8). -/
def maskBit (mask : BitVec 256) (i : Nat) : Bool := mask.getLsbD (255 - i)

/-- The package goes to one node: every block, and the query for its state (R224). -/
def sendPackage (c : Cluster) (pkg : Nat) (image : Bytes) (s : State) (node : Nat) : State :=
  match (frnOf s c).nodes.find? (·.node == node) with
  | none => s
  | some _ =>
    let s1 := setNode s c node fun b =>
      { b with ocfPkg := pkg, ocfState := 0, ocfWant := false, ocfMissing := 0, ocfReceived := 0 }
    let s2 := (List.range (ocfCount image)).foldl (fun s k => sendOcfBlock s c node pkg image k) s1
    sendService s2 c node 0x03 pkg []

/-- OCF_DISTRIBUTE (R386). -/
def rowOcfDistribute (src : Src) (pkg : Nat) (mask : BitVec 256) (s : State) : State :=
  gated s src 0xC8 fun s =>
    let nodes := (List.range 240).filterMap fun k => if maskBit mask (k + 16) then some (k + 16) else none
    match ocfImage? s pkg with
    | none => updLaneReply s src 0xC8 .noTransfer []
    | some b =>
      if nodes.isEmpty || (List.range 15).any (fun k => maskBit mask (k + 1)) then updReply s src 0xC8 .badLen []
      else
        let c := if maskBit mask 0 then Cluster.c1 else .c0
        nodes.foldl (sendPackage c pkg b.image) (updLaneReply s src 0xC8 .accepted [])

def execOcfDistribute (src : Src) (pkg : Nat) (mask : BitVec 256) (s : State) : Out :=
  .next (rowOcfDistribute src pkg mask s)

end Sys2Proof.Machine
end

