-- ==== Sys2Proof/Machine/Witness.lean ====
section
/-! DEFINITION. The witness protocol (R348 to R352): beats, freshness, WITNESS_STATUS, requests for the grant and
what the witness answers. -/

namespace Sys2Proof.Machine

open Sys2Proof

/-! ## Parties -/

/-- Partner entries with witness opcodes (R269, R348). -/
def witnessEntries (s : State) : List Nat :=
  (List.range 32).filter fun n => (tableEntry s n).addr != 0xFFFF && (tableEntry s n).classes / 32 % 2 == 1

/-- KIND of an entry's address (R42). -/
def entryKind (s : State) (n : Nat) : Nat := (tableEntry s n).addr / 256 % 8

/-- The unit of the own pair that an entry names. -/
def entryUnit? (s : State) (n : Nat) : Option Nat :=
  if (tableEntry s n).addr / 2048 = ownPair s.cfg ∧ entryKind s n ≤ 1 then some (entryKind s n) else none

/-- The entries of the witness. -/
def witnesses (s : State) : List Nat := (witnessEntries s).filter fun n => entryKind s n == 2

/-- HOLDER's value for this module and for its partner (R349). -/
def ownHolder (s : State) : Nat := ownKind s.cfg + 1
def partnerHolder (s : State) : Nat := 2 - ownKind s.cfg

/-- Two lanes without a live LANE_FAULT form and check what leaves and what arrives (R341). -/
def twoLanes (s : State) : Bool := 2 ≤ (Lane.all.filter fun l => !(laneOf s.vot l).hwFault).length

/-- Whether the module takes part in the witness protocol (R341): not in ALONE, and not where the packets do not
cross the bridge (R320, R361). -/
def onWitness (s : State) : Bool :=
  s.sys.ready && s.dpx.role ≠ .alone && !s.xbr.fenced && svcRuns s && twoLanes s

/-! ## Beats and freshness (R348) -/

/-- The greatest BEAT received from an entry. -/
def beatFrom? (s : State) (n : Nat) : Option Nat := (s.dpx.beatsSeen.find? (·.1 == n)).map (·.2)

def noteBeat (s : State) (n beat : Nat) : State :=
  let rest := s.dpx.beatsSeen.filter (·.1 != n)
  { s with dpx := { s.dpx with beatsSeen := (n, max beat ((beatFrom? s n).getD 0)) :: rest } }

/-- A packet is fresh when the own beat counter minus FREF is 0 to 5. -/
def beatFresh (s : State) (fref : Nat) : Bool := fref ≤ s.dpx.beat && s.dpx.beat - fref ≤ 5

/-- A witness packet to an entry, with its vital prefix; FREF before any BEAT of the receiver is a free value (log
entry 7). -/
def sendWitness (s : State) (opc : Nat) (payload : State → Bytes) (n : Nat) : State :=
  let (w, s1) := takeFree s
  let slot := cmdKsel s.cfg
  let pre := be 6 ((beatFrom? s n).getD w.toNat) ++ be 1 slot ++ be 1 0
  (sendVital s1 n 2 opc 0 (tableEntry s n).addr slot s.dpx.beat (pre ++ payload s)).1

/-- FLAGS of WITNESS_STATUS (R349). -/
def statusFlags (s : State) : Nat :=
  bit (standbyReady s) + 2 * bit s.sys.stopped + 4 * bit s.dpx.granted + 8 * bit s.dpx.formerActive

/-- WITNESS_STATUS after its prefix (R349). -/
def statusBody (s : State) : Bytes :=
  let wit := s.dpx.role = .witness
  be 6 s.dpx.beat ++ be 1 (shownRole s).code ++ be 1 (statusFlags s) ++ be 6 (if wit then 0 else s.dpx.wframe)
    ++ be 1 (min s.dpx.miss 255) ++ be 1 (if wit then s.dpx.holder else leaseUs s.cfg / 1000) ++ be 4 s.dpx.gepoch

/-- WITNESS_STATUS to each other party. -/
def sendStatus (s : State) : State :=
  if onWitness s then
    (witnessEntries s).foldl (fun s n => sendWitness s 0x4B statusBody n) { s with dpx := { s.dpx with statusDue := false } }
  else s

/-- GRANT_REQUEST after its prefix (R349). -/
def requestBody (reason : Nat) (s : State) : Bytes :=
  be 6 s.dpx.beat ++ be 1 reason ++ be 1 (min s.dpx.miss 255) ++ be 6 ((s.dpx.held.map (·.frame)).getD 0) ++ be 2 0

/-- A request for the grant to the witness; it is repeated at every beat (R350, R353). -/
def askGrant (s : State) (reason : Nat) : State :=
  let s1 := { s with dpx := { s.dpx with asking := some reason } }
  if onWitness s1 then (witnesses s1).foldl (fun s n => sendWitness s 0x48 (requestBody reason) n) s1 else s1

/-! ## The witness's decision (R350, R351) -/

/-- The grantee's last status as the grant leaves it. DEDUCED (log entry 127): a status from before the grant does not show the
new holder as one that has relinquished, so that of two requests the second finds a holder present (R351, R361). -/
def grantee (s : State) (unit wframe : Nat) : UnitStatus :=
  let u := (s.dpx.units.find? (·.unit == unit)).getD { unit := unit, time := s.now, wframe := wframe }
  { u with time := s.now, granted := true, stopped := false, handover := false }

/-- GRANT: the epoch advances by one, and every party hears of it at once (R348, R350). -/
def giveGrant (s : State) (entry unit wframe : Nat) : State :=
  let g := (s.dpx.gepoch + 1) % 2 ^ 32
  let s1 := { s with dpx := { s.dpx with
    gepoch := g, holder := unit + 1, units := grantee s unit wframe :: s.dpx.units.filter (·.unit != unit) } }
  sendStatus (sendWitness s1 0x49 (fun s => be 6 s.dpx.beat ++ be 1 unit ++ be 1 0 ++ be 4 g ++ be 6 wframe) entry)

/-- GRANT_REFUSE: 1 holder present, 2 requester's wafer unusable, 3 witness not ready. -/
def refuseGrant (s : State) (entry why : Nat) : State :=
  sendWitness s 0x4A (fun s => be 6 s.dpx.beat ++ be 1 why ++ be 1 0) entry

/-- The last status of a unit. -/
def unitStatus? (s : State) (unit : Nat) : Option UnitStatus := s.dpx.units.find? (·.unit == unit)

/-- The holder has relinquished, has stopped, or is silent for HL + 20 ms; without any status it is silent since the
witness started, with the default HL (log entry 12). -/
def holderGone (s : State) (h : Nat) : Bool :=
  match unitStatus? s (h - 1) with
  | some u => !u.granted || u.stopped || decide (u.time + 1000 * u.hl + 20000 ≤ s.now)
  | none => decide (s.dpx.startedAt.getD 0 + 60000 ≤ s.now)

/-- The last WFRAME of a unit. -/
def unitFrame (s : State) (unit : Nat) : Nat := ((unitStatus? s unit).map (·.wframe)).getD 0

/-- What a REASON 1 request is answered with: none is a grant (R351). -/
def missedAnswer (s : State) (unit wframe : Nat) : Option Nat :=
  let h := s.dpx.holder
  let lag := dpxWlag s.cfg
  if h ≠ 0 then
    if !holderGone s h then some 1
    else if wframe ≠ 0 ∧ unitFrame s (h - 1) ≤ wframe + lag then none else some 2
  else
    let recent := match unitStatus? s (1 - unit) with
      | some u => s.now < u.time + 1000000 && wframe + lag < u.wframe
      | none => false
    if wframe ≠ 0 ∧ !recent then none else some 2

/-- A REASON 2 request in the start window (R350). -/
def windowRequest (s : State) (entry unit wframe : Nat) : State :=
  let r : StartReq := { entry := entry, unit := unit, wframe := wframe }
  let rest := s.dpx.windowReqs.filter (·.unit != unit)
  { s with dpx := { s.dpx with windowReqs := rest ++ [r], windowAt := some (s.dpx.windowAt.getD s.now) } }

/-- GRANT_REQUEST at the witness (R350, R351): a request that is not fresh, not from a unit of its pair, or of its
first 1 s is discarded. A stopped witness grants nothing (R334); it answers that it is not ready. -/
def execGrantRequest (p : GrantReqIn) (now : Nat) (s : State) : Out :=
  let s := later s now
  let n := p.src.entry
  if s.dpx.role ≠ .witness ∨ !onWitness s ∨ !(witnessEntries s).contains n then .next s
  else
    let fresh := beatFresh s p.fref
    let s := noteBeat (hearFrom s n) n p.beat
    if !fresh || entryUnit? s n != some p.unit || s.dpx.adopting then .next s
    else if s.sys.stopped then .next (refuseGrant s n 3)
    else match p.reason with
      | 1 => match missedAnswer s p.unit p.wframe with
        | none => .next (giveGrant s n p.unit p.wframe)
        | some why => .next (refuseGrant s n why)
      | 2 => .next (if s.dpx.holder = 0 then windowRequest s n p.unit p.wframe else refuseGrant s n 1)
      | 3 =>
        let ok := s.dpx.holder ≠ 0 && match unitStatus? s (s.dpx.holder - 1) with
          | some u => u.handover && u.wframe == p.wframe
          | none => false
        .next (if ok then giveGrant s n p.unit p.wframe else refuseGrant s n 2)
      | _ => .next s

/-- START_WINDOW_END (R350, R351): the grant goes to the one unit that asked, or to unit 1; the other is answered that
a holder exists. -/
def execStartWindowEnd (now : Nat) (s : State) : Out :=
  let s := later s now
  match s.dpx.windowAt with
  | none => .next s
  | some t =>
    if s.dpx.role ≠ .witness ∨ s.now < t + 2000000 then .next s
    else
      let rs := s.dpx.windowReqs
      let s1 := { s with dpx := { s.dpx with windowAt := none, windowReqs := [] } }
      let first := if s.sys.stopped ∨ s.dpx.holder ≠ 0 then none
        else match rs.find? (·.unit == 0) with
          | some r => some r
          | none => rs.head?
      let why := if s.sys.stopped then 3 else 1
      let s2 := match first with
        | some r => giveGrant s1 r.entry r.unit r.wframe
        | none => s1
      .next ((rs.filter fun r => some r != first).foldl (fun s r => refuseGrant s r.entry why) s2)

/-- WITNESS_START_END (R350): the witness grants from now on. -/
def execWitnessStartEnd (now : Nat) (s : State) : Out :=
  let s := later s now
  if s.dpx.role = .witness ∧ s.dpx.adopting ∧ s.dpx.startedAt.getD 0 + 1000000 ≤ s.now then
    .next { s with dpx := { s.dpx with adopting := false } }
  else .next s

/-! ## WITNESS_STATUS (R348, R349, R352) -/

/-- A unit's status at the witness; in its first 1 s the witness adopts a holder and continues the epoch above the
highest value seen (R350). -/
def statusOfUnit (s : State) (p : WitIn) (unit : Nat) : State :=
  let d := s.dpx
  let f := fun (k : Nat) => p.flags / 2 ^ k % 2 == 1
  let u : UnitStatus :=
    { unit := unit, time := s.now, role := p.role, ready := f 0, stopped := f 1, granted := f 2, handover := f 3
      wframe := p.wframe, hl := p.hl, gepoch := p.gepoch }
  let holds := d.adopting && f 2 && p.role == 0
  lower { s with dpx := { d with units := u :: d.units.filter (·.unit != unit)
                                 witAt := some s.now
                                 holder := if holds then unit + 1 else d.holder
                                 gepoch := if d.adopting then max d.gepoch p.gepoch else d.gepoch } } .dpx dWITNESS_DOWN

/-- The witness's status at a module: lease, holder, conflict, and the end of a relinquished module's sync frames. The
lease runs from the beat that FREF names (R352). -/
def statusOfWitness (s : State) (p : WitIn) : State :=
  let d := s.dpx
  let mine := d.granted && p.hl == ownHolder s && p.gepoch == d.gepoch
  let sentAt := d.beatAt - 10000 * (d.beat - p.fref)
  let away := p.hl == partnerHolder s
  let lease := if mine then some (max sentAt (d.leaseAt.getD 0)) else d.leaseAt
  let s1 := lower { s with dpx := { d with witAt := some s.now, holder := p.hl, leaseAt := lease } } .dpx dWITNESS_DOWN
  let s2 := if d.granted && (away || d.gepoch < p.gepoch) then raise s1 .dpx dROLE_CONFLICT else s1
  if d.relinquished && away then
    { s2 with frn0 := { s2.frn0 with muteDue := true }, frn1 := { s2.frn1 with muteDue := true } }
  else s2

/-- WITNESS_STATUS: one that is not fresh gives only its BEAT. -/
def execWitnessStatus (p : WitIn) (now : Nat) (s : State) : Out :=
  let s := later s now
  let n := p.entry
  if !onWitness s ∨ !(witnessEntries s).contains n ∨ entryKind s n ≠ p.kind then .next s
  else
    let fresh := beatFresh s p.fref
    let s1 := noteBeat (hearFrom s n) n p.beat
    if !fresh then .next s1
    else if s1.dpx.role = .witness then
      match entryUnit? s1 n with
      | some u => .next (statusOfUnit s1 p u)
      | none => .next s1
    else if p.kind = 2 then .next (statusOfWitness s1 p) else .next s1

/-- WITNESS_DOWN (R363): no valid status for LEASE; in WITNESS, from neither unit. -/
def execWitnessDown (now : Nat) (s : State) : Out :=
  let s := later s now
  let d := s.dpx
  if s.sys.ready ∧ d.role ≠ .alone ∧ (d.witAt.getD (d.startedAt.getD 0)) + leaseUs s.cfg ≤ s.now then
    .next (raise s .dpx dWITNESS_DOWN)
  else .next s

/-! ## Beats and leases -/

/-- A request that is repeated at every beat: while MISS is at least 3, until it is answered (R348, R350, R353). -/
def repeatRequest (s : State) : State :=
  match s.dpx.asking with
  | some 1 => if s.dpx.miss ≥ 3 then askGrant s 1 else s
  | some r => askGrant s r
  | none => s

/-- Step 15 of the start-up: a WITNESS from its first status on, a STANDBY when it is ready (R420). -/
def reachStep15 (s : State) : State :=
  if s.sys.ready && !s.sys.stopped && s.sys.step == 10 && (s.dpx.role = .witness || (s.dpx.role = .standby && standbyReady s)) then
    { s with sys := { s.sys with step := 15 } }
  else s

/-- BEAT: every 10 ms the counter advances, the statuses leave and a request is repeated; a status that a change of
grant has made due leaves at once. -/
def execBeat (now : Nat) (s : State) : Out :=
  let s := later s now
  if !s.sys.ready then .next s
  else if s.now < s.dpx.beatAt + 10000 then .next (if s.dpx.statusDue then sendStatus s else s)
  else
    let first := fun (p : Nat × Nat) => !(witnessEntries s).contains p.1
    let s1 := { s with dpx := { s.dpx with beat := (s.dpx.beat + 1) % 2 ^ 48, beatAt := s.now }
                       cmd := { s.cmd with vitalOut := s.cmd.vitalOut.filter first } }
    .next (reachStep15 (repeatRequest (sendStatus s1)))

/-- Whether the witness lease and the peer lease stand (R352). -/
def witnessLease (s : State) : Bool :=
  match s.dpx.leaseAt with
  | some t => decide (s.now ≤ t + leaseUs s.cfg)
  | none => false

def peerLease (s : State) : Bool :=
  match s.dpx.ackAt with
  | some t => decide (s.now ≤ t + 3 * expectedUs s.cfg)
  | none => false

/-- LEASE_LAPSE: with both leases lapsed the module is isolated: it relinquishes, stops, and its ports stop transmitting
from the next cycle start. -/
def execLeaseLapse (now : Nat) (s : State) : Out :=
  let s := later s now
  if !s.dpx.granted ∨ s.dpx.role ≠ .active ∨ witnessLease s ∨ peerLease s then .next s
  else
    let s1 := safeStop (relinquish s)
    .next { s1 with frn0 := { s1.frn0 with muteDue := true }, frn1 := { s1.frn1 with muteDue := true } }

end Sys2Proof.Machine
end

