-- ==== Sys2Proof/Machine/Duplex.lean ====
section
/-! DEFINITION. The duplex pair (R342 to R347, R352 to R363): wafers in, acknowledgements and heartbeats, missed
wafers, the grant and the takeover, and the return of the old ACTIVE module. -/

namespace Sys2Proof.Machine

open Sys2Proof

/-! ## Which wafers a module takes (R347, R381) -/

/-- How a wafer's layout meets the module's own images (R381). -/
inductive WaferFit
  | same
  | follow (st : Station) (verified : Bool)
  | mapped (old : Station) (table : List UnmappedInst)
  | wait
  | bad
  deriving DecidableEq, Repr

/-- Across MZPIDs: every crumb's object has the same index and type in the new image, and every route with a
transaction in flight is marked unchanged (R381). -/
def crossFits (w : Wafer) (new : Station) (unchanged : List Nat) : Bool :=
  w.inter.crumbs.all (fun c => match objOf? w.inter c.obj with
    | some o => new.objects.any fun d => d.idx == o.idx && d.ty = o.ty
    | none => false)
    && w.inter.txns.all fun t => unchanged.contains t.route

/-- The rows of R381 in their order. Where the wafer's image is not at hand, the table alone says what is not mapped. -/
def waferFit (s : State) (w : Wafer) : WaferFit :=
  match s.mzp with
  | none => .bad
  | some st =>
    let b := otherBank s.upd.mzp
    let other := (bankStation? b).filter fun k => k.imgId == w.layout
    let ids := w.mzpid == st.mzpid && w.prtid == st.prtid
    if w.layout = st.imgId then (if ids then .same else .bad)
    else match other with
      | some k =>
        if w.mzpid = st.mzpid ∧ (b.state = .verified ∨ b.state = .previous) then .follow k (b.state = .verified)
        else match st.migration.find? (·.baseImg == w.layout), k.migration.find? (·.baseImg == st.imgId) with
          | some m, _ => if w.mzpid = st.mzpid ∨ crossFits w st m.unchangedRoutes then .mapped k m.unmapped else .wait
          | none, some m =>
            if w.mzpid = st.mzpid ∨ crossFits w st m.unchangedRoutes then .mapped k m.reverseUnmapped else .wait
          | none, none => .wait
      | none => match st.migration.find? (·.baseImg == w.layout) with
        | some m => if w.mzpid ≠ st.mzpid ∧ crossFits w st m.unchangedRoutes then .mapped st m.unmapped else .wait
        | none => .wait

/-- EPOCH is the module's own, or one that its lane firmware reads: from WEPMIN up to its own (R347, R366). -/
def waferEpochOk (s : State) (w : Wafer) : Bool :=
  let h := lfwHeader s
  w.epoch == hdrEpoch h || (hdrWepMin h ≤ w.epoch && w.epoch < hdrEpoch h)

/-- The checks of R347 but for the images. -/
def waferChecks (s : State) (w : Wafer) : Bool :=
  w.hcrcOk && w.crcOk && w.wcodeOk && hasKey s 4 0 0 && twoLanes s && w.pair == ownPair s.cfg
    && w.unit == 1 - ownKind s.cfg && waferEpochOk s w
    && match s.dpx.held with
      | some h => decide (h.frame < w.frame)
      | none => true

/-- The code of an acknowledgement by a unit (R346). -/
def ackCode (k : Key) (frame unit : Nat) : BitVec 64 := (cmac k (be 6 frame ++ be 1 unit)).extractLsb' 64 64

/-- A valid frame has come on X9 (R363). -/
def heardPeer (s : State) : State := lower { s with dpx := { s.dpx with peerAt := some s.now } } .dpx dPEER_DOWN

/-- Whether X9 frames of the partner are taken: one unit of a pair whose X9 carries light (R346, R430). -/
def onPeer (s : State) : Bool := s.sys.ready && (s.dpx.role = .active || s.dpx.role = .standby) && opticOn s 9

/-- The counter that MRAM holds follows a received or taken one (R64). -/
def noteRecord (s : State) (n : Nat) : State :=
  if n / 65536 = s.frm.record / 65536 then s else { s with frm := { s.frm with record := max s.frm.record n } }

/-! ## Wafers in -/

/-- WAFER_SEGMENT (R312, R346): data of the partner's segment in a STANDBY module's inbound window. While FREE is 0, or
behind a fenced bridge, it is discarded. -/
def execWaferSegment (p : SegIn) (now : Nat) (s : State) : Out :=
  let s := later s now
  if !onPeer s ∨ !p.crcOk ∨ p.unit ≠ 1 - ownKind s.cfg then .next s
  else
    let s1 := heardPeer s
    if s1.dpx.role ≠ .standby ∨ !s1.xbr.winFree ∨ s1.xbr.fenced ∨ !svcRuns s1 ∨ p.nseg ≤ p.seg ∨ p.nseg = 0 ∨ 361 < p.nseg then .next s1
    else
      let fresh : Inbound := { wafer := p.wafer, nseg := p.nseg, got := [p.seg], startedAt := s1.now, lastAt := s1.now }
      let ib := match s1.dpx.inbound with
        | none => fresh
        | some b =>
          if b.wafer = p.wafer ∧ b.nseg = p.nseg then 
            (if b.got.contains p.seg then b else { b with got := p.seg :: b.got, lastAt := s1.now })
          else fresh
      .next { s1 with dpx := { s1.dpx with inbound := some ib } }

/-- A wafer that fails is discarded and raises WAFER_BAD (R347). -/
def waferBad (s : State) : State :=
  raise { s with dpx := { s.dpx with inbound := none, sawWaferBad := true } } .dpx dWAFER_BAD

/-- WAFER_SEGMENT_TIMEOUT (R347): not every segment within 5 ms of the first. -/
def execWaferSegmentTimeout (now : Nat) (s : State) : Out :=
  let s := later s now
  match s.dpx.inbound with
  | some b => if b.got.length < b.nseg ∧ b.startedAt + 5000 < s.now then .next (waferBad s) else .next s
  | none => .next s

/-- The module follows the partner's on-line exchange, and back at a fallback (R381). -/
def followExchange (s : State) (st : Station) (verified : Bool) : State :=
  let s1 := retryRefused (switchPart s .mzp .confirmed .previous)
  { s1 with mzp := some st, dpx := { s1.dpx with followed := if verified then some s1.now else none } }

/-- The accepted wafer replaces the one held; it is acknowledged, and a handover is answered with a request at once
(R347, R353, R359). -/
def acceptWafer (s : State) (w : Wafer) : State :=
  let d := s.dpx
  let asking := if d.asking = some 1 then none else d.asking
  let s1 := { s with dpx := { d with held := some w, heldAt := s.now, miss := 0, why2 := false, wframe := w.frame, wsize := w.len
                                     inbound := none, asking := asking }
                     xbr := { s.xbr with winLen := w.len }
                     upd := { s.upd with mapWait := false } }
  let s2 := noteRecord s1 w.frame
  let s3 := match plainKey? s2 4 0 0 with
    | some k => if x9On s2 then
        pushX9 s2 (x9Payload 2 (ownKind s2.cfg) w.frame (be 8 (ackCode k w.frame (ownKind s2.cfg)).toNat)) else s2
    | none => s2
  reachStep15 (if w.handover && !s3.sys.stopped then askGrant s3 3 else s3)

/-- XBR_WIN_DONE (R312, R347, R381): every segment has arrived within 5 ms; the checking lanes judge the wafer and free
the window. -/
def execXbrWinDone (now : Nat) (s : State) : Out :=
  let s := later s now
  match s.dpx.inbound with
  | none => .next s
  | some b =>
    if b.got.length < b.nseg ∨ s.dpx.role ≠ .standby ∨ s.xbr.fenced ∨ !svcRuns s then .next s
    else if b.startedAt + 5000 < b.lastAt ∨ !waferChecks s b.wafer then .next (waferBad s)
    else match waferFit s b.wafer with
      | .same => .next (acceptWafer s b.wafer)
      | .follow st v => .next (acceptWafer (followExchange s st v) b.wafer)
      | .mapped _ _ => .next (acceptWafer s b.wafer)
      | .wait => .next { s with dpx := { s.dpx with inbound := none }, upd := { s.upd with mapWait := true } }
      | .bad => .next (waferBad s)

/-- An acknowledgement: a valid code for one of the module's wafers renews the peer lease (R346, R352). -/
def rowAck (frame : Nat) (acode : BitVec 64) (s : State) : State :=
  if !onPeer s then s
  else
    let s1 := heardPeer s
    match plainKey? s1 4 0 0 with
    | some k =>
      if s1.dpx.role = .active ∧ !s1.xbr.fenced ∧ s1.dpx.formed.isSome ∧ frame ≤ s1.dpx.wframe
          ∧ acode = ackCode k frame (1 - ownKind s1.cfg) then
        { s1 with dpx := { s1.dpx with ackAt := some s1.now } }
      else s1
    | none => s1

/-- WAFER_ACKNOWLEDGEMENT. -/
def execWaferAcknowledgement (frame : Nat) (acode : BitVec 64) (now : Nat) (s : State) : Out :=
  .next (rowAck frame acode (later s now))

/-! ## Heartbeats (R346, R352, R363) -/

/-- A heartbeat: readiness, and the conflict of two modules that both claim ACTIVE. -/
def rowHeartbeat (h : HeartIn) (s : State) : State :=
  if !onPeer s ∨ !h.crcOk ∨ h.unit ≠ 1 - ownKind s.cfg then s
  else
    let s1 := heardPeer s
    if s1.xbr.fenced then s1
    else
      let s2 := { s1 with dpx := { s1.dpx with peerReady := h.ready, peerMsw := h.msw, peerGranted := h.granted, peerFrame := h.wframe } }
      let active := s2.dpx.role = .active && !s2.dpx.relinquished
      let s3 := setLive s2 .dpx dPARTNER_NOT_READY (active && !h.ready)
      let claims := h.msw / 0x2000 % 4 == Role.code .active && h.granted && h.msw / 0x400 % 2 == 0
      if active && claims then raise s3 .dpx dROLE_CONFLICT else s3

/-- HEARTBEAT. -/
def execHeartbeat (h : HeartIn) (now : Nat) (s : State) : Out := .next (rowHeartbeat h (later s now))

/-- HEARTBEAT_SEND: every 10 ms. -/
def execHeartbeatSend (now : Nat) (s : State) : Out :=
  let s := later s now
  let due := match s.dpx.hbAt with
    | some t => decide (t + 10000 ≤ s.now)
    | none => true
  if !onPeer s ∨ !due then .next s
  else
    let s1 := { s with dpx := { s.dpx with hbAt := some s.now } }
    if x9On s1 && twoLanes s1 then
      .next (pushX9 s1 (x9Payload 3 (ownKind s1.cfg) s1.dpx.wframe
        (be 2 (msw s1) ++ be 1 (bit (standbyReady s1) + 2 * bit s1.dpx.granted) ++ be 1 0)))
    else .next s1

/-- PEER_DOWN: no valid X9 frame for 30 ms; a silent partner is not ready (R343). -/
def execPeerDown (now : Nat) (s : State) : Out :=
  let s := later s now
  let d := s.dpx
  if !s.sys.ready ∨ (d.role ≠ .active ∧ d.role ≠ .standby) ∨ s.now < d.peerAt.getD (d.startedAt.getD 0) + 30000 then .next s
  else
    let s1 := raise { s with dpx := { d with peerReady := false } } .dpx dPEER_DOWN
    .next (if d.role = .active ∧ !d.relinquished then raise s1 .dpx dPARTNER_NOT_READY else s1)

/-! ## Missed wafers (R353) -/

/-- WAFER_MISS: miss k at a + k × I + 2 ms; at the third a ready module, or a former ACTIVE module, asks. -/
def execWaferMiss (now : Nat) (s : State) : Out :=
  let s := later s now
  let d := s.dpx
  match d.held with
  | none => .next s
  | some w =>
    if (d.role ≠ .standby ∧ !d.formerActive) ∨ s.now < d.heldAt + (d.miss + 1) * expectedUs w.cfg + 2000 then .next s
    else
      let s1 := { s with dpx := { d with miss := min 255 (d.miss + 1) } }
      let able := (standbyFit s1 || (d.formerActive && !d.why2)) && !s1.sys.stopped && d.asking.isNone
      .next (if 3 ≤ s1.dpx.miss && able then askGrant s1 1 else s1)

/-- GRANT_REFUSE (R353, R422): WHY 2 ends the asking, and after missed wafers the module is not ready until it accepts
one; WHY 1 ends a REASON 2 request, and the state arrives with the first accepted wafer. -/
def execGrantRefuse (why now : Nat) (s : State) : Out :=
  let s := later s now
  let d := s.dpx
  if !onWitness s then .next s
  else match d.asking, why with
    | some 1, 2 => .next { s with dpx := { d with asking := none, why2 := true } }
    | some _, 2 => .next { s with dpx := { d with asking := none } }
    | some 2, 1 => .next { s with dpx := { d with asking := none } }
    | _, _ => .next s

/-! ## The grant (R354) -/

/-- Root ports start as at a cold start (R230). -/
def rootPort (s : State) (c : Cluster) : State :=
  setFrn (startPort s c .cold) c fun f => { numberCycle 0 f with begun := false, mute := false }

/-- The grant answers the REASON 2 request of the start-up: a cold start of the interlocking state (R342, R422). -/
def grantCold (s : State) (gepoch : Nat) : State :=
  let s1 := { s with dpx := { s.dpx with role := .active, granted := true, gepoch := gepoch, asking := none
                                         leaseAt := some s.now, held := none, miss := 0 } }
  let s2 := prlSwitch (lanesVote (coldStart s1))
  sendStatus (rootPort (rootPort { s2 with frm := { s2.frm with nextTick := some s2.now } } .c0) .c1)

/-- The wafer's state in the layout that the module runs (R354 step 2, R380, R381). -/
def waferInter (s : State) (w : Wafer) : Inter :=
  match s.mzp, waferFit s w with
  | some st, .mapped old table => remapInter old st table w.inter
  | _, _ => w.inter

/-- The configuration of the wafer; the module keeps its own KIND, which is its place in the pair (log entry 14). -/
def waferCfg (s : State) (w : Wafer) : Cfg :=
  { w.cfg with cmdAddr := (w.cfg.cmdAddr &&& ~~~ fieldMask 8 3) ||| (s.cfg.cmdAddr &&& fieldMask 8 3) }

/-- Configuration and partner table of the wafer in effect; staged values are discarded (R315, R354). -/
def takeConfig (s : State) (w : Wafer) : State :=
  let kept := s.cmd.heard.filter fun p => w.partners[p.1]? == s.cmd.partners[p.1]?
  let new := ((List.range 32).filter fun n => w.partners[n]? != s.cmd.partners[n]?).map fun n => (n, s.now)
  { s with cfg := waferCfg s w, staged := [], stagedPartners := []
           cmd := { s.cmd with partners := w.partners, heard := kept ++ new } }

/-- A guard as the wafer carries it, with the module's own record of the last count on its pair (R152, R345). -/
def takeGuard (own : List GuardBlk) (p : GuardBlk × Nat) : GuardBlk := { p.1 with lastAt := (own[p.2]?).bind (·.lastAt) }

/-- Praline takes the lock store, with every check code verified, the settle counts and the guard states; its permit list is
empty, and the lanes' shadows are rebuilt from the crumbs (R140, R168, R354). -/
def takePraline (s : State) (w : Wafer) (x : Inter) : State :=
  let free := freeCrumbs x.crumbs
  let settleOf := fun (q : PrlObj) => { q with settle := ((objOf? x q.idx).map (·.settle)).getD q.settle }
  let s1 := armGuards { s with
    core := { x with permits := [], shadow := x.crumbs, prlObjs := x.prlObjs.map settleOf }, work := none
    prl := { s.prl with store := x.crumbs, free := free, guards := w.guards.zipIdx.map (takeGuard s.prl.guards)
                        press := (s.prt.map fun p => pressureOf p free).getD .normal } }
  setLive s1 .prl pCRUMB_CORRUPT (x.crumbs.any crumbBad)

/-- δ of a party that the module takes over: every δ is kept (R238), and the wafer names none (R345), so that the module's
figure for it is a free value. DEDUCED (log entry 120). -/
def keptDelay (n : Nat) : Nat := 1 + (Config.freeWord n).toNat % 7500

/-- The parties of a port at a takeover keep their δ (R238): its couplers, and every node on the channels on which it was
valid last. -/
def keepDelays (s : State) (c : Cluster) : State :=
  let n := s.free
  let keep := fun (on : Bool) (d : Option Nat) (k : Nat) => if on then some (d.getD (keptDelay (n + k))) else d
  setFrn { s with free := n + 1024 } c fun f => { f with
    couplers := f.couplers.map fun k => { k with dly := keep (!k.refused) k.dly (2 * k.num + (match k.chan with | .a => 0 | .b => 1)) }
    nodes := f.nodes.map fun b =>
      let held := b.state = .admitted || b.state = .dropped
      { b with dlyA := keep (held && (b.va || b.nowA)) b.dlyA (256 + 2 * b.node)
               dlyB := keep (held && (b.vb || b.nowB)) b.dlyB (257 + 2 * b.node) } }

/-- A port goes to RUN at its next cycle start (R354 step 3); one whose cluster is fenced stays at SYNC ONLY (R230). -/
def portToRun (s : State) (c : Cluster) : State :=
  if (frnOf s c).state = .off || (frnOf s c).fenced then s
  else keepDelays (setFrn s c fun f => { f with goRun := true, muteDue := false }) c

/-- Nodes admitted now (R354 step 4). -/
def admittedNodes (s : State) : List (Cluster × Nat) :=
  let of := fun (c : Cluster) => ((frnOf s c).nodes.filter (·.state = .admitted)).map fun b => (c, b.node)
  of .c0 ++ of .c1

/-- A takeover by a module that has followed an exchange: its confirm window continues (R389). -/
def continueWindow (s : State) (at_ : Option Nat) : State :=
  match at_ with
  | none => s
  | some t =>
    if t + 60000000 * fieldOf s.cfg.updCtl 16 8 ≤ s.now then s
    else openWindow (setPairs s .mzp fun p => setBank p p.onB fun b => { b with state := .unconfirmed }) .mzp false

/-- Steps 1 to 3 of R354. The reply store is not carried across (R280). -/
def takeover (s : State) (gepoch : Nat) (w : Wafer) : State :=
  let d := s.dpx
  let x := resumeWaits s.now (waferInter s w)
  let n := (w.frame + 256) % 2 ^ 48
  let planned := d.asking = some 3
  let d1 := { d with
    role := .active, granted := true, gepoch := gepoch, asking := none, relinquished := false, formerActive := false, miss := 0
    held := none, gapFrom := d.heldAt, takeAt := some s.now, takeCycles := 0, takeGood := 0, takeNodes := admittedNodes s
    leaseAt := some s.now, ackAt := none, formed := none, sawTakeover := true, followed := none
    taken := satAdd 65535 1 d.taken, planned := if planned then satAdd 65535 1 d.planned else d.planned }
  let s1 := raise { s with dpx := d1, cmd := { s.cmd with stored := [], pend := [] }, upd := { s.upd with exchange := none }, vot := dropPreloads s.vot } .dpx dTAKEOVER
  let s2 := takePraline (takeConfig s1 w) w { x with counter := n }
  let s3 := prlSwitch (lanesVote (noteRecord s2 n))
  sendStatus (portToRun (portToRun (continueWindow s3 d.followed) .c0) .c1)

/-- GRANT without a wafer (R354): STANDBY, GRANTED 0, and an event record, whose type and content the spec does not give
(log entry 7). -/
def grantVoid (s : State) (gepoch : Nat) : State :=
  let (w, s1) := takeFree s
  let (v, s2) := takeFree s1
  let body := (List.range (w.toNat / 512 % 1009)).map fun k => (Config.freeWord (v.toNat + k)).setWidth 8
  sendStatus (svcRec { s2 with dpx := { s2.dpx with granted := false, gepoch := gepoch, asking := none } }
    (w.toNat % 128) (w.toNat / 128 % 4) body)

/-- GRANT (R354) from the witness to this module, fresh; a module that is ACTIVE already, or stopped, takes nothing
over, and neither does one that has accepted a wafer since it asked after three misses (R40, R353). -/
def execGrant (p : GrantIn) (now : Nat) (s : State) : Out :=
  let s := later s now
  match (witnesses s).head? with
  | none => .next s
  | some n =>
    if !onWitness s ∨ p.unit ≠ ownKind s.cfg ∨ !(s.dpx.role = .standby || s.dpx.formerActive) then .next s
    else
      let fresh := beatFresh s p.fref
      let s1 := noteBeat (hearFrom s n) n p.beat
      if !fresh then .next s1
      else if s1.sys.stopped then .next (sendStatus { s1 with dpx := { s1.dpx with gepoch := p.gepoch, asking := none } })
      else match s1.dpx.asking, s1.dpx.held with
        | some 2, _ => .next (grantCold s1 p.gepoch)
        | _, none => .next (grantVoid s1 p.gepoch)
        | asked, some w =>
          if asked.isSome || 3 ≤ s1.dpx.miss then .next (takeover s1 p.gepoch w)
          else .next (sendStatus { s1 with dpx := { s1.dpx with gepoch := p.gepoch } })

/-- TAKEOVER_FIRST_TICK (R354 step 4): two good cycles, or the thirteenth in RUN; without a cluster 1 ms after step
2. -/
def execTakeoverFirstTick (now : Nat) (s : State) : Out :=
  let s := later s now
  let d := s.dpx
  match d.takeAt with
  | none => .next s
  | some t =>
    let off := s.frn0.state = .off && s.frn1.state = .off
    let due := if off then decide (t + 1000 ≤ s.now) else 2 ≤ d.takeGood || 13 ≤ d.takeCycles
    if !due ∨ s.sys.stopped ∨ d.role ≠ .active then .next s
    else
      .next (duoStart { s with dpx := { d with takeAt := none, gapDue := true }
                               frm := { s.frm with nextTick := some s.now } })

/-! ## The old ACTIVE module (R359) -/

/-- A lane of a module that becomes STANDBY is idle (R341), unless its test still runs; one that has passed its test is due
INTV from here (R199). -/
def idleLane (s : State) (l : Lane) : State :=
  let b := laneOf s.vot l
  if b.state = .proving ∧ !b.passed then s
  else
    let s1 := laneTo (if b.passed then setDue (unmark s l) l s.now else s) l .fenced
    { s1 with vot := setLane s1.vot l fun b =>
      { b with why := .none, wantIn := false, wantOut := false, wantHalt := false, passed := false, pub := none } }

/-- A port of an enabled cluster follows again (R230, R341). -/
def followPort (s : State) (c : Cluster) : State :=
  setFrn (startPort s c .follow) c fun f => { f with mute := false, muteDue := false, goRun := false, runCycles := none, current := [], back := [] }

/-- Fallbacks that waited for the lanes to be idle (R384): the active banks' images are in use. -/
def standbyFallBack (s : State) : State :=
  if s.upd.fbkTo.isEmpty then s
  else
    let lfw := s.upd.fbkTo.any (·.1 = .lfw)
    let s1 := closeWindow { s with upd := { s.upd.fbkTo.foldl fallBackNow s.upd with fbkTo := [], fbk := false } }
    loadIdle (if lfw then bootIdle s1 else s1)

/-- OLD_ACTIVE_TO_STANDBY (R359 step 5): HOLDER is the partner and the toffee window has expired since the last release
point. Fallbacks that waited for this are made (R384). -/
def execOldActiveToStandby (now : Nat) (s : State) : Out :=
  let s := later s now
  let d := s.dpx
  if !d.relinquished ∨ d.role ≠ .active ∨ s.sys.stopped ∨ d.holder ≠ partnerHolder s
      ∨ s.now < d.lastRelease + toffeeUs s.cfg then .next s
  else
    let s1 := { s with
      dpx := { d with role := .standby, relinquished := false, formerActive := false, granted := false, handDue := false
                      wanted := false, commanded := false, planned := satAdd 65535 1 d.planned }
      frm := { s.frm with nextTick := none, phase := .idle }
      work := none }
    let s2 := standbyFallBack (Lane.all.foldl idleLane (duoReset (lower s1 .dpx dPARTNER_NOT_READY)))
    .next (followPort (followPort s2 .c0) .c1)

end Sys2Proof.Machine
end

