-- ==== Sys2Proof/Machine/Session.lean ====
section
/-! DEFINITION. The maintenance session (R387, R409, R410): who may open one, its challenge and proof, its end. -/

namespace Sys2Proof.Machine

open Sys2Proof

/-- Sessions open only under the vendor service key (R409). -/
def vendorOnly (s : State) : Bool := s.sec.life = .retired || s.sec.tamper

/-- The classes of a sender that is let in on X13 without an entry (R410). -/
def guestOf (src : Src) (net : NetAddr) : Partner :=
  { addr := src.addr, conn := 13, classes := 0x1E, udpp := net.udpp, ip := net.ip }

/-- Whether a sender on X13 without an entry of its own may open a session: the vendor, in FACTORY without an X13 entry,
in recovery mode without readable settings (R387, R409, R410). -/
def guestEntry (s : State) (net : NetAddr) (kslot : Nat) : Option Nat :=
  if net.conn ≠ 13 then none
  else if kslot = 2 ∧ vendorOnly s then some 32
  else if (s.sec.life = .factory && !s.cmd.partners.any fun p => p.addr != 0xFFFF && p.conn == 13)
      || (s.upd.recov && s.sys.settingsLost) then some 31
  else none

/-- A sender as the session's rules see it: a partner of the table, or the sender let in, which then takes that entry
number. None is one that step 1 of R282 discards. -/
def senderOf (s : State) (src : Src) (net : NetAddr) (kslot : Nat) : Option (Src × State) :=
  match guestEntry s net kslot with
  | some k =>
    let q := guestOf src net
    let bound := k = 31 && s.sec.guestBound && s.sec.guest.isSome && s.sec.guest != some (k, q)
    if bound then none else some ({ src with entry := k }, { s with sec := { s.sec with guest := some (k, q) } })
  | none => if (partnerAt s src.entry).addr = 0xFFFF then none else some (src, s)

/-- Another partner holds the session (R409). -/
def heldByOther (s : State) (src : Src) (net : NetAddr) : Bool :=
  match s.sec.session with
  | some k => !(k.entry == src.entry && k.addr == (partnerAt s src.entry).addr && k.ip == net.ip && k.udpp == net.udpp)
  | none => false

/-- Five failures within 10 min: the partner is locked out for 10 min (R409). -/
def isLockedOut (s : State) (entry : Nat) : Bool :=
  s.sec.locked.any fun p => p.1 == entry && decide (s.now < p.2 + 600000000)

/-- KSLOT as the state of the module admits it (R409). -/
def kslotOk (s : State) (kslot : Nat) : Bool := (kslot == 2) == vendorOnly s

/-- What both SESSION_OPEN requests check before anything else. -/
def openRefusal (s : State) (src : Src) (net : NetAddr) (kslot : Nat) : Option Status :=
  if 2 < kslot then some .badLen
  else if !kslotOk s kslot || isLockedOut s src.entry then some .notAuth
  else if heldByOther s src net then some .busy
  else none

/-- A SESSION_OPEN request; a sender that is answered BUSY does not take the place of the one in session. -/
def openRow (src : Src) (net : NetAddr) (kslot : Nat) (f : Src → State → State) (s : State) : State :=
  match senderOf s src net kslot with
  | none => s
  | some (a, s1) =>
    gated s1 a 0x80 fun s2 => match openRefusal s2 a net kslot with
      | some st =>
        let s3 := reply s2 a 0x80 st []
        if st = .busy then { s3 with sec := { s3.sec with guest := s.sec.guest } } else s3
      | none => f a s2

/-- SESSION_OPEN, first request: a challenge of 16 random bytes (R409). -/
def rowSessionOpen (src : Src) (net : NetAddr) (kslot : Nat) (s : State) : State :=
  openRow src net kslot (fun a s =>
    let c := Config.challenge s.free
    let k : Chal := { entry := a.entry, addr := a.addr, value := c, givenAt := s.now }
    reply { s with free := s.free + 1, sec := { s.sec with chal := some k } } a 0x80 .done (be 16 c.toNat)) s

def execSessionOpen (src : Src) (net : NetAddr) (kslot now : Nat) (s : State) : Out :=
  .next (rowSessionOpen src net kslot (later s now))

/-- Keys under which a proof is taken (R387, R409, R410, R416). -/
def proofKeys (s : State) (entry kslot : Nat) : List Key :=
  if kslot = 2 then [Config.vendorServiceKey]
  else
    let open_ := s.upd.recov && s.sys.settingsLost
    let mine := (s.sec.plain.filter fun k => k.ktype == 6 && k.slot == kslot && (k.index == entry || open_)).map (·.key)
    if mine.isEmpty && s.sec.initialKey && entry == 31 && kslot == 0 then [Config.initialMaintenanceKey] else mine

/-- PROOF (R409). -/
def proofOf (s : State) (key : Key) (chal : BitVec 128) (addr : Nat) : BitVec 64 :=
  (cmac key (be 16 chal.toNat ++ be 2 addr ++ be 8 s.sys.serial)).extractLsb' 64 64

/-- A failed authentication (R340, R409). -/
def authFail (s : State) (entry : Nat) : State :=
  let c := s.sec
  let recent := (entry, s.now) :: c.failures.filter fun f => s.now < f.2 + 600000000
  let full := 5 ≤ (recent.filter (·.1 == entry)).length
  let locked := if full then (entry, s.now) :: c.locked.filter (·.1 != entry) else c.locked
  let c1 := { c with failures := if full then recent.filter (·.1 != entry) else recent, locked := locked
                     failCount := satAdd 65535 1 c.failCount, lastFail := some entry, authAt := some s.now }
  raise { s with sec := c1 } .sec eAUTH_FAIL

/-- SESSION_OPEN, second request (R409): the challenge is used up whatever comes of it. -/
def rowSessionOpenProof (src : Src) (net : NetAddr) (kslot : Nat) (chal : BitVec 128) (proof : BitVec 64) (s : State) :
    State :=
  openRow src net kslot (fun a s =>
    let fresh := match s.sec.chal with
      | some k => k.entry == a.entry && k.addr == a.addr && k.value == chal && decide (s.now ≤ k.givenAt + 30000000)
      | none => false
    let s1 := { s with sec := { s.sec with chal := none } }
    if fresh && (proofKeys s a.entry kslot).any fun k => proofOf s k chal a.addr == proof then
      let ses : Session := { entry := a.entry, addr := (partnerAt s a.entry).addr, ip := net.ip, udpp := net.udpp
                             kslot := kslot, lastAt := s.now }
      let c := { s1.sec with session := some ses, guestBound := s1.sec.guestBound || a.entry == 31 }
      reply { s1 with sec := c } a 0x80 .done []
    else reply (authFail s1 a.entry) a 0x80 .notAuth []) s

def execSessionOpenProof (src : Src) (net : NetAddr) (kslot : Nat) (chal : BitVec 128) (proof : BitVec 64) (now : Nat)
    (s : State) : Out :=
  .next (rowSessionOpenProof src net kslot chal proof (later s now))

/-- The session ends; the debug level falls to D0 (R409, R411). -/
def closeSession (s : State) : State := setDebug { s with sec := { s.sec with session := none } } .d0 none

/-- SESSION_CLOSE (R409). -/
def rowSessionClose (src : Src) (s : State) : State :=
  gated s src 0x81 fun s => closeSession (reply s src 0x81 .done [])

def execSessionClose (src : Src) (s : State) : Out := .next (rowSessionClose src s)

/-- SESSION_TIMEOUT (R409): no packet from the partner for STMO. -/
def execSessionTimeout (now : Nat) (s : State) : Out :=
  let s := later s now
  match s.sec.session with
  | some k => if k.lastAt + 1000 * sessionMs s.cfg ≤ s.now then .next (closeSession s) else .next s
  | none => .next s

/-- AUTH_LOCKOUT_END (R409). -/
def execAuthLockoutEnd (entry now : Nat) (s : State) : Out :=
  let s := later s now
  .next { s with sec := { s.sec with locked := s.sec.locked.filter fun p => p.1 != entry || decide (s.now < p.2 + 600000000) } }

end Sys2Proof.Machine
end

