-- ==== Sys2Proof/Machine/Maint.lean ====
section
/-! DEFINITION. The maintenance commands within a session (R174, R178, R263, R271, R291, R314, R359, R402, R408, R411,
R415 to R417, R422). A row acts at its own command, and
is answered after the COMMIT of a frame in progress (log entry 8). -/

namespace Sys2Proof.Machine

open Sys2Proof

/-- A maintenance command that the lanes carry out: its status and what it does. A parameter outside its range is answered
by the service processor, at step 10 of R282. -/
def laneRow (src : Src) (opc : Nat) (f : State → Status × State) (s : State) : State :=
  gated s src opc fun s =>
    let r := f s
    if r.1 = .badLen then reply s src opc .badLen [] else laneAnswer r.2 src opc r.1 []

def refuse (s : State) (st : Status) : Status × State := (st, s)

/-! ## Registers (R291) -/

/-- REG_READ. -/
def rowRegRead (src : Src) (addr count : Nat) (s : State) : State :=
  gated s src 0x82 fun s =>
    if addr % 4 ≠ 0 ∨ count < 1 ∨ 2045 < count then reply s src 0x82 .badLen []
    else
      let r := readMany s addr count
      reply r.2 src 0x82 .done (r.1.flatMap fun w => be 4 w.toNat)

def execRegReadCmd (src : Src) (addr count : Nat) (s : State) : Out := .next (rowRegRead src addr count s)

/-- Words written at rising addresses; one at an unmapped address is discarded. -/
def writeMany (wr : Writer) (s : State) (a : Nat) : List Word → State
  | [] => s
  | w :: ws => writeMany wr ((laneWrite s wr a w).getD s) (a + 4) ws

/-- REG_WRITE. -/
def rowRegWrite (src : Src) (addr : Nat) (words : List Word) (s : State) : State :=
  laneRow src 0x83 (fun s =>
    if addr % 4 ≠ 0 ∨ words.isEmpty ∨ 2040 < words.length then refuse s .badLen
    else (.done, writeMany { addr := src.addr } s addr words)) s

def execRegWriteCmd (src : Src) (addr : Nat) (words : List Word) (s : State) : Out := .next (rowRegWrite src addr words s)

/-! ## Configuration (R271, R314, R385) -/

/-- COMMIT: taken now, evaluated and answered at the drain (R314). -/
def rowCommit (src : Src) (s : State) : State :=
  gated s src 0x84 fun s => { s with xbr := { s.xbr with cpend := true, casks := s.xbr.casks ++ [src] } }

def execCommit (src : Src) (s : State) : Out := .next (rowCommit src s)

/-- STAGE_DISCARD. -/
def rowStageDiscard (src : Src) (s : State) : State := laneRow src 0x85 (fun s => (.done, discardStaged s)) s

def execStageDiscard (src : Src) (s : State) : Out := .next (rowStageDiscard src s)

/-- A partner entry as its 32 bytes spell it (R271). -/
def partnerOf (bs : Bytes) : Partner :=
  { addr := fieldAt bs 0 2, conn := fieldAt bs 2 1, classes := fieldAt bs 3 1, flags := fieldAt bs 4 1
    silent := fieldAt bs 5 1, udpp := fieldAt bs 6 2, ip := fieldAt bs 8 16 }

/-- PARTNER_STAGE: eight words, the entry's 32 bytes. A connector that carries no partner is a parameter outside its
range. -/
def rowPartnerStage (src : Src) (entry : Nat) (words : List Word) (s : State) : State :=
  laneRow src 0x86 (fun s =>
    let p := partnerOf (words.flatMap fun w => be 4 w.toNat)
    if 31 < entry ∨ words.length ≠ 8 ∨ (p.addr ≠ 0xFFFF ∧ (p.conn < 10 ∨ 13 < p.conn)) then refuse s .badLen
    else (.done, { s with stagedPartners := s.stagedPartners.filter (·.1 != entry) ++ [(entry, p)] })) s

def execPartnerStage (src : Src) (entry : Nat) (words : List Word) (s : State) : Out :=
  .next (rowPartnerStage src entry words s)

/-- SETTINGS_SAVE: both MRAM copies; not while an LFW or SVC is UNCONFIRMED (R385). -/
def rowSettingsSave (src : Src) (s : State) : State :=
  gated s src 0x87 fun s =>
    let part := s.upd.unconf.map (·.part)
    if part = some .lfw ∨ part = some .svc then reply s src 0x87 .badState []
    else
      let c : Settings := { fmt := s.upd.setfmt, cfg := s.cfg, partners := s.cmd.partners }
      reply { s with upd := { s.upd with copyA := some c, copyB := some c, saved := true } } src 0x87 .done []

def execSettingsSave (src : Src) (s : State) : Out := .next (rowSettingsSave src s)

/-! ## Lanes (R174, R178) -/

/-- LANE_OUT: at the drain, under R178. -/
def rowLaneOut (src : Src) (lane : Lane) (s : State) : State :=
  laneRow src 0x88 (fun s =>
    if framesRun s && mayLeave s lane then
      (.done, { s with vot := setLane s.vot lane fun b => { b with wantOut := true } })
    else refuse s .badState) s

def execLaneOut (src : Src) (lane : Lane) (s : State) : Out := .next (rowLaneOut src lane s)

/-- LANE_IN: of a lane taken out by LANE_OUT. -/
def rowLaneIn (src : Src) (lane : Lane) (s : State) : State :=
  laneRow src 0x89 (fun s =>
    let b := laneOf s.vot lane
    if framesRun s && b.state = .fenced && b.why = .command then
      (.done, { s with vot := setLane s.vot lane fun b => { b with wantIn := true } })
    else refuse s .badState) s

def execLaneIn (src : Src) (lane : Lane) (s : State) : Out := .next (rowLaneIn src lane s)

/-- DUO_EXTEND (R174). -/
def rowDuoExtend (src : Src) (hours : Nat) (s : State) : State :=
  laneRow src 0x8A (fun s =>
    if hours < 1 ∨ 72 < hours then refuse s .badLen
    else if s.sec.life = .maint && s.vot.duoSince.isSome && !s.vot.extUsed then
      (.done, limitMoved { s with vot := { s.vot with extUsed := true, extH := hours } })
    else refuse s .badState) s

def execDuoExtend (src : Src) (hours : Nat) (s : State) : Out := .next (rowDuoExtend src hours s)

/-! ## Local I/O restart (R263) and switchover (R359) -/

/-- A source of the local I/O at FENCE is live. -/
def lioFenceLive (s : State) : Bool :=
  (List.range (sourceCount .lio)).any fun n => isLive s .lio n && sevOf s.cfg .lio n = .fence

/-- LIO_RESTART: CTL.RESTART goes out with the next downstream frame. -/
def rowLioRestart (src : Src) (s : State) : State :=
  laneRow src 0x8B (fun s =>
    if lioFenceLive s || !s.lio.field.x2Ok then refuse s .badState
    else (.done, updVital s fun v => { v with restart := true, fence := false })) s

def execLioRestart (src : Src) (s : State) : Out := .next (rowLioRestart src s)

/-- SWITCHOVER. -/
def rowSwitchover (src : Src) (s : State) : State :=
  laneRow src 0x8C (fun s =>
    if switchReady s then (.accepted, { s with dpx := { s.dpx with commanded := true } }) else refuse s .badState) s

def execSwitchover (src : Src) (s : State) : Out := .next (rowSwitchover src s)

/-! ## Debug and lifecycle (R408, R411, R419) -/

/-- Whether a debug level may be entered (R389, R411, R419). SEALED and RETIRED never reach this check. -/
def debugAllowed (s : State) (d : Dbg) (l : Option Lane) : Bool :=
  let preloading := s.upd.exchange.isSome && !Lane.all.all fun k => (laneOf s.vot k).preloaded
  (s.sec.dbg ≠ .d3 || d = .d3) && match d, l with
    | .d0, _ => true
    | .d1, _ => s.pwr.power = .run
    | .d2, some k => s.pwr.power = .run && framesRun s && mayLeave s k && !preloading
    | .d2, none => false
    | .d3, _ => s.pwr.power = .run && s.sec.life = .factory && s.sys.stopped

/-- DEBUG: the level changes at the drain. -/
def rowDebug (src : Src) (level lane : Nat) (s : State) : State :=
  laneRow src 0x8D (fun s =>
    match Dbg.ofCode? level, Lane.ofNat? lane with
    | none, _ => refuse s .badLen
    | some d, l =>
      if (d = .d2) ≠ l.isSome ∨ (l = none ∧ lane ≠ 0) then refuse s .badLen
      else if !debugAllowed s d l then refuse s .badState
      else
        let v := match l with
          | some k => setLane s.vot k fun b => { b with wantHalt := true }
          | none => s.vot
        (.done, { s with vot := v, sec := { s.sec with wantDbg := some (d, l) } })) s

def execDebug (src : Src) (level lane : Nat) (s : State) : Out := .next (rowDebug src level lane s)

/-- An X13 entry of the table in effect with the maintenance class. -/
def maintEntries (s : State) : List Nat :=
  (s.cmd.partners.zipIdx.filter fun p => p.1.addr != 0xFFFF && p.1.conn == 13 && p.1.classes / 4 % 2 == 1).map (·.2)

/-- A loaded maintenance key serves an X13 entry: one about to take effect counts. -/
def maintKeyed (s : State) : Bool :=
  (maintEntries s).any fun n => (s.sec.plain ++ s.sec.coming).any fun k => k.ktype == 6 && k.index == n

/-- Every key that R416 requires for SEALED in the slots selected. -/
def keysForSealed (s : State) : Bool :=
  let mode := dpxMode s.cfg
  let slot := permitKsel s.cfg
  let borders := ((s.mzp.map (·.neighbours)).getD []).all fun q => hasKey s 3 q.1 slot
  let sessions := s.cmd.partners.zipIdx.all fun p =>
    p.1.addr == 0xFFFF || !(p.1.classes % 2 == 1 || p.1.classes / 32 % 2 == 1) || hasKey s 5 p.2 (cmdKsel s.cfg)
  (mode == 2 || (keyedLanes s (laneKsel s.cfg) == 3 && hasKey s 2 0 slot)) && borders && (mode != 1 || hasKey s 4 0 0)
    && sessions && maintKeyed s

/-- The condition of a transition (R408), `none` where it is not permitted at all. -/
def lifeAllowed (s : State) (t : Life) : Bool :=
  let lapse := s.sys.stopped || s.dpx.role = .standby || s.dpx.role = .witness
  match s.sec.life, t with
  | .factory, .commission => !s.sec.imageKeys.isEmpty && maintKeyed s
  | .commission, .sealed | .maint, .sealed =>
    keysForSealed s && s.upd.unconf.isNone && !anythingStaged s && s.upd.saved
  | .sealed, .maint => true
  | .commission, .retired | .sealed, .retired | .maint, .retired => lapse
  | _, _ => false

/-- LIFECYCLE (R408). -/
def rowLifecycle (src : Src) (target serial : Nat) (s : State) : State :=
  laneRow src 0x8E (fun s =>
    match Life.ofCode? target with
    | none => refuse s .badLen
    | some t =>
      if serial ≠ s.sys.serial then refuse s .refused
      else if lifeAllowed s t then (.done, { s with sec := { s.sec with wantLife := some t } })
      else refuse s .badState) s

def execLifecycle (src : Src) (target serial : Nat) (s : State) : Out := .next (rowLifecycle src target serial s)

/-! ## Keys (R416 to R418) -/

/-- KTYPE, INDEX and SLOT within the table of R416. -/
def keyPlace (kt ix sl : Nat) : Bool :=
  sl ≤ 1 && match kt with
    | 1 => 1 ≤ ix && ix ≤ 3
    | 2 => ix == 0
    | 3 => ix ≤ 31
    | 4 => ix == 0 && sl == 0
    | 5 => ix ≤ 31
    | 6 => ix ≤ 31
    | _ => false

/-- The slot is selected for use, or the key is the wafer key of a module of a pair in service (R417). -/
def keyInUse (s : State) (kt sl : Nat) : Bool :=
  match kt with
  | 1 => sl == laneKsel s.cfg
  | 2 => sl == permitKsel s.cfg
  | 3 => sl == permitKsel s.cfg
  | 4 => s.sys.ready && (s.dpx.role = .active || s.dpx.role = .standby)
  | 5 => sl == cmdKsel s.cfg
  | _ => false

/-- KEY_LOAD, OP 1. -/
def rowKeyLoad (src : Src) (kt ix sl : Nat) (epub wrapped : Bytes) (s : State) : State :=
  gated s src 0x8F fun s =>
    if !keyPlace kt ix sl ∨ epub.length ≠ 97 ∨ wrapped.length ≠ 40 then reply s src 0x8F .badLen []
    else if keyInUse s kt sl then reply s src 0x8F .badState []
    else match unwrapKey s.sys.serial epub wrapped with
      | none => reply (raise { s with sec := { s.sec with authAt := some s.now } } .sec eAUTH_FAIL) src 0x8F .refused []
      | some k =>
        let c := bumpCounter s.sec kt ix sl
        let b : Blob := { ktype := kt, index := ix, slot := sl, ctr := keyCounter c kt ix sl, gen := c.kekGen, key := k }
        let blobs := c.blobs.filter (fun j => !(j.ktype == kt && j.index == ix && j.slot == sl)) ++ [b]
        let c1 := { c with blobs := blobs, coming := putKey c.coming { ktype := kt, index := ix, slot := sl, key := k }
                           going := c.going.filter (· != (kt, ix, sl)) }
        reply { s with sec := c1 } src 0x8F .done []

def execKeyLoad (src : Src) (ktype index slot : Nat) (epub wrapped : Bytes) (now : Nat) (s : State) : Out :=
  .next (rowKeyLoad src ktype index slot epub wrapped (later s now))

/-- KEY_LOAD, OP 2: the blob and its counter at once, the plain key at the next drain (R417, R418). -/
def rowKeyErase (src : Src) (kt ix sl : Nat) (s : State) : State :=
  gated s src 0x8F fun s =>
    if !keyPlace kt ix sl then reply s src 0x8F .badLen []
    else if keyInUse s kt sl then reply s src 0x8F .badState []
    else
      let c := bumpCounter s.sec kt ix sl
      let c1 := { c with blobs := c.blobs.filter fun j => !(j.ktype == kt && j.index == ix && j.slot == sl)
                         coming := c.coming.filter fun k => !sameKey kt ix sl k
                         going := c.going.filter (· != (kt, ix, sl)) ++ [(kt, ix, sl)] }
      reply { s with sec := c1 } src 0x8F .done []

def execKeyErase (src : Src) (ktype index slot : Nat) (s : State) : Out := .next (rowKeyErase src ktype index slot s)

/-! ## Time and restart (R291, R402, R403, R415, R422) -/

/-- TIME_SET. -/
def rowTimeSet (src : Src) (time : Nat) (s : State) : State :=
  gated s src 0x90 fun s =>
    if s.evr.lock then reply s src 0x90 .badState []
    else reply (stepTime s .set time) src 0x90 .done []

def execTimeSet (src : Src) (time now : Nat) (s : State) : Out := .next (rowTimeSet src time (later s now))

/-- RESTART, kind 1 or 2: answered before the restart begins. -/
def rowRestart (src : Src) (cold : Bool) (env : StartEnv) (s : State) : State :=
  gated s src 0x91 fun s =>
    let s1 := closeRecorder (reply s src 0x91 .done [])
    if cold then coldRestart env s1 else startUp env 2 s1

def execRestartModule (src : Src) (env : StartEnv) (now : Nat) (s : State) : Out :=
  .next (rowRestart src false env (later s now))

def execRestartCold (src : Src) (env : StartEnv) (now : Nat) (s : State) : Out :=
  .next (rowRestart src true env (later s now))

/-- The five steps after TAMPER_REARM has been answered (R415). -/
def rearmTamper (env : StartEnv) (s : State) : State :=
  let c := s.sec
  let life := if c.life = .sealed ∨ c.life = .maint then Life.commission else c.life
  let s1 := { s with sec := { c with tamper := false, blobs := c.blobs.filter (usableBlob c), life := life } }
  startUp env 2 (closeRecorder (configRecord s1))

/-- TAMPER_REARM; `closed` is how lid switch and mesh read at the moment of the request. -/
def rowTamperRearm (src : Src) (serial : Nat) (closed : Bool) (env : StartEnv) (s : State) : State :=
  gated { s with sec := { s.sec with sealBroken := !closed } } src 0x92 fun s =>
    if serial ≠ s.sys.serial then reply s src 0x92 .refused []
    else if !s.sec.tamper || s.sec.sealBroken then reply s src 0x92 .badState []
    else if (s.sec.session.map (·.kslot)) ≠ some 2 then reply s src 0x92 .notAuth []
    else rearmTamper env (reply s src 0x92 .done [])

def execTamperRearm (src : Src) (serial : Nat) (closed : Bool) (env : StartEnv) (now : Nat) (s : State) : Out :=
  .next (rowTamperRearm src serial closed env (later s now))

end Sys2Proof.Machine
end

