-- ==== Sys2Proof/Machine/Requests.lean ====
section
/-! DEFINITION. A packet's bytes as the command that they spell (R274, R286, R289 to R293, R349): what is not vital
goes to the meaning of its row, a witness packet through its code and window, and X9 payloads of CMD_IN to theirs. -/

namespace Sys2Proof.Machine

open Sys2Proof

/-- The state that a row's meaning gives. -/
def after (s : State) (o : Out) : State :=
  match o with
  | .next t => t
  | _ => s

/-! ## Packets that are not vital (R289, R291 to R293) -/

/-- LEN of an opcode that is not vital, by its payload. -/
def plainLenOk (opc : Nat) (pl : Bytes) : Bool :=
  let n := pl.length
  match opc with
  | 0x52 => n == 4
  | 0x53 => n == 4
  | 0x54 => n == 4
  | 0x55 => n == 12
  | 0x56 => n == 2
  | 0x80 => n == 2 || n == 26
  | 0x82 => n == 6
  | 0x83 => 6 ≤ n && n == 6 + 4 * fieldAt pl 4 2
  | 0x86 => n == 34
  | 0x88 => n == 2
  | 0x89 => n == 2
  | 0x8A => n == 2
  | 0x8D => n == 2
  | 0x8E => n == 10
  | 0x8F => (n == 141 && fieldAt pl 3 1 == 1) || (n == 4 && fieldAt pl 3 1 == 2)
  | 0x90 => n == 8
  | 0x91 => n == 2
  | 0x92 => n == 8
  | 0xC0 => n == 68
  | 0xC1 => 13 ≤ n && n ≤ 4108
  | 0xC2 => n == 8
  | 0xC3 => n == 4
  | 0xC4 => n == 4
  | 0xC5 => n == 4 && fieldAt pl 1 3 == 0
  | 0xC6 => n == 4
  | 0xC7 => n == 4 && fieldAt pl 1 3 == 0
  | 0xC8 => n == 36
  | 0xE0 => n ≤ 8182
  | 0xE2 => n == 6
  | _ => n == 0

/-- Words of a payload from a byte on. -/
def wordsFrom (pl : Bytes) (start n : Nat) : List Word := (List.range n).map fun k => BitVec.ofNat 32 (fieldAt pl (start + 4 * k) 4)

/-- A query or a diagnostic request (R289, R293). -/
def queryPacket (src : Src) (conn opc : Nat) (pl : Bytes) (s : State) : State :=
  let f := fieldAt pl
  match opc with
  | 0x50 => after s (execIdentity src s)
  | 0x51 => after s (execStatus src s)
  | 0x52 => after s (execObjectRead src (f 0 2) (f 2 2) s)
  | 0x53 => after s (execRouteRead src (f 0 2) (f 2 2) s)
  | 0x54 => after s (execCrumbRead src (f 0 2) (f 2 2) s)
  | 0x55 => after s (execEventRead src (f 0 8) (f 8 2) (f 10 1) s)
  | 0x56 => after s (execSubscribe src (f 0 1) s)
  | 0x57 => after s (execTimeRead src s.now s)
  | 0xE0 => after s (execEcho src pl s)
  | 0xE1 => after s (execPortCounters src conn s)
  | _ => after s (execLaneDiag src (f 0 1) (f 2 4) 0 s)

/-- A parameter outside its stated values (R282 step 10). -/
def badParam (src : Src) (opc : Nat) (s : State) : State := gated s src opc fun s => reply s src opc .badLen []

/-- A lane number of a payload. -/
def laneParam (src : Src) (opc n : Nat) (f : Lane → State → State) (s : State) : State :=
  match Lane.ofNat? n with
  | some l => f l s
  | none => badParam src opc s

/-- A maintenance request (R291). -/
def maintPacket (src : Src) (net : NetAddr) (env : StartEnv) (closed : Bool) (opc : Nat) (pl : Bytes) (s : State) : State :=
  let f := fieldAt pl
  match opc with
  | 0x80 =>
    if pl.length = 2 then rowSessionOpen src net (f 0 1) s
    else rowSessionOpenProof src net (f 0 1) (BitVec.ofNat 128 (f 2 16)) (BitVec.ofNat 64 (f 18 8)) s
  | 0x81 => rowSessionClose src s
  | 0x82 => rowRegRead src (f 0 4) (f 4 2) s
  | 0x83 => rowRegWrite src (f 0 4) (wordsFrom pl 6 (f 4 2)) s
  | 0x84 => rowCommit src s
  | 0x85 => rowStageDiscard src s
  | 0x86 => rowPartnerStage src (f 0 1) (wordsFrom pl 2 8) s
  | 0x87 => rowSettingsSave src s
  | 0x88 => laneParam src opc (f 0 1) (rowLaneOut src) s
  | 0x89 => laneParam src opc (f 0 1) (rowLaneIn src) s
  | 0x8A => rowDuoExtend src (f 0 1) s
  | 0x8B => rowLioRestart src s
  | 0x8C => rowSwitchover src s
  | 0x8D => rowDebug src (f 0 1) (f 1 1) s
  | 0x8E => rowLifecycle src (f 0 1) (f 2 8) s
  | 0x8F =>
    if f 3 1 = 1 then rowKeyLoad src (f 0 1) (f 1 1) (f 2 1) (slice pl 4 97) (slice pl 101 40) s
    else rowKeyErase src (f 0 1) (f 1 1) (f 2 1) s
  | 0x90 => rowTimeSet src (f 0 8) s
  | 0x91 => if f 0 1 = 1 ∨ f 0 1 = 2 then rowRestart src (f 0 1 == 2) env s else badParam src opc s
  | _ => rowTamperRearm src (f 0 8) closed env s

/-- An update request (R292, R370 to R386). -/
def updatePacket (src : Src) (env : StartEnv) (opc : Nat) (pl : Bytes) (s : State) : State :=
  let f := fieldAt pl
  match opc with
  | 0xC0 => rowUpdBegin src (f 0 1) (f 1 1) (slice pl 4 64) s
  | 0xC1 => rowUpdBlock src (f 0 4) (f 4 4) (pl.drop 12) (f 8 4) s
  | 0xC2 => rowUpdBitmap src (f 0 4) (f 4 4) s
  | 0xC3 => rowUpdVerify src (f 0 4) s
  | 0xC4 => rowUpdActivate src (f 0 1) (f 1 1) (f 2 2) s
  | 0xC5 => rowUpdConfirm src (f 0 1) s
  | 0xC6 => rowUpdAbort src (f 0 4) s
  | 0xC7 => rowUpdFallback src (f 0 1) env s
  | _ => rowOcfDistribute src (f 0 4) (BitVec.ofNat 256 (f 4 32)) s

/-- Steps 8 to 10 of R282 for a packet that is not vital, and its row; `closed` and `env` are what a TAMPER_REARM and a
restart find. -/
def plainPacket (src : Src) (net : NetAddr) (env : StartEnv) (closed : Bool) (p : Pkt) (s : State) : State :=
  let opc := p.opc
  let bad := fun (st : Status) => gated s src opc fun s => reply s src opc st []
  if p.safety ≠ 0 then gated s src opc fun s =>
    let t := countVital s .badSafety
    if t.cmd.badSafety.contains src.entry then countOther t
    else reply { t with cmd := { t.cmd with badSafety := src.entry :: t.cmd.badSafety } } src opc .badSafety []
  else if !plainLenOk opc p.payload then bad .badLen
  else match classOf opc with
    | .query => queryPacket src net.conn opc p.payload s
    | .diag => queryPacket src net.conn opc p.payload s
    | .maint => maintPacket src net env closed opc p.payload s
    | .update => updatePacket src env opc p.payload s
    | _ => s

/-! ## Witness packets (R348, R349) -/

/-- LEN of a witness opcode with its prefix. -/
def witnessLen (opc : Nat) : Nat :=
  match opc with
  | 0x48 => 24
  | 0x49 => 26
  | 0x4A => 16
  | _ => 28

/-- A witness packet whose code and window pass (R349). -/
def witnessTake (s : State) (entry : Nat) (p : Pkt) : State :=
  let f := fieldAt p.payload
  match p.opc with
  | 0x48 =>
    let r : GrantReqIn := { src := srcOf entry p, unit := entryKind s entry, fref := f 0 6, beat := f 8 6, reason := f 14 1
                            miss := f 15 1, wframe := f 16 6 }
    after s (execGrantRequest r s.now s)
  | 0x49 =>
    after s (execGrant { fref := f 0 6, beat := f 8 6, unit := f 14 1, gepoch := f 16 4, wframe := f 20 6 } s.now s)
  | 0x4A => if beatFresh s (f 0 6) then after s (execGrantRefuse (f 14 1) s.now (noteBeat s entry (f 8 6))) else s
  | _ =>
    let w : WitIn := { entry := entry, fref := f 0 6, beat := f 8 6, role := f 14 1, flags := f 15 1, wframe := f 16 6
                       miss := f 22 1, hl := f 23 1, gepoch := f 24 4, kind := entryKind s entry }
    after s (execWitnessStatus w s.now s)

/-- Safety code and window of a witness packet: its BEAT is the sender's counter of the extended sequence (R277, R278,
R348). One that fails is discarded and counted. -/
def witnessPacket (s : State) (entry : Nat) (p : Pkt) : State :=
  let pl := p.payload
  let slot := fieldAt pl 6 1
  let beat := fieldAt pl 8 6
  let addr := (tableEntry s entry).addr
  if pl.length < 8 then s
  else match (if slot ≤ 1 then plainKey? s 5 entry slot else none) with
    | none => countVital s .badSafety
    | some k =>
      let num := beat * 64 + p.seq % 64
      if safetyOf k p ≠ p.safety then countVital s .badSafety
      else if p.seq / 64 != beat % 2 ^ 26 || !winPasses false (winOf? s.core addr slot) num then countVital s .stale
      else
        let s1 := hearFrom (updInter s (markSeq false addr slot num)) entry
        if pl.length = witnessLen p.opc then countOk (witnessTake s1 entry p) else s1

/-! ## X9 payloads (R312, R346) -/

/-- An acknowledgement or a heartbeat as CMD_IN carries it, its CRC checked. -/
def peerPayload (s : State) (data : Bytes) : State :=
  match unCrc? data with
  | none => s
  | some b =>
    let frame := fieldAt b 2 6
    match fieldAt b 0 1 with
    | 2 => if fieldAt b 1 1 = 1 - ownKind s.cfg then rowAck frame (BitVec.ofNat 64 (fieldAt b 16 8)) s else s
    | 3 =>
      let fl := fieldAt b 18 1
      rowHeartbeat { unit := fieldAt b 1 1, wframe := frame, msw := fieldAt b 16 2, ready := fl % 2 == 1
                     granted := fl / 2 % 2 == 1, crcOk := true } s
    | _ => s

/-! ## CMD_IN (R286, R308, R445) -/

/-- The partner entry of a connector that a packet's SRC names; the sender of a session opened without an entry is one
(R387, R409, R410). -/
def entryOf? (s : State) (conn addr : Nat) : Option Nat :=
  let fits := fun (q : Partner) => q.addr == addr && q.conn == conn && addr != 0xFFFF
  match (List.range 32).find? fun n => fits (tableEntry s n) with
  | some n => some n
  | none => match s.sec.guest with
    | some (k, q) => if fits q then some k else none
    | none => none

/-- A packet whose entry has gone is answered NOT_AUTH, to where it came from (R445); its SEQ, a count of the partner that
has gone, is a free value (log entry 7). -/
def goneReply (s : State) (i : QItem) (p : Pkt) : State :=
  let pay := replyPayload p.opc .notAuth 0 (msw s) s.core.counter []
  let (w, s) := takeFree s
  let out : Pkt := { ver := p.ver, opc := p.opc, tag := p.tag, seq := w.toNat, src := ownAddr s.cfg, dst := p.src, safety := 0
                     payload := pay }
  let mine := fun (q : Pending) => q.seq == p.seq && q.tag == p.tag && q.safety == p.safety && q.ip == i.ip && q.udpp == i.udpp
  let s := match s.work with
    | some x => { s with work := some (addRec x (takenRec (srcOf 0 p) p.opc .notAuth)) }
    | none => tellTaken s (srcOf 0 p) p.opc .notAuth
  { s with cmd := { s.cmd with pend := s.cmd.pend.filter fun q => !mine q }
           sent := s.sent ++ [.packet { conn := i.conn, ip := i.ip, udpp := i.udpp, data := pktBytes out }] }

/-- A packet of CMD_IN that is not a vital control request. -/
def otherItem (s : State) (i : QItem) (p : Pkt) : State :=
  match entryOf? s i.conn p.src with
  | none => goneReply s i p
  | some n =>
    let q := partnerAt s n
    match classOf p.opc with
    | .witness => witnessPacket s n p
    | .vital => s
    | .undefined => s
    | _ => plainPacket (srcOf n p) { conn := i.conn, ip := q.ip, udpp := q.udpp } {} true p s

end Sys2Proof.Machine
end

