-- ==== Sys2Proof/Machine/Frame.lean ====
section
/-! DEFINITION. The frame (R24, R29, R44 to R62, R144, R145, R159 to R177): tick, INPUT to PROVE, publication, vote,
EMIT, COMMIT, drain and release point, and what limits a frame and its lanes. -/

namespace Sys2Proof.Machine

open Sys2Proof

/-! ## The tick (R44, R54, R61) -/

/-- A measured interval deviates by more than 2 % (R61). -/
def deviates (expect m : Nat) : Bool := expect < 50 * (max m expect - min m expect)

/-- TIMEBASE (R61): a deviation from T and the lateness of the frame just ended, seen by two lanes; each lane measures,
whatever its state. -/
def checkTimebase (env : TickEnv) (s : State) : State :=
  if !s.frm.ended || s.dpx.gapDue then s
  else setLive s .frm fTIMEBASE (2 ≤ ([env.m1, env.m2, env.m3].filter (deviates (s.frm.T + s.frm.late))).length)

/-! ## Praline's instances (R144, R145) -/

/-- An instance in RESEED counts the frames in which its results equal the two others' (R145). -/
def countEqual (bad : List Inst) (s : State) (i : Inst) : State :=
  let differs := bad.contains i || copyDiffers s.core.crumbs (instOf s.prl i)
  if (instOf s.prl i).state = .reseed then
    { s with prl := setInst s.prl i fun b => { b with equal := if differs then 0 else b.equal + 1 } }
  else s

/-- The instances' results of the frame, by the majority of those IN. -/
def compareInsts (bad : List Inst) (s : State) : State :=
  instSource (Inst.all.foldl (countEqual bad) (voteInsts bad s))

/-! ## INPUT (R286, R308) -/

/-- What INPUT has taken: packets, ROUTE_SETs, and the items to consume; `full` once taking has stopped. -/
structure Intake where
  count : Nat := 0
  sets : Nat := 0
  taken : List Nat := []
  full : Bool := false
  deriving DecidableEq, Repr

/-- A change of the state that the frame proposes. -/
def onWork (s : State) (f : Inter → Inter) : State := { s with work := s.work.map f }

/-- A request of the inbox or of CMD_IN is taken: a boundary state is an input of the frame (R94, R288), what is asked for
waits for the mapped inputs in queue order (R85, R286). -/
def takeReq (s : State) (r : VReq) : State :=
  match s.mzp, r with
  | some st, .boundary _ _ _ => onWork s fun x => takeVital st (prtOf s) (betweenFrames s) x r
  | _, _ => onWork s fun x => { x with todo := x.todo ++ [r] }

/-- The limits of INPUT: 32 packets, and taking stops at the ninth ROUTE_SET (R286). -/
def intakeStops (k : Intake) (set : Bool) : Bool := k.full || 32 ≤ k.count || (set && 8 ≤ k.sets)

def countTaken (k : Intake) (set : Bool) (item : Option Nat) : Intake :=
  { k with count := k.count + 1, sets := if set then k.sets + 1 else k.sets, taken := k.taken ++ item.toList }

/-- One request that came while the frame before was in progress. -/
def takeInbox (p : State × Intake) (r : VReq) : State × Intake :=
  let (s, k) := p
  if intakeStops k (isRouteSet r) then
    ({ s with cmd := { s.cmd with inbox := s.cmd.inbox ++ [r] } }, { k with full := true })
  else (takeReq s r, countTaken k (isRouteSet r) none)

/-- A vital packet of CMD_IN: steps 14 to 17 of R282. DESIGN CHOICE (log entry 126): a BOUNDARY_STATE whose N or OBJ is wrong
is counted in `CMD_RXERR`.OTHER, since no count is named for it (R288). -/
def vitalItem (s : State) (i : QItem) (p : Pkt) : State :=
  match entryOf? s i.conn p.src, s.work with
  | some n, some x =>
    let (c, y) := checkVital s n p x
    let s1 := { s with work := some y }
    match c with
    | .fail st => takeReq (countVital s1 st) (.answered (srcOf n p) p.opc st)
    | .drop st => if st = .badLen ∨ st = .badState then countOther s1 else countVital s1 st
    | .take r =>
      let s2 := takeReq (hearFrom s1 n) r
      if p.opc = 0x40 then countOk s2 else s2
  | none, _ => goneReply s i p
  | _, none => s

/-- One item of the command set; X9 payloads do not count (R286, R312). -/
def takeItem (p : State × Intake) (i : QItem) : State × Intake :=
  let (s, k) := p
  let pkt := pktOf i.data
  let set := pkt.opc == 0x10
  if i.conn = 9 then
    if k.full then p else (peerPayload s i.data, { k with taken := k.taken ++ [i.iseq] })
  else if intakeStops k set then (s, { k with full := true })
  else if classOf pkt.opc = .vital then (vitalItem s i pkt, countTaken k set (some i.iseq))
  else (otherItem s i pkt, countTaken k set (some i.iseq))

/-- INPUT: the command set is frozen, and taken after what came before it. -/
def takeInputs (s : State) : State :=
  let s := touchQueue s 0
  let frozen := s.xbr.q0.items.take 32
  let asks := (s.work.map (·.asks)).getD []
  let k0 : Intake := { count := asks.length, sets := (asks.filter (·.opc == 0x10)).length }
  let s0 := { s with cmd := { s.cmd with inbox := [] }, xbr := { s.xbr with cmdSet := frozen } }
  let (s1, k1) := s.cmd.inbox.foldl takeInbox (s0, k0)
  let (s2, k2) := frozen.foldl takeItem (s1, k1)
  { s2 with xbr := { s2.xbr with taken := k2.taken } }

/-! ## Praline's part of PROVE that is not a permit (R152) -/

/-- Whether the pair of a guard has been quiet for its time. -/
def guardQuiet (s : State) (d : GuardDef) (g : GuardBlk) : Bool :=
  match g.lastAt with
  | some t => decide (t + 1000000 * d.quiet ≤ s.now)
  | none => true

/-- Acknowledged guards are re-armed after their quiet time; GUARD_TRIP is live while a guard is TRIPPED. -/
def rearmGuards (s : State) : State :=
  let acks := (s.work.map (·.acks)).getD []
  let one := fun (s : State) (n : Nat) =>
    match (s.prt.map (·.guards)).bind (fun ds => ds[n]?), s.prl.guards[n]? with
    | some d, some g =>
      if g.tripped && guardQuiet s d g then
        frameRec { s with prl := { s.prl with guards := s.prl.guards.set n { g with tripped := false } } } 0x06 0
          (be 2 n ++ be 1 4 ++ be 1 0)
      else s
    | _, _ => s
  let s1 := armGuards (acks.foldl one s)
  setLive s1 .prl pGUARD_TRIP (s1.prl.guards.any (·.tripped))

/-! ## FRAME_TICK -/

/-- EVALUATE and PROVE of a frame whose INPUT has been taken. The words of the committed area as PROVE leaves them are what
the lanes publish from; the records and replies of the frame are not among them (R50, R161). -/
def computeFrame (env : TickEnv) (st : Station) (fin : FrameIn) (s : State) : State :=
  let s1 := setLive { s with frm := { s.frm with phase := .prove } } .prl pREQ_SINGLE (!env.single.isEmpty)
  let s2 := onWork s1 fun x => evalAndProve st (prtOf s1) fin s1.prl.fenced env.single s1.core x
  let s3 := rearmGuards s2
  { s3 with frm := { s3.frm with area := (s3.work.map (codedArea st)).getD [], areaWas := s.frm.area } }

/-- Step 15 of the start-up: the first frame runs (R420). -/
def firstFrame (s : State) : State :=
  if s.sys.step = 10 then { s with sys := { s.sys with step := 15 } } else s

/-- The tick of a frame: inputs frozen, the lanes' items of the frame before gone (R54, R70). -/
def openFrame (env : TickEnv) (s : State) : State :=
  let s1 := freezeInputs s
  if s1.sys.stopped then s1
  else firstFrame { s1 with
    frm := { s1.frm with
      tick := s1.now, T := periodUs s1.cfg, ext := extUs s1.cfg, cnt := fieldOf s1.cfg.frmOvr 8 2, phase := .input
      inEnd := s1.now + env.inUs, evalEnd := s1.now + env.inUs + env.evalUs
      voted := false, released := false, started := true, nextTick := some s1.now }
    vot := allLanes s1.vot fun b => { b with pub := none }
    evr := { s1.evr with tickAt := s1.now } }

/-- A frame from its tick to the end of PROVE: INPUT first, then the error task and the rest of EVALUATE on what it took
(R29, R85). Its timers count from the tick before it (R88). -/
def runFrame (env : TickEnv) (s : State) : State :=
  let s0 := duoStart (compareInsts env.outInst (checkTimebase env s))
  match s0.mzp with
  | none => s0
  | some st =>
    if s0.sys.stopped then s0
    else
      let s1 := openFrame env s0
      let fin := { frameInputs s1 st with elapsed := sinceTick s0 }
      if s1.sys.stopped then s1 else
      let s2 := takeInputs { startWork s1 with dpx := { s1.dpx with gapDue := false } }
      if s2.sys.stopped then s2 else computeFrame env st fin s2

/-- A module whose lanes run no frames takes CMD_IN and drains at the tick of its timebase (R315, R445). -/
def idleTick (s : State) : State :=
  let take := fun (s : State) (i : QItem) =>
    let p := pktOf i.data
    if i.conn = 9 then peerPayload s i.data
    else if classOf p.opc = .vital then dropPend s { entry := (entryOf? s i.conn p.src).getD 0, tag := p.tag, seq := p.seq, opc := p.opc, status := .badState }
    else otherItem s i p
  let s := touchQueue s 0
  let items := s.xbr.q0.items
  let s1 := items.foldl take { s with xbr := setQueue s.xbr 0 (consume fun _ => true) }
  writeImage (serviceDrain (idleTest (drainCommit (freezeLocal s1))))

/-! ## The release point (R55, R288, R359) -/

/-- The grant is given up at a handover: the module holds its own wafer as a STANDBY module holds one (R352, R359). -/
def handOver (s : State) : State :=
  if !s.dpx.handDue then s
  else
    let s1 := relinquish s
    let d := { s1.dpx with handDue := false, formerActive := true, held := s1.dpx.formed, heldAt := s1.dpx.formedAt, miss := 0 }
    sendStatus { s1 with dpx := d, frm := { s1.frm with nextTick := none } }

/-- The back buffers become current, and the packets of the frame leave. -/
def releaseFrame (s : State) : State :=
  let s1 := updVital (sendFrame s) fun v => { v with current := if v.back.isSome then v.back else v.current, back := none }
  handOver { s1 with
    frn0 := releaseCluster s1.frn0, frn1 := releaseCluster s1.frn1
    frm := { s1.frm with voted := false, released := true }
    dpx := { s1.dpx with lastRelease := s1.now } }

/-- The release point is 0.75 T after the tick, T being the frame's own, or the completion of EMIT if that is later
(R47, R55). -/
def releaseAt (s : State) : Nat := max (s.frm.tick + s.frm.T * 75 / 100) s.frm.emitEnd

/-- Whether a frame waits for its release. -/
def releasable (s : State) : Bool := s.frm.voted && !s.frm.released && !s.sys.stopped

/-- RELEASE_POINT. -/
def execReleasePoint (now : Nat) (s : State) : Out :=
  let s := later s now
  if releasable s && releaseAt s ≤ s.now then .next (releaseFrame s) else .next s

/-- Bits of one copy of a queue pointer change without a write (R311). -/
def upsetPtr (s : State) (e : PtrUpset) : State :=
  let hit := fun (p : QPtr) => if e.second then { p with copy := p.copy ^^^ e.bits } else { p with ptr := p.ptr ^^^ e.bits }
  { s with xbr := setQueue s.xbr e.queue fun u => if e.read then { u with rd := hit u.rd } else { u with wr := hit u.wr } }

/-- FRAME_TICK: the next frame where the module runs frames and its tick has come; a release that its tick finds still to
be made is made first. Otherwise the tick of a timebase whose lanes run no frames. -/
def execFrameTick (now : Nat) (env : TickEnv) (s : State) : Out :=
  let s := env.ptrUpsets.foldl upsetPtr (later s now)
  if framesRun s then
    match s.frm.nextTick with
    | some t => if t ≤ s.now ∧ s.work.isNone then .next (runFrame env (if releasable s then releaseFrame s else s)) else .next s
    | none => .next s
  else if s.sys.ready && (s.dpx.role = .standby || s.dpx.role = .witness) then .next (idleTick s)
  else .next s

/-! ## Publication (R50, R158 to R161) -/

/-- The commanded state of every object, for a section its RESTORE word (R160 part 1). -/
def outObjs (x : Inter) : List (Nat × Nat) := x.objs.map fun o => (o.idx, if o.ty = .track then bit o.restore else o.cmd)

/-- The output vector in its parts, from the commanded states and what the frame formed (R160). -/
def formVec (st : Station) (x : Inter) (objs : List (Nat × Nat)) (trips : List Bool) : OutVec :=
  let y := answerAll x
  let named := fun (ds : List ObjDesc) => ds.filterMap fun d => (objs.lookup d.idx).map fun c => (d.idx, c)
  { objs := objs, locals := named ((localObjs st).map (·.1)), trips := trips, requests := x.requests
    offers := named (st.objects.filter (·.ty = .boundary)), replies := y.replies, recs := y.recs }

/-- A lane's own vector: what it computed otherwise than the others (R24). -/
def laneVec (st : Station) (x : Inter) (d : VecDev) (decoded : List (Nat × Option Int)) : OutVec :=
  let own := fun (p : Nat × Nat) =>
    let read := ((decoded.lookup p.1).join.map Int.toNat).getD p.2
    (p.1, (d.objs.lookup p.1).getD read)
  let trips := x.tripCmd.zipIdx.map fun t => (d.trips.lookup t.2).getD t.1
  let v := formVec st x ((outObjs x).map own) trips
  { v with requests := d.requests.getD v.requests, replies := d.replies.getD v.replies, recs := d.recs.getD v.recs }

/-- A lane's three items, from the words that it holds (R157 to R161): what it decodes of them is its output, their residues
make its signature, and its hash is kept over its writes. A signature that is not the expected one, or an output that does
not decode, sets SIGF. -/
def pubOf (s : State) (x : Inter) (b : LaneBlk) (dev : PubDev) : Pub :=
  let st := stationOf s
  let ws := laneWords s.frm.area (b.upsets ++ dev.words)
  let decoded := outputsDecoded st x.counter ws
  let sig := laneSigOf st x.counter ws ^^^ dev.sig
  { pubAt := s.now, ov := laneVec st x dev.ov decoded, sig := sig
    hash := laneHash s.frm.areaWas s.frm.area b.upsets dev.words ^^^ dev.hash
    sigf := dev.sigf || sig != expectedSig st x.counter || decoded.any (·.2.isNone) }

/-- LANE_PUBLISH: a VOTING lane, or one in RESYNC for its shadow frame, publishes once in a frame. -/
def execLanePublish (lane : Lane) (now : Nat) (dev : PubDev) (s : State) : Out :=
  let s := later s now
  let b := laneOf s.vot lane
  match s.work with
  | none => .next s
  | some x =>
    if s.frm.voted ∨ b.pub.isSome ∨ (b.state ≠ .voting ∧ b.state ≠ .resync) then .next s
    else
      let p := pubOf s x b dev
      let s1 := { s with vot := setLane s.vot lane fun b => { b with pub := some p, upsets := dev.words ++ b.upsets } }
      .next (if p.sigf then raiseAt s1 .vot vSIG_FAIL (some lane) else s1)

/-! ## The vote instant -/

/-- A permissive state without Praline's permit of the frame in the output vector (R143). -/
def unpermitted (x : Inter) : Bool :=
  x.objs.any (fun o => !isRestrictive o.ty o.cmd && !permitted x o)
    || x.tripCmd.zipIdx.any fun t => t.1 && !x.permits.any fun q => q.kind == 5 && q.chan == t.2

/-- The output vector that the pair agreed on, as the frame's commanded states (R160). -/
def applyVec (v : OutVec) (x : Inter) : Inter :=
  let set := fun (o : ObjInst) => match v.objs.lookup o.idx with
    | some c => if o.ty = .track then { o with restore := c != 0 } else { o with cmd := c }
    | none => o
  { x with objs := x.objs.map set, tripCmd := v.trips }

/-- Praline's comparison at EMIT (R138): an entry of the permit list whose object the vector commands restrictive is
removed. -/
def dropRestrictive (x : Inter) : Inter :=
  let stands := fun (q : Permit) =>
    if q.kind == 5 then (x.tripCmd[q.chan]?).getD false
    else ((objOf? x q.obj).map fun o => !isRestrictive o.ty o.cmd).getD true
  { x with permits := x.permits.filter stands }

/-- A Praline that has been fenced since the frame's PROVE takes the permissive states of the same frame back (R146). -/
def fencedVector (fenced : Bool) (x : Inter) : Inter :=
  if fenced then
    { x with permits := []
             objs := x.objs.map fun o => if isRestrictive o.ty o.cmd then o else { o with cmd := restrictiveCmd o.ty }
             tripCmd := x.tripCmd.map fun _ => false }
  else x

/-- The vector that the signing pair agrees on. -/
def votedVec (s : State) (a : Lane) (x : Inter) : OutVec :=
  match (laneOf s.vot a).pub with
  | some p => p.ov
  | none => formVec (stationOf s) x (outObjs x) x.tripCmd

/-- EMIT is late beyond tolerance (R57, R59). -/
def emitLate (s : State) : Bool := s.frm.tick + s.frm.T * 75 / 100 + s.frm.ext < s.frm.emitEnd

/-- The drain, with the release point of the frame ahead of a stop that comes after that moment: a stop by the drain's work
comes when the drain runs, from the completion of COMMIT on, and one by the frame's lateness at a moment after the release
point, since an EMIT late beyond tolerance has been judged before (R59, R338). -/
def drainAround (d : DrainEnv) (s : State) : State :=
  let out := fun (s : State) => if releasable s && releaseAt s ≤ s.frm.commitEnd then releaseFrame s else s
  let t := drainWork d s
  if t.sys.stopped && !s.sys.stopped then finishDrain d (drainWork d (out s))
  else
    let u := finishDrain d t
    if u.sys.stopped && !t.sys.stopped && releasable t then finishDrain d (releaseFrame t) else u

/-- EMIT, COMMIT and drain of a frame whose vote stands. Phases run back to back from the tick, so EMIT completes when the
first five have passed (R47). -/
def endVoted (d : DrainEnv) (st : Station) (x : Inter) (v : OutVec) (a b : Lane) (s : State) : State :=
  let done := max s.now (s.frm.tick + (d.durations.take 5).sum)
  if unpermitted x then raise s .prl pPERMIT_DISAGREE
  else
    let y := dropRestrictive x
    let out := emit s st y a b
    let s1 := out.getD s
    let s2 := { s1 with frm := { s1.frm with emitEnd := done, commitEnd := done + (d.durations[5]?).getD 0, voted := out.isSome } }
    let s3 := if emitLate s2 then raise { s2 with frm := { s2.frm with beyond := true } } .frm fOVERRUN else s2
    if s3.sys.stopped then s3 else drainAround d (commitFrame s3 y v out.isSome)

/-- VOTE_INSTANT (R50, R163). -/
def execVoteInstant (now : Nat) (env : VoteEnv) (d : DrainEnv) (s : State) : Out :=
  let s := later s now
  match s.work with
  | none => .next s
  | some x =>
    if s.sys.stopped ∨ !voteDue s then .next s
    else
      match vote { s with frm := { s.frm with phase := .vote } } env x.counter with
      | (s1, none) => .next (noMajority { s1 with vot := { s1.vot with signA := 0, signB := 0 } })
      | (s1, some (a, b)) =>
        let v := votedVec s a x
        if s1.sys.stopped then .next s1
        else .next (endVoted d (stationOf s1) (fencedVector s1.prl.fenced (applyVec v x)) v a b s1)

/-! ## Limits of a frame (R57 to R60) -/

/-- OVERRUN: the frame in progress is later than EXT tolerates, at its drain or at its EMIT. -/
def execOverrun (now : Nat) (s : State) : Out :=
  let s := later s now
  if s.work.isSome && framesRun s && s.frm.tick + s.frm.T * 75 / 100 + s.frm.ext < s.now then
    .next (raise { s with frm := { s.frm with beyond := true } } .frm fOVERRUN)
  else .next s

/-- WATCHDOG (R60): the frame has not ended two periods after its tick; one whose vote has been taken ends when its drain
completes. -/
def execWatchdog (now : Nat) (s : State) : Out :=
  let s := later s now
  let going := s.work.isSome || (s.frm.ended && decide (s.now < s.frm.drainEnd))
  if going && framesRun s && s.frm.tick + 2 * s.frm.T ≤ s.now then .next (raise s .frm fWATCHDOG) else .next s

/-! ## Lanes (R169, R172 to R175, R184) -/

/-- SHADOW_FRAMES_MATCHED (R169): VOTING from the next frame on. -/
def execShadowFramesMatched (lane : Lane) (s : State) : Out :=
  let b := laneOf s.vot lane
  if b.state = .resync ∧ 3 ≤ b.shadow then
    let s1 := laneTo s lane .voting
    .next { s1 with vot := setLane s1.vot lane fun b => { b with tries := 0, why := .none, debugged := false } }
  else .next s

/-- INSTANCE_IN (R145): after three frames equal to the others. -/
def execInstanceIn (inst : Inst) (s : State) : Out :=
  let b := instOf s.prl inst
  if b.state = .reseed ∧ 3 ≤ b.equal then
    let s1 := countDuo s
    .next (instSource (countDuo { s1 with prl := setInst s1.prl inst fun b => { b with state := .isIn, equal := 0 } }))
  else .next s

/-- PRALINE_DUO_LIMIT (R145): the time with two instances IN has reached the limit. -/
def execPralineDuoLimit (now : Nat) (s : State) : Out :=
  let s := countDuo (later s now)
  if 3600000000 * fieldOf s.cfg.prlCtl 0 8 ≤ s.prl.duoUs then .next (raise s .prl pDUO_LIMIT) else .next s

/-- DUO_LIMIT (R175): the action by role. -/
def execDuoLimit (now : Nat) (s : State) : Out :=
  let s := later s now
  match s.vot.duoSince with
  | none => .next s
  | some t =>
    if s.now < t + duoLimitUs s ∨ s.vot.limitAt.isSome ∨ !framesRun s then .next s
    else
      let s1 := raise { s with vot := { s.vot with limitAt := some s.now } } .vot vDUO_LIMIT
      if s1.dpx.role = .active ∧ s1.dpx.peerReady then .next { s1 with dpx := { s1.dpx with wanted := true } }
      else .next { s1 with vot := { s1.vot with stopAtDrain := true } }

/-- DUO_SWITCHOVER_TIMEOUT (R175): the switchover has not been completed 60 min after the limit. -/
def execDuoSwitchoverTimeout (now : Nat) (s : State) : Out :=
  let s := later s now
  match s.vot.limitAt with
  | none => .next s
  | some t =>
    if s.now < t + 3600000000 ∨ s.dpx.role ≠ .active ∨ !framesRun s then .next s
    else .next { s with vot := { s.vot with stopAtDrain := true } }

/-- LANE_FAULT (R184, R326): a lane's own hardware fault comes or goes; another lane's keeps the source live. What else
keeps a lane out of the vote still does (R178). -/
def execLaneFault (lane : Lane) (present : Bool) (now : Nat) (s : State) : Out :=
  let s := later s now
  let s1 := { s with vot := setLane s.vot lane fun b => { b with
    hwFault := present, why := if present ∧ b.why = .none then .fault else b.why } }
  if present then .next (laneFence (raiseAt s1 .vot vLANE_FAULT (some lane)) lane)
  else if Lane.all.any fun l => (laneOf s1.vot l).hwFault then .next s1
  else .next (lower s1 .vot vLANE_FAULT)

/-- One instance at the table scrub (R147): a failing page makes it OUT, also while it is re-seeded, and is what the next
re-seed checks (R145). -/
def scrubTable (bad : List Inst) (s : State) (i : Inst) : State :=
  let s1 := { s with prl := setInst s.prl i fun b => { b with tableBad := bad.contains i } }
  if bad.contains i && ((instOf s1.prl i).state = .isIn || (instOf s1.prl i).state = .reseed) then instOut s1 i else s1

/-- TABLE_SCRUB. -/
def execTableScrub (bad : List Inst) (now : Nat) (s : State) : Out :=
  .next (instSource (Inst.all.foldl (scrubTable bad) (later s now)))

end Sys2Proof.Machine
end

