-- ==== Sys2Proof/Machine/Interlock.lean ====
section
/-! DEFINITION. What the interlocking's own clocks bring (R88, R91, R96, R113, R114, R116, R118, R443). A timer counts from
tick to tick (R88) and FRAME_TICK counts it; the commands here are the same happenings on their own: each takes
effect between two frames, when the next tick has come, where the time since the last tick covers what is left. -/

namespace Sys2Proof.Machine

open Sys2Proof

/-- What the frame whose tick has come counts with (R88, R89). -/
def dueFrame (s : State) : FrameIn :=
  { betweenFrames s with
    tick := s.now
    elapsed := sinceTick s
    takeover := if s.dpx.gapDue then some (s.now - s.dpx.gapFrom) else none }

/-- A change of the committed state at a tick that has come, before its frame. -/
def atTick (s : State) (f : Station → Prt → FrameIn → Inter → Inter) : State :=
  match s.mzp, s.work, s.frm.nextTick with
  | some st, none, some t => if framesRun s && t ≤ s.now then { s with core := f st (prtOf s) (dueFrame s) s.core } else s
  | _, _, _ => s

/-- Whether a running timer's remaining time is covered (R88). -/
def runsOut (fin : FrameIn) (t : TimerInst) : Bool := t.run && t.remain != 0 && t.remain ≤ countMs fin t.kind

/-- REMAIN 0 and Q 1 (R88). -/
def timerDone (x : Inter) (n : Nat) : Inter := setTimer x n fun t => { t with remain := 0, q := true }

/-- An object's WATCH timer expires (R443). -/
def objTimerEnds (fin : FrameIn) (ty : ObjTy) (i n : Nat) (x : Inter) : Inter :=
  match objOf? x i, timerOf? x n with
  | some o, some t => if o.ty = ty && runsOut fin t && objTimerRun o then objTimerExpired (timerDone x n) i else x
  | _, _ => x

/-- TIMER_EXPIRY (R88). -/
def timerEnds (st : Station) (fin : FrameIn) (n : Nat) (x : Inter) : Inter :=
  match st.objects.find? fun d => d.timer == some n with
  | some d => objTimerEnds fin d.ty d.idx n x
  | none => match timerOf? x n with
    | some t => if runsOut fin t then timerDone x n else x
    | none => x

/-- TIMER_EXPIRY. -/
def execTimerExpiry (num now : Nat) (s : State) : Out :=
  .next (atTick (later s now) fun st _ fin x => timerEnds st fin num x)

/-- The timer that an object's block runs, by the object's type. -/
def watchEnds (ty : ObjTy) (i : Nat) (st : Station) (fin : FrameIn) (x : Inter) : Inter :=
  match (stObj? st i).bind (·.timer) with
  | some n => objTimerEnds fin ty i n x
  | none => x

/-- MOVE_TIMER_EXPIRY (R443): FAILS advances, and the drive is not withdrawn. -/
def execMoveTimerExpiry (obj now : Nat) (s : State) : Out :=
  .next (atTick (later s now) fun st _ fin x => watchEnds .point obj st fin x)

/-- CLOSE_TIMER_EXPIRY (R443): the group stays commanded CLOSE. -/
def execCloseTimerExpiry (obj now : Nat) (s : State) : Out :=
  .next (atTick (later s now) fun st _ fin x => watchEnds .crossing obj st fin x)

/-- The last frame of a settle period is over, in the lanes' reading and in Praline's own (R96). -/
def settleEnds (i : Nat) (x : Inter) : Inter :=
  let x1 := setObj x i fun o => if o.settle = 1 then { o with settle := 0 } else o
  { x1 with prlObjs := updFirst (fun q => q.idx == i) (fun q => if q.settle = 1 then { q with settle := 0 } else q) x1.prlObjs }

/-- SETTLE_PERIOD_END (R96). -/
def execSettlePeriodEnd (obj now : Nat) (s : State) : Out := .next (atTick (later s now) fun _ _ _ x => settleEnds obj x)

/-- A boundary object is invalid: substituted, with its record (R91, R92, R94). -/
def boundaryEnds (st : Station) (p : Prt) (i : Nat) (x : Inter) : Inter :=
  match objOf? x i with
  | none => x
  | some o =>
    if o.ty ≠ .boundary then x
    else
      let x1 := if o.valid && !withinBage st x o then
          let dead := fun (o : ObjInst) =>
            { o with valid := false, settle := 0, rep := substituteRep .boundary, border := bdOccupied
                     faultCnt := satAdd 65535 1 o.faultCnt }
          addRec (setObj x i dead) (objRec i 2 6)
        else x
      let old := fun (q : PrlObj) => !x.freshTag.contains i && p.bage < satAdd 255 1 q.age
      let dead := fun (q : PrlObj) => if old q then { q with valid := false, settle := 0, rep := substituteRep .boundary } else q
      { x1 with prlObjs := updFirst (fun q => q.idx == i) dead x1.prlObjs }

/-- BOUNDARY_AGE_LIMIT (R91). -/
def execBoundaryAgeLimit (obj now : Nat) (s : State) : Out := .next (atTick (later s now) fun st p _ x => boundaryEnds st p obj x)

/-! ## Routes -/

/-- How the claim of a route's request fails at last in the frame whose tick has come: in that frame's own claims, after
its inputs and its releases (R111, R113). -/
def failsAtLast (route : Nat) (s : State) : Option ClaimRes :=
  let e := s.frm.T + s.frm.late
  match (runFrame { m1 := e, m2 := e, m3 := e } s).work with
  | none => none
  | some y =>
    if ((txnOfRoute? y route).map fun t => decide (t.state = .refused)).getD false then
      some (if y.shorts.contains route then .short else .conflict)
    else none

/-- The wait limit has passed and the claim fails still (R113). -/
def waitEnds (st : Station) (fin : FrameIn) (route : Nat) (last : Option ClaimRes) (x : Inter) : Inter :=
  match txnOfRoute? x route, last with
  | some t, some r => if t.state = .requested ∧ !t.byCancel then applyResult st fin x (t.slot, r) else x
  | _, _ => x

/-- WAIT_LIMIT_EXPIRY (R113). -/
def execWaitLimitExpiry (route now : Nat) (s : State) : Out :=
  let s := later s now
  .next (atTick s fun st _ fin x => waitEnds st fin route (failsAtLast route s) x)

/-- The release that the end of a timing calls for, where Praline proves it; a fenced Praline frees nothing
(R111, R119, R146). -/
def releaseNow (st : Station) (p : Prt) (fenced : Bool) (rd : RouteDef) (t : Txn) (x : Inter) : Inter :=
  let one := fun (x : Inter) (r : Release) => if prlProves p x t r then doRelease st p x r else x
  if fenced then x else (timedDue x rd t).foldl one x

/-- Praline's own count of the timing of one transaction, as its next frame takes it (R119). -/
def trackNow (p : Prt) (fin : FrameIn) (t : Txn) (x : Inter) : Inter :=
  { x with prlTracks := x.prlTracks.filter (·.slot != t.slot) ++ [stepTrack p fin x t] }

/-- A RELEASE timing of a transaction ends (R88, R114, R116, R118). -/
def timingEnds (st : Station) (p : Prt) (fenced : Bool) (fin : FrameIn) (use : RelUse) (route : Nat) (x : Inter) : Inter :=
  match txnOfRoute? x route, stRoute? st route with
  | some t, some rd =>
    let u := tickRel fin t
    let stands := use ≠ .overlap ∨ t.overlap ≠ .timing ∨ overlapClear st x rd
    if t.relUse ≠ use ∨ t.relQ ∨ t.ended ∨ !u.relQ ∨ ¬ stands then x
    else finishTxn st fin (releaseNow st p fenced rd u (trackNow p fin t (setTxn x t.slot fun _ => u))) t.slot
  | _, _ => x

/-- APPROACH_LOCK_EXPIRY (R114): with the signal at STOP the timed approach lock ends and every crumb is freed. -/
def execApproachLockExpiry (route now : Nat) (s : State) : Out :=
  .next (atTick (later s now) fun st p fin x => timingEnds st p s.prl.fenced fin .approach route x)

/-- OVERLAP_EXPIRY (R116): the overlap, berth and boundary crumbs are freed. -/
def execOverlapExpiry (route now : Nat) (s : State) : Out :=
  .next (atTick (later s now) fun st p fin x => timingEnds st p s.prl.fenced fin .overlap route x)

/-- EMERGENCY_RELEASE_EXPIRY (R118): with the entry signal at STOP every crumb is freed. -/
def execEmergencyReleaseExpiry (route now : Nat) (s : State) : Out :=
  .next (atTick (later s now) fun st p fin x => timingEnds st p s.prl.fenced fin .emergency route x)

end Sys2Proof.Machine
end

