-- ==== Sys2Proof/Machine/Packets.lean ====
section
/-! DEFINITION. Datagrams as the service processor receives them: reassembly (R272), steps 1 to 13 of R282 in their
order, the reply store (R280), and what times out there (R272, R296, R310). -/

namespace Sys2Proof.Machine

open Sys2Proof

/-! ## Counting (R293, R295) -/

def onPort (s : State) (conn : Nat) (f : PortCount → PortCount) : State :=
  { s with cmd := { s.cmd with ports := updFirst (fun p : PortCount => p.conn == conn) f s.cmd.ports } }

/-- A count of 4 bytes (R293). -/
def wrapUp (n : Nat) : Nat := (n + 1) % 2 ^ 32

/-! ## Reassembly (R272) -/

def sameAssembly (d : DatagramIn) (ident : Nat) (r : Reassembly) : Bool :=
  r.conn == d.conn && r.ip == d.ip && r.udpp == d.udpp && r.ident == ident

/-- The bytes from an offset to the end, where the fragments leave no hole. -/
def joinParts (parts : List (Nat × Bytes)) (total : Nat) : Nat → Nat → Option Bytes
  | 0, pos => if pos = total then some [] else none
  | n + 1, pos =>
    if pos = total then some []
    else match parts.find? fun p => p.1 == pos && !p.2.isEmpty with
      | some p => (joinParts parts total n (pos + p.2.length)).map (p.2 ++ ·)
      | none => none

/-- A fragment: the reassembly goes on, is complete, or is given up beyond 8,220 bytes; at most 8 are in progress for a
connector, and one that has stood for 1 s has gone. -/
def takeFragment (s : State) (d : DatagramIn) (ident off : Nat) (more : Bool) : Option Bytes × State :=
  let live := s.cmd.reassembly.filter fun r => s.now < r.startedAt + 1000000
  let fresh : Reassembly := { conn := d.conn, ip := d.ip, udpp := d.udpp, ident := ident, startedAt := s.now, parts := [], total := none }
  let r := (live.find? (sameAssembly d ident)).getD fresh
  let rest := live.filter fun q => !sameAssembly d ident q
  let mk := fun (rs : List Reassembly) => { s with cmd := { s.cmd with reassembly := rs } }
  let r1 := { r with parts := r.parts ++ [(off, d.data)], total := if more then r.total else some (off + d.data.length) }
  if 8220 < off + d.data.length then (none, mk rest)
  else if r.parts.isEmpty ∧ 8 ≤ (live.filter (·.conn == d.conn)).length then (none, mk live)
  else match r1.total.bind fun t => joinParts r1.parts t r1.parts.length 0 with
    | some bs => (some bs, mk rest)
    | none => (none, mk (rest ++ [r1]))

/-! ## Steps 1 to 7 of R282 -/

/-- The entry of the receiving connector that a sender's address and port match (R282 step 1); the sender of a session
opened without an entry is one of them (R387, R409, R410). -/
def senderEntry? (s : State) (d : DatagramIn) : Option Nat :=
  let fits := fun (q : Partner) => q.addr != 0xFFFF && q.conn == d.conn && q.ip == d.ip && q.udpp == d.udpp
  match (List.range 32).find? fun n => fits (tableEntry s n) with
  | some n => some n
  | none => match s.sec.guest with
    | some (k, q) => if fits q then some k else none
    | none => none

/-- A SESSION_OPEN that needs no entry passes step 1 (R387, R409, R410). -/
def opensWithout (s : State) (d : DatagramIn) (p : Pkt) : Bool :=
  p.opc == 0x80 && (guestEntry s { conn := d.conn, ip := d.ip, udpp := d.udpp } (fieldAt p.payload 0 1)).isSome

/-- SYNC, length and VER (R282 step 2). -/
def headerOk (flags : Nat) (bs : Bytes) : Bool :=
  28 ≤ bs.length && fieldAt bs 0 2 == 0xC3A5 && (fieldAt bs 2 1 == 2 || (fieldAt bs 2 1 == 1 && flags % 2 == 1))

/-- LEN (R282 step 3). -/
def lengthOk (bs : Bytes) : Bool := fieldAt bs 6 2 ≤ 8192 && bs.length == 28 + fieldAt bs 6 2

/-- DST: this module, or the area address while it is ACTIVE or ALONE (R270, R282 step 5). -/
def forUs (s : State) (dst : Nat) : Bool :=
  dst == ownAddr s.cfg
    || (dst == ownPair s.cfg * 2048 + 0x300 && (s.dpx.role = .active || s.dpx.role = .alone))

/-- An unsolicited opcode from the partner that it is meant for (R275): a BOUNDARY_STATE from a module of another pair,
a witness opcode from a witness partner. -/
def meantFor (s : State) (q : Partner) (opc : Nat) : Bool :=
  if opc = 0x40 then q.classes % 2 == 1 && q.addr / 256 % 8 ≤ 1 && q.addr / 2048 != ownPair s.cfg
  else if classOf opc = .witness then q.classes / 32 % 2 == 1
  else false

def isUnsolicited (opc : Nat) : Bool := opc == 0x40 || classOf opc = .witness

/-- OPC defined, and available under VER (R275, R282 step 7, R283). -/
def opcodeOk (s : State) (q : Partner) (p : Pkt) : Bool :=
  classOf p.opc != .undefined && (!isUnsolicited p.opc || meantFor s q p.opc) && (p.ver != 1 || oldVersion p.opc)

/-! ## Vital packets: steps 8 and 11 to 13 -/

/-- The reply store (R280): a request already answered gets its reply again, one in progress is discarded. None is a
request that goes on to the lanes. -/
def fromStore? (s : State) (n : Nat) (p : Pkt) : Option State :=
  let dup := { s with cmd := { s.cmd with dup := satAdd 65535 1 s.cmd.dup } }
  let q := partnerAt s n
  match s.cmd.stored.find? fun r => r.entry == n && r.seq == p.seq && r.safety == p.safety with
  | some r => some { countReply dup q.conn with sent := s.sent ++ [.packet { conn := q.conn, ip := q.ip, udpp := q.udpp, data := r.reply }] }
  | none => if s.cmd.pend.any fun r => r.entry == n && r.seq == p.seq && r.safety == p.safety then some dup else none

/-- A packet into CMD_IN, with where it came from. -/
def pushCmd (x : XbrBlk) (d : DatagramIn) (bs : Bytes) : XbrBlk :=
  let y := pushQueue x 0 d.conn bs
  setQueue y 0 fun u => { u with items := u.items.dropLast ++ u.items.getLast?.toList.map fun i =>
    { i with ip := d.ip, udpp := d.udpp } }

/-- No room in CMD_IN (R282 step 13). -/
def noRoom (s : State) (conn : Nat) : State :=
  let s1 := onPort s conn fun c => { c with d13 := wrapUp c.d13 }
  raise { s1 with cmd := { s1.cmd with full := satAdd 65535 1 s1.cmd.full, sawFull := true } } .cmd cQUEUE_FULL

/-- A vital control packet into CMD_IN (R282 steps 11 to 13, R286). -/
def queueVital (s : State) (d : DatagramIn) (n : Nat) (p : Pkt) (bs : Bytes) : State :=
  match (if p.opc = 0x40 then none else fromStore? s n p) with
  | some t => t
  | none =>
    if !(s.dpx.role = .active || s.dpx.role = .alone) then onPort s d.conn fun c => { c with d12 := wrapUp c.d12 }
    else if s.xbr.fenced then s
    else
      let s := touchQueue s 0
      if !queueRoom s.xbr 0 bs.length then noRoom s d.conn else
      let wait : Pending := { entry := n, seq := p.seq, safety := p.safety, tag := p.tag, frame := s.core.counter, ip := d.ip, udpp := d.udpp }
      { s with xbr := pushCmd s.xbr d bs
               cmd := { s.cmd with pend := if p.opc = 0x40 then s.cmd.pend else s.cmd.pend ++ [wait] } }

/-! ## Commands that act on the vital domain (R291, R379, R445) -/

/-- The opcodes that the lanes carry out at INPUT. -/
def viaLanes (opc : Nat) : Bool :=
  [0x83, 0x84, 0x85, 0x86, 0x88, 0x89, 0x8A, 0x8B, 0x8C, 0x8D, 0x8E, 0xC4, 0xC5, 0xC8].contains opc

/-- Parameters within what the opcode table gives (R282 step 10, R291). -/
def paramsOk (opc : Nat) (pl : Bytes) : Bool :=
  let f := fieldAt pl
  match opc with
  | 0x83 => f 0 4 % 4 == 0 && 1 ≤ f 4 2 && f 4 2 ≤ 2040
  | 0x86 => f 0 1 ≤ 31
  | 0x88 => 1 ≤ f 0 1 && f 0 1 ≤ 3
  | 0x89 => 1 ≤ f 0 1 && f 0 1 ≤ 3
  | 0x8A => 1 ≤ f 0 1 && f 0 1 ≤ 72
  | 0x8D => f 0 1 ≤ 3 && (if f 0 1 = 2 then 1 ≤ f 1 1 && f 1 1 ≤ 3 else f 1 1 == 0)
  | 0x8E => f 0 1 ≤ 4
  | _ => true

/-- Whether a packet that passes steps 8 to 10 waits in CMD_IN for the lanes. -/
def waitsForLanes (s : State) (src : Src) (p : Pkt) : Bool :=
  viaLanes p.opc && lanesTake s && !s.xbr.fenced && p.safety == 0 && plainLenOk p.opc p.payload && paramsOk p.opc p.payload
    && gateOf s src p.opc == .pass

/-- Such a packet into CMD_IN; without room it is discarded (R282 step 13). -/
def queuePlain (s : State) (d : DatagramIn) (n : Nat) (bs : Bytes) : State :=
  let s1 := touchQueue (hearFrom s n) 0
  if queueRoom s1.xbr 0 bs.length then { s1 with xbr := pushCmd s1.xbr d bs } else noRoom s1 d.conn

/-- From step 8 on, by class. -/
def passOn (s : State) (d : DatagramIn) (env : StartEnv) (n : Nat) (p : Pkt) (bs : Bytes) : State :=
  let net : NetAddr := { conn := d.conn, ip := d.ip, udpp := d.udpp }
  let src := srcOf n p
  match classOf p.opc with
  | .vital => match gateOf s src p.opc with
    | .silent => s
    | .answer st => if isUnsolicited p.opc then countOther s else reply (countOther s) src p.opc st []
    | .pass => queueVital s d n p bs
  | .witness => match gateOf s src p.opc with
    | .pass => if s.xbr.fenced then s else witnessPacket s n p
    | _ => countOther s
  | _ => if waitsForLanes s src p then queuePlain s d n bs else plainPacket src net env d.closed p s

/-- Steps 2 to 7 for a sender that has passed step 1; `quiet` is an unsolicited packet, to which no reply is sent
(R275). -/
def checkPacket (s : State) (d : DatagramIn) (env : StartEnv) (n : Nat) (q : Partner) (bs : Bytes) : State :=
  let p := pktOf bs
  let src := srcOf n p
  let quiet := isUnsolicited p.opc && meantFor s q p.opc
  let say := fun (s : State) (st : Status) => if quiet then s else reply s src p.opc st []
  if !headerOk q.flags bs then countOther (onPort s d.conn fun c => { c with d2 := wrapUp c.d2 })
  else if !lengthOk bs then (if quiet then countOther s else say s .badLen)
  else if (unCrc? bs).isNone then say { s with cmd := { s.cmd with crcErr := satAdd 65535 1 s.cmd.crcErr } } .badCrc
  else if !forUs s p.dst then countOther (onPort s d.conn fun c => { c with d5 := wrapUp c.d5 })
  else if q.addr ≠ p.src then say (countOther s) .notAuth
  else if !opcodeOk s q p then say s .badOpc
  else passOn s d env n p bs

/-- A whole datagram (R282). -/
def wholeDatagram (s : State) (d : DatagramIn) (env : StartEnv) (bs : Bytes) : State :=
  let s1 := onPort s d.conn fun c => { c with received := wrapUp c.received }
  let p := pktOf bs
  match senderEntry? s1 d with
  | some n => checkPacket s1 d env n (partnerAt s1 n) bs
  | none =>
    if opensWithout s1 d p then
      checkPacket s1 d env 33 { addr := p.src, conn := d.conn, classes := 0x1E, udpp := d.udpp, ip := d.ip } bs
    else
      let s2 := countOther (onPort s1 d.conn fun c => { c with d1 := wrapUp c.d1 })
      raise { s2 with cmd := { s2.cmd with unknownAt := some s2.now } } .cmd cUNKNOWN_SRC

/-- Connectors that take command packets, and the states in which a connector is silent (R269, R387, R421). -/
def connListens (s : State) (conn : Nat) : Bool :=
  10 ≤ conn && conn ≤ 13 && svcRuns s && (s.pwr.power = .run || s.pwr.power = .holdup) && (conn == 13 || !(s.upd.recov || s.sec.keyless))

/-- DATAGRAM (R272, R282). -/
def execDatagram (d : DatagramIn) (env : StartEnv) (now : Nat) (s : State) : Out :=
  let s := later s now
  if !connListens s d.conn then .next s
  else match d.frag with
    | none => .next (wholeDatagram s d env d.data)
    | some (ident, off, more) => match takeFragment s d ident off more with
      | (some bs, s1) => .next (wholeDatagram s1 d env bs)
      | (none, s1) => .next s1

/-! ## What times out -/

/-- REASSEMBLY_TIMEOUT (R272). -/
def execReassemblyTimeout (conn ident now : Nat) (s : State) : Out :=
  let s := later s now
  let gone := fun (r : Reassembly) => r.conn == conn && r.ident == ident && decide (r.startedAt + 1000000 ≤ s.now)
  .next { s with cmd := { s.cmd with reassembly := s.cmd.reassembly.filter fun r => !gone r } }

/-- PENDING_EXPIRY (R310). -/
def execPendingExpiry (entry seq : Nat) (s : State) : Out :=
  let gone := fun (p : Pending) => p.entry == entry && p.seq == seq && decide (p.frame + freshLimit s.cfg + 8 ≤ s.core.counter)
  .next { s with cmd := { s.cmd with pend := s.cmd.pend.filter fun p => !gone p } }

/-- PARTNER_SILENT (R296): no valid packet within the partner's SILENT time. -/
def execPartnerSilent (entry now : Nat) (s : State) : Out :=
  let s := later s now
  let q := tableEntry s entry
  let last := ((s.cmd.heard.find? (·.1 == entry)).map (·.2)).getD 0
  if q.addr = 0xFFFF ∨ q.silent = 0 ∨ s.now < last + 1000000 * q.silent ∨ s.cmd.silent.contains entry then .next s
  else .next (raise { s with cmd := { s.cmd with silent := entry :: s.cmd.silent } } .cmd cPARTNER_SILENT)

end Sys2Proof.Machine
end

