-- ==== Sys2Proof/Machine/ProofTest.lean ====
section
/-! DEFINITION. The rotating proof test of the lanes: due, late, and its end, judged from what the tester finds (R185 to
R201, R204). -/

namespace Sys2Proof.Machine

open Sys2Proof

/-- PROOF_TEST_DUE (R185, R199). -/
def execProofTestDue (lane : Lane) (now : Nat) (s : State) : Out :=
  let s := later s now
  match (testOf s.bst lane).due with
  | none => .next s
  | some k =>
    if s.now < k then .next s
    else .next (idleTest { s with bst := setTest s.bst lane fun t => { t with isDue := true } })

/-- PT_LATE (R188): a test that has started is due no longer. -/
def execPtLate (lane : Lane) (now : Nat) (s : State) : Out :=
  let s := later s now
  match (testOf s.bst lane).due with
  | none => .next s
  | some k =>
    if s.now < k + 60000000 * fieldOf s.cfg.bstCtl 8 8 then .next s
    else .next (raiseAt { s with bst := setTest s.bst lane fun t => { t with late := true } } .bst bPT_LATE (some lane))

/-! ## The end of a test -/

/-- The register and the journal of a lane's last test, and no test in progress (R201, R203). -/
def noteTest (s : State) (l : Lane) (r : LastTest) : State :=
  let b := setTest s.bst l fun t => { t with last := r }
  { s with bst := { b with under := none, again := false, journal := b.journal.set (l.num - 1) r } }

/-- The wrapped lane keys are replaced: a fresh counter, and the former copies unwrap no more (R195, R418). -/
def rewrapLane (s : State) (l : Lane) : State :=
  let one := fun (c : SecBlk) (sl : Nat) =>
    let n := bumpCounter c 1 l.num sl
    { n with blobs := c.blobs.map fun b =>
        if b.ktype == 1 && b.index == l.num && b.slot == sl && usableBlob c b then { b with ctr := keyCounter n 1 l.num sl } else b }
  { s with sec := [0, 1].foldl one s.sec }

/-- Step 7 finds no copy of a lane's key that the element unwraps, although one has been wrapped (R195, R418). -/
def unwrapFails (s : State) (l : Lane) : Bool :=
  let mine := s.sec.blobs.filter fun b => b.ktype == 1 && b.index == l.num
  !mine.isEmpty && !mine.any (usableBlob s.sec)

/-- The lane holds the keys that step 7 unwrapped (R195). -/
def rekeyLane (s : State) (l : Lane) : State :=
  if s.sec.dbg = .d3 then s
  else
    let mine := s.sec.blobs.filter fun b => b.ktype == 1 && b.index == l.num && usableBlob s.sec b
    let ks := mine.map fun b => ({ ktype := 1, index := l.num, slot := b.slot, key := b.key } : PlainKey)
    { s with sec := { s.sec with plain := ks.foldl putKey s.sec.plain } }

/-! ## The verdict (R192, R194 to R197) -/

/-- A failed test: where, and what `BST_LAST_n`, `BST_SIGF` and the sources say of it. -/
structure TestFailure where
  step : Nat
  unit : Nat := 0
  block : Nat := 0
  signature : BitVec 64 := 0
  restoreFail : Bool := false
  keyzFail : Bool := false

/-- The failure that a finding is (R196, R204). -/
def TestFinding.failure : TestFinding → TestFailure
  | .cell st u | .copy st u => { step := st, unit := u }
  | .restored st u | .image st u => { step := st, unit := u, restoreFail := true }
  | .injection => { step := 4 }
  | .keyStore => { step := 5, keyzFail := true }
  | .bist b sig => { step := 6, block := b, signature := sig }
  | .knownAnswer => { step := 7 }

/-- The first piece of work that ran over its time at most (R192). -/
def overlong? (took : List Nat) : Option TestFailure :=
  ((testPieces.zip took).find? fun p => decide (p.1.2.2 < p.2)).map fun p => { step := p.1.1, unit := p.1.2.1 }

/-- The time at most of a whole test: 52.41 s, and the reload of a repeat test (R192, R197). -/
def testLimit (again : Bool) : Nat := (testPieces.map (·.2.2)).sum + if again then reloadUs else 0

/-- A bank whose image does not match its SHA-384 digest, among those that a lane's kept regions are reloaded from (R197). -/
def reloadBad (s : State) (l : Lane) : Bool :=
  [lfwPair s.upd l, s.upd.mzp].any fun p => !(activeBank p).intact

/-- Everything in which a test fails (R196). -/
def testFailures (s : State) (l : Lane) (r : TestResult) : List TestFailure :=
  let again := s.bst.again
  let when_ := fun (c : Bool) (f : TestFailure) => if c then [f] else []
  r.found.toList.map TestFinding.failure ++ (overlong? r.took).toList
    ++ when_ (again && reloadBad s l) { step := 2, restoreFail := true }
    ++ when_ (again && decide (reloadUs < r.reload)) { step := 3, unit := 7 }
    ++ when_ (unwrapFails s l) { step := 7 }
    ++ when_ (decide (testLimit again < s.now - s.bst.startedAt)) { step := 7 }

/-- The failure that ends a test: the one in the earliest piece of work; none where the test passes. -/
def testFailure? (s : State) (l : Lane) (r : TestResult) : Option TestFailure :=
  (sortBy (fun f => 16 * f.step + f.unit) (testFailures s l r)).head?

/-- From step 5 on the lane's keys are zeroised; a test that fails there leaves them so (R194). -/
def unkeyLane (s : State) (l : Lane) (step : Nat) : State :=
  if step < 5 then s
  else { s with sec := { s.sec with plain := s.sec.plain.filter fun k => !(k.ktype == 1 && k.index == l.num) } }

/-- PT_FAIL, RESTORE_FAIL and KEYZ_FAIL are live while a lane's last test says so (R204). -/
def testSources (s : State) (l : Lane) : State :=
  let ts := [s.bst.t1, s.bst.t2, s.bst.t3]
  let s1 := setLiveAt s .bst bPT_FAIL (some l) (ts.any (·.failed))
  let s2 := setLiveAt s1 .bst bRESTORE_FAIL (some l) (ts.any (·.restoreFail))
  let s3 := setLiveAt s2 .bst bKEYZ_FAIL (some l) (ts.any (·.keyzFail))
  setLiveAt s3 .bst bPT_HOLD (some l) (ts.any (·.hold))

def countPass (b : BstBlk) (l : Lane) : BstBlk :=
  match l with
  | .l1 => { b with pass1 := satAdd 255 1 b.pass1 }
  | .l2 => { b with pass2 := satAdd 255 1 b.pass2 }
  | .l3 => { b with pass3 := satAdd 255 1 b.pass3 }

/-- Where a lane goes that has passed: in ACTIVE and ALONE it waits for the drain that loads it (R189), otherwise it is
idle again, the retry limit holds it no longer (R198), and its next due time counts from now (R199). -/
def afterPass (s : State) (l : Lane) : State :=
  if idleRole s then
    let s1 := unmark (laneTo s l .fenced) l
    setDue { s1 with vot := setLane s1.vot l fun b => { b with limited := false } } l s.now
  else { s with vot := setLane s.vot l fun b => { b with passed := true } }

/-- A repeat test has loaded the lane's firmware anew from the active bank (R197). -/
def reloadLane (s : State) (l : Lane) (again : Bool) : State :=
  if again then { s with vot := setLane s.vot l fun b => { b with booted := bankImgId (activeBank (lfwPair s.upd l)) } } else s

/-- PT_RETRY (R196). -/
def tellRetry (s : State) (again : Bool) : State :=
  if again then raise { s with bst := { s.bst with sawRetry := true } } .bst bPT_RETRY else s

/-- A test has passed (R189, R195, R196). -/
def testPasses (s : State) (l : Lane) (dur : Nat) : State :=
  let again := s.bst.again
  let s1 := noteTest s l { result := 1, again := again, dur := dur }
  let clean := fun (t : LaneTest) => { t with failed := false, restoreFail := false, keyzFail := false }
  let s2 := { s1 with bst := countPass (setTest s1.bst l clean) l }
  afterPass (tellRetry (testSources (rekeyLane (rewrapLane (reloadLane s2 l again) l) l) l) again) l

/-- A test has failed: the lane is FENCED; the first failure starts a repeat test at once, a failed repeat test holds
the lane (R196 to R198). -/
def testFails (s : State) (l : Lane) (f : TestFailure) (dur : Nat) : State :=
  let again := s.bst.again
  let r : LastTest := { result := 2, again := again, block := f.block, step := f.step, unit := f.unit, dur := dur }
  let s1 := laneTo (noteTest s l r) l .fenced
  let mark := fun (t : LaneTest) =>
    { t with failed := true, restoreFail := f.restoreFail, keyzFail := f.keyzFail, hold := t.hold || again }
  let b := setTest s1.bst l mark
  let s2 := { s1 with bst := { b with fail := satAdd 255 1 b.fail, sigF := if f.block = 0 then b.sigF else f.signature }
                      vot := setLane s1.vot l fun b => { b with why := .test, passed := false } }
  let s3 := testSources (unkeyLane s2 l f.step) l
  if again then s3 else startTest s3 l true s3.now

/-- PROOF_TEST_END (R196). -/
def execProofTestEnd (lane : Lane) (res : TestResult) (now : Nat) (s : State) : Out :=
  let s := later s now
  if s.bst.under ≠ some lane ∨ s.now < s.bst.startedAt then .next s
  else
    let dur := min 65535 ((s.now - s.bst.startedAt) / 10000)
    match testFailure? s lane res with
    | some f => .next (idleTest (testFails s lane f dur))
    | none => .next (idleTest (testPasses s lane dur))

end Sys2Proof.Machine
end

