-- ==== Sys2Proof/Machine/Dispatch.lean ====
section
/-! DEFINITION. What each command does: one arm for each constructor of `Instr`, one direct call of its
meaning. -/

namespace Sys2Proof.Machine

open Sys2Proof

/-- The effect of a command on everything but the queue. -/
def exec (i : Instr) (s : State) : Host.Outcome State Fault Refusal :=
  match i with
  | .frameTick now env => Sys2Proof.Machine.execFrameTick now env s
  | .lanePublish lane now dev => Sys2Proof.Machine.execLanePublish lane now dev s
  | .voteInstant now env d => Sys2Proof.Machine.execVoteInstant now env d s
  | .releasePoint now => Sys2Proof.Machine.execReleasePoint now s
  | .overrun now => Sys2Proof.Machine.execOverrun now s
  | .watchdog now => Sys2Proof.Machine.execWatchdog now s
  | .shadowFramesMatched lane => Sys2Proof.Machine.execShadowFramesMatched lane s
  | .instanceIn inst => Sys2Proof.Machine.execInstanceIn inst s
  | .pralineDuoLimit now => Sys2Proof.Machine.execPralineDuoLimit now s
  | .duoLimit now => Sys2Proof.Machine.execDuoLimit now s
  | .duoSwitchoverTimeout now => Sys2Proof.Machine.execDuoSwitchoverTimeout now s
  | .laneFault lane present now => Sys2Proof.Machine.execLaneFault lane present now s
  | .tableScrub bad now => Sys2Proof.Machine.execTableScrub bad now s
  | .timerExpiry num now => Sys2Proof.Machine.execTimerExpiry num now s
  | .moveTimerExpiry obj now => Sys2Proof.Machine.execMoveTimerExpiry obj now s
  | .closeTimerExpiry obj now => Sys2Proof.Machine.execCloseTimerExpiry obj now s
  | .settlePeriodEnd obj now => Sys2Proof.Machine.execSettlePeriodEnd obj now s
  | .boundaryAgeLimit obj now => Sys2Proof.Machine.execBoundaryAgeLimit obj now s
  | .waitLimitExpiry route now => Sys2Proof.Machine.execWaitLimitExpiry route now s
  | .approachLockExpiry route now => Sys2Proof.Machine.execApproachLockExpiry route now s
  | .overlapExpiry route now => Sys2Proof.Machine.execOverlapExpiry route now s
  | .emergencyReleaseExpiry route now => Sys2Proof.Machine.execEmergencyReleaseExpiry route now s
  | .proofTestDue lane now => Sys2Proof.Machine.execProofTestDue lane now s
  | .proofTestEnd lane res now => Sys2Proof.Machine.execProofTestEnd lane res now s
  | .ptLate lane now => Sys2Proof.Machine.execPtLate lane now s
  | .fieldCycleStart c env => Sys2Proof.Machine.execFieldCycleStart c env s
  | .offsetCorrection c now => Sys2Proof.Machine.execOffsetCorrection c now s
  | .uplink c node copyA copyB now => Sys2Proof.Machine.execUplink c node copyA copyB now s
  | .syncFrame c arr now => Sys2Proof.Machine.execSyncFrame c arr now s
  | .dropout c node => Sys2Proof.Machine.execDropout c node s
  | .returnToAbsent c node => Sys2Proof.Machine.execReturnToAbsent c node s
  | .rangeReply c chan data late now => Sys2Proof.Machine.execRangeReply c chan data late now s
  | .rangingWindowTimeout c chan => Sys2Proof.Machine.execRangingWindowTimeout c chan s
  | .ack c data => Sys2Proof.Machine.execAck c data s
  | .ocfState c data => Sys2Proof.Machine.execOcfState c data s
  | .diagReply c data => Sys2Proof.Machine.execDiagReply c data s
  | .configSetRepeat c node => Sys2Proof.Machine.execConfigSetRepeat c node s
  | .ocfRestart c node => Sys2Proof.Machine.execOcfRestart c node s
  | .guardianViolation c chan now => Sys2Proof.Machine.execGuardianViolation c chan now s
  | .guardianBlockedExpiry c chan => Sys2Proof.Machine.execGuardianBlockedExpiry c chan s
  | .barrierDownstreamFrame f now => Sys2Proof.Machine.execBarrierDownstreamFrame f now s
  | .restartEnd now => Sys2Proof.Machine.execRestartEnd now s
  | .barrierUpstreamFrame fault now => Sys2Proof.Machine.execBarrierUpstreamFrame fault now s
  | .barrierLoss up now => Sys2Proof.Machine.execBarrierLoss up now s
  | .keyRoundRepeat now => Sys2Proof.Machine.execKeyRoundRepeat now s
  | .toffeeExpiry now => Sys2Proof.Machine.execToffeeExpiry now s
  | .filtExpiry input now => Sys2Proof.Machine.execFiltExpiry input now s
  | .discrepancyExpiry chan now => Sys2Proof.Machine.execDiscrepancyExpiry chan now s
  | .axleCount pair levels now => Sys2Proof.Machine.execAxleCount pair levels now s
  | .shuntTest input ok => Sys2Proof.Machine.execShuntTest input ok s
  | .locationTest bank bad aborted => Sys2Proof.Machine.execLocationTest bank bad aborted s
  | .offPulse out ok now => Sys2Proof.Machine.execOffPulse out ok now s
  | .tripChannelTest chan res now => Sys2Proof.Machine.execTripChannelTest chan res now s
  | .degx chan now => Sys2Proof.Machine.execDegx chan now s
  | .degxOpen chan now => Sys2Proof.Machine.execDegxOpen chan now s
  | .outputFault out trip short now => Sys2Proof.Machine.execOutputFault out trip short now s
  | .faultClassification bank high now => Sys2Proof.Machine.execFaultClassification bank high now s
  | .supplySag x2 now => Sys2Proof.Machine.execSupplySag x2 now s
  | .x2Loss now => Sys2Proof.Machine.execX2Loss now s
  | .converter now => Sys2Proof.Machine.execConverter now s
  | .restartTestsEnd res now => Sys2Proof.Machine.execRestartTestsEnd res now s
  | .x2Return x2 now => Sys2Proof.Machine.execX2Return x2 now s
  | .x2WithinRange x2 now => Sys2Proof.Machine.execX2WithinRange x2 now s
  | .converterRecovery now => Sys2Proof.Machine.execConverterRecovery now s
  | .inputChange input level now => Sys2Proof.Machine.execInputChange input level now s
  | .discrepancyFaultClear chan now => Sys2Proof.Machine.execDiscrepancyFaultClear chan now s
  | .comparatorDisagreement input now => Sys2Proof.Machine.execComparatorDisagreement input now s
  | .datagram d env now => Sys2Proof.Machine.execDatagram d env now s
  | .reassemblyTimeout conn ident now => Sys2Proof.Machine.execReassemblyTimeout conn ident now s
  | .pendingExpiry entry seq => Sys2Proof.Machine.execPendingExpiry entry seq s
  | .partnerSilent entry now => Sys2Proof.Machine.execPartnerSilent entry now s
  | .routeSet src route wait => Sys2Proof.Machine.execRouteSet src route wait s
  | .routeCancel src route => Sys2Proof.Machine.execRouteCancel src route s
  | .emergencyRelease src route => Sys2Proof.Machine.execEmergencyRelease src route s
  | .pointMove src group target pos => Sys2Proof.Machine.execPointMove src group target pos s
  | .sectionRestore src obj => Sys2Proof.Machine.execSectionRestore src obj s
  | .blockSet src onRoute target => Sys2Proof.Machine.execBlockSet src onRoute target s
  | .blockClear src onRoute target => Sys2Proof.Machine.execBlockClear src onRoute target s
  | .guardAck src guard => Sys2Proof.Machine.execGuardAck src guard s
  | .stationCmd src code arg => Sys2Proof.Machine.execStationCmd src code arg s
  | .boundaryState src msg => Sys2Proof.Machine.execBoundaryState src msg s
  | .grantRequest p now => Sys2Proof.Machine.execGrantRequest p now s
  | .startWindowEnd now => Sys2Proof.Machine.execStartWindowEnd now s
  | .witnessStartEnd now => Sys2Proof.Machine.execWitnessStartEnd now s
  | .grant p now => Sys2Proof.Machine.execGrant p now s
  | .takeoverFirstTick now => Sys2Proof.Machine.execTakeoverFirstTick now s
  | .grantRefuse why now => Sys2Proof.Machine.execGrantRefuse why now s
  | .witnessStatus p now => Sys2Proof.Machine.execWitnessStatus p now s
  | .beat now => Sys2Proof.Machine.execBeat now s
  | .leaseLapse now => Sys2Proof.Machine.execLeaseLapse now s
  | .waferSegment g now => Sys2Proof.Machine.execWaferSegment g now s
  | .waferSegmentTimeout now => Sys2Proof.Machine.execWaferSegmentTimeout now s
  | .waferAcknowledgement frame acode now => Sys2Proof.Machine.execWaferAcknowledgement frame acode now s
  | .heartbeat h now => Sys2Proof.Machine.execHeartbeat h now s
  | .heartbeatSend now => Sys2Proof.Machine.execHeartbeatSend now s
  | .waferMiss now => Sys2Proof.Machine.execWaferMiss now s
  | .oldActiveToStandby now => Sys2Proof.Machine.execOldActiveToStandby now s
  | .peerDown now => Sys2Proof.Machine.execPeerDown now s
  | .witnessDown now => Sys2Proof.Machine.execWitnessDown now s
  | .identity src => Sys2Proof.Machine.execIdentity src s
  | .status src => Sys2Proof.Machine.execStatus src s
  | .objectRead src first count => Sys2Proof.Machine.execObjectRead src first count s
  | .routeRead src first count => Sys2Proof.Machine.execRouteRead src first count s
  | .crumbRead src first count => Sys2Proof.Machine.execCrumbRead src first count s
  | .eventRead src start maxb minsev => Sys2Proof.Machine.execEventRead src start maxb minsev s
  | .subscribe src period => Sys2Proof.Machine.execSubscribe src period s
  | .timeRead src now => Sys2Proof.Machine.execTimeRead src now s
  | .sessionOpen src net kslot now => Sys2Proof.Machine.execSessionOpen src net kslot now s
  | .sessionOpenProof src net kslot chal proof now => Sys2Proof.Machine.execSessionOpenProof src net kslot chal proof now s
  | .sessionClose src => Sys2Proof.Machine.execSessionClose src s
  | .sessionTimeout now => Sys2Proof.Machine.execSessionTimeout now s
  | .authLockoutEnd entry now => Sys2Proof.Machine.execAuthLockoutEnd entry now s
  | .regReadCmd src addr count => Sys2Proof.Machine.execRegReadCmd src addr count s
  | .regWriteCmd src addr words => Sys2Proof.Machine.execRegWriteCmd src addr words s
  | .commit src => Sys2Proof.Machine.execCommit src s
  | .stageDiscard src => Sys2Proof.Machine.execStageDiscard src s
  | .partnerStage src entry words => Sys2Proof.Machine.execPartnerStage src entry words s
  | .settingsSave src => Sys2Proof.Machine.execSettingsSave src s
  | .laneOut src lane => Sys2Proof.Machine.execLaneOut src lane s
  | .laneIn src lane => Sys2Proof.Machine.execLaneIn src lane s
  | .duoExtend src hours => Sys2Proof.Machine.execDuoExtend src hours s
  | .lioRestart src => Sys2Proof.Machine.execLioRestart src s
  | .switchover src => Sys2Proof.Machine.execSwitchover src s
  | .debug src level lane => Sys2Proof.Machine.execDebug src level lane s
  | .lifecycle src target serial => Sys2Proof.Machine.execLifecycle src target serial s
  | .keyLoad src ktype index slot epub wrapped now => Sys2Proof.Machine.execKeyLoad src ktype index slot epub wrapped now s
  | .keyErase src ktype index slot => Sys2Proof.Machine.execKeyErase src ktype index slot s
  | .timeSet src time now => Sys2Proof.Machine.execTimeSet src time now s
  | .restartModule src env now => Sys2Proof.Machine.execRestartModule src env now s
  | .restartCold src env now => Sys2Proof.Machine.execRestartCold src env now s
  | .tamperRearm src serial closed env now => Sys2Proof.Machine.execTamperRearm src serial closed env now s
  | .updBegin src part bank header => Sys2Proof.Machine.execUpdBegin src part bank header s
  | .updBlock src xid num data crc => Sys2Proof.Machine.execUpdBlock src xid num data crc s
  | .blockNote xid num readback => Sys2Proof.Machine.execBlockNote xid num readback s
  | .updBitmap src xid first => Sys2Proof.Machine.execUpdBitmap src xid first s
  | .updVerify src xid => Sys2Proof.Machine.execUpdVerify src xid s
  | .verifyEnd told now => Sys2Proof.Machine.execVerifyEnd told now s
  | .updActivate src part unit delay now => Sys2Proof.Machine.execUpdActivate src part unit delay now s
  | .laneBoot lane ok now => Sys2Proof.Machine.execLaneBoot lane ok now s
  | .preload lane ok => Sys2Proof.Machine.execPreload lane ok s
  | .exchangeAbandon now => Sys2Proof.Machine.execExchangeAbandon now s
  | .healthy now => Sys2Proof.Machine.execHealthy now s
  | .confirmWindowExpiry env now => Sys2Proof.Machine.execConfirmWindowExpiry env now s
  | .updConfirm src part => Sys2Proof.Machine.execUpdConfirm src part s
  | .updAbort src xid => Sys2Proof.Machine.execUpdAbort src xid s
  | .updFallback src part env now => Sys2Proof.Machine.execUpdFallback src part env now s
  | .ocfDistribute src pkg mask => Sys2Proof.Machine.execOcfDistribute src pkg mask s
  | .svcRestartEnd ok now => Sys2Proof.Machine.execSvcRestartEnd ok now s
  | .echo src data => Sys2Proof.Machine.execEcho src data s
  | .portCounters src conn => Sys2Proof.Machine.execPortCounters src conn s
  | .laneDiag src lane start maxb => Sys2Proof.Machine.execLaneDiag src lane start maxb s
  | .flatchClear src blk mask => Sys2Proof.Machine.execFlatchClear src blk mask s
  | .xbrQack q iseq => Sys2Proof.Machine.execXbrQack q iseq s
  | .xbrQpush q conn data master => Sys2Proof.Machine.execXbrQpush q conn data master s
  | .xbrQflush q => Sys2Proof.Machine.execXbrQflush q s
  | .semAcquire n master now => Sys2Proof.Machine.execSemAcquire n master now s
  | .semRelease n master => Sys2Proof.Machine.execSemRelease n master s
  | .semaphoreTimeout n now => Sys2Proof.Machine.execSemaphoreTimeout n now s
  | .xbrWinDone now => Sys2Proof.Machine.execXbrWinDone now s
  | .transferTimeout addr write => Sys2Proof.Machine.execTransferTimeout addr write s
  | .registerWrite acc writer addr word now => Sys2Proof.Machine.execRegisterWrite acc writer addr word now s
  | .frmPhclr word => Sys2Proof.Machine.execFrmPhclr word s
  | .prlCclr word => Sys2Proof.Machine.execPrlCclr word s
  | .votClr word => Sys2Proof.Machine.execVotClr word s
  | .bstClr word => Sys2Proof.Machine.execBstClr word s
  | .frnClr c word => Sys2Proof.Machine.execFrnClr c word s
  | .lioClr word => Sys2Proof.Machine.execLioClr word s
  | .cmdClr word => Sys2Proof.Machine.execCmdClr word s
  | .xbrClr word => Sys2Proof.Machine.execXbrClr word s
  | .dpxClr word => Sys2Proof.Machine.execDpxClr word s
  | .evrClr word => Sys2Proof.Machine.execEvrClr word s
  | .pwrClr word => Sys2Proof.Machine.execPwrClr word s
  | .bridgeEcc addr now => Sys2Proof.Machine.execBridgeEcc addr now s
  | .eventRecordTaken now => Sys2Proof.Machine.execEventRecordTaken now s
  | .flush now => Sys2Proof.Machine.execFlush now s
  | .flushEnd ok now => Sys2Proof.Machine.execFlushEnd ok now s
  | .segmentCopy ok => Sys2Proof.Machine.execSegmentCopy ok s
  | .mark now => Sys2Proof.Machine.execMark now s
  | .ptpSync domain utc now => Sys2Proof.Machine.execPtpSync domain utc now s
  | .ptpUnlock now => Sys2Proof.Machine.execPtpUnlock now s
  | .rtcWrite now => Sys2Proof.Machine.execRtcWrite now s
  | .powerOn env now => Sys2Proof.Machine.execPowerOn env now s
  | .holdup x1 now => Sys2Proof.Machine.execHoldup x1 now s
  | .x1Return x1 now => Sys2Proof.Machine.execX1Return x1 now s
  | .holdupSafeStop now => Sys2Proof.Machine.execHoldupSafeStop now s
  | .holdupZeroise now => Sys2Proof.Machine.execHoldupZeroise now s
  | .backup now => Sys2Proof.Machine.execBackup now s
  | .tamper now => Sys2Proof.Machine.execTamper now s
  | .cellMeasurement mv => Sys2Proof.Machine.execCellMeasurement mv s
  | .s1Release pressed env now => Sys2Proof.Machine.execS1Release pressed env now s
  | .s1Stuck now => Sys2Proof.Machine.execS1Stuck now s
  | .s1Rearm now => Sys2Proof.Machine.execS1Rearm now s
  | .svcWdog now => Sys2Proof.Machine.execSvcWdog now s
  | .temp tenths => Sys2Proof.Machine.execTemp tenths s
  | .rail now => Sys2Proof.Machine.execRail now s
  | .opticInserted conn qualified => Sys2Proof.Machine.execOpticInserted conn qualified s
  | .timebaseLoss now => Sys2Proof.Machine.execTimebaseLoss now s
  | .x1Range x1 now => Sys2Proof.Machine.execX1Range x1 now s
  | .backupDomainLoss now => Sys2Proof.Machine.execBackupDomainLoss now s

end Sys2Proof.Machine
end

