-- ==== Sys2Proof/Machine/Indicators.lean ====
section
/-! DEFINITION. The front indicators as the state of the module gives them (R432). They are read by a person and carry no
vital meaning; no command reads them. -/

namespace Sys2Proof.Machine

open Sys2Proof

/-- A colour, steady or flashing at 1 Hz, and at 4 Hz where it is stated. -/
inductive Light
  | off | green | greenFlash | greenFast | amber | amberFlash | red | redFlash | redFast
  deriving DecidableEq, Repr

def pwrLight (s : State) : Light :=
  match s.pwr.power with
  | .run => .green
  | .holdup => .greenFast
  | _ => .off

def roleLight (s : State) : Light :=
  if !s.sys.ready then .off
  else match shownRole s with
    | .active | .alone => .green
    | .standby => .greenFlash
    | .witness => .amber

def laneLight (s : State) (l : Lane) : Light :=
  match (laneOf s.vot l).state with
  | .voting => .green
  | .fenced => .amber
  | .proving | .resync => .amberFlash
  | .halted => .red

/-- PRL: the table gives no light for fewer than two instances IN; Praline is fenced then (R145). -/
def prlLight (s : State) : Light :=
  if s.prl.fenced then .red
  else match (Inst.all.filter fun i => (instOf s.prl i).state = .isIn).length with
    | 3 => .green
    | 2 => .amberFlash
    | _ => .red

/-- Every configured node admitted (R432). -/
def allAdmitted (f : FrnBlk) : Bool := f.nodes.all fun b => b.state = .notConfigured || b.state = .admitted

def clusterLight (f : FrnBlk) : Light :=
  match f.state with
  | .off => .off
  | .run => if allAdmitted f then .green else .amberFlash
  | .syncOnly => .red
  | _ => .amber

/-- LIO: fenced; a hold state other than LIVE; off with DRIVE 0 and no fault. -/
def lioLight (s : State) : Light :=
  if s.lio.vital.fence then .red
  else if !s.lio.field.drive && s.faults.lio.live = 0 then .off
  else match s.lio.vital.up.hold with
    | .live => .green
    | _ => .amber

/-- WARN: a source at WARN or above has its FLATCH bit set (R333). -/
def warnLight (s : State) : Light :=
  if Blk.all.any fun b => (List.range (sourceCount b)).any fun n => isLatched s b n && 1 ≤ (sevOf s.cfg b n).code then .amber
  else .off

def stopLight (s : State) : Light :=
  if s.sec.keyless || s.upd.recov then .redFast else if s.sys.stopped then .red else .off

/-- SEC: TAMPER before the lifecycle and the debug level. -/
def secLight (s : State) : Light :=
  if isLive s .sec eTAMPER then .red
  else if s.sec.life = .retired then .redFlash
  else if s.sec.dbg ≠ .d0 then .amberFlash
  else if s.sec.life = .sealed then .off
  else .amber

/-- Every indicator by its name. -/
def indicators (s : State) : List (String × Light) :=
  [("PWR", pwrLight s), ("ROLE", roleLight s), ("L1", laneLight s .l1), ("L2", laneLight s .l2), ("L3", laneLight s .l3)
  , ("PRL", prlLight s), ("C0", clusterLight s.frn0), ("C1", clusterLight s.frn1), ("LIO", lioLight s)
  , ("WARN", warnLight s), ("STOP", stopLight s), ("SEC", secLight s)]

end Sys2Proof.Machine
end

