-- ==== Sys2Proof/Safety.lean ====
section
/-! DEFINITION. What a safe state is, in the terms that statements use. -/

namespace Sys2Proof.Safety

open Sys2Proof Sys2Proof.Machine

/-- Every live source has its FLATCH bit set: a bit whose live cause persists stays set (R326, R327). -/
def LatchedFaults (fs : Faults) : Prop :=
  ∀ b n, (faultOf fs b).live.getLsbD n = true → (faultOf fs b).latch.getLsbD n = true

/-- Every live source of the module has its FLATCH bit set. -/
def Latched (s : State) : Prop := LatchedFaults s.faults

/-- Where the module is stopped, no frame is in progress. -/
def QuietAt (stopped : Bool) (work : Option Inter) : Prop := stopped = true → work = none

/-- A stopped module has no frame in progress: nothing of a frame not yet released leaves (R334). -/
def Quiet (s : State) : Prop := QuietAt s.sys.stopped s.work

/-- The numbering of a queue and of its items: 1 to 65,535 (R307). -/
def NumberedQueue (q : Queue) : Prop :=
  1 ≤ q.nextSeq ∧ q.nextSeq ≤ 65535 ∧ ∀ i ∈ q.items, 1 ≤ i.iseq ∧ i.iseq ≤ 65535

/-- All six queues of the bridge are numbered so. -/
def Numbered (s : State) : Prop :=
  NumberedQueue s.xbr.q0 ∧ NumberedQueue s.xbr.q1 ∧ NumberedQueue s.xbr.q2 ∧ NumberedQueue s.xbr.q3 ∧ NumberedQueue s.xbr.q4
    ∧ NumberedQueue s.xbr.q5

/-- A command has its effect: the module goes on to a state, with no fault and no refusal. -/
def Completes (c : Instr) (s : State) : Prop := ∃ t, exec c s = .next t

/-! ## Frames: what an operation leaves as it was -/

/-- What a record that the service processor forms may change and nothing else: the recorder's buffer, the flush that it
starts, the numbering and the count of losses (R394 to R397). -/
def SvcFrame (s t : State) : Prop :=
  t = { s with evr := { s.evr with buffer := t.evr.buffer, flushing := t.evr.flushing, again := t.evr.again
                                   lastFlush := t.evr.lastFlush, next := t.evr.next, lost2 := t.evr.lost2
                                   lost3 := t.evr.lost3, lossSvc := t.evr.lossSvc, lossLane := t.evr.lossLane
                                   lossAt := t.evr.lossAt, sawLoss := t.evr.sawLoss } }

/-- What a raising may change and nothing else: the fault sub-blocks, what its record changes (the recorder, EVT_OUT, the
count of lost records), the units that FENCE fences, and what SAFE-STOP stops (R326 to R337). -/
def RaiseFrame (s t : State) : Prop :=
  t = { s with faults := t.faults
               frm := { s.frm with phase := t.frm.phase, nextTick := t.frm.nextTick, voted := t.frm.voted }
               vot := t.vot
               prl := { s.prl with fenced := t.prl.fenced, guards := t.prl.guards }
               frn0 := { s.frn0 with fenced := t.frn0.fenced, back := t.frn0.back, stopPending := t.frn0.stopPending }
               frn1 := { s.frn1 with fenced := t.frn1.fenced, back := t.frn1.back, stopPending := t.frn1.stopPending }
               lio := { s.lio with vital := { s.lio.vital with fence := t.lio.vital.fence, stopped := t.lio.vital.stopped
                                                               back := t.lio.vital.back } }
               cmd := { s.cmd with fenced := t.cmd.fenced }
               xbr := { s.xbr with q2 := t.xbr.q2, sawQloss := t.xbr.sawQloss, sawQptr := t.xbr.sawQptr, fenced := t.xbr.fenced }
               dpx := { s.dpx with wanted := t.dpx.wanted, granted := t.dpx.granted, statusDue := t.dpx.statusDue
                                   relinquished := t.dpx.relinquished }
               evr := { s.evr with buffer := t.evr.buffer, flushing := t.evr.flushing, again := t.evr.again
                                   lastFlush := t.evr.lastFlush, next := t.evr.next, lost2 := t.evr.lost2
                                   lost3 := t.evr.lost3, lossSvc := t.evr.lossSvc, lossLane := t.evr.lossLane
                                   lossAt := t.evr.lossAt, sawLoss := t.evr.sawLoss, lostDue := t.evr.lostDue }
               sys := { s.sys with stopped := t.sys.stopped }
               core := { s.core with permits := t.core.permits }
               work := t.work }

/-! ## The bridge -/

/-- Every queue but `q` is as it was. -/
def OtherQueues (s t : State) (q : Nat) : Prop := ∀ p, p ≤ 5 → p ≠ q → queueOf t.xbr p = queueOf s.xbr p

/-- A bridge access has ended as an error (R301): counted, with its address and cause, and nothing else done. -/
def EndsInError (s t : State) (addr cause : Nat) (wr : Bool) : Prop :=
  t = { s with xbr := { s.xbr with errCnt := (s.xbr.errCnt + 1) % 2 ^ 32, errAdr := addr, errWr := wr, errCause := cause
                                   sawErr := true } }

/-- What a service transfer notes before it is looked at: the RETRY terminations that it met are counted, and it has read
nothing yet (R304, R319). -/
def Met (s : State) (x : Transfer) : State :=
  { s with xbr := { s.xbr with retry := min 0xFFFFFFFF (s.xbr.retry + x.crossed), readData := [] } }

/-- The semaphore is held by an owner (R303). -/
def HeldBy (s : State) (n owner : Nat) : Prop := ∃ m, s.xbr.sems[n]? = some m ∧ m.req = true ∧ m.owner = owner

/-- The semaphore is free. -/
def Unheld (s : State) (n : Nat) : Prop := ∃ m, s.xbr.sems[n]? = some m ∧ m.req = false

/-- Nothing but the items, numbers and losses of the six queues has changed. -/
def QueueFrame (s t : State) : Prop :=
  t = { s with xbr := { s.xbr with q0 := t.xbr.q0, q1 := t.xbr.q1, q2 := t.xbr.q2, q3 := t.xbr.q3, q4 := t.xbr.q4
                                   q5 := t.xbr.q5 } }

/-! ## The recorder -/

/-- A record of `size` bytes finds the numbering loaded, the recorder open, no loss still to be told of, and room in the
buffer (R395 to R397). -/
def CanRecord (s : State) (size : Nat) : Prop :=
  s.evr.next ≠ 0 ∧ s.evr.closed = false ∧ s.evr.lost2 = 0 ∧ s.evr.lost3 = 0 ∧ keptBytes s.evr.buffer + size ≤ 262144

/-- The module keeps one record more than before: the next number is its own, and it carries the time of instant `at_`
(R395, R401). -/
def KeepsRecord (s t : State) (at_ : Nat) (r : Rec) : Prop :=
  allKept t.evr = allKept s.evr ++ [{ r := { r with num := s.evr.next, tq := (stampOf s at_).1, time := (stampOf s at_).2 }
                                      opsec := (at_ - s.evr.powerOnAt) / 1000000, pcc := s.pwr.pcc % 65536 }]
    ∧ t.evr.next = s.evr.next + 1
/-! ## Start-up -/

/-- How a start-up ends (R387, R420 to R422): in recovery mode, keyless, stopped by a source at SAFE-STOP before its role,
or in its role, which is that of the MODE in effect. -/
def StartEnds (t : State) : Prop :=
  (t.upd.recov = true ∧ t.dpx.role = .alone ∧ t.sys.stopped = true ∧ t.sys.step = 5 ∧ t.sys.ready = false)
    ∨ (t.sec.keyless = true ∧ t.sys.stopped = true ∧ t.sys.step = 0 ∧ t.sys.ready = false)
    ∨ (t.sys.stopped = true ∧ (t.sys.step = 8 ∨ t.sys.step = 9) ∧ t.sys.ready = false)
    ∨ (t.sys.stopped = false ∧ t.sys.step = 10 ∧ t.sys.ready = true ∧ t.dpx.granted = false
        ∧ (dpxMode t.cfg = 0 → t.dpx.role = .alone ∧ t.frm.nextTick = some t.now
            ∧ ∃ st n, t.mzp = some st ∧ t.core = coldInter st n)
        ∧ (dpxMode t.cfg = 1 → t.dpx.role = .standby ∧ t.dpx.asking = some 2 ∧ t.frm.nextTick = none)
        ∧ (2 ≤ dpxMode t.cfg → t.dpx.role = .witness ∧ t.dpx.adopting = true ∧ t.frm.nextTick = none))

/-- What a start-up makes of the state before it (R371, R388, R397, R408, R414, R420): the cause, debug level D0, no session
and no frame; the key blobs, the ring and the queue of commands as they were, and the tamper latch too, but that a start-up with
its step 2 sets it where it finds the seal broken. -/
def StartedFrom (s t : State) (cause : Nat) : Prop :=
  t.sys.cause = cause ∧ t.sec.dbg = .d0 ∧ t.sec.session = none ∧ t.sec.chal = none ∧ t.work = none
    ∧ t.sec.blobs = s.sec.blobs ∧ t.sec.tamper = (s.sec.tamper || (cause != 3 && s.sec.sealBroken)) ∧ t.evr.ring = s.evr.ring ∧ t.pending = s.pending
    ∧ s.now ≤ t.now ∧ StartEnds t

/-! ## Replies and served records -/

/-- The datagram that carries a reply of the service processor (R272, R274, R278, R282): SEQ the next of the entry, MSW and
FRAME those of the latest status image, SAFETY and KSLOT zero. -/
def replyPacket (u : State) (src : Src) (opc : Nat) (st : Status) (body : Bytes) : Datagram :=
  { conn := (partnerAt u src.entry).conn, ip := (partnerAt u src.entry).ip, udpp := (partnerAt u src.entry).udpp
    data := pktBytes { ver := src.ver, opc := opc, tag := src.tag, seq := nextSeqOut u src.entry, src := ownAddr u.cfg
                       dst := src.addr, safety := 0
                       payload := replyPayload opc st 0 (replyMsw u) u.image.frame body } }

/-- One reply has left, and nothing else has changed but the running SEQ and the counters of packets. -/
def Replies (u t : State) (src : Src) (opc : Nat) (st : Status) (body : Bytes) : Prop :=
  t = { u with sent := u.sent ++ [.packet (replyPacket u src opc st body)]
               cmd := { u.cmd with ports := t.cmd.ports, seqOut := t.cmd.seqOut, rxok := t.cmd.rxok
                                   otherErr := t.cmd.otherErr } }

/-- Records served under R404 from `all`, ascending in number with `next0` the next to be assigned: whole records from
`start` up of at least the severity, none left out below NEXT, as many as the room takes or as 65,536 scanned allow. -/
def ServesRecords (ver room start minsev next0 : Nat) (all : List Kept) (body : Bytes) : Prop :=
  ∃ (ks : List Kept) (next : Nat), body = be 2 ks.length ++ be 8 next ++ ks.flatMap (recordOut ver)
    ∧ (ks.flatMap (recordOut ver)).length ≤ room ∧ ks.Sublist all ∧ next ≤ next0
    ∧ (∀ k ∈ ks, start ≤ k.r.num ∧ minsev ≤ k.r.sev ∧ k.r.num < next)
    ∧ (∀ k ∈ all, start ≤ k.r.num → k.r.num < next → minsev ≤ k.r.sev → k ∈ ks)
    ∧ (next = next0 ∨ ∃ k ∈ all, k.r.num = next ∧ start ≤ next
        ∧ (room < (ks.flatMap (recordOut ver)).length + (recordOut ver k).length
            ∨ 65536 ≤ (all.filter fun j => start ≤ j.r.num && j.r.num < next).length))

/-- Records ascend in number, and the next number is above them all. -/
def Ascending (all : List Kept) (next0 : Nat) : Prop :=
  (all.map (·.r.num)).Pairwise (· < ·) ∧ ∀ k ∈ all, k.r.num < next0

/-! ## Vital requests -/

/-- A vital request of this source reaches the lanes between two frames (R282 steps 8 and 12, R284, R286, R320): its entry
has the class, the lifecycle admits it, the module is ACTIVE or ALONE and not stopped, the engine is not fenced, both
images are loaded, no frame is in progress, and INPUT has room. -/
def TakesFrom (s : State) (src : Src) (st : Station) (p : Prt) : Prop :=
  (partnerAt s src.entry).addr ≠ 0xFFFF ∧ hasClass s src .vital = true ∧ s.sec.life ≠ .factory ∧ s.sec.life ≠ .retired
    ∧ s.xbr.fenced = false ∧ svcRuns s = true ∧ takesVital s = true ∧ s.cmd.fenced = false ∧ s.mzp = some st ∧ s.prt = some p
    ∧ s.work = none ∧ s.cmd.inbox = [] ∧ s.core.asks.length < 32

/-- The sender is no neighbour pair's module: its KIND is above 3 (R42, R278). -/
def OwnSide (s : State) (src : Src) : Prop := 3 < (partnerAt s src.entry).addr / 256 % 8

/-- The request has been taken, to be answered with the body, and the interlocking state is otherwise `x`. -/
def Taken (s t : State) (src : Src) (opc : Nat) (b : AskBody) (x : Inter) : Prop :=
  t = { hearFrom s src.entry with core := { x with asks := x.asks ++ [{ src := src, opc := opc, body := b }] } }

/-! ## Answers of the lanes -/

/-- The datagram that carries an answer of the lanes to a command that is not vital (R274, R278): MSW and FRAME those of the
frame that has carried it out. -/
def answerPacket (u : State) (src : Src) (opc : Nat) (st : Status) (body : Bytes) : Datagram :=
  { conn := (partnerAt u src.entry).conn, ip := (partnerAt u src.entry).ip, udpp := (partnerAt u src.entry).udpp
    data := pktBytes { ver := src.ver, opc := opc, tag := src.tag, seq := nextSeqOut u src.entry, src := ownAddr u.cfg
                       dst := src.addr, safety := 0
                       payload := replyPayload opc st 0 (msw u) u.core.counter body } }

/-- One answer has left, and its COMMAND record in a module whose CMD_IN is taken; nothing else has changed but the running
SEQ and the counters of packets. -/
def Answers (u t : State) (src : Src) (opc : Nat) (st : Status) (body : Bytes) : Prop :=
  t = { tellTaken u src opc st with
          sent := u.sent ++ [.packet (answerPacket u src opc st body)]
          cmd := { u.cmd with ports := t.cmd.ports, seqOut := t.cmd.seqOut, rxok := t.cmd.rxok } }

/-- The same between two frames; with a frame in progress the answer and its record wait for its COMMIT (R291). -/
def Answered (u t : State) (src : Src) (opc : Nat) (st : Status) (body : Bytes) : Prop :=
  (u.work = none → Answers u t src opc st body)
    ∧ ∀ x, u.work = some x → ∃ y, t = { u with work := some y, cmd := { u.cmd with rxok := t.cmd.rxok } }
        ∧ y = { x with recs := y.recs
                       replies := x.replies ++ [{ entry := src.entry, ver := src.ver, tag := src.tag, seq := src.seq, opc := opc
                                                  status := st, body := body }] }
        ∧ y.recs = (addRec x (takenRec src opc st)).recs

/-- A command answered by the lanes: `u` is what it makes of the state in which the partner has been heard. -/
def LaneAnswer (c : Instr) (s u : State) (src : Src) (opc : Nat) (st : Status) : Prop :=
  ∃ t, exec c s = .next t ∧ Answered u t src opc st []

/-- A command replied to by the service processor, likewise. -/
def SvcReply (c : Instr) (s u : State) (src : Src) (opc : Nat) (st : Status) (body : Bytes) : Prop :=
  ∃ t, exec c s = .next t ∧ Replies u t src opc st body

/-! ## Updating -/

/-- A status of 0x30 to 0x3A, which an update command is refused with (R340). -/
def IsUpdError (st : Status) : Prop := 0x30 ≤ st.code ∧ st.code ≤ 0x3A

/-- What a refusal leaves: the state itself, but for a status of 0x30 to 0x3A TRANSFER_ERR, live from now (R340). -/
def Noted (u x : State) (st : Status) : Prop :=
  (¬ IsUpdError st → x = u)
    ∧ (IsUpdError st → isLive x .upd uTRANSFER_ERR = true
        ∧ RaiseFrame { u with upd := { u.upd with errAt := some u.now } } x)

/-- An update command answered by the service processor with a status and without effect. -/
def UpdRefused (c : Instr) (s u : State) (src : Src) (opc : Nat) (st : Status) : Prop :=
  ∃ x t, exec c s = .next t ∧ Noted u x st ∧ Replies x t src opc st []

/-- An update command answered by the lanes with a status and without effect. -/
def UpdLaneRefused (c : Instr) (s u : State) (src : Src) (opc : Nat) (st : Status) : Prop :=
  ∃ x t, exec c s = .next t ∧ Noted u x st ∧ Answered x t src opc st []

/-- The same for a command that is answered at once, whatever frame is in progress. -/
def UpdNowRefused (c : Instr) (s u : State) (src : Src) (opc : Nat) (st : Status) : Prop :=
  ∃ x t, exec c s = .next t ∧ Noted u x st ∧ Answers x t src opc st []

/-- The seven bank pairs of another update engine. -/
def pairsOf (u v : UpdBlk) : UpdBlk :=
  { u with lfw1 := v.lfw1, lfw2 := v.lfw2, lfw3 := v.lfw3, prt := v.prt, mzp := v.mzp, svc := v.svc, ocf := v.ocf }

/-- The inactive banks of a part hold `b`; every other bank stands. -/
def InactiveBecomes (s t : State) (p : Part) (b : Bank) : Prop :=
  (∀ n ∈ pairNums p, otherBank (updPair t.upd n) = b ∧ activeBank (updPair t.upd n) = activeBank (updPair s.upd n))
    ∧ ∀ n < 7, n ∉ pairNums p → updPair t.upd n = updPair s.upd n

/-- A part's other banks have become active, in state `new`; those that ran are left in state `old` (R375, R383, R384). -/
def PartSwitched (s t : State) (p : Part) (new old : BankSt) : Prop :=
  ∀ n ∈ pairNums p, activeBank (updPair t.upd n) = { otherBank (updPair s.upd n) with state := new }
    ∧ ((activeBank (updPair s.upd n)).state = .confirmed ∨ (activeBank (updPair s.upd n)).state = .unconfirmed →
        otherBank (updPair t.upd n) = { activeBank (updPair s.upd n) with state := old })

/-- FALLBACK is live, told as automatic or not (R340, R384). -/
def FallbackTold (t : State) (auto : Bool) : Prop := isLive t .upd uFALLBACK = true ∧ t.upd.fbkAuto = auto

/-- What a fallback of a part makes, by the route that brought it in (R384): the service processor restarts on its former
bank; an MZP of the same MZPID comes back by an exchange 50 frames later; an LFW of the same EPOCH lane by lane; in an idle
module every part at once. -/
def FallsBack (s t : State) (p : Part) (auto : Bool) : Prop :=
  let left := if auto then BankSt.rejected else .previous
  FallbackTold t auto
    ∧ (p = .svc → PartSwitched s t .svc .confirmed left ∧ t.upd.svcAt = some s.now ∧ t.upd.unconf = none)
    ∧ (p = .mzp → idleRole s = false → sameMzpid s (otherBank s.upd.mzp).header = true →
        t.upd.exchange = some { frame := s.core.counter + 50, back := true, reject := auto } ∧ t.upd.fbk = true)
    ∧ (p = .lfw → idleRole s = false → hdrEpoch (otherBank s.upd.lfw1).header = lfwEpoch s →
        t.upd.fbk = true ∧ ∀ l, onNewBank s l = true → (laneOf t.vot l).wantBoot = true)
    ∧ (p = .lfw → idleRole s = true → PartSwitched s t .lfw .confirmed left ∧ ∀ l, (laneOf t.vot l).booting = true)

/-! ## Duplex and witness -/

/-- A vital packet of the witness protocol has left to an entry: `body` is what follows the vital prefix (R348, R349). -/
def WitnessSent (s t : State) (n opc : Nat) (body : Bytes) : Prop :=
  ∃ p : Pkt, p.opc = opc ∧ p.payload.drop 8 = body ∧ p.dst = (tableEntry s n).addr
    ∧ Sent.packet { conn := (tableEntry s n).conn, ip := (tableEntry s n).ip, udpp := (tableEntry s n).udpp
                    data := pktBytes p } ∈ t.sent

/-- PKT_OUT is served and has room for a packet to an entry with a connector (R306, R308, R320, R375). -/
def CanPush (s : State) (n : Nat) : Prop :=
  s.xbr.fenced = false ∧ svcRuns s = true ∧ s.xbr.q1.items.length < 256 ∧ (tableEntry s n).conn ≠ 0

/-- The session key of an entry stands in the slot in use, the beat leaves room for two more packets to it (R277, R278), and
they can leave. -/
def CanSendTo (s : State) (n : Nat) : Prop :=
  (plainKey? s 5 n (cmdKsel s.cfg)).isSome = true ∧ ((s.cmd.vitalOut.find? (·.1 == n)).map (·.2)).getD 0 < 62 ∧ CanPush s n

/-- The bridge after packets have gone through PKT_OUT (R306 to R311): nothing else of it has changed. -/
def throughOut (x y : XbrBlk) : XbrBlk := { x with q1 := y.q1, sawQloss := y.sawQloss, sawQptr := y.sawQptr }

/-- Only packets of the witness protocol have left: nothing else has changed. -/
def WitnessFrame (s t : State) : Prop :=
  s.sent <+: t.sent
    ∧ t = { s with free := t.free, sent := t.sent, cmd := { s.cmd with vitalOut := t.cmd.vitalOut }
                   dpx := { s.dpx with statusDue := t.dpx.statusDue }, xbr := throughOut s.xbr t.xbr }

/-- The witness grants: the epoch advances by one, the unit is the holder, the GRANT leaves, and every party hears (R350). -/
def Grants (u t : State) (n unit wframe : Nat) : Prop :=
  let g := (u.dpx.gepoch + 1) % 2 ^ 32
  (CanSendTo u n → WitnessSent u t n 0x49 (be 6 u.dpx.beat ++ be 1 unit ++ be 1 0 ++ be 4 g ++ be 6 wframe))
    ∧ WitnessFrame { u with dpx := { u.dpx with
        gepoch := g, holder := unit + 1
        units := grantee u unit wframe :: u.dpx.units.filter (·.unit != unit) } } t

/-- The witness refuses with a WHY, and nothing else. -/
def Refuses (u t : State) (n why : Nat) : Prop :=
  (CanSendTo u n → WitnessSent u t n 0x4A (be 6 u.dpx.beat ++ be 1 why ++ be 1 0)) ∧ WitnessFrame u t


end Sys2Proof.Safety
end

