-- ==== Sys2Proof/WellFormed.lean ====
section
/-! DEFINITION. Which commands are well formed: each operand fits the field that the spec gives it (R270 to R274, R286 to
R293, R346, R349, R371, R409), or names a thing that a module can have. What a field then means is for the meanings: a
value that fits its field and is none of the stated ones is answered BAD_LEN or BAD_STATE, and is well formed. -/

namespace Sys2Proof.WellFormed

open Sys2Proof.Machine

/-! ## Fields -/

def byte (n : Nat) : Bool := n < 256
def half (n : Nat) : Bool := n < 65536
def word (n : Nat) : Bool := n < 4294967296
def dbl (n : Nat) : Bool := n < 18446744073709551616
/-- A frame counter or beat counter of 48 bits (R63, R348). -/
def frameNo (n : Nat) : Bool := n < 281474976710656
def below (k n : Nat) : Bool := n < k
def bytesOf (k : Nat) (bs : Bytes) : Bool := bs.length == k
def upTo (k : Nat) (bs : Bytes) : Bool := bs.length ≤ k
def lengthUpTo (k : Nat) (ws : List Word) : Bool := ws.length ≤ k
/-- X10 to X13 (R269). -/
def commandPort (n : Nat) : Bool := 10 ≤ n && n ≤ 13
/-- X5 to X9 (R430). -/
def opticPort (n : Nat) : Bool := 5 ≤ n && n ≤ 9

/-! ## Operand forms -/

/-- The source of a packet: a partner entry, 32 and 33 for the senders on X13 without one (R387, R409, R410), and the header
fields (R273). -/
def srcWf (s : Src) : Bool := s.entry ≤ 33 && half s.addr && half s.tag && word s.seq && byte s.kslot && (s.ver == 1 || s.ver == 2)

def netWf (n : NetAddr) : Bool := commandPort n.conn && n.ip < 2 ^ 128 && half n.udpp
def datagramWf (d : DatagramIn) : Bool := commandPort d.conn && d.ip < 2 ^ 128 && half d.udpp && d.data.length ≤ 65535
def boundaryEntryWf (e : BoundaryEntry) : Bool := half e.obj && byte e.offer && byte e.border
def boundaryWf (b : BoundaryIn) : Bool := below 32 b.pair && frameNo b.frame && b.entries.length ≤ 255 && b.entries.all boundaryEntryWf
def grantReqWf (g : GrantReqIn) : Bool :=
  srcWf g.src && below 3 g.unit && frameNo g.fref && frameNo g.beat && byte g.reason && byte g.miss && frameNo g.wframe
def grantWf (g : GrantIn) : Bool := frameNo g.fref && frameNo g.beat && byte g.unit && word g.gepoch && frameNo g.wframe
def witnessWf (w : WitIn) : Bool :=
  below 32 w.entry && frameNo w.fref && frameNo w.beat && byte w.role && byte w.flags && frameNo w.wframe && byte w.miss && byte w.hl
    && word w.gepoch && below 8 w.kind
def segmentWf (g : SegIn) : Bool := below 2 g.unit && half g.seg && half g.nseg
def heartbeatWf (h : HeartIn) : Bool := below 2 h.unit && frameNo h.wframe && half h.msw
/-- A piece of work of step 1, 2 or 3: its bank or segment is one that the step tests (R192). -/
def pieceWf (st u : Nat) : Bool := st ≤ 3 && testPieces.any fun p => p.1 == st && p.2.1 == u
/-- A finding names a piece of work, and a block of R193. -/
def findingWf : TestFinding → Bool
  | .cell st u => pieceWf st u
  | .copy st u | .restored st u | .image st u => pieceWf st u && st != 1
  | .bist b _ => b != 0 && below 6 b
  | .injection | .keyStore | .knownAnswer => true
/-- A test has 28 pieces of work. -/
def testWf (r : TestResult) : Bool := r.found.all findingWf && r.took.length ≤ 28
/-- The queues of R306 whose pointers an upset changes. -/
def tickWf (e : TickEnv) : Bool := e.ptrUpsets.all fun u => below 6 u.queue
/-- An access of a lane, or a transfer of a bridge master: 1 to 8 bytes, crossed at most as often as it is tried (R301, R302, R304). -/
def accessWf (a : Access) (writer : Nat) : Bool :=
  match a with
  | .lanes => half writer
  | .service t => byte writer && 1 ≤ t.bytes && t.bytes ≤ 8 && t.crossed ≤ 3
/-- The seven phases (R29, R47). -/
def drainWf (d : DrainEnv) : Bool := d.durations.length ≤ 7

end Sys2Proof.WellFormed

namespace Sys2Proof

open Sys2Proof.WellFormed

/-- Whether every operand of a command fits its field. -/
def Instr.wf : Instr → Bool
  | .frameTick _ env => tickWf env
  | .lanePublish _ _ _ => true
  | .voteInstant _ _ d => drainWf d
  | .releasePoint _ => true
  | .overrun _ => true
  | .watchdog _ => true
  | .shadowFramesMatched _ => true
  | .instanceIn _ => true
  | .pralineDuoLimit _ => true
  | .duoLimit _ => true
  | .duoSwitchoverTimeout _ => true
  | .laneFault _ _ _ => true
  | .tableScrub _ _ => true
  | .timerExpiry num _ => half num
  | .moveTimerExpiry obj _ => half obj
  | .closeTimerExpiry obj _ => half obj
  | .settlePeriodEnd obj _ => half obj
  | .boundaryAgeLimit obj _ => half obj
  | .waitLimitExpiry route _ => half route
  | .approachLockExpiry route _ => half route
  | .overlapExpiry route _ => half route
  | .emergencyReleaseExpiry route _ => half route
  | .proofTestDue _ _ => true
  | .proofTestEnd _ res _ => testWf res
  | .ptLate _ _ => true
  | .fieldCycleStart _ _ => true
  | .offsetCorrection _ _ => true
  | .uplink _ node _ _ _ => byte node
  | .syncFrame _ _ _ => true
  | .dropout _ node => byte node
  | .returnToAbsent _ node => byte node
  | .rangeReply _ _ data _ _ => upTo 4016 data
  | .rangingWindowTimeout _ _ => true
  | .ack _ data => upTo 4016 data
  | .ocfState _ data => upTo 4016 data
  | .diagReply _ data => upTo 4016 data
  | .configSetRepeat _ node => byte node
  | .ocfRestart _ node => byte node
  | .guardianViolation _ _ _ => true
  | .guardianBlockedExpiry _ _ => true
  | .barrierDownstreamFrame _ _ => true
  | .restartEnd _ => true
  | .barrierUpstreamFrame _ _ => true
  | .barrierLoss _ _ => true
  | .keyRoundRepeat _ => true
  | .toffeeExpiry _ => true
  | .filtExpiry input _ => below 32 input
  | .discrepancyExpiry chan _ => below 16 chan
  | .axleCount pair _ _ => below 4 pair
  | .shuntTest input _ => below 32 input
  | .locationTest bank _ _ => below 4 bank
  | .offPulse out _ _ => below 16 out
  | .tripChannelTest chan _ _ => below 4 chan
  | .degx chan _ => below 4 chan
  | .degxOpen chan _ => below 4 chan
  | .outputFault out _ _ _ => below 16 out
  | .faultClassification bank _ _ => below 4 bank
  | .supplySag x2 _ => half x2
  | .x2Loss _ => true
  | .converter _ => true
  | .restartTestsEnd _ _ => true
  | .x2Return x2 _ => half x2
  | .x2WithinRange x2 _ => half x2
  | .converterRecovery _ => true
  | .inputChange input _ _ => below 32 input
  | .discrepancyFaultClear chan _ => below 16 chan
  | .comparatorDisagreement input _ => below 32 input
  | .datagram d _ _ => datagramWf d
  | .reassemblyTimeout conn ident _ => commandPort conn && word ident
  | .pendingExpiry entry seq => below 32 entry && word seq
  | .partnerSilent entry _ => below 32 entry
  | .routeSet src route wait => srcWf src && half route && half wait
  | .routeCancel src route => srcWf src && half route
  | .emergencyRelease src route => srcWf src && half route
  | .pointMove src _ target pos => srcWf src && half target && byte pos
  | .sectionRestore src obj => srcWf src && half obj
  | .blockSet src _ target => srcWf src && half target
  | .blockClear src _ target => srcWf src && half target
  | .guardAck src guard => srcWf src && byte guard
  | .stationCmd src code arg => srcWf src && half code && dbl arg
  | .boundaryState src msg => srcWf src && boundaryWf msg
  | .grantRequest p _ => grantReqWf p
  | .startWindowEnd _ => true
  | .witnessStartEnd _ => true
  | .grant p _ => grantWf p
  | .takeoverFirstTick _ => true
  | .grantRefuse why _ => byte why
  | .witnessStatus p _ => witnessWf p
  | .beat _ => true
  | .leaseLapse _ => true
  | .waferSegment g _ => segmentWf g
  | .waferSegmentTimeout _ => true
  | .waferAcknowledgement frame _ _ => frameNo frame
  | .heartbeat h _ => heartbeatWf h
  | .heartbeatSend _ => true
  | .waferMiss _ => true
  | .oldActiveToStandby _ => true
  | .peerDown _ => true
  | .witnessDown _ => true
  | .identity src => srcWf src
  | .status src => srcWf src
  | .objectRead src first count => srcWf src && half first && half count
  | .routeRead src first count => srcWf src && half first && half count
  | .crumbRead src first count => srcWf src && half first && half count
  | .eventRead src start maxb minsev => srcWf src && dbl start && half maxb && byte minsev
  | .subscribe src period => srcWf src && byte period
  | .timeRead src _ => srcWf src
  | .sessionOpen src net kslot _ => srcWf src && netWf net && byte kslot
  | .sessionOpenProof src net kslot _ _ _ => srcWf src && netWf net && byte kslot
  | .sessionClose src => srcWf src
  | .sessionTimeout _ => true
  | .authLockoutEnd entry _ => below 64 entry
  | .regReadCmd src addr count => srcWf src && word addr && half count
  | .regWriteCmd src addr words => srcWf src && word addr && lengthUpTo 2040 words
  | .commit src => srcWf src
  | .stageDiscard src => srcWf src
  | .partnerStage src entry words => srcWf src && byte entry && words.length == 8
  | .settingsSave src => srcWf src
  | .laneOut src _ => srcWf src
  | .laneIn src _ => srcWf src
  | .duoExtend src hours => srcWf src && byte hours
  | .lioRestart src => srcWf src
  | .switchover src => srcWf src
  | .debug src level lane => srcWf src && byte level && byte lane
  | .lifecycle src target serial => srcWf src && byte target && dbl serial
  | .keyLoad src ktype index slot epub wrapped _ => srcWf src && byte ktype && byte index && byte slot && bytesOf 97 epub && bytesOf 40 wrapped
  | .keyErase src ktype index slot => srcWf src && byte ktype && byte index && byte slot
  | .timeSet src time _ => srcWf src && dbl time
  | .restartModule src _ _ => srcWf src
  | .restartCold src _ _ => srcWf src
  | .tamperRearm src serial _ _ _ => srcWf src && dbl serial
  | .updBegin src part bank header => srcWf src && byte part && byte bank && bytesOf 64 header
  | .updBlock src xid num data crc => srcWf src && word xid && word num && upTo 4096 data && word crc
  | .blockNote xid num readback => word xid && word num && upTo 4096 readback
  | .updBitmap src xid first => srcWf src && word xid && word first
  | .updVerify src xid => srcWf src && word xid
  | .verifyEnd _ _ => true
  | .updActivate src part unit delay _ => srcWf src && byte part && byte unit && half delay
  | .laneBoot _ _ _ => true
  | .preload _ _ => true
  | .exchangeAbandon _ => true
  | .healthy _ => true
  | .confirmWindowExpiry _ _ => true
  | .updConfirm src part => srcWf src && byte part
  | .updAbort src xid => srcWf src && word xid
  | .updFallback src part _ _ => srcWf src && byte part
  | .ocfDistribute src pkg _ => srcWf src && word pkg
  | .svcRestartEnd _ _ => true
  | .echo src data => srcWf src && upTo 8192 data
  | .portCounters src conn => srcWf src && commandPort conn
  | .laneDiag src lane start maxb => srcWf src && byte lane && word start && half maxb
  | .flatchClear src _ _ => srcWf src
  | .xbrQack q iseq => below 6 q && half iseq
  | .xbrQpush q conn data master => below 6 q && below 16 conn && upTo 8220 data && byte master
  | .xbrQflush q => below 6 q
  | .semAcquire n master _ => below 8 n && byte master
  | .semRelease n master => below 8 n && byte master
  | .semaphoreTimeout n _ => below 8 n
  | .xbrWinDone _ => true
  | .transferTimeout addr _ => word addr
  | .registerWrite acc writer addr _ _ => accessWf acc writer && word addr
  | .frmPhclr _ => true
  | .prlCclr _ => true
  | .votClr _ => true
  | .bstClr _ => true
  | .frnClr _ _ => true
  | .lioClr _ => true
  | .cmdClr _ => true
  | .xbrClr _ => true
  | .dpxClr _ => true
  | .evrClr _ => true
  | .pwrClr _ => true
  | .bridgeEcc addr _ => word addr
  | .eventRecordTaken _ => true
  | .flush _ => true
  | .flushEnd _ _ => true
  | .segmentCopy _ => true
  | .mark _ => true
  | .ptpSync domain _ _ => byte domain
  | .ptpUnlock _ => true
  | .rtcWrite _ => true
  | .powerOn _ _ => true
  | .holdup x1 _ => half x1
  | .x1Return x1 _ => half x1
  | .holdupSafeStop _ => true
  | .holdupZeroise _ => true
  | .backup _ => true
  | .tamper _ => true
  | .cellMeasurement mv => half mv
  | .s1Release _ _ _ => true
  | .s1Stuck _ => true
  | .s1Rearm _ => true
  | .svcWdog _ => true
  | .temp _ => true
  | .rail _ => true
  | .opticInserted conn _ => opticPort conn
  | .timebaseLoss _ => true
  | .x1Range x1 _ => half x1
  | .backupDomainLoss _ => true

/-- The partner that a command comes from, for the commands that come in a packet. -/
def Instr.sender : Instr → Option Machine.Src
  | .frameTick _ _ => none
  | .lanePublish _ _ _ => none
  | .voteInstant _ _ _ => none
  | .releasePoint _ => none
  | .overrun _ => none
  | .watchdog _ => none
  | .shadowFramesMatched _ => none
  | .instanceIn _ => none
  | .pralineDuoLimit _ => none
  | .duoLimit _ => none
  | .duoSwitchoverTimeout _ => none
  | .laneFault _ _ _ => none
  | .tableScrub _ _ => none
  | .timerExpiry _ _ => none
  | .moveTimerExpiry _ _ => none
  | .closeTimerExpiry _ _ => none
  | .settlePeriodEnd _ _ => none
  | .boundaryAgeLimit _ _ => none
  | .waitLimitExpiry _ _ => none
  | .approachLockExpiry _ _ => none
  | .overlapExpiry _ _ => none
  | .emergencyReleaseExpiry _ _ => none
  | .proofTestDue _ _ => none
  | .proofTestEnd _ _ _ => none
  | .ptLate _ _ => none
  | .fieldCycleStart _ _ => none
  | .offsetCorrection _ _ => none
  | .uplink _ _ _ _ _ => none
  | .syncFrame _ _ _ => none
  | .dropout _ _ => none
  | .returnToAbsent _ _ => none
  | .rangeReply _ _ _ _ _ => none
  | .rangingWindowTimeout _ _ => none
  | .ack _ _ => none
  | .ocfState _ _ => none
  | .diagReply _ _ => none
  | .configSetRepeat _ _ => none
  | .ocfRestart _ _ => none
  | .guardianViolation _ _ _ => none
  | .guardianBlockedExpiry _ _ => none
  | .barrierDownstreamFrame _ _ => none
  | .restartEnd _ => none
  | .barrierUpstreamFrame _ _ => none
  | .barrierLoss _ _ => none
  | .keyRoundRepeat _ => none
  | .toffeeExpiry _ => none
  | .filtExpiry _ _ => none
  | .discrepancyExpiry _ _ => none
  | .axleCount _ _ _ => none
  | .shuntTest _ _ => none
  | .locationTest _ _ _ => none
  | .offPulse _ _ _ => none
  | .tripChannelTest _ _ _ => none
  | .degx _ _ => none
  | .degxOpen _ _ => none
  | .outputFault _ _ _ _ => none
  | .faultClassification _ _ _ => none
  | .supplySag _ _ => none
  | .x2Loss _ => none
  | .converter _ => none
  | .restartTestsEnd _ _ => none
  | .x2Return _ _ => none
  | .x2WithinRange _ _ => none
  | .converterRecovery _ => none
  | .inputChange _ _ _ => none
  | .discrepancyFaultClear _ _ => none
  | .comparatorDisagreement _ _ => none
  | .datagram _ _ _ => none
  | .reassemblyTimeout _ _ _ => none
  | .pendingExpiry _ _ => none
  | .partnerSilent _ _ => none
  | .routeSet src _ _ => some src
  | .routeCancel src _ => some src
  | .emergencyRelease src _ => some src
  | .pointMove src _ _ _ => some src
  | .sectionRestore src _ => some src
  | .blockSet src _ _ => some src
  | .blockClear src _ _ => some src
  | .guardAck src _ => some src
  | .stationCmd src _ _ => some src
  | .boundaryState src _ => some src
  | .grantRequest _ _ => none
  | .startWindowEnd _ => none
  | .witnessStartEnd _ => none
  | .grant _ _ => none
  | .takeoverFirstTick _ => none
  | .grantRefuse _ _ => none
  | .witnessStatus _ _ => none
  | .beat _ => none
  | .leaseLapse _ => none
  | .waferSegment _ _ => none
  | .waferSegmentTimeout _ => none
  | .waferAcknowledgement _ _ _ => none
  | .heartbeat _ _ => none
  | .heartbeatSend _ => none
  | .waferMiss _ => none
  | .oldActiveToStandby _ => none
  | .peerDown _ => none
  | .witnessDown _ => none
  | .identity src => some src
  | .status src => some src
  | .objectRead src _ _ => some src
  | .routeRead src _ _ => some src
  | .crumbRead src _ _ => some src
  | .eventRead src _ _ _ => some src
  | .subscribe src _ => some src
  | .timeRead src _ => some src
  | .sessionOpen src _ _ _ => some src
  | .sessionOpenProof src _ _ _ _ _ => some src
  | .sessionClose src => some src
  | .sessionTimeout _ => none
  | .authLockoutEnd _ _ => none
  | .regReadCmd src _ _ => some src
  | .regWriteCmd src _ _ => some src
  | .commit src => some src
  | .stageDiscard src => some src
  | .partnerStage src _ _ => some src
  | .settingsSave src => some src
  | .laneOut src _ => some src
  | .laneIn src _ => some src
  | .duoExtend src _ => some src
  | .lioRestart src => some src
  | .switchover src => some src
  | .debug src _ _ => some src
  | .lifecycle src _ _ => some src
  | .keyLoad src _ _ _ _ _ _ => some src
  | .keyErase src _ _ _ => some src
  | .timeSet src _ _ => some src
  | .restartModule src _ _ => some src
  | .restartCold src _ _ => some src
  | .tamperRearm src _ _ _ _ => some src
  | .updBegin src _ _ _ => some src
  | .updBlock src _ _ _ _ => some src
  | .blockNote _ _ _ => none
  | .updBitmap src _ _ => some src
  | .updVerify src _ => some src
  | .verifyEnd _ _ => none
  | .updActivate src _ _ _ _ => some src
  | .laneBoot _ _ _ => none
  | .preload _ _ => none
  | .exchangeAbandon _ => none
  | .healthy _ => none
  | .confirmWindowExpiry _ _ => none
  | .updConfirm src _ => some src
  | .updAbort src _ => some src
  | .updFallback src _ _ _ => some src
  | .ocfDistribute src _ _ => some src
  | .svcRestartEnd _ _ => none
  | .echo src _ => some src
  | .portCounters src _ => some src
  | .laneDiag src _ _ _ => some src
  | .flatchClear src _ _ => some src
  | .xbrQack _ _ => none
  | .xbrQpush _ _ _ _ => none
  | .xbrQflush _ => none
  | .semAcquire _ _ _ => none
  | .semRelease _ _ => none
  | .semaphoreTimeout _ _ => none
  | .xbrWinDone _ => none
  | .transferTimeout _ _ => none
  | .registerWrite _ _ _ _ _ => none
  | .frmPhclr _ => none
  | .prlCclr _ => none
  | .votClr _ => none
  | .bstClr _ => none
  | .frnClr _ _ => none
  | .lioClr _ => none
  | .cmdClr _ => none
  | .xbrClr _ => none
  | .dpxClr _ => none
  | .evrClr _ => none
  | .pwrClr _ => none
  | .bridgeEcc _ _ => none
  | .eventRecordTaken _ => none
  | .flush _ => none
  | .flushEnd _ _ => none
  | .segmentCopy _ => none
  | .mark _ => none
  | .ptpSync _ _ _ => none
  | .ptpUnlock _ => none
  | .rtcWrite _ => none
  | .powerOn _ _ => none
  | .holdup _ _ => none
  | .x1Return _ _ => none
  | .holdupSafeStop _ => none
  | .holdupZeroise _ => none
  | .backup _ => none
  | .tamper _ => none
  | .cellMeasurement _ => none
  | .s1Release _ _ _ => none
  | .s1Stuck _ => none
  | .s1Rearm _ => none
  | .svcWdog _ => none
  | .temp _ => none
  | .rail _ => none
  | .opticInserted _ _ => none
  | .timebaseLoss _ => none
  | .x1Range _ _ => none
  | .backupDomainLoss _ => none

end Sys2Proof
end

