-- ==== Sys2Proof/Certificates/Slice0/Obligations.lean ====
section
/-! DEFINITION. The statements for the provers, each a proposition; its docstring says what it states and which rules of
spec/ it rests on. A statement about a value that the spec leaves open holds for every such value. -/

open Sys2Proof Sys2Proof.Machine Sys2Proof.Safety

/-! ## The whole machine -/

/-- For every command c and state s whose queue starts with c, step s is exec of c on s with the queue's rest. On an
empty queue the step answers s itself: that the block idles is the model's choice (log entry 3). (02_frame.md,
10_command_packets.md) -/
def Obligations.StepTakesTheFrontCommand : Prop :=
  (∀ (c : Instr) (rest : List Instr) (s : State), s.pending = c :: rest → step s = exec c { s with pending := rest })
    ∧ ∀ s : State, s.pending = [] → step s = .next s

/-- For each of the 199 commands, with any operands, and every state there is a next state, in which the queue of
waiting commands is as it was and the time of the module timebase is not before what it was. The spec gives every
condition an effect on the state; that a row whose condition does not hold leaves the state as it is, and that
nothing ends in a fault or a refusal, is the model's choice (log entry 2), and so is time as a field of the state in
µs (log entry 1). What each command does is said by the statements of its family. (12_faults.md, 00_scope.md,
02_frame.md) -/
def Obligations.EveryCommandCompletes : Prop :=
  ∀ (c : Instr) (s : State), ∃ t, exec c s = .next t ∧ t.pending = s.pending ∧ s.now ≤ t.now

/-- For every state in which every live source of the fourteen blocks has its FLATCH bit set, a step that answers a
next state leaves one in which the same holds, whatever command stands at the front. (R326, R327) -/
def Obligations.EveryStepKeepsStickyBits : Prop :=
  ∀ s t : State, Latched s → step s = .next t → Latched t

/-- For every state in which a stopped module has no frame in progress, a step that answers a next state leaves one
in which the same holds: nothing of a frame that was not yet released survives the stop, and a stopped module starts
no frame. (R334, R54) -/
def Obligations.EveryStepKeepsStoppedQuiet : Prop :=
  ∀ s t : State, Quiet s → step s = .next t → Quiet t

/-- For every state in which each of the six queues will number its next item from 1 to 65,535 and holds only items
numbered so, a step that answers a next state leaves one in which the same holds: ISEQ 0 is never assigned, whatever
pushes, acknowledges, flushes, stops and restarts happen. (R307, R310) -/
def Obligations.EveryStepKeepsQueueNumbers : Prop :=
  ∀ s t : State, Numbered s → step s = .next t → Numbered t

/-- The registers of the frame, Praline, the vote, the boost controllers, the field and partner ports, the local
I/O, the command unit, the bridge, the duplex unit, the update unit and the event recorder, and SYS_ID, SYS_STAT and
the security and power words shown, read after reset as the reset column of their tables says: the words with a set
bit one by one, the others 0. After reset every live source is sticky (none is live), no frame is in progress in a
stopped module, the queues are numbered from 1, and no command waits. SYS_VAR is that of a UX-4820 without options:
the variant a reset state has is the model's choice (log entry 4). (R70, R153, R183, R203, R239, R267, R295, R319,
R362, R390, R406, 19_identifiers.md) -/
def Obligations.ResetLeavesTheStatedRegisters : Prop :=
  (∀ p ∈ ([
      (0x0, 0x4E524800), (0x4, 0x20440000), (0x40, 0x211), (0xBF008, 0xD5), (0xCF008, 0xD3), (0xF008, 0x54),
      (0x10000, 0x1401), (0x10004, 0x20A), (0x10008, 0x7), (0x1F008, 0xCF), (0x30000, 0x48), (0x30004, 0x100),
      (0x3000C, 0x400), (0x3F008, 0x2110EA9), (0x20000, 0x348), (0x20008, 0x10101), (0x2F008, 0x639775),
      (0xA0000, 0x3C08), (0xAF008, 0xD95), (0x40000, 0x30303), (0x48000, 0x30303), (0x4F008, 0xA154A154),
      (0x50000, 0xA0F3C), (0x5F008, 0x45546A), (0xD0000, 0xC5300019), (0xD0100, 0xFFFF0000), (0xD017C,
      0xFFFF0000), (0xDF008, 0x541), (0x60014, 0x3), (0x60070, 0x80000000), (0x6F008, 0x205), (0x70000,
      0x8281900), (0x70004, 0x1), (0x7F008, 0x355), (0x80000, 0x1E0A00), (0x8F008, 0x54), (0x90000, 0x100),
      (0x90004, 0xC0000000), (0x9F008, 0x15), (0xC0000, 0x1E)] : List (Nat × Nat)),
      (regView State.reset p.1).map BitVec.toNat = some p.2) ∧
  (∀ a ∈ ([
      0x10010, 0x10014, 0x10018, 0x10020, 0x10038, 0x1003C, 0x10040, 0x30008, 0x30010, 0x30014, 0x30018,
      0x3001C, 0x30020, 0x30024, 0x30028, 0x30040, 0x30080, 0x300BC, 0x20004, 0x2000C, 0x20010, 0x20014,
      0x20018, 0x2001C, 0x20020, 0x20024, 0x20028, 0x2002C, 0x20030, 0x20034, 0x20038, 0xA0004, 0xA0010,
      0xA0018, 0xA0020, 0xA0028, 0xA0030, 0xA0034, 0xA0038, 0xA003C, 0x40004, 0x48004, 0x40008, 0x4000C,
      0x40010, 0x40014, 0x40018, 0x40400, 0x407FC, 0x50008, 0x5000C, 0x50010, 0x50014, 0x50018, 0x5001C,
      0x50020, 0x50024, 0x50028, 0x5002C, 0x50050, 0x50080, 0x500FC, 0xD0004, 0xD0008, 0xD0010, 0xD0014,
      0xD0018, 0xD001C, 0xD0020, 0x60000, 0x60004, 0x60008, 0x6000C, 0x60010, 0x60018, 0x6001C, 0x60020,
      0x6003C, 0x60040, 0x60054, 0x60060, 0x60064, 0x60068, 0x6006C, 0x70008, 0x7000C, 0x70010, 0x70014,
      0x70018, 0x7001C, 0x70020, 0x80004, 0x80008, 0x8000C, 0x80010, 0x80014, 0x80018, 0x80040, 0x80058,
      0x80080, 0x800B4, 0x90008, 0x9000C, 0x90010, 0x90014, 0x90018, 0x9001C, 0x90020, 0x90024] : List Nat),
      (regView State.reset a).map BitVec.toNat = some 0) ∧
  Latched State.reset ∧ Quiet State.reset ∧ Numbered State.reset ∧ State.reset.pending = []

/-! ## Rules of the whole machine -/

/-- For every block of every state its one interrupt line is asserted if and only if there is a bit that is 1 in the
block's FLATCH and in its FIEN; the line is a function of the block's own sub-block, and no state other than that
depends on it. (R325) -/
def Obligations.InterruptLineFollowsEnabledStickyBits : Prop :=
  ∀ (s : State) (b : Blk),
    (irqLine s b = true ↔ ∃ n, n < 16 ∧ (faultOf s.faults b).latch.getLsbD n = true ∧ (faultOf s.faults b).ien.getLsbD n = true)
      ∧ ∀ t : State, faultOf t.faults b = faultOf s.faults b → irqLine t b = irqLine s b

/-- For every timer, RUN input and frozen interval of a frame that follows no takeover: not run, REMAIN is the
preset and Q 0; run and not run in the frame before, the same; run in both, REMAIN falls by the interval in ms,
rounded down for a RELEASE timer and up for a WATCH timer, not below 0, and Q is 1 exactly if it is 0. The preset
and the kind stand. A longer interval never leaves a WATCH timer more, and a RELEASE timer loses at most the
interval. (R88) -/
def Obligations.TimerCountsInItsFrame : Prop :=
  ∀ (fin : FrameIn) (run : Bool) (t : TimerInst), fin.takeover = none →
    let u := tickTimer fin run false t
    let e := match t.kind with
      | .release => fin.elapsed / 1000
      | .watch => (fin.elapsed + 999) / 1000
    u.num = t.num ∧ u.kind = t.kind ∧ u.preset = t.preset ∧ u.run = run
      ∧ (run = false → u.remain = t.preset ∧ u.q = false)
      ∧ (run = true → t.run = false → u.remain = t.preset ∧ u.q = false)
      ∧ (run = true → t.run = true → u.remain = (if t.remain > e then t.remain - e else 0) ∧ (u.q = true ↔ u.remain = 0))
      ∧ (run = true → t.run = true → t.kind = .release → 1000 * t.remain ≤ 1000 * u.remain + fin.elapsed)
      ∧ (run = true → t.run = true → t.kind = .watch → u.remain ≠ 0 → 1000 * u.remain + fin.elapsed ≤ 1000 * t.remain)

/-- For every latch and inputs: exactly one true input sets Q to 1 for SET and to 0 for RESET, both set it to the
declared restrictive side, neither keeps its committed value; and a latch starts at its restrictive side. (R87) -/
def Obligations.LatchTakesItsRestrictiveSideOnBoth : Prop :=
  (∀ (set reset restr : Bool) (l : LatchInst),
    (tickLatch set reset restr l).num = l.num
      ∧ (set = true → reset = false → (tickLatch set reset restr l).q = true)
      ∧ (set = false → reset = true → (tickLatch set reset restr l).q = false)
      ∧ (set = true → reset = true → (tickLatch set reset restr l).q = restr)
      ∧ (set = false → reset = false → (tickLatch set reset restr l).q = l.q))
    ∧ ∀ d : LatchDef, (coldLatch d).num = d.num ∧ (coldLatch d).q = d.restr

/-- A source that is live is not raised again. Raising one that is not: its live and sticky bits are set, no other
bit of any block changes, and beyond its record only what its severity calls for. At RECORD and WARN no unit is
fenced and nothing stops; at FENCE and SAFE-STOP the block's fence unit is fenced (Praline, the cluster of the
source, the local I/O, vital control, the bridge, the VOTING lane named with it); at SAFE-STOP the module is
stopped, and one that ran has no frame in progress, no grant, no frame tick to come, no local command or downlink
message waiting for release. (R326, R327, R329, R333, R334, R337, R338) -/
def Obligations.RaisingLatchesAndReacts : Prop :=
  ∀ (s : State) (b : Blk) (n : Nat) (lane : Option Lane), n < sourceCount b →
    let t := raiseAt s b n lane
    let sev := sevOf s.cfg b n
    (isLive s b n = true → t = s)
    ∧ (isLive s b n = false →
        isLive t b n = true ∧ isLatched t b n = true
        ∧ (∀ c k, ¬ (c = b ∧ k = n) → isLive t c k = isLive s c k ∧ isLatched t c k = isLatched s c k)
        ∧ RaiseFrame s t
        ∧ ((sev = .record ∨ sev = .warn) → t.vot = s.vot ∧ t.prl = s.prl ∧ t.frn0 = s.frn0 ∧ t.frn1 = s.frn1 ∧ t.lio = s.lio
            ∧ t.cmd = s.cmd ∧ t.xbr.fenced = s.xbr.fenced ∧ t.dpx = s.dpx ∧ t.sys = s.sys ∧ t.frm = s.frm
            ∧ t.work.isSome = s.work.isSome)
        ∧ ((sev = .fence ∨ sev = .safeStop) →
            (b = .prl → t.prl.fenced = true) ∧ (b = .frn → (frnOf t (if n < 8 then .c0 else .c1)).fenced = true)
            ∧ (b = .lio → t.lio.vital.fence = true) ∧ (b = .cmd → t.cmd.fenced = true) ∧ (b = .xbr → t.xbr.fenced = true)
            ∧ ∀ l, (b = .vot ∨ b = .bst) → lane = some l → isVoting s.vot l = true → (laneOf t.vot l).state = .fenced)
        ∧ (sev = .safeStop → t.sys.stopped = true
            ∧ (s.sys.stopped = false → t.work = none ∧ t.dpx.granted = false ∧ t.frm.nextTick = none ∧ t.frm.voted = false
                ∧ t.lio.vital.back = none ∧ t.lio.vital.stopped = true ∧ t.frn0.back = [] ∧ t.frn1.back = []
                ∧ t.frn0.stopPending = true ∧ t.frn1.stopPending = true)))

/-! ## The exchange bridge -/

/-- With the bridge not fenced and the copies of the queue's pointers agreeing: naming the head's ISEQ removes the
head item of that queue and nothing else of the module, so the numbering and every other queue stand; any other
ISEQ, and any acknowledge on an empty queue, ends in an error of cause 9, and nothing is consumed. Where the copies
of a pointer differ, the access resets the queue: its items go and count in LOSS, both copies agree again, the
mismatch is noted for the drain, and the acknowledge ends with cause 9. (R308, R301, R311) -/
def Obligations.QueueAcknowledgeConsumesHead : Prop :=
  ∀ (s : State) (q iseq : Nat), s.xbr.fenced = false → q ≤ 5 →
    (∀ i rest, pointersAgree (queueOf s.xbr q) = true → (queueOf s.xbr q).items = i :: rest → i.iseq = iseq →
      ∃ t, exec (.xbrQack q iseq) s = .next t ∧ (queueOf t.xbr q).items = rest
        ∧ (queueOf t.xbr q).nextSeq = (queueOf s.xbr q).nextSeq ∧ (queueOf t.xbr q).loss = (queueOf s.xbr q).loss
        ∧ OtherQueues s t q ∧ QueueFrame s t)
    ∧ (pointersAgree (queueOf s.xbr q) = true → (∀ i rest, (queueOf s.xbr q).items = i :: rest → i.iseq ≠ iseq) →
      ∃ t, exec (.xbrQack q iseq) s = .next t ∧ EndsInError s t 0x60060 9 true)
    ∧ (pointersAgree (queueOf s.xbr q) = false →
      ∃ t, exec (.xbrQack q iseq) s = .next t ∧ (queueOf t.xbr q).items = [] ∧ pointersAgree (queueOf t.xbr q) = true
        ∧ (queueOf t.xbr q).loss = min 255 ((queueOf s.xbr q).loss + (queueOf s.xbr q).items.length)
        ∧ (queueOf t.xbr q).nextSeq = (queueOf s.xbr q).nextSeq ∧ OtherQueues s t q ∧ t.xbr.sawQptr = true
        ∧ t.xbr.errCause = 9 ∧ t.xbr.errCnt = (s.xbr.errCnt + 1) % 2 ^ 32)

/-- With the copies of the queue's pointers agreeing: a push of a lane into queues 1 to 5, and one of the service
processor into CMD_IN by the holder of semaphore 0 with a length that R309 allows and the bridge not fenced, appends
one item with the queue's next ISEQ and advances the numbering, where the queue has room. A lane's push that finds
none leaves the items and advances LOSS up to 255. A service push without semaphore 0, or of a length outside the
limits, ends in an error of cause 9; one that finds CMD_IN full leaves it, is counted in CMD_QDROP and raises
QUEUE_FULL. A service push also ends the assembly of an item in port 0. Nothing else of the module changes. (R306,
R307, R309, R295, R296) -/
def Obligations.QueuePushTakesOrCountsLoss : Prop :=
  ∀ (s : State) (q conn : Nat) (data : Bytes) (master : Nat),
    let took := fun t => (queueOf t.xbr q).items
          = (queueOf s.xbr q).items ++ [{ iseq := (queueOf s.xbr q).nextSeq, conn := conn, data := data }]
        ∧ (queueOf t.xbr q).nextSeq = (if (queueOf s.xbr q).nextSeq ≥ 65535 then 1 else (queueOf s.xbr q).nextSeq + 1)
        ∧ OtherQueues s t q
    let s0 := { s with xbr := { s.xbr with port := [], portCut := false } }
    let allowed := if conn = 9 then 24 ≤ data.length ∧ data.length ≤ 28 else 28 ≤ data.length ∧ data.length ≤ 8220
    pointersAgree (queueOf s.xbr q) = true →
    (1 ≤ q → q ≤ 5 → queueRoom s.xbr q data.length = true →
        ∃ t, exec (.xbrQpush q conn data 0) s = .next t ∧ took t ∧ QueueFrame s t)
    ∧ (1 ≤ q → q ≤ 5 → queueRoom s.xbr q data.length = false →
        ∃ t, exec (.xbrQpush q conn data 0) s = .next t ∧ (queueOf t.xbr q).items = (queueOf s.xbr q).items
          ∧ (queueOf t.xbr q).loss = min 255 ((queueOf s.xbr q).loss + 1) ∧ t.xbr.sawQloss = true
          ∧ OtherQueues s t q ∧ QueueFrame s { t with xbr := { t.xbr with sawQloss := s.xbr.sawQloss } })
    ∧ (q = 0 → 1 ≤ master → s.xbr.fenced = false → HeldBy s 0 master → allowed → s.xbr.q0.items.length < 64 →
        ∃ t, exec (.xbrQpush q conn data master) s = .next t ∧ took t ∧ QueueFrame s0 t)
    ∧ (q = 0 → 1 ≤ master → s.xbr.fenced = false → ¬ (HeldBy s 0 master ∧ allowed) →
        ∃ t, exec (.xbrQpush q conn data master) s = .next t ∧ EndsInError s0 t 0x60064 9 true)
    ∧ (q = 0 → 1 ≤ master → s.xbr.fenced = false → HeldBy s 0 master → allowed → 64 ≤ s.xbr.q0.items.length →
        ∃ t, exec (.xbrQpush q conn data master) s = .next t ∧ t.xbr.q0 = s.xbr.q0 ∧ t.xbr.errCause = 9
          ∧ t.cmd.full = min 65535 (s.cmd.full + 1) ∧ isLive t .cmd cQUEUE_FULL = true)

/-- With the bridge not fenced, flushing queue q removes every item of it; ISEQ numbering continues, the other
queues stand, and a flush of CMD_IN empties the pending set and drops an item partly written into port 0, while one
of another queue leaves both. LOSS stands, but where the copies of a pointer of the queue differ: then the items
count in it and the mismatch is noted for the drain. The frozen command set and everything else of the module stand.
(R310, R311) -/
def Obligations.QueueFlushEmptiesOneQueue : Prop :=
  ∀ (s : State) (q : Nat), s.xbr.fenced = false → q ≤ 5 →
    ∃ t, exec (.xbrQflush q) s = .next t ∧ (queueOf t.xbr q).items = []
      ∧ (queueOf t.xbr q).nextSeq = (queueOf s.xbr q).nextSeq ∧ (queueOf t.xbr q).loss = (if pointersAgree (queueOf s.xbr q) then (queueOf s.xbr q).loss
          else min 255 ((queueOf s.xbr q).loss + (queueOf s.xbr q).items.length))
      ∧ t.xbr.sawQptr = (s.xbr.sawQptr || !pointersAgree (queueOf s.xbr q))
      ∧ t.xbr.port = (if q = 0 then [] else s.xbr.port) ∧ (q ≠ 0 → t.xbr.portCut = s.xbr.portCut)
      ∧ OtherQueues s t q ∧ t.cmd = { s.cmd with pend := if q = 0 then [] else s.cmd.pend }
      ∧ QueueFrame s { t with
          cmd := s.cmd
          xbr := { t.xbr with port := s.xbr.port, portCut := s.xbr.portCut, sawQptr := s.xbr.sawQptr } }

/-- With the bridge not fenced and an OWNER of 1 to 255: acquiring a free semaphore makes the master its holder from
now on; acquiring a held one, by whomever, leaves it with its holder. The holder's release frees it; a release with
another OWNER is ignored. A semaphore held for more than 1 ms is freed and SEM_TIMEOUT is noted for the frame's
drain. The other seven semaphores and everything else of the module stand, but for the time. (R303, R320) -/
def Obligations.SemaphoresAreTakenAndReleased : Prop :=
  ∀ (s : State) (n master now : Nat), n ≤ 7 → 1 ≤ master → master ≤ 255 →
    (s.xbr.fenced = false → Unheld s n →
      exec (.semAcquire n master now) s = .next { s with
        now := max s.now now
        xbr := { s.xbr with sems := s.xbr.sems.set n { req := true, owner := master, takenAt := max s.now now } } })
    ∧ (s.xbr.fenced = false → (∃ m, HeldBy s n m) →
      exec (.semAcquire n master now) s = .next { s with now := max s.now now })
    ∧ (s.xbr.fenced = false → HeldBy s n master →
      exec (.semRelease n master) s = .next { s with xbr := { s.xbr with sems := s.xbr.sems.set n {} } })
    ∧ (s.xbr.fenced = false → (∃ m, m ≠ master ∧ HeldBy s n m) → exec (.semRelease n master) s = .next s)
    ∧ (∀ m, s.xbr.sems[n]? = some m → m.req = true → m.takenAt + 1000 < max s.now now →
      exec (.semaphoreTimeout n now) s = .next { s with
        now := max s.now now, xbr := { s.xbr with sems := s.xbr.sems.set n {}, sawSem := true } })

/-- With the bridge fenced, XBR_QACK, a service XBR_QPUSH, XBR_QFLUSH, SEM_ACQUIRE, SEM_RELEASE and any transfer of
the service processor, read or write, single or burst, end in an error of cause 8 at their register's address, and
change nothing else but, where the command brings one, the time; a read returns all ones, and the RETRY terminations
that a transfer met are counted. (R320, R301, R302, R304) -/
def Obligations.FencedBridgeRefusesEveryAccess : Prop :=
  ∀ s : State, s.xbr.fenced = true →
    (∀ q iseq, ∃ t, exec (.xbrQack q iseq) s = .next t ∧ EndsInError s t 0x60060 8 true)
    ∧ (∀ q conn data master, master ≠ 0 → ∃ t, exec (.xbrQpush q conn data master) s = .next t ∧ EndsInError s t 0x60064 8 true)
    ∧ (∀ q, ∃ t, exec (.xbrQflush q) s = .next t ∧ EndsInError s t 0x60068 8 true)
    ∧ (∀ n master now, ∃ t, exec (.semAcquire n master now) s = .next t
        ∧ EndsInError (later s now) t (0x60020 + 4 * n) 8 true)
    ∧ (∀ n master, ∃ t, exec (.semRelease n master) s = .next t ∧ EndsInError s t (0x60020 + 4 * n) 8 true)
    ∧ (∀ (x : Transfer) master addr w now, ∃ t, exec (.registerWrite (.service x) master addr w now) s = .next t
        ∧ EndsInError { Met (later s now) x with
            xbr := { (Met (later s now) x).xbr with
                       readData := if x.write then [] else List.replicate x.count 0xFFFFFFFF } } t addr 8 x.write)

/-- TRANSFER_TIMEOUT ends the access as an error of cause 4 and does nothing else. BRIDGE_ECC, where its source is
not live, is counted with cause 5, leaves the source live and sticky, fences the bridge where its severity in effect
is FENCE, and changes nothing that a raising does not change. (R300, R301, R320, R326, R327) -/
def Obligations.BridgeErrorsAreCountedAndFence : Prop :=
  ∀ s : State,
    (∀ addr write, ∃ t, exec (.transferTimeout addr write) s = .next t ∧ EndsInError s t addr 4 write)
    ∧ ∀ addr now, isLive s .xbr xBRIDGE_ECC = false → ∃ u t, EndsInError (later s now) u addr 5 false
        ∧ exec (.bridgeEcc addr now) s = .next t ∧ RaiseFrame u t ∧ isLive t .xbr xBRIDGE_ECC = true
        ∧ isLatched t .xbr xBRIDGE_ECC = true ∧ (sevOf s.cfg .xbr xBRIDGE_ECC = .fence → t.xbr.fenced = true)

/-! ## Clear registers, register writes and sticky bits -/

/-- FRM_PHCLR, PRL_CCLR, VOT_CLR, BST_CLR, FRN_CLR of either cluster, LIO_CLR, CMD_CLR, XBR_CLR, DPX_CLR, EVR_CLR
and PWR_CLR with bit 0 of the word set leave the state as it was but for the request of that block; with bit 0 clear
they change nothing. (R70, R153, R183, R203, R239, R267, R295, R319, R362, R406, R425) -/
def Obligations.ClearRegistersAskAndHoldNothing : Prop :=
  ∀ (s : State) (w : Word),
    (w.getLsbD 0 = true →
      exec (.frmPhclr w) s = .next { s with frm := { s.frm with clrPeak := true } }
      ∧ exec (.prlCclr w) s = .next { s with prl := { s.prl with clr := true } }
      ∧ exec (.votClr w) s = .next { s with vot := { s.vot with clr := true } }
      ∧ exec (.bstClr w) s = .next { s with bst := { s.bst with clr := true } }
      ∧ exec (.frnClr .c0 w) s = .next { s with frn0 := { s.frn0 with clr := true } }
      ∧ exec (.frnClr .c1 w) s = .next { s with frn1 := { s.frn1 with clr := true } }
      ∧ exec (.lioClr w) s = .next { s with lio := { s.lio with vital := { s.lio.vital with clr := true } } }
      ∧ exec (.cmdClr w) s = .next { s with cmd := { s.cmd with clr := true } }
      ∧ exec (.xbrClr w) s = .next { s with xbr := { s.xbr with clr := true } }
      ∧ exec (.dpxClr w) s = .next { s with dpx := { s.dpx with clr := true } }
      ∧ exec (.evrClr w) s = .next { s with evr := { s.evr with clr := true } }
      ∧ exec (.pwrClr w) s = .next { s with pwr := { s.pwr with clr := true } })
    ∧ (w.getLsbD 0 = false → ∀ c ∈ [Instr.frmPhclr w, .prlCclr w, .votClr w, .bstClr w, .frnClr .c0 w, .frnClr .c1 w, .lioClr w,
        .cmdClr w, .xbrClr w, .dpxClr w, .evrClr w, .pwrClr w], exec c s = .next s)

/-- What every drain makes of the requests: PHMAX and OVER, the crumb and permit peaks with SHORT, CONF and both
COUNTs, the odd-lane counts and PASSES, the test counts, the channel error counts, the link and sequence error
counts and the X2 minimum, the packet counters, RETRY and every LOSS, the switchover counts, the lost record counts,
the HOLDUP count; the X1 minimum starts again from the present X1. Where no request stands nothing changes. A
minimum with no voltage measured since the clear, and one that starts at the present voltage, are the model's
readings (log entry 9). (R70, R153, R183, R203, R239, R267, R295, R319, R362, R406, R425) -/
def Obligations.DrainClearsWhatWasAsked : Prop :=
  ∀ s : State,
    let t := applyClears s
    (s.frm.clrPeak = true → t.frm.peak = List.replicate 7 0 ∧ t.frm.overBudget = List.replicate 7 false ∧ t.frm.clrPeak = false)
    ∧ (s.prl.clr = true → t.prl.cpeak = 0 ∧ t.prl.ppeak = 0 ∧ t.prl.denyCount = 0 ∧ t.prl.revCount = 0 ∧ t.core.claimShort = 0
        ∧ t.core.claimConf = 0 ∧ t.prl.clr = false)
    ∧ (s.vot.clr = true → (∀ l, (laneOf t.vot l).odd = 0) ∧ t.vot.passes = 0 ∧ t.vot.clr = false)
    ∧ (s.bst.clr = true → t.bst.pass1 = 0 ∧ t.bst.pass2 = 0 ∧ t.bst.pass3 = 0 ∧ t.bst.fail = 0 ∧ t.bst.clr = false)
    ∧ (∀ c, (frnOf s c).clr = true → (frnOf t c).errA = 0 ∧ (frnOf t c).errB = 0 ∧ (frnOf t c).clr = false)
    ∧ (s.lio.vital.clr = true → t.lio.vital.lost = 0 ∧ t.lio.vital.crcErr = 0 ∧ t.lio.vital.seqErr = [0, 0, 0, 0]
        ∧ t.lio.vital.x2min = none ∧ t.lio.vital.clr = false)
    ∧ (s.cmd.clr = true → t.cmd.rxok = 0 ∧ t.cmd.crcErr = 0 ∧ t.cmd.otherErr = 0 ∧ t.cmd.stale = 0 ∧ t.cmd.safety = 0
        ∧ t.cmd.dup = 0 ∧ t.cmd.full = 0 ∧ t.cmd.clr = false)
    ∧ (s.xbr.clr = true → t.xbr.retry = 0 ∧ (∀ q, q ≤ 5 → (queueOf t.xbr q).loss = 0
        ∧ (queueOf t.xbr q).items = (queueOf s.xbr q).items) ∧ t.xbr.clr = false)
    ∧ (s.dpx.clr = true → t.dpx.planned = 0 ∧ t.dpx.taken = 0 ∧ t.dpx.clr = false)
    ∧ (s.evr.clr = true → t.evr.lossSvc = 0 ∧ t.evr.lossLane = 0 ∧ t.evr.clr = false)
    ∧ (s.pwr.clr = true → t.pwr.x1min = s.pwr.x1 ∧ t.pwr.hucnt = 0 ∧ t.pwr.clr = false)
    ∧ (s.frm.clrPeak = false → s.prl.clr = false → s.vot.clr = false → s.bst.clr = false → s.frn0.clr = false → s.frn1.clr = false →
        s.lio.vital.clr = false → s.cmd.clr = false → s.xbr.clr = false → s.dpx.clr = false → s.evr.clr = false →
        s.pwr.clr = false → t = s)

/-- REGISTER_WRITE by the lanes to the live or the staging address of an ST register, and a single word of the
service processor to the staging address with the bridge not fenced, sets the staged value of its ST fields, in
SEALED of those that are not LK, and keeps the others; every other staged value and the configuration in effect
stand. In SEALED a write to a register with an LK field leaves a record, else nothing changes but the time and what
a transfer notes: its RETRY terminations, counted, and the words that it read. A write of the lanes to FIEN sets the
enables of the block's sources, one to FSTAT changes nothing. With the bridge not fenced, a service write to the
live address of an ST register outside the bridge ends in an error of cause 3; any exclusive or atomic access in
cause 6; a narrower or an unaligned one in cause 2; a burst into register or staging space in cause 7; the bridge
does nothing else, and a read that ends so returns all ones. Which cause is reported where several hold is the
model's choice (log entry 116). (R12, R299, R297, R301, R302, R304, R322, R10) -/
def Obligations.RegisterWritesReachStagingOnly : Prop :=
  ∀ (s : State) (wr now : Nat) (w : Word),
    (∀ (r : StReg) (c : Instr) (u : State),
      ((c = .registerWrite .lanes wr r.addr w now ∧ u = later s now)
        ∨ (c = .registerWrite .lanes wr (0x01000000 + r.addr) w now ∧ u = later s now)
        ∨ ∃ x : Transfer, x.write = true ∧ x.bytes = 4 ∧ x.more = [] ∧ x.exclusive = false ∧ s.xbr.fenced = false
            ∧ c = .registerWrite (.service x) wr (0x01000000 + r.addr) w now ∧ u = Met (later s now) x) →
      ∃ t, exec c s = .next t ∧ t.cfg = s.cfg ∧ (∀ q, q ≠ r → stagedOf t q = stagedOf s q)
        ∧ (s.sec.life ≠ .sealed → stagedOf t r = (stagedOf s r &&& ~~~ r.mask) ||| (w &&& r.mask)
            ∧ t = { u with staged := t.staged })
        ∧ (s.sec.life = .sealed → stagedOf t r = (stagedOf s r &&& ~~~ r.unlocked) ||| (w &&& r.unlocked)
            ∧ RaiseFrame { u with staged := t.staged } t
            ∧ (r.mask &&& ~~~ r.unlocked = 0 → t = { u with staged := t.staged })))
    ∧ (∀ b : Blk, ∃ t, exec (.registerWrite .lanes wr (b.base + 0xF00C) w now) s = .next t
        ∧ (faultOf t.faults b).ien = w &&& BitVec.ofNat 32 (2 ^ sourceCount b - 1)
        ∧ (faultOf t.faults b).live = (faultOf s.faults b).live ∧ (faultOf t.faults b).latch = (faultOf s.faults b).latch
        ∧ (∀ c, c ≠ b → faultOf t.faults c = faultOf s.faults c)
        ∧ t = { s with now := max s.now now, faults := t.faults })
    ∧ (∀ b : Blk, exec (.registerWrite .lanes wr (b.base + 0xF000) w now) s = .next { s with now := max s.now now })
    ∧ (s.xbr.fenced = false → ∀ (x : Transfer) (a : Nat),
        let n := if x.write then x.more.length + 1 else x.count
        let ones := if x.write then [] else List.replicate n 0xFFFFFFFF
        let u := Met (later s now) x
        let ends := fun cause => ∃ t, exec (.registerWrite (.service x) wr a w now) s = .next t
          ∧ EndsInError { u with xbr := { u.xbr with readData := ones } } t a cause x.write
        (∀ r : StReg, a = r.addr → r ≠ .xbrFsev → x.write = true → x.exclusive = false → x.bytes = 4 → n = 1 → ends 3)
        ∧ (x.exclusive = true → ends 6)
        ∧ (x.exclusive = false → (x.bytes ≠ 4 ∨ a % 4 ≠ 0) → ends 2)
        ∧ (x.exclusive = false → x.bytes = 4 → a % 4 = 0 → 1 < n → singleSpace s a = true → ends 7))

/-- FLATCH_CLEAR of a block with a mask, in any lifecycle state but RETIRED: a sticky bit of that block's sources is
set afterwards exactly if it was set before and either its mask bit is 0 or its source is live; no live bit, no
enable and no other block's sub-block changes; beyond that only the record of a clearing may change the state. In
RETIRED nothing changes. (R327, R328, R284) -/
def Obligations.StickyBitClearsOnlyWithoutItsCause : Prop :=
  ∀ (s : State) (src : Src) (b : Blk) (mask : Word),
    (s.sec.life ≠ .retired → ∃ t, exec (.flatchClear src b mask) s = .next t
      ∧ (∀ n, n < sourceCount b → isLatched t b n = (isLatched s b n && (!mask.getLsbD n || isLive s b n)))
      ∧ (∀ n, sourceCount b ≤ n → isLatched t b n = isLatched s b n)
      ∧ (∀ c, (faultOf t.faults c).live = (faultOf s.faults c).live ∧ (faultOf t.faults c).ien = (faultOf s.faults c).ien
          ∧ (c ≠ b → faultOf t.faults c = faultOf s.faults c))
      ∧ RaiseFrame s t)
    ∧ (s.sec.life = .retired → exec (.flatchClear src b mask) s = .next s)

/-! ## The event recorder and time -/

/-- With the service processor running, the bridge not fenced, the copies of the pointers of EVT_OUT agreeing and
room in the recorder: the head item of EVT_OUT, its LEN right, leaves the queue and is kept as one more record under
the next number with the time latched at the last tick; one whose LEN is wrong leaves the queue, is counted as lost
in EVT_OUT and raises EVT_LOSS. MARK, an hour or more after the last, forms one MARK record with its time of
formation. Nothing outside the queue, the recorder and the time changes, but by the raising. (R393, R394, R395,
R401, R308) -/
def Obligations.RecordsAreTakenInOrder : Prop :=
  ∀ (s : State) (now : Nat), svcRuns s = true →
    (∀ i rest, s.xbr.q2.items = i :: rest → pointersAgree s.xbr.q2 = true → s.xbr.fenced = false → s.evr.sawLoss = false →
      (recLenField i.data + 16 = i.data.length → CanRecord s (recSize (recOfBytes i.data)) →
        ∃ t, exec (.eventRecordTaken now) s = .next t ∧ t.xbr = { s.xbr with q2 := consumeHead s.xbr.q2 }
          ∧ t.xbr.q2.items = rest
          ∧ KeepsRecord s t s.evr.tickAt (recOfBytes i.data)
          ∧ SvcFrame { s with now := max s.now now, xbr := t.xbr } t)
      ∧ (recLenField i.data + 16 ≠ i.data.length →
        ∃ t, exec (.eventRecordTaken now) s = .next t ∧ isLive t .evr rEVT_LOSS = true
          ∧ (let u := { s with now := max s.now now, xbr := { s.xbr with q2 := consumeHead s.xbr.q2 }
                               evr := { s.evr with lossLane := min 65535 (s.evr.lossLane + 1), lossAt := some (max s.now now) } }
            RaiseFrame u t ∧ (isLive s .evr rEVT_LOSS = true → t = u))))
    ∧ (s.evr.markAt + 3600000000 ≤ max s.now now → CanRecord s 16 →
        ∃ t, exec (.mark now) s = .next t ∧ t.evr.markAt = max s.now now
          ∧ KeepsRecord s t (max s.now now) { ty := 0x15, sev := 0, orig := true, msw := msw s, body := [] }
          ∧ SvcFrame { s with now := max s.now now, evr := { s.evr with markAt := max s.now now } } t)

/-- On a trigger with no flush running and room in MRAM, FLUSH takes the whole buffer as one batch. FLUSH_END with
the batch written commits it behind the batches in MRAM, journals the number after its last record and lowers
MRAM_ERR; with a fault of the MRAM the batch stays in the buffer ahead of what came since, and MRAM_ERR is live.
SEGMENT_COPY with a segment's worth in MRAM moves its first records into a new ring segment of the next number, with
the seal of the segment before it and its own (1 for the first segment of all is the model's choice, log entry 129);
with a ring that cannot be written RING_ERR is live and every record stays. In each case, and for SEGMENT_COPY with
the ring not full, the records kept and their order are what they were. (R397, R398, R395, R399) -/
def Obligations.FlushesLoseNoRecord : Prop :=
  ∀ (s : State) (now : Nat), svcRuns s = true → s.pwr.power ≠ .holdup →
    (s.evr.flushing = none → s.evr.buffer ≠ [] → mramRoom s.evr s.evr.buffer = true →
      (s.evr.buffer.any (·.r.sev ≥ 1) = true ∨ 196608 ≤ keptBytes s.evr.buffer ∨ s.evr.lastFlush + 1000000 ≤ max s.now now) →
      exec (.flush now) s = .next { s with
        now := max s.now now, evr := { s.evr with flushing := some s.evr.buffer, buffer := [], lastFlush := max s.now now } })
    ∧ (∀ b, s.evr.flushing = some b → s.evr.again = false →
      (∃ t, exec (.flushEnd true now) s = .next t ∧ t.evr.mram = s.evr.mram ++ [batchOf b] ∧ t.evr.flushing = none
        ∧ (∀ k, b.getLast? = some k → t.evr.journal = k.r.num + 1) ∧ isLive t .evr rMRAM_ERR = false
        ∧ allKept t.evr = allKept s.evr
        ∧ t = { s with now := max s.now now, faults := t.faults, evr := { s.evr with
            mram := t.evr.mram, flushing := none, journal := t.evr.journal, mark := false } })
      ∧ ∃ t, exec (.flushEnd false now) s = .next t ∧ isLive t .evr rMRAM_ERR = true ∧ t.evr.mram = s.evr.mram
        ∧ (isLive s .evr rMRAM_ERR = true → t.evr.flushing = none ∧ t.evr.buffer = b ++ s.evr.buffer
            ∧ allKept t.evr = allKept s.evr))
    ∧ (1048576 ≤ mramBytes s.evr →
      (∃ t, exec (.segmentCopy true) s = .next t ∧ isLive t .evr rRING_ERR = false
        ∧ t = { s with faults := t.faults, evr := { s.evr with ring := t.evr.ring, mram := t.evr.mram } }
        ∧ (s.evr.ring.length < 4095 → allKept t.evr = allKept s.evr
            ∧ ∃ g, t.evr.ring = s.evr.ring ++ [g] ∧ (∀ h, s.evr.ring.getLast? = some h → g.seq = h.seq + 1 ∧ g.prev = h.close)
              ∧ g.count = g.recs.length ∧ g.close = sealOf g ∧ (s.evr.ring = [] → g.seq = 1)))
      ∧ ∃ t, exec (.segmentCopy false) s = .next t ∧ isLive t .evr rRING_ERR = true ∧ t.evr.mram = s.evr.mram
        ∧ t.evr.ring = s.evr.ring)

/-- With the service processor running. A Sync of the set domain with PTP enabled, locked: within 1 ms of calendar
time corrects it by at most half a ns for each µs since the last Sync, 1 ms or more sets calendar time to it. Not
locked: the sixteenth interval in a row within 10 µs locks the clock, sets calendar time and lowers TIME_HOLD; a
worse one starts the count again and leaves calendar time. A Sync of another domain, or with PTP disabled, changes
only the time. 5 s without a Sync, locked: unlocked, source Held, TIME_HOLD live, calendar time runs on. RTC_WRITE,
60 s or more after the last, takes calendar time into the RTC. The first Sync's clock before lock is the model's
reading (log entry 10). (R402, R403, R401) -/
def Obligations.CalendarTimeFollowsItsSources : Prop :=
  ∀ (s : State) (domain : Nat) (utc : Int) (now : Nat), svcRuns s = true →
    let n := max s.now now
    let taken := domain = fieldOf s.cfg.evrCtl 0 8 ∧ fieldOf s.cfg.evrCtl 8 1 = 1
    (taken → s.evr.lock = true → ∀ b, s.evr.base = some b →
      let o := b + 1000 * n - utc
      (o < 1000000 → -1000000 < o → ∃ t b', exec (.ptpSync domain utc now) s = .next t ∧ t.evr.base = some b'
        ∧ b - b' ≤ ((n - s.evr.syncAt.getD n) / 2 : Nat) ∧ b' - b ≤ ((n - s.evr.syncAt.getD n) / 2 : Nat)
        ∧ t.evr.offset = o ∧ t.evr.syncAt = some n
        ∧ t = { s with now := n, evr := { s.evr with offset := o, syncAt := some n, base := t.evr.base } })
      ∧ ((1000000 ≤ o ∨ o ≤ -1000000) → ∃ t, exec (.ptpSync domain utc now) s = .next t ∧ utcNow? t = some utc
        ∧ t.evr.tsrc = .ptp ∧ t.evr.offset = o ∧ t.evr.lock = true))
    ∧ (taken → s.evr.lock = false → ∀ p, s.evr.ptpBase = some p →
      (p - (utc - 1000 * n) ≤ 10000 → utc - 1000 * n - p ≤ 10000 → 15 ≤ s.evr.goodSyncs →
        ∃ t, exec (.ptpSync domain utc now) s = .next t ∧ t.evr.lock = true ∧ utcNow? t = some utc ∧ t.evr.tsrc = .ptp
          ∧ isLive t .evr rTIME_HOLD = false)
      ∧ (10000 < p - (utc - 1000 * n) →
        exec (.ptpSync domain utc now) s = .next { s with now := n, evr := { s.evr with
          ptpBase := some (utc - 1000 * n), goodSyncs := 0, syncAt := some n } }))
    ∧ (¬ taken → exec (.ptpSync domain utc now) s = .next { s with now := n })
    ∧ (∀ k, s.evr.syncAt = some k → k + 5000000 ≤ n → s.evr.lock = true →
        ∃ t, exec (.ptpUnlock now) s = .next t ∧ t.evr.lock = false ∧ t.evr.tsrc = .held ∧ t.evr.goodSyncs = 0
          ∧ t.evr.base = s.evr.base ∧ isLive t .evr rTIME_HOLD = true)
    ∧ (∀ k, s.evr.syncAt = some k → n < k + 5000000 → exec (.ptpUnlock now) s = .next { s with now := n })
    ∧ (∀ b, s.evr.base = some b → s.evr.rtcAt + 60000000 ≤ n →
        exec (.rtcWrite now) s = .next { s with now := n, evr := { s.evr with rtc := some (b + 1000 * n), rtcAt := n } })

/-! ## Power, tamper, S1 and housekeeping -/

/-- HOLDUP in RUN with X1 below 16 V: power state HOLDUP from now, HOLDUP_CNT advanced, HOLDUP live, debug level D0,
the RTC written where calendar time is known. X1_RETURN before the stop, with X1 at least 17.5 V: RUN, HOLDUP no
longer live. After 20 ms in HOLDUP: the module stops, with no frame in progress and no grant where it was not
stopped before; the recorder is marked closed where nothing is left to flush. After 25 ms: every plain key is
zeroised, those of the field side with them. After 30 ms: BACKUP, with the volatile state at its reset values, and
the records of the valid batches in MRAM and those in the ring, the key blobs, the banks' images and the power-cycle
counter kept. Loss of the backup domain in BACKUP: OFF, RTC and KEK gone. Each changes nothing that its row, the
record, and the reactions do not name. (R412, R413, R414, R334, R403, R397) -/
def Obligations.PowerFailureRunsItsSteps : Prop :=
  ∀ (s : State) (now : Nat),
    let n := max s.now now
    (∀ x1, s.pwr.power = .run → x1 < 160 →
      ∃ t, exec (.holdup x1 now) s = .next t
        ∧ t.pwr = { s.pwr with x1 := x1, x1min := min s.pwr.x1min x1, power := .holdup, huAt := some n, huStopped := false,
                               zeroised := false, hucnt := min 255 (s.pwr.hucnt + 1) }
        ∧ isLive t .pwr wHOLDUP = true ∧ t.sec = { s.sec with dbg := .d0, dlane := none, wantDbg := none }
        ∧ (∀ b, s.evr.base = some b → t.evr.rtc = some (b + 1000 * (n : Int)) ∧ t.evr.rtcAt = n)
        ∧ RaiseFrame { s with now := n, pwr := t.pwr, sec := t.sec, evr := { s.evr with rtc := t.evr.rtc, rtcAt := t.evr.rtcAt } } t)
    ∧ (∀ x1, s.pwr.power = .holdup → s.pwr.huStopped = false → 175 ≤ x1 →
      ∃ t, exec (.x1Return x1 now) s = .next t ∧ isLive t .pwr wHOLDUP = false
        ∧ t = { s with now := n, faults := t.faults, pwr := { s.pwr with x1 := x1, x1min := min s.pwr.x1min x1, power := .run, huAt := none } })
    ∧ (∀ u, s.pwr.power = .holdup → s.pwr.huAt = some u →
      (s.pwr.huStopped = false → u + 20000 ≤ n →
        ∃ t, exec (.holdupSafeStop now) s = .next t ∧ t.sys.stopped = true ∧ t.pwr = { s.pwr with huStopped := true }
          ∧ (s.sys.stopped = false → t.work = none ∧ t.dpx.granted = false ∧ t.frm.nextTick = none)
          ∧ (t.evr.flushing = none → t.evr.buffer = [] → t.evr.mark = true ∧ t.evr.closed = true)
          ∧ RaiseFrame { s with now := n, pwr := t.pwr, evr := { s.evr with mark := t.evr.mark, closed := t.evr.closed } } t)
      ∧ (s.pwr.huStopped = true → s.pwr.zeroised = false → u + 25000 ≤ n →
        exec (.holdupZeroise now) s = .next { s with
          now := n
          pwr := { s.pwr with zeroised := true }
          sec := { s.sec with plain := [], coming := [], going := [] }
          lio := { s.lio with vital := { s.lio.vital with kzero := true, keys := [], kseg := 0 } } })
      ∧ (s.pwr.huStopped = true → u + 30000 ≤ n →
        ∃ t, exec (.backup now) s = .next t ∧ t.pwr.power = .backup ∧ t.pwr.pcc = s.pwr.pcc ∧ t.pwr.x1 = 0
          ∧ t.core = {} ∧ t.work = none ∧ t.cfg = {} ∧ t.sec.plain = [] ∧ t.sec.session = none ∧ t.sec.blobs = s.sec.blobs
          ∧ t.sec.kek = s.sec.kek ∧ t.evr.mram = s.evr.mram.filter batchOk ∧ t.evr.ring = s.evr.ring ∧ t.evr.buffer = []
          ∧ t.upd.mzp = s.upd.mzp ∧ t.upd.prt = s.upd.prt ∧ t.upd.copyA = s.upd.copyA ∧ t.frm.record = s.frm.record
          ∧ t.evr.rtc = s.evr.rtc ∧ t.pending = s.pending))
    ∧ (s.pwr.power = .backup →
      exec (.backupDomainLoss now) s = .next { s with
        now := n, pwr := { s.pwr with power := .off }, evr := { s.evr with rtc := none }, sec := { s.sec with kek := false } })

/-- In RUN and HOLDUP a broken seal sets the tamper latch, erases the KEK, leaves no plain key in the lanes, in
Praline and the field side, makes TAMPER live and, the source not live before and its severity SAFE-STOP as the rule
fixes it, stops the module; it changes nothing else but what a raising changes. In BACKUP it sets the latch and
erases the KEK only. In OFF nothing watches the seal: only the seal itself stands broken. (R414, R415, R340, R334)
-/
def Obligations.BrokenSealErasesEveryKey : Prop :=
  ∀ (s : State) (now : Nat),
    (s.pwr.power = .run ∨ s.pwr.power = .holdup →
      ∃ t, exec (.tamper now) s = .next t
        ∧ t.sec = { s.sec with sealBroken := true, tamper := true, kek := false, plain := [], coming := [], going := [] }
        ∧ t.lio.vital.keys = [] ∧ t.lio.vital.kseg = 0 ∧ isLive t .sec eTAMPER = true
        ∧ (isLive s .sec eTAMPER = false → sevOf s.cfg .sec eTAMPER = .safeStop → t.sys.stopped = true)
        ∧ RaiseFrame { s with now := max s.now now, sec := t.sec
                              lio := { s.lio with vital := { s.lio.vital with kzero := true, keys := [], kseg := 0 } } } t)
    ∧ (s.pwr.power = .backup → exec (.tamper now) s = .next { s with
        now := max s.now now, sec := { s.sec with sealBroken := true, tamper := true, kek := false } })
    ∧ (s.pwr.power = .off → exec (.tamper now) s = .next { s with
        now := max s.now now, sec := { s.sec with sealBroken := true } })

/-- CELL_MEASUREMENT stores the voltage, and CELL_LOW is live exactly below 2.6 V. X1_RANGE stores X1 and its
minimum, and the source is live exactly outside 18 to 150 V. TEMP stores the temperature, and the source is live
exactly outside -45 to +75 degrees. RAIL and TIMEBASE_LOSS make their source live, and stop the module where it was
not live and has the severity SAFE-STOP. Nothing else changes but what a raising changes. (R34, R340, R414, R333) -/
def Obligations.MeasurementsSetTheirSource : Prop :=
  ∀ (s : State) (now : Nat),
    (∀ mv, ∃ t, exec (.cellMeasurement mv) s = .next t ∧ t.pwr = { s.pwr with cell := mv }
      ∧ (isLive t .pwr wCELL_LOW = true ↔ mv < 2600) ∧ RaiseFrame { s with pwr := t.pwr } t)
    ∧ (∀ x1, ∃ t, exec (.x1Range x1 now) s = .next t ∧ t.pwr = { s.pwr with x1 := x1, x1min := min s.pwr.x1min x1 }
      ∧ (isLive t .pwr wX1_RANGE = true ↔ x1 < 180 ∨ 1500 < x1) ∧ RaiseFrame { s with now := max s.now now, pwr := t.pwr } t)
    ∧ (∀ tenths, ∃ t, exec (.temp tenths) s = .next t ∧ t.sys.temp = tenths
      ∧ (isLive t .sys sTEMP = true ↔ tenths < -450 ∨ 750 < tenths)
      ∧ RaiseFrame { s with sys := { s.sys with temp := tenths } } t)
    ∧ (∃ t, exec (.rail now) s = .next t ∧ isLive t .pwr wRAIL = true ∧ RaiseFrame { s with now := max s.now now } t
      ∧ (isLive s .pwr wRAIL = false → sevOf s.cfg .pwr wRAIL = .safeStop → t.sys.stopped = true))
    ∧ ∃ t, exec (.timebaseLoss now) s = .next t ∧ isLive t .frm fTIMEBASE = true ∧ RaiseFrame { s with now := max s.now now } t
      ∧ (isLive s .frm fTIMEBASE = false → sevOf s.cfg .frm fTIMEBASE = .safeStop → t.sys.stopped = true)

/-- S1 held beyond 8 s in RUN and not masked is masked, and S1_STUCK is live; seen released for 1 s it is armed, and
S1_STUCK is not live. SVC_WDOG restarts the service processor: the session is gone, debug level D0, the records not
in a committed batch are gone and their numbers not assigned, CAUSE 5, and SVC_WDOG is live. OPTIC_INSERTED on X5 to
X9 enables the connector exactly where the optic is qualified. An S1 release while masked, in HOLDUP, or after a
press outside 50 ms to 8 s does nothing but show S1 released. Nothing else changes but what a raising changes, and
lanes halted by a debugger that are to come back. (R423, R340, R397, R430) -/
def Obligations.S1WatchdogAndOpticActOnTheirOwn : Prop :=
  ∀ (s : State) (now : Nat),
    (s.sys.s1mask = false → s.pwr.power = .run →
      ∃ t, exec (.s1Stuck now) s = .next t ∧ t.sys.s1mask = true ∧ t.sys.s1down = true ∧ isLive t .sys sS1_STUCK = true
        ∧ RaiseFrame { s with now := max s.now now, sys := { s.sys with s1mask := true, s1down := true } } t)
    ∧ (∃ t, exec (.s1Rearm now) s = .next t ∧ isLive t .sys sS1_STUCK = false
        ∧ t = { s with now := max s.now now, faults := t.faults, sys := { s.sys with s1mask := false, s1down := false } })
    ∧ (∃ t, exec (.svcWdog now) s = .next t ∧ t.sec.session = none ∧ t.sec.chal = none ∧ t.sec.dbg = .d0
        ∧ t.sys.wdogAt = some (max s.now now) ∧ t.sys.cause = 5 ∧ t.upd = { s.upd with svcAt := some (max s.now now) }
        ∧ t.evr.mram = s.evr.mram ∧ isLive t .sys sSVC_WDOG = true
        ∧ RaiseFrame { s with
            now := max s.now now
            sec := { s.sec with session := none, chal := none, dbg := .d0, dlane := none, wantDbg := none }
            sys := { s.sys with wdogAt := some (max s.now now), cause := 5 }
            upd := { s.upd with svcAt := some (max s.now now) }
            vot := t.vot
            evr := { s.evr with buffer := [], flushing := none, again := false, next := s.evr.journal } } t)
    ∧ (∀ conn qualified, 5 ≤ conn → conn ≤ 9 →
      ∃ l, exec (.opticInserted conn qualified) s = .next { s with sys := { s.sys with optics := l } }
        ∧ (conn ∈ l ↔ qualified = true) ∧ ∀ c, c ≠ conn → (c ∈ l ↔ c ∈ s.sys.optics))
    ∧ ∀ pressed env, (s.sys.s1mask = true ∨ s.pwr.power ≠ .run ∨ pressed < 50 ∨ 8000 < pressed) →
      exec (.s1Release pressed env now) s = .next { s with now := max s.now now, sys := { s.sys with s1down := false } }

/-- POWER_ON from BACKUP, from OFF, or for the first time: RUN, the power-cycle counter one higher modulo 2^32
(after OFF, than its copy in MRAM), CAUSE 1. S1 released after 50 ms to 8 s, in RUN and not masked: CAUSE 4, the
power-cycle counter as it was, and every record of the buffer in MRAM where the MRAM has room. In both, of the
batches in MRAM those whose commit word or CRC is not valid are ignored. In both the start-up has made the KEK
present, shows the result of the self-test, reaches its role only with all 21 injection cases passed, fails the
injection test exactly where a vote unit errs in a case that is run, and is stopped then, keeps blobs, tamper latch
and ring, and ends in recovery mode, keyless, stopped before its role, or in the role of the MODE in effect, an
ALONE one with the first tick due now and the interlocking state of a cold start. (R182, R412, R414, R420, R421,
R422, R423, R387) -/
def Obligations.PowerOnAndS1StartTheModule : Prop :=
  ∀ (s : State) (env : StartEnv) (now : Nat),
    let post := fun t : State => t.bst.post = (if env.postOk then 2 else 3) ∧ t.sec.kek = true ∧ t.pwr.power = .run
      ∧ (t.sys.ready = true → t.vot.inj = 2 ∧ t.vot.injPass = 0x3FFFF ∧ t.vot.injLate = 7)
      ∧ (t.vot.inj = 3 → t.sys.stopped = true ∧ ∃ c l, c < 21 ∧ (c, l) ∈ env.injBad)
      ∧ ((∃ c l, c < 21 ∧ (c, l) ∈ env.injBad) → t.vot.inj ≠ 2)
    (s.pwr.power = .backup ∨ s.pwr.power = .off ∨ s.evr.next = 0 →
      ∃ t, exec (.powerOn env now) s = .next t ∧ StartedFrom s t 1 ∧ post t
        ∧ t.pwr.pcc = ((if s.pwr.power = .off then s.pwr.pccMram else s.pwr.pcc) + 1) % 2 ^ 32 ∧ t.pwr.pccMram = t.pwr.pcc
        ∧ t.evr.powerOnAt = max s.now now ∧ t.evr.mram = s.evr.mram.filter batchOk)
    ∧ ∀ pressed, s.sys.s1mask = false → s.pwr.power = .run → 50 ≤ pressed → pressed ≤ 8000 →
      ∃ t, exec (.s1Release pressed env now) s = .next t ∧ StartedFrom s t 4 ∧ post t ∧ t.pwr.pcc = s.pwr.pcc
        ∧ (mramRoom (commitBatch s).evr s.evr.buffer = true →
            mramKept t.evr = (s.evr.mram.filter batchOk).flatMap batchLeft ++ (s.evr.flushing.getD []) ++ s.evr.buffer)

/-! ## Queries and diagnostic commands -/

/-- A command of an empty partner entry gets nothing. Else, in recovery mode or keyless, one from another connector
than X13 gets nothing. Else, with VER 1, an opcode outside the five of R283 is answered BAD_OPC. Else a module
neither in recovery mode nor keyless answers NOT_AUTH where the entry lacks the class, the lifecycle's status where
the lifecycle refuses the opcode, and NOT_AUTH to a maintenance or update opcode other than SESSION_OPEN outside the
sender's session. What the gate answers with a status changes nothing but the packet counters and the reply that
leaves; what it meets with silence changes nothing. Shown for the five queries and diagnostic commands that any
partner may form from nothing. (R271, R282, R283, R284, R387, R409, R421) -/
def Obligations.GateDecidesByClassLifecycleAndSession : Prop :=
  (∀ (s : State) (src : Src) (opc : Nat), svcRuns s = true →
    ((partnerAt s src.entry).addr = 0xFFFF → gateOf s src opc = .silent)
    ∧ ((partnerAt s src.entry).addr ≠ 0xFFFF →
      ((s.upd.recov = true ∨ s.sec.keyless = true) → (partnerAt s src.entry).conn ≠ 13 → gateOf s src opc = .silent)
      ∧ (s.upd.recov = false → s.sec.keyless = false →
        (src.ver = 1 → opc ≠ 0x50 → opc ≠ 0x51 → opc ≠ 0x52 → opc ≠ 0x55 → opc ≠ 0xE0 → gateOf s src opc = .answer .badOpc)
        ∧ (src.ver ≠ 1 →
          (hasClass s src (classOf opc) = false → gateOf s src opc = .answer .notAuth)
          ∧ (hasClass s src (classOf opc) = true →
            (∀ st, lifeRefuses s.sec.life opc = some st → gateOf s src opc = .answer st)
            ∧ (lifeRefuses s.sec.life opc = none →
              ((classOf opc = .maint ∨ classOf opc = .update) → opc ≠ 0x80 → inSession s src = false →
                gateOf s src opc = .answer .notAuth)
              ∧ (classOf opc = .query ∨ classOf opc = .diag → gateOf s src opc = .pass)))))))
  ∧ ∀ (s : State) (src : Src) (opc : Nat) (c : Instr),
    (opc, c) ∈ [(0x50, .identity src), (0x51, .status src), (0x57, .timeRead src 0), (0xE1, .portCounters src 10),
      (0x56, .subscribe src 0)] →
    (gateOf s src opc = .silent → exec c s = .next s)
    ∧ ∀ st, gateOf s src opc = .answer st → ∃ t, exec c s = .next t ∧ Replies s t src opc st []

/-- For a partner that the gate passes: IDENTITY replies its fields in the order of R289, STATUS the image's copies
of the five registers, the three range reads the count and one word, route entry or crumb for each number of the
range, from the status image. A count of 0, above the maximum, or a range past the last index is answered BAD_LEN,
without fields. Each reply leaves to the partner's address with the next SEQ; nothing else changes but the packet
counters and that the partner was heard. (R289, R274, R316) -/
def Obligations.QueriesAnswerFromTheImage : Prop :=
  ∀ (s : State) (src : Src) (first count : Nat),
    let u := hearFrom s src.entry
    (gateOf s src 0x50 = .pass → (∀ l, (laneOf s.vot l).booted ≠ 0) →
      ∃ t, exec (.identity src) s = .next t ∧ Replies u t src 0x50 .done
        (be 1 s.sys.variant ++ be 1 s.sys.issue ++ be 1 (fieldAt (activeBank s.upd.lfw1).header 7 1)
          ++ be 1 (fieldOf s.cfg.cmdAddr 16 5) ++ be 1 (fieldOf s.cfg.cmdAddr 8 3) ++ be 1 s.sec.life.code ++ be 2 0
          ++ be 4 ((s.mzp.map (·.mzpid)).getD 0) ++ be 4 ((s.prt.map (·.prtid)).getD 0)
          ++ be 4 (fieldAt (activeBank s.upd.lfw1).header 20 4) ++ be 4 (fieldAt (activeBank s.upd.lfw2).header 20 4)
          ++ be 4 (fieldAt (activeBank s.upd.lfw3).header 20 4) ++ be 4 (fieldAt (activeBank s.upd.svc).header 20 4)
          ++ be 8 s.sys.serial))
    ∧ (gateOf s src 0x51 = .pass → ∃ t, exec (.status src) s = .next t ∧ Replies u t src 0x51 .done
        (be 4 (copyOf s.image 0x20004).toNat ++ be 4 (copyOf s.image 0x20008).toNat ++ be 4 (copyOf s.image 0x3000C).toNat
          ++ be 4 (copyOf s.image 0x10008).toNat ++ be 4 (copyOf s.image 0x70004).toNat))
    ∧ (gateOf s src 0x52 = .pass → ∃ t, exec (.objectRead src first count) s = .next t
        ∧ if 1 ≤ count ∧ count ≤ 1024 ∧ first + count ≤ 4096 then
            Replies u t src 0x52 .done (be 2 count ++ (List.range count).flatMap fun k =>
              be 4 (objectWord s.image.inter (first + k)))
          else Replies u t src 0x52 .badLen [])
    ∧ (gateOf s src 0x53 = .pass → ∃ t, exec (.routeRead src first count) s = .next t
        ∧ if 1 ≤ count ∧ count ≤ 1022 ∧ first + count ≤ 2048 then
            Replies u t src 0x53 .done (be 2 count ++ (List.range count).flatMap fun k =>
              routeEntry (stationOf s) s.image.inter (first + k))
          else Replies u t src 0x53 .badLen [])
    ∧ (gateOf s src 0x54 = .pass → ∃ t, exec (.crumbRead src first count) s = .next t
        ∧ if 1 ≤ count ∧ count ≤ 1022 ∧ first + count ≤ 1024 then
            Replies u t src 0x54 .done (be 2 count ++ (List.range count).flatMap fun k =>
              be 8 (crumbEntry s.image.inter.crumbs (first + k)))
          else Replies u t src 0x54 .badLen [])

/-- With the records ascending in number and the gate passed, EVENT_READ with MINSEV up to 3 replies DONE with every
record from FROM up to NEXT of at least that severity, whole and in order, within MAXB (0 or above 8,172: 8,172
bytes), and stops short of the next number to be assigned only for want of room or after 65,536 records; a walk that
meets damage makes RING_ERR live, and one that meets none changes nothing but the reply. MINSEV above 3 is answered
BAD_LEN. LANE_DIAG of Lane 1 to 3 does the same on that lane's ring without the severity; another lane is answered
BAD_LEN. (R404, R405, R289, R293, R340) -/
def Obligations.ReadersMeetEveryRecord : Prop :=
  ∀ (s : State) (src : Src) (start maxb : Nat),
    let u := hearFrom s src.entry
    let room := if maxb = 0 ∨ 8172 < maxb then 8172 else maxb
    (gateOf s src 0x55 = .pass → Ascending (walkRecords u).1 s.evr.next → ∀ minsev,
      (minsev ≤ 3 → ∃ t v body, exec (.eventRead src start maxb minsev) s = .next t
        ∧ ServesRecords src.ver room start minsev s.evr.next (walkRecords u).1 body ∧ Replies v t src 0x55 .done body
        ∧ ((walkRecords u).2 = false → v = u)
        ∧ ((walkRecords u).2 = true → RaiseFrame u v ∧ isLive v .evr rRING_ERR = true))
      ∧ (3 < minsev → ∃ t, exec (.eventRead src start maxb minsev) s = .next t ∧ Replies u t src 0x55 .badLen []))
    ∧ (gateOf s src 0xE2 = .pass →
      (∀ l : Lane,
        let ks := (diagOf s.evr l).recs.map fun r => ({ r := r, opsec := 0, pcc := 0 } : Kept)
        Ascending ks (diagOf s.evr l).next →
        ∃ t body, exec (.laneDiag src l.num start maxb) s = .next t
          ∧ ServesRecords src.ver room start 0 (diagOf s.evr l).next ks body ∧ Replies u t src 0xE2 .done body)
      ∧ ∀ lane, lane = 0 ∨ 3 < lane →
        ∃ t, exec (.laneDiag src lane start maxb) s = .next t ∧ Replies u t src 0xE2 .badLen [])

/-- With the gate passed: SUBSCRIBE of 1 to 250 frames leaves exactly one subscription of the partner, with that
period, 0 leaves none, more is BAD_LEN; the other partners' subscriptions stand. TIME_READ replies the calendar time
in ns with its source, and where none is known bit 63 with the nanoseconds since power-on and source 3. ECHO of up
to 8,182 bytes replies the same bytes, more is BAD_LEN. PORT_COUNTERS replies the seven counts of the connector.
Nothing else changes but the reply, the packet counters, and that the partner was heard. (R290, R289, R293, R401) -/
def Obligations.SubscriptionsTimeAndEchoAreServed : Prop :=
  ∀ (s : State) (src : Src),
    let u := hearFrom s src.entry
    (gateOf s src 0x56 = .pass → ∀ period,
      (period ≤ 250 → ∃ t, exec (.subscribe src period) s = .next t
        ∧ (t.cmd.subs.filter (·.entry == src.entry)).map (·.period) = (if period = 0 then [] else [period])
        ∧ t.cmd.subs.filter (·.entry != src.entry) = s.cmd.subs.filter (·.entry != src.entry)
        ∧ Replies { u with cmd := { u.cmd with subs := t.cmd.subs } } t src 0x56 .done [])
      ∧ (250 < period → ∃ t, exec (.subscribe src period) s = .next t ∧ Replies u t src 0x56 .badLen []))
    ∧ (∀ now, let v := hearFrom (later s now) src.entry
      gateOf (later s now) src 0x57 = .pass →
      (∀ b : Int, s.evr.base = some b → 0 ≤ b + 1000 * (max s.now now : Nat) →
        ∃ (t : State) (n : Nat), exec (.timeRead src now) s = .next t ∧ (n : Int) = b + 1000 * (max s.now now : Nat)
          ∧ Replies v t src 0x57 .done (be 8 (n % 2 ^ 63) ++ be 1 s.evr.tsrc.code ++ be 1 0))
      ∧ (s.evr.base = none → ∃ t, exec (.timeRead src now) s = .next t
          ∧ Replies v t src 0x57 .done (be 8 (2 ^ 63 + 1000 * (max s.now now - s.evr.powerOnAt) % 2 ^ 63) ++ be 1 3 ++ be 1 0)))
    ∧ (gateOf s src 0xE0 = .pass → ∀ data, ∃ t, exec (.echo src data) s = .next t
        ∧ if data.length ≤ 8182 then Replies u t src 0xE0 .done data else Replies u t src 0xE0 .badLen [])
    ∧ (gateOf s src 0xE1 = .pass → ∀ conn c, s.cmd.ports.find? (·.conn == conn) = some c →
        ∃ t, exec (.portCounters src conn) s = .next t ∧ Replies u t src 0xE1 .done
          ([c.received, c.d1, c.d2, c.d5, c.d12, c.d13, c.replies].flatMap fun n => be 4 (min n 0xFFFFFFFF)))

/-! ## Vital control commands -/

/-- For a request that reaches the lanes. ROUTE_SET with a wait limit up to 600 s: BAD_STATE for a route without
definition or with a transaction in flight, then REFUSED where it is inhibited or blocked, then BUSY without a free
slot; else a transaction REQUESTED in the lowest free slot, with the frame counter as its age. ROUTE_CANCEL:
REQUESTED becomes CANCELLED; CLAIMED, SETTING or PROVED calls for the release of all it holds; for CLEARED the
cancellation stands for EVALUATE to decide on the frame's inputs; without a transaction, when ended or cancelled
before, IN USE or RELEASING: BAD_STATE. EVALUATE makes of it: IN USE where a train has entered, else RELEASING,
timed by the approach release time from now, or with the release of all it holds called for where the approach is
clear. EMERGENCY_RELEASE of IN USE or RELEASING: RELEASING, REL_TMR at the approach release time, an overlap TIMING
back to LOCKED; a second one changes nothing; any other state: BAD_STATE. Only transactions, the overlap crumbs'
marks, releases called for, records and requests change. (R106, R107, R108, R109, R114, R117, R118, R286) -/
def Obligations.RouteCommandsAreTakenByTheirRules : Prop :=
  ∀ (s : State) (src : Src) (st : Station) (p : Prt), TakesFrom s src st p → OwnSide s src →
    (∀ route wait, wait ≤ 600 → (s.core.asks.filter (·.opc == 0x10)).length < 8 →
      ∃ t, exec (.routeSet src route wait) s = .next t
        ∧ (stRoute? st route = none → Taken s t src 0x10 (.fixed .badState) s.core)
        ∧ ∀ rd, stRoute? st route = some rd →
          ((∃ u ∈ s.core.txns, u.route = route) → Taken s t src 0x10 (.fixed .badState) s.core)
          ∧ ((∀ u ∈ s.core.txns, u.route ≠ route) →
            (holdsExpr st s.core s.core rd.inhibit = true ∨ routeBlocked st s.core rd = true →
              Taken s t src 0x10 (.fixed .refused) s.core)
            ∧ (holdsExpr st s.core s.core rd.inhibit = false → routeBlocked st s.core rd = false →
              ((∀ n < 128, ∃ u ∈ s.core.txns, u.slot = n) → Taken s t src 0x10 (.fixed .busy) s.core)
              ∧ ∀ n < 128, (∀ u ∈ s.core.txns, u.slot ≠ n) → (∀ m < n, ∃ u ∈ s.core.txns, u.slot = m) →
                Taken s t src 0x10 (.claim route) { s.core with
                  recs := t.core.recs
                  txns := s.core.txns ++ [{ slot := n, route := route, age := s.core.counter, order := s.core.txns.length
                                            admittedAt := s.frm.nextTick.getD s.now, waitMs := wait * 1000
                                            state := .requested }] })))
    ∧ (∀ route, ∃ t, exec (.routeCancel src route) s = .next t
        ∧ (stRoute? st route = none ∨ txnOfRoute? s.core route = none → Taken s t src 0x11 (.fixed .badState) s.core)
        ∧ ∀ rd u, stRoute? st route = some rd → txnOfRoute? s.core route = some u →
          (u.byCancel = true ∨ u.ended = true ∨ u.wantCancel = true ∨ u.state = .inUse ∨ u.state = .releasing
              ∨ u.state = .cancelled ∨ u.state = .refused →
            Taken s t src 0x11 (.fixed .badState) s.core)
          ∧ (u.byCancel = false → u.ended = false → u.wantCancel = false →
            (u.state = .requested → Taken s t src 0x11 (.txnState route) { s.core with
              txns := updFirst (·.slot == u.slot) (fun v => { v with state := .cancelled, byCancel := true }) s.core.txns
              recs := t.core.recs })
            ∧ (u.state = .claimed ∨ u.state = .setting ∨ u.state = .proved →
              Taken s t src 0x11 (.txnState route) { s.core with
                txns := updFirst (·.slot == u.slot) (fun v => { v with byCancel := true }) s.core.txns
                plan := s.core.plan ++ [{ slot := u.slot, objs := u.held, why := .cancel }] })
            ∧ (u.state = .cleared → Taken s t src 0x11 (.cancelled route) { s.core with
                txns := updFirst (·.slot == u.slot) (fun v => { v with wantCancel := true }) s.core.txns })))
    ∧ (∀ (fin : FrameIn) (x : Inter) (slot : Nat) (u : Txn) (rd : RouteDef), txnOfSlot? x slot = some u →
        stRoute? st u.route = some rd → u.state = .cleared → u.ended = false → u.wantCancel = true →
        ∃ v, txnOfSlot? (stepTxn st p fin x slot) slot = some v
          ∧ (trainEntered st x rd = true → v.state = .inUse ∧ v.byCancel = u.byCancel)
          ∧ (trainEntered st x rd = false → v.state = .releasing ∧ v.byCancel = true ∧ v.relUse = .approach
            ∧ (approachIsClear x rd.entry = false → v.approach = .timing ∧ v.relRemain = rd.approachMs ∧ v.relQ = false)
            ∧ (approachIsClear x rd.entry = true →
                ∃ r ∈ (stepTxn st p fin x slot).plan, r.slot = slot ∧ r.why = .approachEnd ∧ v.relQ = true)))
    ∧ ∀ route, ∃ t, exec (.emergencyRelease src route) s = .next t
        ∧ (stRoute? st route = none ∨ txnOfRoute? s.core route = none → Taken s t src 0x12 (.fixed .badState) s.core)
        ∧ ∀ rd u, stRoute? st route = some rd → txnOfRoute? s.core route = some u →
          (u.ended = true ∨ (u.state ≠ .inUse ∧ u.state ≠ .releasing) → Taken s t src 0x12 (.fixed .badState) s.core)
          ∧ (u.ended = false → u.state = .inUse ∨ u.state = .releasing →
            (u.relUse = .emergency → Taken s t src 0x12 (.txnState route) s.core)
            ∧ (u.relUse ≠ .emergency → Taken s t src 0x12 (.txnState route) { s.core with
                txns := updFirst (·.slot == u.slot) (fun v => { v with
                  state := .releasing, relUse := .emergency, relRemain := rd.approachMs, relQ := false, relNew := true
                  overlap := if v.overlap = .timing then .locked else v.overlap }) s.core.txns
                crumbs := s.core.crumbs.map fun c =>
                  if c.kind = .overlap ∧ c.owner = u.slot ∧ crumbBad c = false then { c with tmg := false, flip := 0 } else c
                shadow := s.core.shadow.map fun c =>
                  if c.kind = .overlap ∧ c.owner = u.slot ∧ crumbBad c = false then { c with tmg := false, flip := 0 } else c
                recs := t.core.recs }))

/-- For a request that reaches the lanes. POINT_MOVE: BAD_STATE where the target is no point and no point group;
REFUSED where a point named holds a crumb, is invalid, settling or blocked; DONE where every one is detected in
position; else ACCEPTED, with an individual move kept for each point named and no other object touched.
SECTION_RESTORE: ACCEPTED with the RESTORE word set for a restorable section that is DISTURBED, else BAD_STATE.
BLOCK sets or clears the block of a defined route or object and answers DONE, else BAD_STATE. GUARD_ACK: ACCEPTED
with the acknowledge request formed for a defined guard that is TRIPPED, else BAD_STATE. STATION_CMD: ACCEPTED with
code and argument delivered for a code of the station data, else BAD_STATE. Nothing else changes. (R286, R287, R152,
R444, R448, R78) -/
def Obligations.ObjectCommandsAreTakenByTheirRules : Prop :=
  ∀ (s : State) (src : Src) (st : Station) (p : Prt), TakesFrom s src st p → OwnSide s src →
    (∀ group target pos, pos = 1 ∨ pos = 2 → ∃ t, exec (.pointMove src group target pos) s = .next t
      ∧ (moveTargets st group target (pos - 1) = none → Taken s t src 0x13 (.fixed .badState) s.core)
      ∧ ∀ ms, moveTargets st group target (pos - 1) = some ms →
        ((∃ m ∈ ms, ∀ o, objOf? s.core m.1 = some o → (∃ c ∈ s.core.shadow, c.obj = m.1) ∨ o.valid = false ∨ o.settle ≠ 0
            ∨ o.block = true) → Taken s t src 0x13 (.fixed .refused) s.core)
        ∧ ((∀ m ∈ ms, ∃ o, objOf? s.core m.1 = some o ∧ (∀ c ∈ s.core.shadow, c.obj ≠ m.1) ∧ o.valid = true ∧ o.settle = 0
            ∧ o.block = false) →
          ((∀ m ∈ ms, shows (seenObj s.core m.1) (posRep m.2) = true) → Taken s t src 0x13 (.fixed .done) s.core)
          ∧ ((∃ m ∈ ms, shows (seenObj s.core m.1) (posRep m.2) = false) → (ms.map (·.1)).Nodup →
            Taken s t src 0x13 (.fixed .accepted) { s.core with objs := t.core.objs }
            ∧ (∀ m ∈ ms, objOf? t.core m.1 = (objOf? s.core m.1).map fun o => { o with move := some (posCmd m.2), kept := false })
            ∧ ∀ i, (∀ m ∈ ms, m.1 ≠ i) → objOf? t.core i = objOf? s.core i)))
    ∧ (∀ obj, ∃ t, exec (.sectionRestore src obj) s = .next t
      ∧ ((∃ d o, stObj? st obj = some d ∧ objOf? s.core obj = some o ∧ d.ty = .track ∧ d.restorable = true ∧ o.rep = scDisturbed) →
        Taken s t src 0x14 (.fixed .accepted) { s.core with
          objs := updFirst (·.idx == obj) (fun u => { u with restore := true }) s.core.objs })
      ∧ ((∀ d o, stObj? st obj = some d → objOf? s.core obj = some o →
          ¬ (d.ty = .track ∧ d.restorable = true ∧ o.rep = scDisturbed)) →
        Taken s t src 0x14 (.fixed .badState) s.core))
    ∧ (∀ target,
      (∀ rd, stRoute? st target = some rd →
        (∃ t, exec (.blockSet src true target) s = .next t
          ∧ Taken s t src 0x15 (.fixed .done) { s.core with blockedRoutes := t.core.blockedRoutes }
          ∧ ∀ r, r ∈ t.core.blockedRoutes ↔ r = target ∨ r ∈ s.core.blockedRoutes)
        ∧ ∃ t, exec (.blockClear src true target) s = .next t
          ∧ Taken s t src 0x15 (.fixed .done) { s.core with blockedRoutes := t.core.blockedRoutes }
          ∧ ∀ r, r ∈ t.core.blockedRoutes ↔ r ≠ target ∧ r ∈ s.core.blockedRoutes)
      ∧ (∀ d, stObj? st target = some d →
        (∃ t, exec (.blockSet src false target) s = .next t ∧ Taken s t src 0x15 (.fixed .done) { s.core with
          objs := updFirst (·.idx == target) (fun o => { o with block := true }) s.core.objs })
        ∧ ∃ t, exec (.blockClear src false target) s = .next t ∧ Taken s t src 0x15 (.fixed .done) { s.core with
          objs := updFirst (·.idx == target) (fun o => { o with block := false }) s.core.objs })
      ∧ ∀ onRoute, (onRoute = true → stRoute? st target = none) → (onRoute = false → stObj? st target = none) →
        (∃ t, exec (.blockSet src onRoute target) s = .next t ∧ Taken s t src 0x15 (.fixed .badState) s.core)
        ∧ ∃ t, exec (.blockClear src onRoute target) s = .next t ∧ Taken s t src 0x15 (.fixed .badState) s.core)
    ∧ (∀ guard, guard ≤ 15 → ∃ t, exec (.guardAck src guard) s = .next t
      ∧ if guard < p.guards.length ∧ (∃ g, s.prl.guards[guard]? = some g ∧ g.tripped = true) then
          Taken s t src 0x18 (.fixed .accepted) { s.core with acks := s.core.acks ++ [guard] }
        else Taken s t src 0x18 (.fixed .badState) s.core)
    ∧ ∀ code arg, ∃ t, exec (.stationCmd src code arg) s = .next t
      ∧ if code ∈ st.stationCodes then
          Taken s t src 0x19 (.fixed .accepted) { s.core with stationCmd := some (code, arg) }
        else Taken s t src 0x19 (.fixed .badState) s.core

/-- For the eight vital requests of a partner, with the bridge not fenced. Without the class, in FACTORY or RETIRED:
NOT_AUTH from the service processor, and the interlocking state stands. Where the module is not ACTIVE or ALONE, is
stopped or has relinquished: nothing. With the command engine fenced the lanes answer NOT_AUTH; from a neighbour
pair's module STALE. A wait limit above 600 s, a position other than 1 or 2, a guard above 15: BAD_LEN. While a
frame is in progress a request waits, in order, for the next INPUT and changes nothing of the interlocking state.
(R282, R284, R285, R286, R30, R320, R296, R278) -/
def Obligations.VitalRequestsAreAnsweredDroppedOrKept : Prop :=
  ∀ (s : State) (src : Src) (opc : Nat) (c : Instr) (r : VReq) (n m : Nat) (b : Bool),
    (opc, c, r) ∈ [(0x10, .routeSet src n 600, .routeSet src n 600), (0x11, .routeCancel src n, .routeCancel src n),
      (0x12, .emergencyRelease src n, .emergency src n), (0x13, .pointMove src b n 1, .pointMove src b n 1),
      (0x13, .pointMove src b n 2, .pointMove src b n 2), (0x14, .sectionRestore src n, .restore src n),
      (0x15, .blockSet src b n, .block src b n true), (0x15, .blockClear src b n, .block src b n false),
      (0x18, .guardAck src 15, .guardAck src 15), (0x19, .stationCmd src n m, .stationCmd src n m)] →
    (partnerAt s src.entry).addr ≠ 0xFFFF → s.xbr.fenced = false → svcRuns s = true →
    let fixed := fun (t : State) (o : Nat) (st : Status) => { s with
      core := ask src o (.fixed st) s.core, work := s.work.map (ask src o (.fixed st)), cmd := t.cmd }
    (hasClass s src .vital = false ∨ s.sec.life = .factory ∨ s.sec.life = .retired →
      ∃ t, exec c s = .next t ∧ Replies s t src opc .notAuth [])
    ∧ (hasClass s src .vital = true → s.sec.life ≠ .factory → s.sec.life ≠ .retired →
      (takesVital s = false → exec c s = .next s)
      ∧ (takesVital s = true →
        (s.cmd.fenced = true → ∃ t, exec c s = .next t ∧ t = fixed t opc .notAuth ∧ t.cmd = s.cmd)
        ∧ (s.cmd.fenced = false →
          ((partnerAt s src.entry).addr / 256 % 8 ≤ 3 → ∃ t, exec c s = .next t ∧ t = fixed t opc .stale
            ∧ t.cmd = { s.cmd with stale := min 65535 (s.cmd.stale + 1), sawStale := true })
          ∧ (OwnSide s src →
            (s.work.isSome = true → s.mzp.isSome = true → s.prt.isSome = true →
              ∃ t, exec c s = .next t ∧ t.cmd.inbox = s.cmd.inbox ++ [r]
                ∧ t = { hearFrom s src.entry with cmd := { (hearFrom s src.entry).cmd with inbox := t.cmd.inbox } })
            ∧ (∀ k, 600 < k → ∃ t, exec (.routeSet src n k) s = .next t ∧ t = fixed t 0x10 .badLen ∧ t.cmd = s.cmd)
            ∧ (∀ k, k ≠ 1 → k ≠ 2 → ∃ t, exec (.pointMove src b n k) s = .next t ∧ t = fixed t 0x13 .badLen ∧ t.cmd = s.cmd)
            ∧ ∀ k, 15 < k → ∃ t, exec (.guardAck src k) s = .next t ∧ t = fixed t 0x18 .badLen ∧ t.cmd = s.cmd))))

/-- A BOUNDARY_STATE of a neighbour pair's module that reaches the lanes, with at most 64 entries, every object
mapped to one of the module's own and every offer and border 0 or 1: each object takes OFFER and BORDER, is fresh in
the frame, and Praline's reading of it becomes GRANTED with a verified tag and WITHHELD with an offer of WITHHELD;
the greatest FRAME stands as the FREF of the next packets to the sender, and the packet is counted. One with an
object that the image does not map, or with more than 64 entries, changes that FREF only, and is counted in
CMD_RXERR.OTHER (the count is the model's choice, log entry 126). The sender's pair differs from the packet's:
nothing changes. Transactions, crumbs, permits and every other object stand. (R288, R136, R94, R276) -/
def Obligations.BoundaryStateReachesItsObjects : Prop :=
  ∀ (s : State) (src : Src) (st : Station) (p : Prt) (msg : BoundaryIn), TakesFrom s src st p → ¬ OwnSide s src →
    let addr := (partnerAt s src.entry).addr
    let seen := fun (t : State) => ∀ q, q.partner = addr → q ∈ t.core.peerFrames →
      msg.frame ≤ q.frame ∧ (q.frame = msg.frame ∨ ∃ w ∈ s.core.peerFrames, w.partner = addr ∧ q.frame = w.frame)
    (addr / 2048 ≠ msg.pair → exec (.boundaryState src msg) s = .next s)
    ∧ (addr / 2048 = msg.pair →
      (64 < msg.entries.length ∨ (∃ e ∈ msg.entries, ownBoundary? st msg.pair e.obj = none ∨ 1 < e.offer ∨ 1 < e.border) →
        ∃ t, exec (.boundaryState src msg) s = .next t ∧ seen t
          ∧ t = { s with core := { s.core with peerFrames := t.core.peerFrames }
                         cmd := { s.cmd with otherErr := min 65535 (s.cmd.otherErr + 1) } })
      ∧ (msg.entries.length ≤ 64 → (∀ e ∈ msg.entries, (∃ i, ownBoundary? st msg.pair e.obj = some i) ∧ e.offer ≤ 1 ∧ e.border ≤ 1) →
        (msg.entries.map fun e => ownBoundary? st msg.pair e.obj).Nodup →
        ∃ t, exec (.boundaryState src msg) s = .next t ∧ seen t
          ∧ (∀ e ∈ msg.entries, ∀ i, ownBoundary? st msg.pair e.obj = some i → i ∈ t.core.fresh
            ∧ objOf? t.core i = (objOf? s.core i).map (fun o => { o with offerIn := e.offer, borderIn := e.border })
            ∧ (boundaryVerified s s.core msg.pair msg.frame e = true →
                i ∈ t.core.freshTag ∧ prlOf? t.core i = (prlOf? s.core i).map fun o => { o with rep := bdGranted })
            ∧ (e.offer = bdWithheld → prlOf? t.core i = (prlOf? s.core i).map fun o => { o with rep := bdWithheld })
            ∧ (e.offer = bdGranted → boundaryVerified s s.core msg.pair msg.frame e = false → prlOf? t.core i = prlOf? s.core i))
          ∧ (∀ i, (∀ e ∈ msg.entries, ownBoundary? st msg.pair e.obj ≠ some i) →
            objOf? t.core i = objOf? s.core i ∧ prlOf? t.core i = prlOf? s.core i)
          ∧ t = { hearFrom s src.entry with
                  core := { s.core with objs := t.core.objs, prlObjs := t.core.prlObjs, fresh := t.core.fresh
                                        freshTag := t.core.freshTag, bTags := t.core.bTags, peerFrames := t.core.peerFrames }
                  cmd := { (hearFrom s src.entry).cmd with rxok := min 0xFFFFFFFF (s.cmd.rxok + 1) } }))

/-! ## The maintenance session and its commands -/

/-- For a partner of the table whom the gate passes. A KSLOT above 2 is BAD_LEN; one that the state does not admit,
or a partner locked out, NOT_AUTH; another holder of the session, BUSY, before any proof is looked at. Else the
first request is answered DONE with a challenge, which alone stands, from now; the second uses it up, and opens the
session exactly where it is that partner's, not older than 30 s, and the proof is the one of a key that may prove
it; else NOT_AUTH, the session as it was, the failure counted and AUTH_FAIL live, and the fifth failure within 10
min locks the partner out. SESSION_CLOSE and no packet of the holder for STMO end the session and bring the debug
level to D0. A lockout ends 10 min after it began. A debugger's halts are released with it. (R409, R411, R340, R284)
-/
def Obligations.SessionsOpenUnderProofOnly : Prop :=
  ∀ (s : State) (src : Src) (net : NetAddr) (kslot now : Nat),
    let v := later s now
    let u := hearFrom v src.entry
    (guestEntry v net kslot = none → gateOf v src 0x80 = .pass →
      let both := fun (st : Status) => SvcReply (.sessionOpen src net kslot now) s u src 0x80 st []
        ∧ ∀ chal proof, SvcReply (.sessionOpenProof src net kslot chal proof now) s u src 0x80 st []
      (2 < kslot → both .badLen)
      ∧ (kslot ≤ 2 →
        (kslotOk v kslot = false ∨ isLockedOut v src.entry = true → both .notAuth)
        ∧ (kslotOk v kslot = true → isLockedOut v src.entry = false →
          (heldByOther u src net = true → both .busy)
          ∧ (heldByOther u src net = false →
            (∃ x : BitVec 128, SvcReply (.sessionOpen src net kslot now) s
              { u with free := u.free + 1
                       sec := { u.sec with chal := some { entry := src.entry, addr := src.addr, value := x, givenAt := v.now } } }
              src 0x80 .done (be 16 x.toNat))
            ∧ ∀ chal proof,
              let fresh := ∃ g, s.sec.chal = some { entry := src.entry, addr := src.addr, value := chal, givenAt := g }
                ∧ v.now ≤ g + 30000000
              let good := ∃ k ∈ proofKeys v src.entry kslot, proofOf v k chal src.addr = proof
              (fresh → good → SvcReply (.sessionOpenProof src net kslot chal proof now) s
                { u with sec := { u.sec with
                    chal := none, guestBound := u.sec.guestBound || src.entry == 31
                    session := some { entry := src.entry, addr := (partnerAt v src.entry).addr, ip := net.ip, udpp := net.udpp
                                      kslot := kslot, lastAt := v.now } } }
                src 0x80 .done [])
              ∧ (¬ (fresh ∧ good) → ∃ w, SvcReply (.sessionOpenProof src net kslot chal proof now) s w src 0x80 .notAuth []
                ∧ w.sec.session = u.sec.session ∧ w.sec.chal = none ∧ w.sec.failCount = min 65535 (s.sec.failCount + 1)
                ∧ w.sec.lastFail = some src.entry ∧ isLive w .sec eAUTH_FAIL = true
                ∧ (4 ≤ (s.sec.failures.filter fun f => f.1 == src.entry && decide (v.now < f.2 + 600000000)).length →
                    isLockedOut w src.entry = true)
                ∧ RaiseFrame { u with sec := w.sec } w)))))
    ∧ (gateOf s src 0x81 = .pass → ∃ w t, exec (.sessionClose src) s = .next t ∧ Replies (hearFrom s src.entry) w src 0x81 .done []
        ∧ t = { w with sec := { w.sec with session := none, dbg := .d0, dlane := none, wantDbg := none }
                       vot := t.vot, faults := t.faults }
        ∧ isLive t .sec eDEBUG_OPEN = false ∧ ∀ l, (laneOf t.vot l).state = (laneOf s.vot l).state)
    ∧ (∀ k, s.sec.session = some k → k.lastAt + 60000000 * fieldOf s.cfg.secCtl 0 8 ≤ v.now →
        ∃ t, exec (.sessionTimeout now) s = .next t ∧ isLive t .sec eDEBUG_OPEN = false
          ∧ t = { v with sec := { s.sec with session := none, dbg := .d0, dlane := none, wantDbg := none }
                         vot := t.vot, faults := t.faults })
    ∧ ∀ entry, ∃ t, exec (.authLockoutEnd entry now) s = .next t ∧ t = { v with sec := { s.sec with locked := t.sec.locked } }
        ∧ ∀ p, p ∈ t.sec.locked ↔ p ∈ s.sec.locked ∧ ¬ (p.1 = entry ∧ p.2 + 600000000 ≤ v.now)

/-- For a command that the gate passes. REG_READ and REG_WRITE with an address not 4-aligned or a count outside
their limits are BAD_LEN. REG_READ, where the copies of each queue's pointers agree, replies the word of each
address that reads; one that errors reads as all ones and is counted with its address and cause. REG_WRITE makes the
lanes' write of each word at its address, in order, and none at an unmapped one, and is answered DONE. COMMIT stays
pending for the next drain, with the sender to be answered. STAGE_DISCARD leaves nothing staged. PARTNER_STAGE of
entry 0 to 31, empty or with a connector that carries a partner, stages the 32 bytes as R271 lays them out, in place
of what was staged for that entry. SETTINGS_SAVE stores the configuration and partner table in effect in both
copies, and is BAD_STATE while an LFW or SVC is UNCONFIRMED. Nothing else changes but the reply and that the partner
was heard. (R291, R297, R299, R301, R271, R314, R385) -/
def Obligations.RegisterCommandsReachTheirRegisters : Prop :=
  ∀ (s : State) (src : Src),
    let u := hearFrom s src.entry
    (gateOf s src 0x82 = .pass → ∀ addr count,
      (addr % 4 ≠ 0 ∨ count = 0 ∨ 2045 < count → SvcReply (.regReadCmd src addr count) s u src 0x82 .badLen [])
      ∧ ((∀ q ≤ 5, pointersAgree (queueOf s.xbr q) = true) → addr % 4 = 0 → 1 ≤ count → count ≤ 2045 → ∀ w : Nat → Word,
          (∀ k < count, ∀ f, serviceRead { u with free := f } (addr + 4 * k) = .ok (w k)) →
          SvcReply (.regReadCmd src addr count) s { u with free := u.free + count } src 0x82 .done
            ((List.range count).flatMap fun k => be 4 (w k).toNat))
      ∧ ((∀ q ≤ 5, pointersAgree (queueOf s.xbr q) = true) → addr % 4 = 0 → ∀ c, serviceRead u addr = .error c → ∃ v, EndsInError u v addr c false
          ∧ SvcReply (.regReadCmd src addr 1) s v src 0x82 .done (be 4 0xFFFFFFFF)))
    ∧ (gateOf s src 0x83 = .pass → ∀ addr words,
      (addr % 4 ≠ 0 ∨ words = [] ∨ 2040 < words.length → SvcReply (.regWriteCmd src addr words) s u src 0x83 .badLen [])
      ∧ (addr % 4 = 0 → words ≠ [] → words.length ≤ 2040 →
          LaneAnswer (.regWriteCmd src addr words) s
            (words.zipIdx.foldl (fun v p => (laneWrite v { addr := src.addr } (addr + 4 * p.2) p.1).getD v) u) src 0x83 .done))
    ∧ (gateOf s src 0x84 = .pass →
        exec (.commit src) s = .next { u with xbr := { u.xbr with cpend := true, casks := u.xbr.casks ++ [src] } })
    ∧ (gateOf s src 0x85 = .pass → LaneAnswer (.stageDiscard src) s { u with staged := [], stagedPartners := [] } src 0x85 .done)
    ∧ (gateOf s src 0x86 = .pass → ∀ entry words,
      let bs := words.flatMap fun w => be 4 w.toNat
      let p : Partner := { addr := fieldAt bs 0 2, conn := fieldAt bs 2 1, classes := fieldAt bs 3 1, flags := fieldAt bs 4 1
                           silent := fieldAt bs 5 1, udpp := fieldAt bs 6 2, ip := fieldAt bs 8 16 }
      (entry ≤ 31 → words.length = 8 → p.addr = 0xFFFF ∨ (10 ≤ p.conn ∧ p.conn ≤ 13) →
        ∃ l, LaneAnswer (.partnerStage src entry words) s { u with stagedPartners := l } src 0x86 .done
          ∧ (∀ q, (entry, q) ∈ l ↔ q = p) ∧ ∀ n q, n ≠ entry → ((n, q) ∈ l ↔ (n, q) ∈ s.stagedPartners))
      ∧ (31 < entry ∨ words.length ≠ 8 → SvcReply (.partnerStage src entry words) s u src 0x86 .badLen []))
    ∧ (gateOf s src 0x87 = .pass →
      let c : Settings := { fmt := s.upd.setfmt, cfg := s.cfg, partners := s.cmd.partners }
      ((∀ q, s.upd.unconf = some q → q.part ≠ .lfw ∧ q.part ≠ .svc) →
        SvcReply (.settingsSave src) s { u with upd := { u.upd with copyA := some c, copyB := some c, saved := true } } src 0x87 .done [])
      ∧ ∀ q, s.upd.unconf = some q → q.part = .lfw ∨ q.part = .svc → SvcReply (.settingsSave src) s u src 0x87 .badState [])

/-- The one evaluation of a pending COMMIT at the drain. With no register and no partner entry staged: result 2, and
configuration, partner table and staged values stand. With a failing check: result 1 with the lowest address that a
failing check names, and configuration, partner table and staged values stand. Else result 0: every register in
effect is its staged value, the partner table its staged one, nothing is staged any more, and CGEN has advanced
modulo 256. In each case no COMMIT is pending any more and CFC holds the frame. (R313, R314, R315, R319, R299) -/
def Obligations.CommitIsAllOrNothing : Prop :=
  ∀ s : State,
    let t := evalCommit s
    t.xbr.cpend = false ∧ t.xbr.cfc = s.core.counter % 2 ^ 24
    ∧ ((∀ r, stagedOf s r = cfgGet s.cfg r) → (∀ p ∈ s.stagedPartners, tableEntry s p.1 = p.2) →
        t.xbr.cresult = 2 ∧ t.cfg = s.cfg ∧ t.cmd.partners = s.cmd.partners ∧ t.staged = s.staged ∧ t.xbr.cgen = s.xbr.cgen
          ∧ t.stagedPartners = s.stagedPartners)
    ∧ ((∃ r, stagedOf s r ≠ cfgGet s.cfg r) ∨ (∃ p ∈ s.stagedPartners, tableEntry s p.1 ≠ p.2) →
      (∀ a, commitCheck s = some a →
        t.xbr.cresult = 1 ∧ t.xbr.cadr = a ∧ t.cfg = s.cfg ∧ t.cmd.partners = s.cmd.partners ∧ t.staged = s.staged
          ∧ t.stagedPartners = s.stagedPartners ∧ t.xbr.cgen = s.xbr.cgen
          ∧ (∀ r, rangeFails s r = true ∨ fenceFails s r = true → a ≤ r.addr))
      ∧ (commitCheck s = none →
        t.xbr.cresult = 0 ∧ (∀ r, cfgGet t.cfg r = stagedOf s r) ∧ t.cmd.partners = stagedTable s ∧ t.staged = []
          ∧ t.stagedPartners = [] ∧ t.xbr.cgen = (s.xbr.cgen + 1) % 256
          ∧ (∀ r, rangeFails s r = false ∧ fenceFails s r = false)))

/-- For a command that the gate passes; each is BAD_STATE where its condition fails. LANE_OUT: three lanes vote, the
2oo2 clock stands, no other lane is latent and no lane is asked to leave; the lane is asked out. LANE_IN: a lane
FENCED by LANE_OUT; it is asked in. DUO_EXTEND of 1 to 72 hours, else BAD_LEN: in MAINT with the clock running and
no extension used; the extension stands, and a limit that it puts beyond the clock is not reached any more.
LIO_RESTART: no source of the local I/O at FENCE live and X2 in range; the restart goes out and the fence is gone.
SWITCHOVER: ACTIVE, partner ready, neither PEER_DOWN nor WITNESS_DOWN live; ACCEPTED, and the switchover is
commanded. DEBUG with a level above 3, or a lane that does not go with the level, is BAD_LEN; allowed, it is asked
for at the drain, with the halt of the lane at D2. LIFECYCLE with a target above 4 is BAD_LEN, with another serial
number REFUSED, permitted DONE and to take effect at the drain. Nothing else changes but the answer and that the
partner was heard. (R174, R178, R263, R291, R359, R408, R411) -/
def Obligations.LaneAndLifecycleCommandsKeepTheirConditions : Prop :=
  ∀ (s : State) (src : Src),
    let u := hearFrom s src.entry
    (gateOf s src 0x88 = .pass → ∀ l : Lane,
      let ok := framesRun s = true ∧ (∀ k, (laneOf s.vot k).state = .voting) ∧ s.vot.duoSince = none
        ∧ (∀ k, k ≠ l → (laneOf s.vot k).latent = false)
        ∧ ∀ k, (laneOf s.vot k).wantOut = false ∧ (laneOf s.vot k).wantHalt = false ∧ (laneOf s.vot k).wantBoot = false
      (ok → LaneAnswer (.laneOut src l) s { u with vot := setLane s.vot l fun b => { b with wantOut := true } } src 0x88 .done)
      ∧ (¬ ok → LaneAnswer (.laneOut src l) s u src 0x88 .badState))
    ∧ (gateOf s src 0x89 = .pass → ∀ l : Lane,
      let ok := framesRun s = true ∧ (laneOf s.vot l).state = .fenced ∧ (laneOf s.vot l).why = .command
      (ok → LaneAnswer (.laneIn src l) s { u with vot := setLane s.vot l fun b => { b with wantIn := true } } src 0x89 .done)
      ∧ (¬ ok → LaneAnswer (.laneIn src l) s u src 0x89 .badState))
    ∧ (gateOf s src 0x8A = .pass → ∀ hours,
      let ok := s.sec.life = .maint ∧ s.vot.duoSince.isSome = true ∧ s.vot.extUsed = false
      (hours = 0 ∨ 72 < hours → SvcReply (.duoExtend src hours) s u src 0x8A .badLen [])
      ∧ (1 ≤ hours → hours ≤ 72 →
        (ok → ∃ w, LaneAnswer (.duoExtend src hours) s w src 0x8A .done
          ∧ let far := s.vot.limitAt.isSome = true ∧ ∃ t, s.vot.duoSince = some t
              ∧ s.now < t + duoLimitUs { s with vot := { s.vot with extUsed := true, extH := hours } }
            (far → isLive w .vot vDUO_LIMIT = false ∧ w = { u with
              vot := { s.vot with extUsed := true, extH := hours, limitAt := none, stopAtDrain := false }, faults := w.faults })
            ∧ (¬ far → w = { u with vot := { s.vot with extUsed := true, extH := hours } }))
        ∧ (¬ ok → LaneAnswer (.duoExtend src hours) s u src 0x8A .badState)))
    ∧ (gateOf s src 0x8B = .pass →
      let ok := s.lio.field.x2Ok = true ∧ ∀ n < 12, isLive s .lio n = true → sevOf s.cfg .lio n ≠ .fence
      (ok → LaneAnswer (.lioRestart src) s { u with lio := { s.lio with
          vital := { s.lio.vital with restart := true, fence := false } } } src 0x8B .done)
      ∧ (¬ ok → LaneAnswer (.lioRestart src) s u src 0x8B .badState))
    ∧ (gateOf s src 0x8C = .pass →
      let ok := s.dpx.role = .active ∧ s.dpx.peerReady = true ∧ isLive s .dpx dPEER_DOWN = false ∧ isLive s .dpx dWITNESS_DOWN = false
      (ok → LaneAnswer (.switchover src) s { u with dpx := { s.dpx with commanded := true } } src 0x8C .accepted)
      ∧ (¬ ok → LaneAnswer (.switchover src) s u src 0x8C .badState))
    ∧ (gateOf s src 0x8D = .pass →
      (∀ level lane, 3 < level ∨ (level = 2 ∧ (lane = 0 ∨ 3 < lane)) ∨ (level ≠ 2 ∧ lane ≠ 0) →
        SvcReply (.debug src level lane) s u src 0x8D .badLen [])
      ∧ (∀ d : Dbg, d ≠ .d2 →
        (debugAllowed s d none = true → LaneAnswer (.debug src d.code 0) s
          { u with sec := { u.sec with wantDbg := some (d, none) } } src 0x8D .done)
        ∧ (debugAllowed s d none = false → LaneAnswer (.debug src d.code 0) s u src 0x8D .badState))
      ∧ ∀ l : Lane,
        (debugAllowed s .d2 (some l) = true → LaneAnswer (.debug src 2 l.num) s
          { u with sec := { u.sec with wantDbg := some (.d2, some l) }
                   vot := setLane s.vot l fun b => { b with wantHalt := true } } src 0x8D .done)
        ∧ (debugAllowed s .d2 (some l) = false → LaneAnswer (.debug src 2 l.num) s u src 0x8D .badState))
    ∧ (gateOf s src 0x8E = .pass →
      (∀ target serial, 4 < target → SvcReply (.lifecycle src target serial) s u src 0x8E .badLen [])
      ∧ ∀ t : Life,
        (∀ serial, serial ≠ s.sys.serial → LaneAnswer (.lifecycle src t.code serial) s u src 0x8E .refused)
        ∧ (lifeAllowed s t = true → LaneAnswer (.lifecycle src t.code s.sys.serial) s
            { u with sec := { u.sec with wantLife := some t } } src 0x8E .done)
        ∧ (lifeAllowed s t = false → LaneAnswer (.lifecycle src t.code s.sys.serial) s u src 0x8E .badState))

/-- For a command that the gate passes. A place outside the table of R416, or a key of a wrong length, is BAD_LEN; a
slot selected for use, or the wafer key of a module in service, BAD_STATE; a key that does not unwrap is REFUSED and
AUTH_FAIL is live. Else KEY_LOAD: the wrapping counter of that key has advanced, the one blob of that place holds
the key under it, the blobs of every other place stand, and the plain key takes effect at the next drain. KEY_ERASE:
no blob of that place stands, none of before unwraps, and the plain key goes at the next drain. TIME_SET is
BAD_STATE while PTP time is locked, else calendar time is the one set, with source 2. Nothing else changes but the
reply, the TIME record and that the partner was heard. (R416, R417, R418, R402, R403, R291) -/
def Obligations.KeysAreLoadedAndErasedByTheirCounters : Prop :=
  ∀ (s : State) (src : Src) (now : Nat),
    let v := later s now
    let u := hearFrom v src.entry
    let w := hearFrom s src.entry
    (gateOf v src 0x8F = .pass → ∀ kt ix sl epub wrapped,
      (keyPlace kt ix sl = false ∨ epub.length ≠ 97 ∨ wrapped.length ≠ 40 →
        SvcReply (.keyLoad src kt ix sl epub wrapped now) s u src 0x8F .badLen [])
      ∧ (keyPlace kt ix sl = true → epub.length = 97 → wrapped.length = 40 →
        (keyInUse s kt sl = true → SvcReply (.keyLoad src kt ix sl epub wrapped now) s u src 0x8F .badState [])
        ∧ (keyInUse s kt sl = false →
          (unwrapKey s.sys.serial epub wrapped = none → ∃ x, SvcReply (.keyLoad src kt ix sl epub wrapped now) s x src 0x8F .refused []
            ∧ isLive x .sec eAUTH_FAIL = true ∧ RaiseFrame { u with sec := { u.sec with authAt := some v.now } } x)
          ∧ ∀ k, unwrapKey s.sys.serial epub wrapped = some k → ∃ x,
            SvcReply (.keyLoad src kt ix sl epub wrapped now) s x src 0x8F .done []
            ∧ keyCounter x.sec kt ix sl = keyCounter s.sec kt ix sl + 1
            ∧ (∀ b, b ∈ x.sec.blobs ∧ b.ktype = kt ∧ b.index = ix ∧ b.slot = sl ↔
                b = { ktype := kt, index := ix, slot := sl, ctr := keyCounter s.sec kt ix sl + 1, gen := s.sec.kekGen, key := k })
            ∧ (∀ b, ¬ (b.ktype = kt ∧ b.index = ix ∧ b.slot = sl) → (b ∈ x.sec.blobs ↔ b ∈ s.sec.blobs))
            ∧ (∀ a b c, ¬ (a = kt ∧ b = ix ∧ c = sl) → keyCounter x.sec a b c = keyCounter s.sec a b c)
            ∧ { ktype := kt, index := ix, slot := sl, key := k } ∈ x.sec.coming ∧ (kt, ix, sl) ∉ x.sec.going
            ∧ x = { u with sec := { u.sec with counters := x.sec.counters, blobs := x.sec.blobs, coming := x.sec.coming
                                               going := x.sec.going } })))
    ∧ (gateOf s src 0x8F = .pass → ∀ kt ix sl,
      (keyPlace kt ix sl = false → SvcReply (.keyErase src kt ix sl) s w src 0x8F .badLen [])
      ∧ (keyPlace kt ix sl = true →
        (keyInUse s kt sl = true → SvcReply (.keyErase src kt ix sl) s w src 0x8F .badState [])
        ∧ (keyInUse s kt sl = false → ∃ x, SvcReply (.keyErase src kt ix sl) s x src 0x8F .done []
          ∧ keyCounter x.sec kt ix sl = keyCounter s.sec kt ix sl + 1
          ∧ (∀ b ∈ x.sec.blobs, ¬ (b.ktype = kt ∧ b.index = ix ∧ b.slot = sl))
          ∧ (∀ b, ¬ (b.ktype = kt ∧ b.index = ix ∧ b.slot = sl) → (b ∈ x.sec.blobs ↔ b ∈ s.sec.blobs))
          ∧ (kt, ix, sl) ∈ x.sec.going ∧ (∀ k ∈ x.sec.coming, ¬ (k.ktype = kt ∧ k.index = ix ∧ k.slot = sl))
          ∧ x = { w with sec := { w.sec with counters := x.sec.counters, blobs := x.sec.blobs, coming := x.sec.coming
                                             going := x.sec.going } })))
    ∧ (gateOf v src 0x90 = .pass → ∀ time,
      (s.evr.lock = true → SvcReply (.timeSet src time now) s u src 0x90 .badState [])
      ∧ (s.evr.lock = false → ∃ x, SvcReply (.timeSet src time now) s x src 0x90 .done []
        ∧ x.evr.base = some ((time : Int) - 1000 * (v.now : Int)) ∧ x.evr.tsrc = .set
        ∧ SvcFrame { u with evr := { u.evr with base := x.evr.base, tsrc := x.evr.tsrc } } x))

/-- For a command that the gate passes. RESTART of kind 1 answers DONE and runs the start-up with CAUSE 2, and shows
the result of its self-test; of kind 2 it answers DONE and runs steps 5 to 10 with CAUSE 3, without the self-test,
whose result stands. TAMPER_REARM with another serial number is REFUSED; with the latch not set or the seal broken
now BAD_STATE; outside a session under KSLOT 2 NOT_AUTH; else it answers DONE, the latch is cleared, only blobs that
unwrap are left, SEALED and MAINT become COMMISSION, and the module starts again. The answer is the last packet that
leaves before the restart, and the power-cycle counter stands. (R291, R415, R420, R422, R397, R408) -/
def Obligations.RestartsAnswerAndStartAgain : Prop :=
  ∀ (s : State) (src : Src) (env : StartEnv) (now : Nat),
    let v := later s now
    let u := hearFrom v src.entry
    let d := fun opc => Sent.packet (replyPacket u src opc .done [])
    (gateOf v src 0x91 = .pass →
      (∃ t, exec (.restartModule src env now) s = .next t ∧ StartedFrom v t 2 ∧ t.bst.post = (if env.postOk then 2 else 3)
        ∧ t.pwr.pcc = s.pwr.pcc ∧ s.sent ++ [d 0x91] <+: t.sent)
      ∧ ∃ t, exec (.restartCold src env now) s = .next t ∧ StartedFrom v t 3 ∧ t.bst.post = s.bst.post
        ∧ t.pwr.pcc = s.pwr.pcc ∧ s.sent ++ [d 0x91] <+: t.sent)
    ∧ (∀ closed, let z := { v with sec := { v.sec with sealBroken := !closed } }
      gateOf z src 0x92 = .pass → ∀ serial,
      let no := fun st => SvcReply (.tamperRearm src serial closed env now) s (hearFrom z src.entry) src 0x92 st []
      (serial ≠ s.sys.serial → no .refused)
      ∧ (serial = s.sys.serial →
        (s.sec.tamper = false ∨ closed = false → no .badState)
        ∧ (s.sec.tamper = true → closed = true →
          ((∀ k, s.sec.session = some k → k.kslot ≠ 2) → no .notAuth)
          ∧ ((∃ k, s.sec.session = some k ∧ k.kslot = 2) →
            ∃ t, exec (.tamperRearm src serial closed env now) s = .next t
              ∧ StartedFrom { v with sec := { v.sec with sealBroken := false, tamper := false, blobs := s.sec.blobs.filter (usableBlob s.sec) } } t 2
              ∧ t.sec.life = (if s.sec.life = .sealed ∨ s.sec.life = .maint then .commission else s.sec.life)
              ∧ t.pwr.pcc = s.pwr.pcc ∧ s.sent ++ [d 0x92] <+: t.sent))))

/-! ## Updating -/

/-- For a command that the gate passes. UPD_BEGIN: BAD_LEN for a part or bank that is none, BUSY while a
verification runs, else the status of the first header check that fails; else the transfer with the same header goes
on under its identifier with the count of its blocks, another one is BUSY, and with none open a transfer with a non-
zero identifier opens, the inactive banks of the part RECEIVING with their content gone. UPD_BLOCK: BUSY,
NO_TRANSFER, BAD_LEN, BLOCK_CRC in this order; DONE for a block held; else the block is written and its note posted,
and the answer waits. BLOCK_NOTE: a block read back right has its bit set and is answered DONE; one that is not is
missing again and answered BLOCK_CRC. UPD_BITMAP replies the block count, the first block, and one bit for each
block from there on, at most 65,376. UPD_ABORT of the open transfer closes it, stops a verification, and leaves the
bank EMPTY; of another, NO_TRANSFER. A status of 0x30 to 0x3A makes TRANSFER_ERR live. (R370, R371, R372, R292,
R340) -/
def Obligations.TransfersFollowHeaderAndBlocks : Prop :=
  ∀ (s : State) (src : Src),
    let u := hearFrom s src.entry
    (gateOf s src 0xC0 = .pass → ∀ part bank header,
      let c := Instr.updBegin src part bank header
      (Part.ofCode? part = none ∨ 1 < bank ∨ header.length ≠ 64 → SvcReply c s u src 0xC0 .badLen [])
      ∧ ∀ p, Part.ofCode? part = some p → bank ≤ 1 → header.length = 64 →
        (s.upd.verifying = true → SvcReply c s u src 0xC0 .busy [])
        ∧ (s.upd.verifying = false →
          (∀ st, headerCheck s p (bank == 1) header = some st → UpdRefused c s u src 0xC0 st)
          ∧ (headerCheck s p (bank == 1) header = none →
            (∀ t, s.upd.xfer = some t → t.header = header ∧ t.part = p ∧ t.onB = (bank == 1) →
              SvcReply c s u src 0xC0 .done (be 4 t.id ++ be 4 t.have_.length))
            ∧ (∀ t, s.upd.xfer = some t → ¬ (t.header = header ∧ t.part = p ∧ t.onB = (bank == 1)) →
              SvcReply c s u src 0xC0 .busy [])
            ∧ (s.upd.xfer = none → ∃ id x, 1 ≤ id ∧ id < 2 ^ 32 ∧ SvcReply c s x src 0xC0 .done (be 4 id ++ be 4 0)
              ∧ InactiveBecomes s x p { state := .receiving }
              ∧ RaiseFrame { u with free := u.free + 2, upd := { pairsOf s.upd x.upd with
                  xfer := some { id := id, part := p, onB := bank == 1, header := header }, xst := 1, result := none
                  lastXid := id, incompat := if s.upd.incompat = some p then none else s.upd.incompat } } x
              ∧ (s.upd.incompat = some p → isLive x .upd uSETTINGS_INCOMPATIBLE = false)))))
    ∧ (gateOf s src 0xC1 = .pass → ∀ xid num data crc,
      let c := Instr.updBlock src xid num data crc
      (s.upd.verifying = true → SvcReply c s u src 0xC1 .busy [])
      ∧ (s.upd.verifying = false →
        ((∀ t, s.upd.xfer = some t → t.id ≠ xid) → UpdRefused c s u src 0xC1 .noTransfer)
        ∧ ∀ t, s.upd.xfer = some t → t.id = xid →
          (nblkOf t.header ≤ num ∨ data.length ≠ blockLen t.header num → SvcReply c s u src 0xC1 .badLen [])
          ∧ (num < nblkOf t.header → data.length = blockLen t.header num →
            ((crc32c data).toNat ≠ crc → UpdRefused c s u src 0xC1 .blockCrc)
            ∧ ((crc32c data).toNat = crc → num ∈ t.have_ → SvcReply c s u src 0xC1 .done [])
            ∧ ((crc32c data).toNat = crc → num ∉ t.have_ → exec c s = .next { u with
                upd := { s.upd with xfer := some { t with
                  blocks := (num, data) :: t.blocks.filter (·.1 != num), notes := t.notes ++ [(num, src)] } }
                xbr := { s.xbr with xfer := le 4 xid ++ le 4 num ++ le 4 crc ++ le 4 0 ++ s.xbr.xfer.drop 16 } }))))
    ∧ (∀ t num readback a b, s.upd.xfer = some t → t.blocks.find? (·.1 == num) = some (num, b) →
        t.notes.filter (·.1 == num) = [(num, a)] →
        (crc32c readback = crc32c b → SvcReply (.blockNote t.id num readback) s { s with upd := { s.upd with
            result := none, xst := 1
            xfer := some { t with notes := t.notes.filter (·.1 != num), have_ := num :: t.have_ } } } a 0xC1 .done [])
        ∧ (crc32c readback ≠ crc32c b → UpdRefused (.blockNote t.id num readback) s { s with upd := { s.upd with
            xfer := some { t with notes := t.notes.filter (·.1 != num), blocks := t.blocks.filter (·.1 != num) } } } a 0xC1
            .blockCrc))
    ∧ (gateOf s src 0xC2 = .pass → ∀ xid first,
      let c := Instr.updBitmap src xid first
      ((∀ t, s.upd.xfer = some t → t.id ≠ xid) → UpdRefused c s u src 0xC2 .noTransfer)
      ∧ ∀ t, s.upd.xfer = some t → t.id = xid →
        (nblkOf t.header ≤ first → SvcReply c s u src 0xC2 .badLen [])
        ∧ (first < nblkOf t.header →
          let k := min (nblkOf t.header - first) 65376
          ∃ bits : Bytes, SvcReply c s u src 0xC2 .done (be 4 (nblkOf t.header) ++ be 4 first ++ be 2 k ++ bits)
            ∧ bits.length = (k + 7) / 8
            ∧ ∀ j < 8 * bits.length, ∀ y, bits[j / 8]? = some y →
              (y.getLsbD (7 - j % 8) = true ↔ j < k ∧ first + j ∈ t.have_)))
    ∧ (gateOf s src 0xC6 = .pass → ∀ xid,
      ((∀ t, s.upd.xfer = some t → t.id ≠ xid) → UpdRefused (.updAbort src xid) s u src 0xC6 .noTransfer)
      ∧ ∀ t, s.upd.xfer = some t → t.id = xid → ∃ x, SvcReply (.updAbort src xid) s x src 0xC6 .done []
          ∧ InactiveBecomes s x t.part {}
          ∧ RaiseFrame { u with free := u.free + 1, upd := { pairsOf s.upd x.upd with
              xfer := none, verifying := false, xst := 0, result := none } } x)

/-- For a UPD_VERIFY that the gate passes: BUSY while a verification runs, NO_TRANSFER for a transfer neither open
nor just ended, the result where it has ended, else ACCEPTED, and the verification runs. VERIFY_END with a block
missing: INCOMPLETE, and the transfer stays open. With a stream that builds no target or a signature that fails:
SIGNATURE, the transfer closed, the bank EMPTY. On a pass: DONE, the transfer closed and the inactive banks hold the
image VERIFIED, an OCF package at once CONFIRMED and active. A bank that passes carries a signature that is valid
under an image key that the module holds, over header and image, an image of the length that the header gives, and
the content that its bytes spell. (R373, R374, R382, R340) -/
def Obligations.OnlySignedImagesAreVerified : Prop :=
  ∀ (s : State) (src : Src),
    let u := hearFrom s src.entry
    (gateOf s src 0xC3 = .pass → ∀ xid,
      let c := Instr.updVerify src xid
      let known := (∃ t, s.upd.xfer = some t ∧ t.id = xid) ∨ (s.upd.xfer = none ∧ s.upd.lastXid = xid ∧ s.upd.result.isSome = true)
      (s.upd.verifying = true → SvcReply c s u src 0xC3 .busy [])
      ∧ (s.upd.verifying = false →
        (¬ known → UpdRefused c s u src 0xC3 .noTransfer)
        ∧ (known →
          (∀ r, s.upd.result = some r → UpdRefused c s u src 0xC3 r)
          ∧ (s.upd.result = none → SvcReply c s { u with upd := { s.upd with verifying := true, xst := 2 } } src 0xC3 .accepted []))))
    ∧ (∀ t (told : ImageSays) now, s.upd.verifying = true → s.upd.xfer = some t →
      (t.have_.length < nblkOf t.header → exec (.verifyEnd told now) s = .next { s with
        now := max s.now now, upd := { s.upd with verifying := false, result := some .incomplete, xst := 4 } })
      ∧ (nblkOf t.header ≤ t.have_.length →
        (verifiedBank s t told = none → ∃ x, exec (.verifyEnd told now) s = .next x ∧ InactiveBecomes s x t.part {}
          ∧ RaiseFrame { s with now := max s.now now, free := s.free + 1, upd := { pairsOf s.upd x.upd with
              xfer := none, verifying := false, result := some .signature, xst := 4 } } x)
        ∧ ∀ b, verifiedBank s t told = some b → ∃ x, exec (.verifyEnd told now) s = .next x
          ∧ x.upd.xfer = none ∧ x.upd.verifying = false ∧ x.upd.result = some .done ∧ x.upd.xst = 3
          ∧ (t.part ≠ .ocf → InactiveBecomes s x t.part b)
          ∧ (t.part = .ocf → activeBank x.upd.ocf = { b with state := .confirmed })
          ∧ RaiseFrame { s with now := max s.now now, free := x.free, upd := x.upd } x))
    ∧ ∀ t told b, verifiedBank s t told = some b →
      b.state = .verified ∧ b.header = t.header ∧ b.keyId ∈ s.sec.imageKeys ∧ b.image.length = hdrTlen t.header
        ∧ b.content = contentOf b.image told ∧ signatureOk b.keyId (t.header ++ b.image) b.signature = true

/-- For an UPD_ACTIVATE that the gate passes and whose part is none: BAD_LEN; refused: the status, with no bank
changed. Else ACCEPTED, and by the route: one lane is to leave the vote and boot; an exchange DELAY frames on, its
frame in the reply, no preload yet; the parts wait for a RESTART of kind 2; in an idle module the other banks are
active UNCONFIRMED at once, what ran before PREVIOUS, no wafer held; the service processor restarts on its other
bank. Where an image takes effect its confirm window runs from now and CONFIRM_PENDING is live. LANE_BOOT of a
booting lane: booted from its active bank, to be resynchronised where frames run; failed on the new bank the lane is
back on its former one, the new one REJECTED, and FALLBACK is live; failed elsewhere its LANE_FAULT is live.
PRELOAD: the lane has it; failed, the inactive MZP bank is BAD and BANK_BAD live. EXCHANGE_ABANDON 60 min after an
exchange fell due: none is pending, no preload stands, and the banks are as they were. (R375, R376, R377, R378,
R379, R382, R368, R384) -/
def Obligations.ActivationTakesTheRouteOfItsPart : Prop :=
  ∀ (s : State) (now : Nat),
    let v := later s now
    (∀ src part unit delay, gateOf v src 0xC4 = .pass →
      let c := Instr.updActivate src part unit delay now
      let u := hearFrom v src.entry
      (Part.ofCode? part = none → SvcReply c s u src 0xC4 .badLen [])
      ∧ ∀ p, Part.ofCode? part = some p →
        (activateRefusal v p unit delay = some .badLen → SvcReply c s u src 0xC4 .badLen [])
        ∧ (∀ st, activateRefusal v p unit delay = some st → st ≠ .badLen → ∃ t x, exec c s = .next t ∧ Answered x t src 0xC4 st []
          ∧ RaiseFrame { u with upd := { u.upd with errAt := x.upd.errAt, incompat := x.upd.incompat } } x ∧ (¬ IsUpdError st → x = u)
          ∧ (IsUpdError st → isLive x .upd uTRANSFER_ERR = true)
          ∧ (st = .settingsIncompatible → isLive x .upd uSETTINGS_INCOMPATIBLE = true ∧ x.upd.incompat = some p))
        ∧ (activateRefusal v p unit delay = none →
          (∀ l, routeOf v p unit = .laneByLane l → LaneAnswer c s
            { u with vot := setLane s.vot l fun b => { b with wantBoot := true } } src 0xC4 .accepted)
          ∧ (routeOf v p unit = .exchange → ∃ t, exec c s = .next t ∧ Answered { u with
              upd := { s.upd with exchange := some { frame := s.core.counter + delay } }
              vot := allLanes s.vot fun b => { b with preloaded := false } } t src 0xC4 .accepted (be 6 (s.core.counter + delay)))
          ∧ (∀ ps, routeOf v p unit = .restart ps → LaneAnswer c s { u with upd := { s.upd with atRestart := ps } } src 0xC4 .accepted)
          ∧ (∀ ps, routeOf v p unit = .idle ps → ∃ t, exec c s = .next t ∧ (∀ q ∈ ps, PartSwitched s t q .unconfirmed .previous)
            ∧ (∃ w, t.upd.unconf = some w ∧ w.part = (if .lfw ∈ ps then .lfw else .mzp) ∧ w.since = v.now ∧ w.healthy = false)
            ∧ isLive t .upd uCONFIRM_PENDING = true ∧ t.dpx.held = none
            ∧ { t.core with lost := s.core.lost } = s.core
            ∧ (.lfw ∈ ps → ∀ l, (laneOf t.vot l).booting = true)
            ∧ (.lfw ∉ ps → ∀ st, bankStation? (otherBank s.upd.mzp) = some st → .mzp ∈ ps → t.mzp.map (·.imgId) = some st.imgId))
          ∧ (routeOf v p unit = .service → ∃ t, exec c s = .next t ∧ PartSwitched s t .svc .unconfirmed .previous
            ∧ (∃ w, t.upd.unconf = some w ∧ w.part = .svc ∧ w.since = v.now) ∧ isLive t .upd uCONFIRM_PENDING = true
            ∧ t.upd.svcAt = some v.now ∧ t.sec.session = none ∧ t.sec.dbg = .d0)
          ∧ (routeOf v p unit = .recovery → ∃ t, exec c s = .next t ∧ PartSwitched s t p .unconfirmed .previous)))
    ∧ (∀ l, (laneOf s.vot l).booting = true →
      (exec (.laneBoot l true now) s = .next { v with vot := setLane s.vot l fun b => { b with
          booting := false, booted := bankImgId (activeBank (updPair s.upd (lanePair l))), wantIn := !idleRole s } })
      ∧ (onNewBank s l = false → ∃ t, exec (.laneBoot l false now) s = .next t ∧ isLive t .vot vLANE_FAULT = true
          ∧ RaiseFrame { v with vot := setLane s.vot l fun b => { b with booting := false, hwFault := true, why := .fault } } t)
      ∧ (onNewBank s l = true → ∃ t, exec (.laneBoot l false now) s = .next t ∧ FallbackTold t true
          ∧ activeBank (updPair t.upd (lanePair l)) = { otherBank (updPair s.upd (lanePair l)) with state := .confirmed }
          ∧ otherBank (updPair t.upd (lanePair l)) = { activeBank (updPair s.upd (lanePair l)) with state := .rejected }
          ∧ (laneOf t.vot l).booting = true ∧ (laneOf t.vot l).wantBoot = false
          ∧ RaiseFrame { v with vot := t.vot, upd := t.upd, free := s.free + 1 } t))
    ∧ (∀ l, s.upd.exchange.isSome = true →
      exec (.preload l true) s = .next { s with vot := setLane s.vot l fun b => { b with preloaded := true } }
      ∧ ∃ t, exec (.preload l false) s = .next t ∧ isLive t .upd uBANK_BAD = true ∧ t.upd.exchange = s.upd.exchange
        ∧ InactiveBecomes s t .mzp { otherBank s.upd.mzp with state := .bad }
        ∧ RaiseFrame { s with upd := t.upd, free := s.free + 1, vot := t.vot } t)
    ∧ ∀ e d, s.upd.exchange = some e → e.due = some d → d + 3600000000 ≤ v.now →
      ∃ t, exec (.exchangeAbandon now) s = .next t ∧ t.upd = { s.upd with exchange := none, fbk := false }
        ∧ (∀ l, (laneOf t.vot l).preloaded = false) ∧ t.mzp = s.mzp
        ∧ RaiseFrame { v with upd := t.upd, free := s.free + 1, vot := t.vot } t

/-- HEALTHY, the health condition held for HEALTH: the image is healthy. For a command that the gate passes,
UPD_CONFIRM of the UNCONFIRMED part, healthy: its bank is CONFIRMED, the window closed, CONFIRM_PENDING not live,
DONE; else BAD_STATE. CONFIRM_WINDOW_EXPIRY after CWIN, with no switchover and no other part in progress and a
predecessor: the part falls back by its route, the new bank REJECTED; before, nothing. UPD_FALLBACK: ORDER with a
part in progress, NO_FALLBACK without a predecessor or where a CONFIRMED part may not, else ACCEPTED, and the part
falls back, a CONFIRMED one leaving its bank PREVIOUS. OCF_DISTRIBUTE: NO_TRANSFER for a package not held, BAD_LEN
without a node or with bits 1 to 15, else ACCEPTED, every node named and known is noted for the package and its
query waits for the answer. SVC_RESTART_END: the service processor runs again and sends what waits in PKT_OUT; with
settings that it cannot read its new firmware falls back, SETTINGS_INCOMPATIBLE live, and without a new firmware
SETTINGS_LOST is live. (R375, R382, R383, R384, R385, R386, R389, R340, R224) -/
def Obligations.ConfirmationAndFallbackEndTheWindow : Prop :=
  ∀ (s : State) (src : Src) (now : Nat) (env : StartEnv),
    let v := later s now
    let u := hearFrom s src.entry
    (∀ w, s.upd.unconf = some w → healthHolds s w = true → w.healthyFrom + 60000000 * fieldOf s.cfg.updCtl 8 8 ≤ v.now →
      exec (.healthy now) s = .next { v with upd := { s.upd with unconf := some { w with healthy := true } } })
    ∧ (gateOf s src 0xC5 = .pass → ∀ p : Part,
      let ok := ∃ w, s.upd.unconf = some w ∧ (w.part = p ∨ (w.withPrt = true ∧ p = .prt)) ∧ w.healthy = true
      (¬ ok → LaneAnswer (.updConfirm src p.code) s u src 0xC5 .badState)
      ∧ (ok → ∃ x, LaneAnswer (.updConfirm src p.code) s x src 0xC5 .done ∧ x.upd.unconf = none
          ∧ isLive x .upd uCONFIRM_PENDING = false
          ∧ (∀ n ∈ pairNums p, (activeBank (updPair x.upd n)).state = .confirmed)
          ∧ RaiseFrame { u with upd := x.upd, free := u.free + 1 } x))
    ∧ (∀ w, s.upd.unconf = some w →
      let due := w.since + 60000000 * fieldOf s.cfg.updCtl 16 8 ≤ v.now ∧ s.dpx.handDue = false ∧ s.dpx.wanted = false
        ∧ s.dpx.commanded = false ∧ partInProgress s = false
        ∧ ∃ n ∈ pairNums w.part, (otherBank (updPair s.upd n)).state = .previous
      (¬ due → exec (.confirmWindowExpiry env now) s = .next v)
      ∧ (due → ∃ t, exec (.confirmWindowExpiry env now) s = .next t ∧
          (w.part = .svc ∨ (w.part = .mzp ∧ idleRole s = false ∧ sameMzpid s (otherBank s.upd.mzp).header = true)
            ∨ (w.part = .lfw ∧ (idleRole s = true ∨ hdrEpoch (otherBank s.upd.lfw1).header = lfwEpoch s)) →
            FallsBack v t w.part true)))
    ∧ (∀ p : Part, gateOf v src 0xC7 = .pass →
      let c := Instr.updFallback src p.code env now
      let x := hearFrom v src.entry
      (partInProgress s = true → UpdNowRefused c s x src 0xC7 .order)
      ∧ (partInProgress s = false →
        let can := if isUnconf s p then (otherBank (firstPair s p)).state = .previous else mayFallBack s p = true
        (¬ can → UpdNowRefused c s x src 0xC7 .noFallback)
        ∧ (can → ∃ t, exec c s = .next t
          ∧ s.sent ++ [Sent.packet (answerPacket x src 0xC7 .accepted [])] <+: t.sent
          ∧ (p = .svc ∨ (p = .mzp ∧ idleRole s = false ∧ sameMzpid s (otherBank s.upd.mzp).header = true)
              ∨ (p = .lfw ∧ (idleRole s = true ∨ hdrEpoch (otherBank s.upd.lfw1).header = lfwEpoch s)) →
            FallsBack v t p (isUnconf s p)))))
    ∧ (gateOf s src 0xC8 = .pass → ∀ pkg mask,
      let c := Instr.ocfDistribute src pkg mask
      (ocfImage? s pkg = none → UpdLaneRefused c s u src 0xC8 .noTransfer)
      ∧ ∀ b, ocfImage? s pkg = some b →
        ((∀ i, 16 ≤ i → i ≤ 255 → maskBit mask i = false) ∨ (∃ i, 1 ≤ i ∧ i ≤ 15 ∧ maskBit mask i = true) →
          SvcReply c s u src 0xC8 .badLen [])
        ∧ ((∃ i, 16 ≤ i ∧ i ≤ 255 ∧ maskBit mask i = true) → (∀ i, 1 ≤ i → i ≤ 15 → maskBit mask i = false) →
          let cl := if maskBit mask 0 then Cluster.c1 else .c0
          ∃ t, exec c s = .next t
            ∧ (s.work = none → s.sent ++ [Sent.packet (answerPacket u src 0xC8 .accepted [])] <+: t.sent)
            ∧ (∀ i n, 16 ≤ i → i ≤ 255 → maskBit mask i = true → nodeOf? s cl i = some n →
              (∃ m, nodeOf? t cl i = some m ∧ m.ocfPkg = pkg ∧ m.ocfState = 0 ∧ m.ocfReceived = 0 ∧ m.state = n.state)
              ∧ ∃ q ∈ (frnOf t cl).svc, q.node = i ∧ q.code = 0x03 ∧ q.ref = pkg)
            ∧ (∀ i, maskBit mask i = false → nodeOf? t cl i = nodeOf? s cl i)
            ∧ { t.core with lost := s.core.lost } = s.core ∧ t.upd = s.upd))
    ∧ ∀ a, s.upd.svcAt = some a →
      let up := { s.upd with svcAt := none, fbk := s.upd.fbk && !s.upd.fbkTo.isEmpty }
      let reads := s.sys.settingsLost = true ∨ settingsFor s (activeBank s.upd.svc).header = true
      (reads → s.sys.wdogAt ≠ some a → exec (.svcRestartEnd true now) s = .next (sendWaiting { v with upd := up }))
      ∧ (reads → ∃ y, exec (.svcRestartEnd true now) s = .next (sendWaiting y) ∧ SvcFrame { v with upd := up } y)
      ∧ (∀ ok, ok = false ∨ ¬ reads →
        ((∃ w, s.upd.unconf = some w ∧ w.part = .svc) → (otherBank s.upd.svc).state = .previous →
          ∃ t, exec (.svcRestartEnd ok now) s = .next t ∧ FallsBack v t .svc true
            ∧ t.upd.incompat = some .svc ∧ isLive t .upd uSETTINGS_INCOMPATIBLE = true)
        ∧ ((∀ w, s.upd.unconf = some w → w.part ≠ .svc) → ∃ t, exec (.svcRestartEnd ok now) s = .next t
          ∧ t.sys.settingsLost = true ∧ isLive t .sys sSETTINGS_LOST = true ∧ t.upd = up))

/-! ## The witness and the duplex pair -/

/-- For a WITNESS on its network and a request from one of its witness entries. A request that is not fresh, not
from a unit of the pair, or of the witness's first second only leaves its BEAT. Else it is answered: REASON 2 by WHY
1 where a holder exists, and else it waits in the window that the first one opens; REASON 3 by the grant exactly
where the holder's last status shows HANDOVER with the WFRAME of the request, else by WHY 2; REASON 1 with a holder
by WHY 1 where its last status shows it neither relinquished nor stopped nor silent for HL + 20 ms, else by the
grant where the requester's WFRAME is not 0 and lags by at most WLAG, else by WHY 2; and without a holder by that
same lag against a status of the other unit of the last second. A grant advances the epoch by one, makes the unit
holder and tells every party. The window's end grants to the one unit that asked, or to unit 1, and refuses the
other with WHY 1. A stopped witness answers WHY 3 (the model's reading). After 1 s the witness ends adopting; till
then a fresh status of an ACTIVE and GRANTED unit makes it holder, and the epoch follows the highest. (R348, R349,
R350, R351, R334) -/
def Obligations.WitnessDecides : Prop :=
  ∀ (s : State) (now : Nat),
    let v := later s now
    let d := v.dpx
    let lag := fun (from_ mine : Nat) => mine ≠ 0 ∧ from_ ≤ mine + fieldOf v.cfg.dpxCtl 24 6
    (onWitness v = true → d.role = .witness →
      (∀ p : GrantReqIn, p.src.entry ∈ witnessEntries v →
        let n := p.src.entry
        let u := noteBeat (hearFrom v n) n p.beat
        let fresh := p.fref ≤ d.beat ∧ d.beat ≤ p.fref + 5
        (¬ fresh ∨ entryUnit? v n ≠ some p.unit ∨ d.adopting = true → exec (.grantRequest p now) s = .next u)
        ∧ (fresh → entryUnit? v n = some p.unit → d.adopting = false → ∃ t, exec (.grantRequest p now) s = .next t
          ∧ (v.sys.stopped = true → Refuses u t n 3)
          ∧ (v.sys.stopped = false →
            (p.reason = 2 →
              (d.holder ≠ 0 → Refuses u t n 1)
              ∧ (d.holder = 0 → t = { u with dpx := { u.dpx with windowAt := some (d.windowAt.getD v.now)
                                                                 windowReqs := t.dpx.windowReqs } }
                  ∧ ∀ r, r ∈ t.dpx.windowReqs ↔ r = { entry := n, unit := p.unit, wframe := p.wframe }
                      ∨ (r ∈ d.windowReqs ∧ r.unit ≠ p.unit)))
            ∧ (p.reason = 3 →
              let given := d.holder ≠ 0 ∧ ∃ x, unitStatus? v (d.holder - 1) = some x ∧ x.handover = true ∧ x.wframe = p.wframe
              (given → Grants u t n p.unit p.wframe) ∧ (¬ given → Refuses u t n 2))
            ∧ (p.reason = 1 → d.holder ≠ 0 → ∀ x, unitStatus? v (d.holder - 1) = some x →
              let gone := x.granted = false ∨ x.stopped = true ∨ x.time + 1000 * (x.hl + 20) ≤ v.now
              (¬ gone → Refuses u t n 1) ∧ (gone → lag x.wframe p.wframe → Grants u t n p.unit p.wframe)
                ∧ (gone → ¬ lag x.wframe p.wframe → Refuses u t n 2))
            ∧ (p.reason = 1 → d.holder = 0 →
              let good := p.wframe ≠ 0 ∧ ∀ x, unitStatus? v (1 - p.unit) = some x → v.now < x.time + 1000000 → lag x.wframe p.wframe
              (good → Grants u t n p.unit p.wframe) ∧ (¬ good → Refuses u t n 2)))))
      ∧ ∀ p : WitIn, p.entry ∈ witnessEntries v → entryKind v p.entry = p.kind →
        let u := noteBeat (hearFrom v p.entry) p.entry p.beat
        let fresh := p.fref ≤ d.beat ∧ d.beat ≤ p.fref + 5
        (¬ fresh → exec (.witnessStatus p now) s = .next u)
        ∧ (fresh → ∀ unit, entryUnit? v p.entry = some unit → ∃ t, exec (.witnessStatus p now) s = .next t
          ∧ (∃ x, unitStatus? t unit = some x ∧ x.time = v.now ∧ x.wframe = p.wframe ∧ x.hl = p.hl ∧ x.stopped = p.flags.testBit 1
              ∧ x.granted = p.flags.testBit 2 ∧ x.handover = p.flags.testBit 3)
          ∧ (∀ k, k ≠ unit → unitStatus? t k = unitStatus? v k)
          ∧ (d.adopting = false → t.dpx.holder = d.holder ∧ t.dpx.gepoch = d.gepoch)
          ∧ (d.adopting = true → t.dpx.gepoch = max d.gepoch p.gepoch
              ∧ t.dpx.holder = if p.flags.testBit 2 ∧ p.role = 0 then unit + 1 else d.holder)
          ∧ isLive t .dpx dWITNESS_DOWN = false
          ∧ t = { u with dpx := { u.dpx with units := t.dpx.units, witAt := some v.now, holder := t.dpx.holder
                                             gepoch := t.dpx.gepoch }
                         faults := t.faults }))
    ∧ (∀ t0, d.windowAt = some t0 → d.role = .witness → t0 + 2000000 ≤ v.now →
        let u := { v with dpx := { d with windowAt := none, windowReqs := [] } }
        (v.sys.stopped = false → d.holder = 0 →
          (∀ r, d.windowReqs = [r] → ∃ t, exec (.startWindowEnd now) s = .next t ∧ Grants u t r.entry r.unit r.wframe)
          ∧ ∀ a b, a.unit = 0 → b.unit = 1 → d.windowReqs = [a, b] ∨ d.windowReqs = [b, a] →
            ∃ m t, exec (.startWindowEnd now) s = .next t ∧ Grants u m a.entry a.unit a.wframe ∧ Refuses m t b.entry 1)
        ∧ ∀ r, d.windowReqs = [r] → v.sys.stopped = true ∨ d.holder ≠ 0 → ∃ t, exec (.startWindowEnd now) s = .next t
            ∧ Refuses u t r.entry (if v.sys.stopped = true then 3 else 1))
    ∧ (∀ t0, d.role = .witness → d.adopting = true → d.startedAt = some t0 →
        (t0 + 1000000 ≤ v.now → exec (.witnessStartEnd now) s = .next { v with dpx := { d with adopting := false } })
        ∧ (v.now < t0 + 1000000 → exec (.witnessStartEnd now) s = .next v))

/-- Every 10 ms the beat counter advances, and a module on the witness network sends its status with the fields of
R349 to every other party, and a waiting request to the witness. A unit that takes a fresh status of the witness
learns HOLDER, and renews its lease only where it holds the grant, HOLDER is itself and the epoch its own, from the
moment of the beat that FREF names; HOLDER its partner or a higher epoch while it holds the grant raises
ROLE_CONFLICT, and HOLDER its partner silences the ports of a module that has relinquished. A valid acknowledgement
renews the peer lease. While either lease stands LEASE_LAPSE changes nothing; with neither the module relinquishes
and stops, and its ports are to be silent. A heartbeat of the partner sets its readiness, PARTNER_NOT_READY follows
it in an ACTIVE module, and two modules that claim ACTIVE raise ROLE_CONFLICT. A heartbeat leaves every 10 ms.
PEER_DOWN comes after 30 ms without a frame, WITNESS_DOWN after LEASE without a status. (R341, R343, R346, R348,
R349, R352, R363, R334) -/
def Obligations.BeatsAndLeasesHoldTheGrant : Prop :=
  ∀ (s : State) (now : Nat),
    let v := later s now
    let d := v.dpx
    let I := expectedUs v.cfg
    let wl := ∃ a, d.leaseAt = some a ∧ v.now ≤ a + 1000 * fieldOf v.cfg.dpxCtl 16 8
    let pl := ∃ a, d.ackAt = some a ∧ v.now ≤ a + 3 * I
    let both := d.role = .active ∨ d.role = .standby
    (v.sys.ready = true → d.beatAt + 10000 ≤ v.now → ∃ t, exec (.beat now) s = .next t
        ∧ t.dpx.beat = (d.beat + 1) % 2 ^ 48 ∧ t.dpx.beatAt = v.now
        ∧ (onWitness v = true → d.role ≠ .witness → t.dpx.statusDue = false ∧ ∀ n ∈ witnessEntries v,
            (plainKey? v 5 n (cmdKsel v.cfg)).isSome = true → CanPush v n →
            WitnessSent v t n 0x4B (be 6 t.dpx.beat ++ be 1 (shownRole v).code
              ++ be 1 (bit (standbyReady v) + 2 * bit v.sys.stopped + 4 * bit d.granted + 8 * bit d.formerActive)
              ++ be 6 d.wframe ++ be 1 (min d.miss 255) ++ be 1 (fieldOf v.cfg.dpxCtl 16 8) ++ be 4 d.gepoch)
            ∧ (∀ r, d.asking = some r → (r = 1 → 3 ≤ d.miss) → entryKind v n = 2 →
                WitnessSent v t n 0x48 (be 6 t.dpx.beat ++ be 1 r ++ be 1 (min d.miss 255)
                  ++ be 6 ((d.held.map (·.frame)).getD 0) ++ be 2 0)))
        ∧ t = { v with free := t.free, sent := t.sent, cmd := { v.cmd with vitalOut := t.cmd.vitalOut }
                       dpx := { d with beat := t.dpx.beat, beatAt := v.now, statusDue := t.dpx.statusDue }
                       sys := { v.sys with step := t.sys.step }, xbr := throughOut v.xbr t.xbr })
    ∧ (v.sys.ready = true → v.now < d.beatAt + 10000 → d.statusDue = true → onWitness v = true →
        ∃ t, exec (.beat now) s = .next t ∧ t.dpx.statusDue = false ∧ WitnessFrame v t)
    ∧ (∀ p : WitIn, onWitness v = true → d.role ≠ .witness → p.entry ∈ witnessEntries v → entryKind v p.entry = p.kind →
        let u := noteBeat (hearFrom v p.entry) p.entry p.beat
        let fresh := p.fref ≤ d.beat ∧ d.beat ≤ p.fref + 5
        let mine := d.granted = true ∧ p.hl = ownKind v.cfg + 1 ∧ p.gepoch = d.gepoch
        let away := p.hl = 2 - ownKind v.cfg
        let conflict := d.granted = true ∧ (away ∨ d.gepoch < p.gepoch)
        (¬ fresh ∨ p.kind ≠ 2 → exec (.witnessStatus p now) s = .next u)
        ∧ (fresh → p.kind = 2 → ∃ t w, exec (.witnessStatus p now) s = .next t
            ∧ w = { u with dpx := { u.dpx with
                witAt := some v.now, holder := p.hl
                leaseAt := if mine then some (max (d.beatAt - 10000 * (d.beat - p.fref)) (d.leaseAt.getD 0)) else d.leaseAt }
                           faults := w.faults }
            ∧ isLive w .dpx dWITNESS_DOWN = false
            ∧ (¬ conflict → ¬ (d.relinquished = true ∧ away) → t = w)
            ∧ (¬ conflict → d.relinquished = true → away →
                t = { w with frn0 := { v.frn0 with muteDue := true }, frn1 := { v.frn1 with muteDue := true } })
            ∧ (conflict → isLive t .dpx dROLE_CONFLICT = true ∧ t.dpx.holder = p.hl)))
    ∧ (wl ∨ pl → exec (.leaseLapse now) s = .next v)
    ∧ (d.granted = true → d.role = .active → ¬ wl → ¬ pl → ∃ t, exec (.leaseLapse now) s = .next t
        ∧ t.dpx.granted = false ∧ t.dpx.relinquished = true ∧ t.sys.stopped = true ∧ t.dpx.statusDue = true
        ∧ (v.sys.stopped = false → t.work = none ∧ t.lio.vital.stopped = true)
        ∧ RaiseFrame { v with frn0 := { v.frn0 with muteDue := true }, frn1 := { v.frn1 with muteDue := true } } t)
    ∧ (v.sys.ready = true → d.role ≠ .alone → d.witAt.getD (d.startedAt.getD 0) + 1000 * fieldOf v.cfg.dpxCtl 16 8 ≤ v.now →
        ∃ t, exec (.witnessDown now) s = .next t ∧ isLive t .dpx dWITNESS_DOWN = true ∧ RaiseFrame v t)
    ∧ (v.sys.ready = true → both →
        (v.now < d.peerAt.getD (d.startedAt.getD 0) + 30000 → exec (.peerDown now) s = .next v)
        ∧ (d.peerAt.getD (d.startedAt.getD 0) + 30000 ≤ v.now → ∃ t, exec (.peerDown now) s = .next t
            ∧ isLive t .dpx dPEER_DOWN = true ∧ RaiseFrame { v with dpx := { d with peerReady := false } } t
            ∧ (d.role = .active → d.relinquished = false → isLive t .dpx dPARTNER_NOT_READY = true)))
    ∧ (onPeer v = true →
        (∀ h : HeartIn, (h.crcOk = false ∨ h.unit ≠ 1 - ownKind v.cfg → exec (.heartbeat h now) s = .next v)
          ∧ (h.crcOk = true → h.unit = 1 - ownKind v.cfg → v.xbr.fenced = false → ∃ t, exec (.heartbeat h now) s = .next t
            ∧ isLive t .dpx dPEER_DOWN = false
            ∧ RaiseFrame { v with dpx := { d with peerAt := some v.now, peerReady := h.ready, peerMsw := h.msw
                                                  peerGranted := h.granted, peerFrame := h.wframe } } t
            ∧ (isLive t .dpx dPARTNER_NOT_READY = true ↔ d.role = .active ∧ d.relinquished = false ∧ h.ready = false)
            ∧ (d.role = .active → d.relinquished = false → h.msw / 0x2000 % 4 = 0 → h.granted = true → h.msw / 0x400 % 2 = 0 →
                isLive t .dpx dROLE_CONFLICT = true)))
        ∧ ((∀ a, d.hbAt = some a → a + 10000 ≤ v.now) → x9On v = true → twoLanes v = true →
            v.xbr.q1.items = [] → ∃ t, exec (.heartbeatSend now) s = .next t
            ∧ t = { v with
                dpx := { d with hbAt := some v.now }, xbr := throughOut v.xbr t.xbr
                sent := v.sent ++ [.heartbeat (d.wframe % 2 ^ 48) (msw v % 2 ^ 16) (standbyReady v) d.granted] })
        ∧ (∀ frame acode key, v.xbr.fenced = false → plainKey? v 4 0 0 = some key → ∃ t,
            exec (.waferAcknowledgement frame acode now) s = .next t
            ∧ t = { v with dpx := { d with peerAt := some v.now, ackAt := t.dpx.ackAt }, faults := t.faults }
            ∧ isLive t .dpx dPEER_DOWN = false
            ∧ t.dpx.ackAt = if d.role = .active ∧ d.formed.isSome = true ∧ frame ≤ d.wframe
                ∧ acode = (cmac key (be 6 frame ++ be 1 (1 - ownKind v.cfg))).extractLsb' 64 64
              then some v.now else d.ackAt))

/-- A STANDBY module's inbound window, while it is free, gathers the segments of one wafer; a repeated one changes
nothing and one of another wafer starts anew; a frame with a bad CRC or a wrong UNIT is no segment. When all have
come within 5 ms and the wafer passes the checks of R347 with the module's own images, the wafer is held, with the
time and the miss count 0, it is acknowledged with ACODE, and a HANDOVER is answered with a request of REASON 3. A
wafer that fails, or is late, is discarded, raises WAFER_BAD, and the one held stands. Miss k is counted at a + k ×
I + 2 ms; at the third a module fit as R343 asks (the wafer's age aside, the model's reading), or a former ACTIVE
module, asks with REASON 1. (R312, R343, R346, R347, R353, R363, R381) -/
def Obligations.WafersAreAcceptedWholeAndValid : Prop :=
  ∀ (s : State) (now : Nat),
    let v := later s now
    let d := v.dpx
    (∀ p : SegIn,
      (p.crcOk = false ∨ p.unit ≠ 1 - ownKind v.cfg ∨ onPeer v = false → exec (.waferSegment p now) s = .next v)
      ∧ (p.crcOk = true → p.unit = 1 - ownKind v.cfg → onPeer v = true → d.role = .standby → v.xbr.winFree = true →
          v.xbr.fenced = false → svcRuns v = true → 1 ≤ p.nseg → p.nseg ≤ 361 → p.seg < p.nseg →
          ∃ t, exec (.waferSegment p now) s = .next t
            ∧ t = { v with dpx := { d with peerAt := some v.now, inbound := t.dpx.inbound }, faults := t.faults }
            ∧ isLive t .dpx dPEER_DOWN = false
            ∧ let begun := ∃ b, d.inbound = some b ∧ b.wafer = p.wafer ∧ b.nseg = p.nseg
              (¬ begun → t.dpx.inbound = some
                { wafer := p.wafer, nseg := p.nseg, got := [p.seg], startedAt := v.now, lastAt := v.now })
              ∧ ∀ b, d.inbound = some b → b.wafer = p.wafer → b.nseg = p.nseg →
                ∃ got, t.dpx.inbound = some { b with got := got, lastAt := if p.seg ∈ b.got then b.lastAt else v.now }
                  ∧ ∀ k, k ∈ got ↔ k ∈ b.got ∨ k = p.seg))
    ∧ (∀ b, d.inbound = some b →
        let bad := fun (c : Instr) => ∃ t, exec c s = .next t ∧ isLive t .dpx dWAFER_BAD = true
          ∧ RaiseFrame { v with dpx := { d with inbound := none, sawWaferBad := true } } t
        (b.got.length < b.nseg → b.startedAt + 5000 < v.now → bad (.waferSegmentTimeout now))
        ∧ (b.nseg ≤ b.got.length ∨ v.now ≤ b.startedAt + 5000 → exec (.waferSegmentTimeout now) s = .next v)
        ∧ (b.got.length < b.nseg → exec (.xbrWinDone now) s = .next v)
        ∧ (b.nseg ≤ b.got.length → d.role = .standby → v.xbr.fenced = false → svcRuns v = true →
          let h := lfwHeader v
          let whole := b.lastAt ≤ b.startedAt + 5000 ∧ b.wafer.hcrcOk = true ∧ b.wafer.crcOk = true ∧ b.wafer.wcodeOk = true
            ∧ (plainKey? v 4 0 0).isSome = true ∧ twoLanes v = true
          let fitting := b.wafer.pair = ownPair v.cfg ∧ b.wafer.unit = 1 - ownKind v.cfg
            ∧ (∀ k, d.held = some k → k.frame < b.wafer.frame)
            ∧ (b.wafer.epoch = hdrEpoch h ∨ (hdrWepMin h ≤ b.wafer.epoch ∧ b.wafer.epoch < hdrEpoch h))
          (¬ whole ∨ ¬ fitting → bad (.xbrWinDone now))
          ∧ ∀ st, v.mzp = some st → b.wafer.layout = st.imgId →
            let same := b.wafer.mzpid = st.mzpid ∧ b.wafer.prtid = st.prtid
            (¬ same → bad (.xbrWinDone now))
            ∧ (whole → fitting → same → ∃ t, exec (.xbrWinDone now) s = .next t
              ∧ t.dpx.held = some b.wafer ∧ t.dpx.heldAt = v.now ∧ t.dpx.miss = 0 ∧ t.dpx.inbound = none
              ∧ t.dpx.wframe = b.wafer.frame ∧ t.dpx.wsize = b.wafer.len ∧ t.dpx.why2 = false
              ∧ (∀ key, x9On v = true → v.xbr.q1.items.length < 256 → plainKey? v 4 0 0 = some key → Sent.waferAck (b.wafer.frame % 2 ^ 48)
                  ((cmac key (be 6 b.wafer.frame ++ be 1 (ownKind v.cfg))).extractLsb' 64 64) ∈ t.sent)
              ∧ (b.wafer.handover = true → v.sys.stopped = false → t.dpx.asking = some 3
                  ∧ (onWitness v = true → ∀ n ∈ witnesses v, CanSendTo v n → WitnessSent v t n 0x48
                      (be 6 d.beat ++ be 1 3 ++ be 1 0 ++ be 6 b.wafer.frame ++ be 2 0)))
              ∧ (b.wafer.handover = false → t.dpx.asking = if d.asking = some 1 then none else d.asking)
              ∧ t = { v with dpx := { d with held := t.dpx.held, heldAt := v.now, miss := 0, why2 := false
                                             wframe := b.wafer.frame, wsize := b.wafer.len, inbound := none
                                             asking := t.dpx.asking }
                             xbr := throughOut { v.xbr with winLen := b.wafer.len } t.xbr, upd := { v.upd with mapWait := false }
                             frm := { v.frm with record := t.frm.record }, sys := { v.sys with step := t.sys.step }
                             sent := t.sent, free := t.free, cmd := { v.cmd with vitalOut := t.cmd.vitalOut } })))
    ∧ (∀ w, d.held = some w → d.role = .standby ∨ d.formerActive = true →
        let due := d.heldAt + (d.miss + 1) * expectedUs w.cfg + 2000
        (v.now < due → exec (.waferMiss now) s = .next v)
        ∧ (due ≤ v.now →
          let u := { v with dpx := { d with miss := min 255 (d.miss + 1) } }
          let able := (standbyFit v = true ∨ (d.formerActive = true ∧ d.why2 = false)) ∧ v.sys.stopped = false
            ∧ d.asking = none
          (d.miss < 2 ∨ ¬ able → exec (.waferMiss now) s = .next u)
          ∧ (2 ≤ d.miss → able → ∃ t, exec (.waferMiss now) s = .next t
              ∧ WitnessFrame { u with dpx := { u.dpx with asking := some 1 } } t
              ∧ (onWitness v = true → ∀ n ∈ witnesses v, CanSendTo v n → WitnessSent v t n 0x48
                  (be 6 d.beat ++ be 1 1 ++ be 1 (min 255 (d.miss + 1)) ++ be 6 w.frame ++ be 2 0)))))

/-- For a STANDBY or former ACTIVE module on the witness network and a GRANT to its own KIND. One that is not fresh
only leaves its BEAT. A stopped module takes only the epoch. A grant of its REASON 2 request makes it ACTIVE on the
cold interlocking state. One that it has not asked for, with fewer than three misses, gives it only the epoch. Else,
holding a wafer, it is ACTIVE with that epoch: TAKEOVER raised, the wafer's interlocking state (in its own layout)
with the counter plus 256 and no permit, Praline's lock store that of it, its check codes verified, the wafer's
configuration (the own KIND kept, the model's choice, log entry 14) and partners, nothing staged, lanes without
LANE_FAULT and not under test VOTING, ports due to RUN. Without a wafer it stays as it is with GRANTED 0. The first
tick is due after two good cycles or the thirteenth, and 1 ms without clusters. WHY 2 or, at start-up, WHY 1 ends
the asking. A relinquished module that sees HOLDER its partner is STANDBY once its toffee window is over: no tick,
lanes fenced, ports following. (R64, R140, R315, R342, R350, R352, R353, R354, R359, R422) -/
def Obligations.TheGrantMakesTheModuleActive : Prop :=
  ∀ (s : State) (now : Nat),
    let v := later s now
    let d := v.dpx
    (∀ (p : GrantIn) (n : Nat), (witnesses v).head? = some n → onWitness v = true → p.unit = ownKind v.cfg →
      d.role = .standby ∨ d.formerActive = true →
      let u := noteBeat (hearFrom v n) n p.beat
      let fresh := p.fref ≤ d.beat ∧ d.beat ≤ p.fref + 5
      (¬ fresh → exec (.grant p now) s = .next u)
      ∧ (fresh → v.sys.stopped = true → ∃ t, exec (.grant p now) s = .next t
          ∧ WitnessFrame { u with dpx := { u.dpx with gepoch := p.gepoch, asking := none } } t)
      ∧ (fresh → v.sys.stopped = false → d.asking = some 2 → ∀ st, v.mzp = some st → ∃ t, exec (.grant p now) s = .next t
          ∧ t.dpx.role = .active ∧ t.dpx.granted = true ∧ t.dpx.gepoch = p.gepoch ∧ t.dpx.asking = none
          ∧ t.dpx.leaseAt = some v.now ∧ t.frm.nextTick = some v.now
          ∧ (∃ c, t.core = { coldInter st c with lost := t.core.lost } ∧ v.frm.record < c) ∧ t.prl.store = [])
      ∧ (fresh → v.sys.stopped = false → d.asking ≠ some 2 → d.held = none → ∃ t, exec (.grant p now) s = .next t
          ∧ t.dpx = { d with beatsSeen := t.dpx.beatsSeen, granted := false, gepoch := p.gepoch, asking := none
                             statusDue := t.dpx.statusDue }
          ∧ t.core = v.core ∧ t.cfg = v.cfg ∧ t.prl = v.prl ∧ t.vot = v.vot ∧ t.frm = v.frm)
      ∧ (fresh → v.sys.stopped = false → d.asking = none → d.miss < 3 → d.held ≠ none → ∃ t, exec (.grant p now) s = .next t
          ∧ WitnessFrame { u with dpx := { u.dpx with gepoch := p.gepoch } } t)
      ∧ (fresh → v.sys.stopped = false → d.asking ≠ some 2 → (d.asking ≠ none ∨ 3 ≤ d.miss) →
          sevOf v.cfg .dpx dTAKEOVER ≠ .safeStop → ∀ w, d.held = some w → sevOf w.cfg .upd uCONFIRM_PENDING ≠ .safeStop →
          w.inter.crumbs.any crumbBad = false ∨ sevOf w.cfg .prl pCRUMB_CORRUPT ≠ .safeStop → ∃ t, exec (.grant p now) s = .next t
          ∧ t.dpx.role = .active ∧ t.dpx.granted = true ∧ t.dpx.gepoch = p.gepoch ∧ t.dpx.asking = none ∧ t.dpx.held = none
          ∧ t.dpx.relinquished = false ∧ t.dpx.formerActive = false ∧ t.dpx.takeAt = some v.now ∧ t.dpx.ackAt = none
          ∧ t.dpx.leaseAt = some v.now ∧ isLive t .dpx dTAKEOVER = true ∧ t.sys.stopped = false
          ∧ t.core.counter = (w.frame + 256) % 2 ^ 48 ∧ t.core.permits = [] ∧ t.work = none
          ∧ (∀ st, v.mzp = some st → w.layout = st.imgId →
              t.core = { resumeWaits v.now w.inter with
                counter := t.core.counter, permits := [], shadow := w.inter.crumbs, lost := t.core.lost
                prlObjs := w.inter.prlObjs.map fun q => { q with settle := ((objOf? w.inter q.idx).map (·.settle)).getD q.settle } }
              ∧ t.prl.store = w.inter.crumbs ∧ t.prl.digest = v.prl.digest
              ∧ (w.inter.crumbs.any crumbBad = true → isLive t .prl pCRUMB_CORRUPT = true))
          ∧ t.cfg = { w.cfg with cmdAddr := (w.cfg.cmdAddr &&& ~~~ fieldMask 8 3) ||| (v.cfg.cmdAddr &&& fieldMask 8 3) }
          ∧ t.cmd.partners = w.partners ∧ t.staged = [] ∧ t.stagedPartners = []
          ∧ (∀ l, (laneOf v.vot l).hwFault = false → (laneOf v.vot l).limited = false → (testOf v.bst l).hold = false →
              v.bst.under ≠ some l →
              (laneOf t.vot l).state = .voting)
          ∧ (∀ c, (frnOf v c).state ≠ .off → (frnOf v c).fenced = false → (frnOf t c).goRun = true ∧ (frnOf t c).muteDue = false)
          ∧ t.frm.nextTick = v.frm.nextTick ∧ t.evr.ring = v.evr.ring ∧ t.sec.blobs = v.sec.blobs ∧ t.lio = v.lio))
    ∧ (∀ t0, d.takeAt = some t0 → v.sys.stopped = false → d.role = .active →
        let off := v.frn0.state = .off ∧ v.frn1.state = .off
        let due := (off ∧ t0 + 1000 ≤ v.now) ∨ (¬ off ∧ (2 ≤ d.takeGood ∨ 13 ≤ d.takeCycles))
        (¬ due → exec (.takeoverFirstTick now) s = .next v)
        ∧ (due → ∃ t, exec (.takeoverFirstTick now) s = .next t
            ∧ t = { v with dpx := { d with takeAt := none, gapDue := true }, frm := { v.frm with nextTick := some v.now }
                           vot := { v.vot with duoSince := t.vot.duoSince } }))
    ∧ (∀ r why, onWitness v = true → d.asking = some r → (why = 2 ∨ (why = 1 ∧ r = 2)) →
        exec (.grantRefuse why now) s = .next { v with dpx := { d with asking := none, why2 := if r = 1 then true else d.why2 } })
    ∧ (∀ why, onWitness v = true → (why = 3 ∨ (why = 1 ∧ d.asking ≠ some 2)) → exec (.grantRefuse why now) s = .next v)
    ∧ (d.relinquished = true → d.role = .active → v.sys.stopped = false → d.holder = 2 - ownKind v.cfg →
        (v.now < d.lastRelease + toffeeUs v.cfg → exec (.oldActiveToStandby now) s = .next v)
        ∧ (d.lastRelease + toffeeUs v.cfg ≤ v.now → ∃ t, exec (.oldActiveToStandby now) s = .next t
            ∧ t.dpx.role = .standby ∧ t.dpx.granted = false ∧ t.frm.nextTick = none ∧ t.work = none
            ∧ (v.upd.fbkTo = [] →
                t.dpx = { d with role := .standby, relinquished := false, formerActive := false, granted := false
                                 handDue := false, wanted := false, commanded := false, planned := satAdd 65535 1 d.planned }
                ∧ (∀ l, (laneOf v.vot l).state ≠ .proving ∨ (laneOf v.vot l).passed = true → (laneOf t.vot l).state = .fenced)
                ∧ (∀ c, chanOn v c .a = true ∨ chanOn v c .b = true → (frnOf v c).fenced = false →
                    (frnOf t c).state = .follow ∧ (frnOf t c).mute = false)
                ∧ t.cfg = v.cfg ∧ t.core.objs = v.core.objs ∧ t.core.crumbs = v.core.crumbs ∧ t.prl = v.prl)))

/-! ## The frame and its lanes -/

/-- At its tick, not before, once an unreleased frame before it has been released, a frame freezes its inputs and
proposes a state of the committed one's counter: no module stops at it whose frame interval holds, whose Praline has
a majority and whose sources of the tick are below SAFE-STOP. A VOTING or RESYNC lane publishes once the items of
its own words; SIGF raises SIG_FAIL. The vote instant waits for every VOTING lane or the deadline of the frame's own
T and EXT. No two counted lanes agreeing raises NOMAJ, and by its severity stops the frame. Agreement, the pair
being the lowest-numbered: a permissive command without a permit in the vector that the pair agrees on, with a
fenced Praline's permits and permissive commands taken back, raises PERMIT_DISAGREE and nothing leaves; an EMIT late
beyond 0.75 T + EXT raises OVERRUN; else the frame is committed, the counter advances by one, its downlinks and
local command wait in the back buffers signed by that pair, the next tick is set; a lane that disagrees, or whose
vote unit is outvoted, is no longer VOTING. The release point makes the back buffers current and sends the frame's
packets, once, not before 0.75 T or the end of EMIT; at a handover the grant is given up. OVERRUN is raised for a
frame in progress beyond 0.75 T + EXT, WATCHDOG for one that has not ended after 2 T. (R29, R44, R50, R54, R55, R57,
R60, R143, R159, R162, R164, R176) -/
def Obligations.FramesRunFromTickToRelease : Prop :=
  ∀ (s : State) (now : Nat),
    let v := later s now
    let T := v.frm.T
    let ends := v.frm.tick + T * 75 / 100 + v.frm.ext
    (∀ env : TickEnv,
      let w := env.ptrUpsets.foldl upsetPtr v
      let u := if releasable w = true then releaseFrame w else w
      let calm := fun (b : Blk) (n : Nat) => sevOf v.cfg b n ≠ .safeStop
      let odd := (instsIn v.prl).filter fun i => env.outInst.contains i || copyDiffers v.core.crumbs (instOf v.prl i)
      (framesRun v = false → v.sys.ready = false ∨ idleRole v = false → exec (.frameTick now env) s = .next w)
      ∧ ∀ t0, framesRun v = true → v.frm.nextTick = some t0 →
        (v.now < t0 ∨ v.work.isSome = true → exec (.frameTick now env) s = .next w)
        ∧ (t0 ≤ v.now → v.work = none → v.mzp.isSome = true → v.xbr.q0.items = [] → v.cmd.inbox = [] → v.dpx.handDue = false →
            v.frm.ended = false ∨ v.dpx.gapDue = true
              ∨ ([env.m1, env.m2, env.m3].filter (deviates (T + v.frm.late))).length < 2 →
            2 ≤ (instsIn v.prl).length → odd = [] ∨ ((instsIn v.prl).length = 3 ∧ odd.length = 1) →
            calm .frn nMAILBOX → calm .frn (8 + nMAILBOX) → calm .lio lCOUNT_ERR → calm .prl pREQ_SINGLE → calm .prl pGUARD_TRIP →
            calm .prl pINST_OUT →
            ∃ t x, exec (.frameTick now env) s = .next t ∧ t.sys.stopped = false
              ∧ t.frm.tick = v.now ∧ t.frm.T = periodUs v.cfg ∧ t.frm.ext = extUs v.cfg ∧ t.frm.phase = .prove
              ∧ t.frm.voted = false ∧ t.frm.released = false ∧ t.work = some x ∧ x.counter = v.core.counter
              ∧ t.core = { v.core with permits := t.core.permits } ∧ (∀ l, (laneOf t.vot l).pub = none)
              ∧ t.lio.vital.frozen = v.lio.vital.up ∧ t.sent = u.sent ∧ (releasable v = true → t.dpx.lastRelease = v.now)))
    ∧ (∀ (l : Lane) (dev : PubDev),
        let b := laneOf v.vot l
        (v.work = none ∨ v.frm.voted = true ∨ b.pub.isSome = true ∨ (b.state ≠ .voting ∧ b.state ≠ .resync) →
          exec (.lanePublish l now dev) s = .next v)
        ∧ ∀ x, v.work = some x → v.frm.voted = false → b.pub = none → b.state = .voting ∨ b.state = .resync →
          let p := pubOf v x b dev
          let u := { v with vot := setLane v.vot l fun b => { b with pub := some p, upsets := dev.words ++ b.upsets } }
          p.pubAt = v.now
          ∧ (p.sigf = false → exec (.lanePublish l now dev) s = .next u ∧ p.sig = expectedSig (stationOf v) x.counter)
          ∧ (p.sigf = true → ∃ t, exec (.lanePublish l now dev) s = .next t ∧ (laneOf t.vot l).pub = some p
              ∧ isLive t .vot vSIG_FAIL = true ∧ (∀ k, k ≠ l → laneOf t.vot k = laneOf v.vot k) ∧ RaiseFrame u t))
    ∧ (∀ (env : VoteEnv) (d : DrainEnv) (x : Inter), v.work = some x → v.sys.stopped = false →
      let c := Instr.voteInstant now env d
      let ls := votingLanes v.vot
      let deadline := v.frm.tick + T * 70 / 100 + v.frm.ext
      let bad := env.badVoter.filter ls.contains
      let good := (countedLanes v).filter fun l => bad ≠ some l
      (1 < ls.length → (ls.filter fun l => (laneOf v.vot l).pub.isSome).length < 2 → v.now < deadline → exec c s = .next v)
      ∧ ((ls ≠ [] ∧ ∀ l ∈ ls, ∃ p, (laneOf v.vot l).pub = some p ∧ p.pubAt ≤ v.now) ∨ deadline ≤ v.now →
        let none_ := env.noVerdict = true ∨ ls.length < 2 ∨ (ls.length = 2 ∧ bad.isSome = true)
          ∨ ∀ a ∈ good, ∀ b ∈ good, a.num < b.num → pubsAgree v.vot a b = false
        (none_ → ∃ t, exec c s = .next t ∧ isLive t .vot vNOMAJ = true ∧ t.vot.noMaj = true ∧ t.vot.signA = 0 ∧ t.vot.signB = 0
          ∧ RaiseFrame v t
          ∧ (isLive v .vot vNOMAJ = false → sevOf v.cfg .vot vNOMAJ = .safeStop →
              t.sys.stopped = true ∧ t.work = none ∧ t.lio.vital.back = none ∧ t.frn0.back = [] ∧ t.frn1.back = []))
        ∧ (¬ none_ → ∀ a ∈ good, ∀ b ∈ good, a.num < b.num → pubsAgree v.vot a b = true →
          (∀ k ∈ good, ∀ l ∈ good, k.num < l.num → pubsAgree v.vot k l = true → a.num < k.num ∨ (a = k ∧ b.num ≤ l.num)) →
          let calm := ∀ n ∈ [vODD_LANE, vRESYNC_FAIL, vVOTER_DISAGREE], sevOf v.cfg .vot n ≠ .safeStop
          let fences := fun (t : State) => ∀ l ∈ ls,
            env.badVoter = some l ∨ (l ≠ a ∧ l ≠ b ∧ ¬ (l ∈ countedLanes v ∧ pubsAgree v.vot a l = true)) →
            (laneOf t.vot l).state ≠ .voting
          let y := fencedVector v.prl.fenced (applyVec (votedVec v a x) x)
          let bare := (∃ o ∈ y.objs, isRestrictive o.ty o.cmd = false
                ∧ ¬ ∃ q ∈ y.permits, q.obj = o.idx ∧ q.kind = kindOf o.ty ∧ q.state = o.cmd)
              ∨ ∃ c, y.tripCmd[c]? = some true ∧ ¬ ∃ q ∈ y.permits, q.kind = 5 ∧ q.chan = c
          let emitted := max v.now (v.frm.tick + (d.durations.take 5).sum)
          (bare → ∃ t, exec c s = .next t ∧ (t.sys.stopped = true ∨ isLive t .prl pPERMIT_DISAGREE = true) ∧ RaiseFrame v t)
          ∧ (¬ bare → calm → ends < emitted → ∃ t, exec c s = .next t ∧ isLive t .frm fOVERRUN = true ∧ t.frm.beyond = true)
          ∧ (¬ bare → calm → emitted ≤ ends → ∃ t, exec c s = .next t
            ∧ t.work = none ∧ t.core.counter = x.counter + 1 ∧ t.frm.ended = true ∧ t.frm.drainEnd = d.drainEnd
            ∧ (v.upd.exchange = none → t.core.objs = y.objs) ∧ fences t
            ∧ (t.sys.stopped = false → t.vot.signA = a.num ∧ t.vot.signB = b.num
              ∧ (t.dpx.handDue = false → t.frm.nextTick = some (max (v.frm.tick + T) d.drainEnd))
              ∧ ((plainKey? v 1 a.num (laneKsel v.cfg)).isSome = true → (plainKey? v 1 b.num (laneKsel v.cfg)).isSome = true →
                t.frm.voted = true ∧ t.frm.emitEnd = emitted
                ∧ (v.lio.vital.stopped = false → ∃ m, t.lio.vital.back = some m ∧ m.frame = x.counter ∧ m.lane1 = a.num
                    ∧ m.lane2 = b.num)
                ∧ (∀ c, (frnOf v c).fenced = false → (frnOf v c).state ≠ .off → v.xbr.cpend = false → (frnOf t c).fenced = false →
                    (frnOf t c).back.length = 16 ∧ ∀ m ∈ (frnOf t c).back, m.frame = x.counter)))))))
    ∧ (v.frm.voted = true → v.frm.released = false → v.sys.stopped = false →
        let due := max (v.frm.tick + T * 75 / 100) v.frm.emitEnd
        (v.now < due → exec (.releasePoint now) s = .next v)
        ∧ (due ≤ v.now → ∃ t, exec (.releasePoint now) s = .next t
            ∧ t.frm.released = true ∧ t.frm.voted = false ∧ t.dpx.lastRelease = v.now ∧ t.lio.vital.back = none
            ∧ (∀ m, v.lio.vital.back = some m → t.lio.vital.current = some m)
            ∧ (∀ c, (frnOf v c).back ≠ [] → (frnOf t c).current = (frnOf v c).back ∧ (frnOf t c).back = [])
            ∧ t.cmd.frameOut = [] ∧ t.core = v.core ∧ t.work = v.work ∧ v.sent <+: t.sent
            ∧ (v.xbr.fenced = false → svcRuns v = true → v.xbr.q1.items = [] → (∀ g ∈ v.cmd.frameOut, g.conn ≠ 0) →
                (v.sent ++ v.cmd.frameOut.map .packet) <+: t.sent
                ∧ (v.dpx.handDue = false → t.sent = v.sent ++ v.cmd.frameOut.map .packet))
            ∧ (v.dpx.handDue = false → t.dpx = { v.dpx with lastRelease := v.now })
            ∧ (v.dpx.handDue = true → t.dpx.granted = false ∧ t.dpx.formerActive = true ∧ t.dpx.held = v.dpx.formed
                ∧ t.dpx.miss = 0 ∧ t.frm.nextTick = none)))
    ∧ (v.frm.voted = false ∨ v.frm.released = true ∨ v.sys.stopped = true → exec (.releasePoint now) s = .next v)
    ∧ (framesRun v = true → v.work.isSome = true →
        (ends < v.now → ∃ t, exec (.overrun now) s = .next t ∧ isLive t .frm fOVERRUN = true ∧ t.frm.beyond = true
            ∧ RaiseFrame { v with frm := { v.frm with beyond := true } } t)
        ∧ (v.now ≤ ends → exec (.overrun now) s = .next v))
    ∧ (framesRun v = true → v.work.isSome = true ∨ (v.frm.ended = true ∧ v.now < v.frm.drainEnd) →
        (v.frm.tick + 2 * T ≤ v.now → ∃ t, exec (.watchdog now) s = .next t ∧ isLive t .frm fWATCHDOG = true ∧ RaiseFrame v t)
        ∧ (v.now < v.frm.tick + 2 * T → exec (.watchdog now) s = .next v))

/-- A lane in RESYNC is VOTING after three matched shadow frames, an instance in RESEED IN after three frames equal
to the others; before, nothing changes. A lane whose hardware fault comes is fenced where it was VOTING or in
RESYNC, what keeps another out still does, and LANE_FAULT is live until no lane has one; the other lanes stay. A
scrubbed table with a bad page takes its instance, IN or in RESEED, OUT, the second time in 24 h ABSENT, and
INST_OUT follows. The time with two instances IN beyond PRL_CTL raises Praline's DUO_LIMIT. The 2oo2 clock at its
limit, extended as commanded, raises DUO_LIMIT once; an ACTIVE module with a ready partner asks for a switchover,
any other stops at its drain, and so does one whose switchover is not completed 60 min after. (R145, R147, R154,
R167, R169, R172, R173, R174, R175, R184) -/
def Obligations.LanesAndInstancesLeaveAndReturn : Prop :=
  ∀ (s : State) (now : Nat),
    let v := later s now
    (∀ l : Lane, let b := laneOf s.vot l
      (¬ (b.state = .resync ∧ 3 ≤ b.shadow) → exec (.shadowFramesMatched l) s = .next s)
      ∧ (b.state = .resync → 3 ≤ b.shadow → ∃ t, exec (.shadowFramesMatched l) s = .next t
          ∧ (laneOf t.vot l).state = .voting ∧ (laneOf t.vot l).tries = 0 ∧ (laneOf t.vot l).shadow = 0 ∧ (laneOf t.vot l).why = .none
          ∧ (laneOf t.vot l).debugged = false
          ∧ (∀ k, k ≠ l → laneOf t.vot k = laneOf s.vot k) ∧ RaiseFrame s t))
    ∧ (∀ i : Inst, let b := instOf s.prl i
        (¬ (b.state = .reseed ∧ 3 ≤ b.equal) → exec (.instanceIn i) s = .next s)
        ∧ (b.state = .reseed → 3 ≤ b.equal → ∃ t, exec (.instanceIn i) s = .next t
            ∧ RaiseFrame { s with prl := { setInst s.prl i (fun b => { b with state := .isIn, equal := 0 }) with
                  duoUs := t.prl.duoUs, duoFrom := t.prl.duoFrom } } t
            ∧ ((instsIn s.prl).length = 2 → t.prl.duoFrom = none
                ∧ t.prl.duoUs = s.prl.duoUs + (s.now - s.prl.duoFrom.getD s.now))
            ∧ (isLive t .prl pINST_OUT = true ↔ ∃ k, (instOf t.prl k).state = .out ∨ (instOf t.prl k).state = .reseed)))
    ∧ (∀ (l : Lane) (present : Bool), ∃ t, exec (.laneFault l present now) s = .next t
        ∧ (laneOf t.vot l).hwFault = present ∧ (∀ k, k ≠ l → laneOf t.vot k = laneOf v.vot k)
        ∧ (isLive t .vot vLANE_FAULT = true ↔ present = true ∨ (isLive v .vot vLANE_FAULT = true ∧ ∃ k, (laneOf t.vot k).hwFault = true))
        ∧ (present = true → (laneOf v.vot l).state = .voting ∨ (laneOf v.vot l).state = .resync →
            (laneOf t.vot l).state = .fenced ∧ (laneOf t.vot l).why = .fault)
        ∧ (present = true → (laneOf v.vot l).state ≠ .voting → (laneOf v.vot l).state ≠ .resync →
            (laneOf t.vot l).why = if (laneOf v.vot l).why = .none then .fault else (laneOf v.vot l).why)
        ∧ (present = false → (laneOf t.vot l).state = (laneOf v.vot l).state) ∧ RaiseFrame v t)
    ∧ (∀ bad : List Inst, ∃ t, exec (.tableScrub bad now) s = .next t
        ∧ (∀ i, let b := instOf v.prl i
            let again := ∃ a, b.outAt = some a ∧ v.now < a + 86400000000
            (¬ ((b.state = .isIn ∨ b.state = .reseed) ∧ i ∈ bad) → instOf t.prl i = { b with tableBad := bad.contains i })
            ∧ (b.state = .isIn ∨ b.state = .reseed → i ∈ bad → (instOf t.prl i).outAt = some v.now ∧ (instOf t.prl i).tableBad = true
                ∧ (again → (instOf t.prl i).state = .absent) ∧ (¬ again → (instOf t.prl i).state = .out)))
        ∧ (isLive t .prl pINST_OUT = true ↔ ∃ k, (instOf t.prl k).state = .out ∨ (instOf t.prl k).state = .reseed)
        ∧ RaiseFrame { v with prl := { v.prl with ix := t.prl.ix, iy := t.prl.iy, iz := t.prl.iz, duoUs := t.prl.duoUs,
                                                  duoFrom := t.prl.duoFrom } } t)
    ∧ (let two := (Inst.all.filter fun i => (instOf v.prl i).state = .isIn).length = 2
        let us := if two then v.prl.duoUs + (v.now - v.prl.duoFrom.getD v.now) else v.prl.duoUs
        let u := { v with prl := { v.prl with duoUs := us, duoFrom := if two then some v.now else none } }
        (us < 3600000000 * fieldOf v.cfg.prlCtl 0 8 → exec (.pralineDuoLimit now) s = .next u)
        ∧ (3600000000 * fieldOf v.cfg.prlCtl 0 8 ≤ us → ∃ t, exec (.pralineDuoLimit now) s = .next t
            ∧ isLive t .prl pDUO_LIMIT = true ∧ RaiseFrame u t))
    ∧ (∀ a, v.vot.duoSince = some a → framesRun v = true → v.vot.limitAt = none →
        let limit := 3600000000 * (fieldOf v.cfg.votCtl 0 8 + v.vot.extH)
        (v.now < a + limit → exec (.duoLimit now) s = .next v)
        ∧ (a + limit ≤ v.now → ∃ t, exec (.duoLimit now) s = .next t ∧ isLive t .vot vDUO_LIMIT = true
            ∧ t.vot.limitAt = some v.now ∧ RaiseFrame v t
            ∧ (v.dpx.role = .active ∧ v.dpx.peerReady = true → t.dpx.wanted = true)
            ∧ (¬ (v.dpx.role = .active ∧ v.dpx.peerReady = true) → t.vot.stopAtDrain = true)))
    ∧ (∀ a, v.vot.limitAt = some a →
        (a + 3600000000 ≤ v.now → v.dpx.role = .active → framesRun v = true →
          exec (.duoSwitchoverTimeout now) s = .next { v with vot := { v.vot with stopAtDrain := true } })
        ∧ (v.now < a + 3600000000 → exec (.duoSwitchoverTimeout now) s = .next v))

/-! ## The interlocking's own clocks and the proof test -/

/-- For a module that runs frames, between two frames, when the next tick has come; the time since the last tick
counts in ms, rounded down for RELEASE and up for WATCH. A running timer whose rest it covers shows REMAIN 0 and Q
1, else nothing changes. A point's movement timer also advances FAILS and leaves the drive commanded; a crossing
stays commanded CLOSE; each writes its record. A settle period with one frame left ends in the lanes' and Praline's
reading. A boundary object over the age limit becomes invalid and restrictive. A REQUESTED transaction over its wait
limit whose claim fails in the frame of that tick becomes REFUSED. A timed approach lock, emergency or overlap
release whose time is covered, the signal proved at STOP or the overlap clear, and Praline proving it by its own
reading, table and count, frees the transaction's crumbs, but not at the tick of the frame that starts the time.
Before the time, and before the tick, nothing changes. That these happen as commands of their own before the frame
of that tick is the model's reading (log entry 11). (R88, R91, R94, R96, R104, R108, R111, R113, R114, R116, R118,
R443) -/
def Obligations.InterlockTimersEndAtTheTick : Prop :=
  ∀ (s : State) (now : Nat) (st : Station) (p : Prt),
    let v := later s now
    let x := v.core
    let e := if v.frm.ended = true then v.now - v.frm.tick else 0
    let ms := fun (k : TimerKind) => match k with
      | .release => e / 1000
      | .watch => (e + 999) / 1000
    let covered := fun (t : TimerInst) => t.run = true ∧ t.remain ≠ 0 ∧ t.remain ≤ ms t.kind
    let ends := fun (c : Instr) (y : Inter) => exec c s = .next { v with core := y }
    let objEvent := fun (i cause event : Nat) => { ty := 0x03, sev := 0, body := be 6 x.counter ++ be 2 i ++ be 1 event ++ be 1 cause : Rec }
    (v.mzp = some st → v.prt = some p → v.work = none → framesRun v = true → v.dpx.gapDue = false →
      ∀ t0, v.frm.nextTick = some t0 →
      (v.now < t0 → ∀ n, exec (.timerExpiry n now) s = .next v ∧ exec (.settlePeriodEnd n now) s = .next v
        ∧ exec (.waitLimitExpiry n now) s = .next v ∧ exec (.approachLockExpiry n now) s = .next v)
      ∧ (t0 ≤ v.now →
        (∀ n t, timerOf? x n = some t → (∀ d ∈ st.objects, d.timer ≠ some n) →
          (¬ covered t → exec (.timerExpiry n now) s = .next v)
          ∧ (covered t → ∃ y, ends (.timerExpiry n now) y ∧ timerOf? y n = some { t with remain := 0, q := true }
              ∧ (∀ m, m ≠ n → timerOf? y m = timerOf? x m) ∧ y = { x with timers := y.timers }))
        ∧ (∀ i n d o t, stObj? st i = some d → d.idx = i → d.timer = some n → objOf? x i = some o → timerOf? x n = some t →
          let moving := o.ty = .point ∧ o.cmd ≠ ptcNone ∧ ¬ (o.valid = true ∧ o.rep = posRep (o.cmd - 1))
          let closing := o.ty = .crossing ∧ o.cmd = lxClose ∧ ¬ (o.valid = true ∧ o.rep = lxSecured)
          let spent := fun (c : Instr) (u : ObjInst) => ∃ y, ends c y ∧ objOf? y i = some u
            ∧ (∀ k, k ≠ i → objOf? y k = objOf? x k) ∧ timerOf? y n = some { t with remain := 0, q := true }
            ∧ y = { x with objs := y.objs, timers := y.timers, recs := x.recs ++ [objEvent i 0 3] }
          (¬ covered t ∨ ¬ moving → exec (.moveTimerExpiry i now) s = .next v)
          ∧ (covered t → moving → spent (.moveTimerExpiry i now) { o with fails := satAdd 255 1 o.fails })
          ∧ (¬ covered t ∨ ¬ closing → exec (.closeTimerExpiry i now) s = .next v)
          ∧ (covered t → closing → spent (.closeTimerExpiry i now) o)
          ∧ ((st.objects.find? fun k => k.timer == some n) = some d → d.ty = o.ty → covered t → moving →
              spent (.timerExpiry n now) { o with fails := satAdd 255 1 o.fails }))
        ∧ (∀ i o, objOf? x i = some o → ∃ y, ends (.settlePeriodEnd i now) y
            ∧ objOf? y i = some { o with settle := if o.settle = 1 then 0 else o.settle }
            ∧ (∀ q, prlOf? x i = some q → prlOf? y i = some { q with settle := if q.settle = 1 then 0 else q.settle })
            ∧ (∀ k, k ≠ i → objOf? y k = objOf? x k ∧ prlOf? y k = prlOf? x k) ∧ y = { x with objs := y.objs, prlObjs := y.prlObjs })
        ∧ (∀ i o, objOf? x i = some o → o.ty = .boundary →
          let age := if i ∈ x.fresh then 0 else satAdd 255 1 o.age
          ∃ y, ends (.boundaryAgeLimit i now) y
            ∧ (o.valid = true → st.bage < age → objOf? y i = some { o with
                valid := false, settle := 0, rep := bdWithheld, border := bdOccupied, faultCnt := satAdd 65535 1 o.faultCnt }
                ∧ y.recs = x.recs ++ [objEvent i 6 2])
            ∧ (age ≤ st.bage → y.objs = x.objs ∧ y.recs = x.recs)
            ∧ (∀ q, prlOf? x i = some q → i ∉ x.freshTag →
                (p.bage < satAdd 255 1 q.age → prlOf? y i = some { q with valid := false, settle := 0, rep := bdWithheld })
                ∧ (satAdd 255 1 q.age ≤ p.bage → prlOf? y i = some q))
            ∧ (∀ k, k ≠ i → objOf? y k = objOf? x k ∧ prlOf? y k = prlOf? x k)
            ∧ y = { x with objs := y.objs, prlObjs := y.prlObjs, recs := y.recs })
        ∧ (∀ r t, txnOfRoute? x r = some t → txnOfSlot? x t.slot = some t →
          let i := v.frm.T + v.frm.late
          let refused := ∃ z u, (runFrame { m1 := i, m2 := i, m3 := i } v).work = some z ∧ txnOfRoute? z r = some u ∧ u.state = .refused
          let waits := t.state = .requested ∧ t.byCancel = false
          (¬ waits ∨ ¬ refused → exec (.waitLimitExpiry r now) s = .next v)
          ∧ (waits → t.admittedAt + t.waitMs * 1000 ≤ v.now → refused →
              ∃ y, ends (.waitLimitExpiry r now) y ∧ txnOfSlot? y t.slot = some { t with state := .refused }
                ∧ (∀ k, k ≠ t.slot → txnOfSlot? y k = txnOfSlot? x k)
                ∧ y = { x with txns := y.txns, claimConf := y.claimConf, claimShort := y.claimShort, shorts := y.shorts, recs := y.recs }))
        ∧ (∀ r t rd, txnOfRoute? x r = some t → txnOfSlot? x t.slot = some t → stRoute? st r = some rd → t.ended = false →
            t.relQ = false →
          let early := ms .release < t.relRemain
          let sole := fun i => holdsShared (((prtRoute? p t.route).map (·.footprint)).getD []) i = false
          let freed := fun (y : Inter) (os : List Nat) => ∀ i ∈ os, sole i →
            ¬ ∃ c ∈ y.crumbs, c.obj = i ∧ c.shr = false ∧ c.owner = t.slot
          let z := trackNow p (dueFrame v) t (setTxn x t.slot fun _ => tickRel (dueFrame v) t)
          let proved := fun (why : RelWhy) (os : List Nat) =>
            v.prl.fenced = false ∧ prlProves p z t { slot := t.slot, objs := os, why := why } = true
          (t.relNew = true ∨ early → exec (.approachLockExpiry r now) s = .next v ∧ exec (.overlapExpiry r now) s = .next v
            ∧ exec (.emergencyReleaseExpiry r now) s = .next v)
          ∧ (t.relNew = false → ¬ early → t.relUse = .approach → provesStop x rd.entry = true → proved .approachEnd t.held →
              ∃ y u, ends (.approachLockExpiry r now) y ∧ txnOfSlot? y t.slot = some u ∧ u.state = .cancelled
                ∧ u.approach = .free ∧ u.overlap = .free ∧ u.held = [] ∧ u.relUse = .nothing ∧ freed y t.held)
          ∧ (t.relNew = false → ¬ early → t.relUse = .emergency → provesStop x rd.entry = true → proved .emergency t.held →
              ∃ y u, ends (.emergencyReleaseExpiry r now) y ∧ txnOfSlot? y t.slot = some u ∧ u.ended = true ∧ u.held = []
                ∧ freed y t.held)
          ∧ (t.relNew = false → ¬ early → t.relUse = .overlap → t.state = .releasing →
              t.overlap ≠ .timing ∨ overlapClear st x rd = true →
              proved .overlapEnd (t.held.filter (· != rd.entry)) →
              ∃ y u, ends (.overlapExpiry r now) y ∧ txnOfSlot? y t.slot = some u ∧ u.overlap = .free
                ∧ u.held = t.held.filter (· == rd.entry) ∧ freed y (t.held.filter (· != rd.entry))
                ∧ (rd.entry ∉ t.held → t.byCancel = false → u.ended = true)))))

/-- Before its due time a lane's test is not due. At it, an idle module (STANDBY or WITNESS) with no lane under test
starts it, where the lane is neither held nor booting and no other lane's test comes first: the lane is PROVING, the
test journalled and due no longer; in ACTIVE and ALONE it is marked due for the drain. A test that has not started
LATEM after its due time raises PT_LATE. At its end the test passes where nothing was found, every piece of work and
the whole kept its time at most, a repeat test's reload was of sound images and in time, and a lane key that has
been wrapped unwraps; else the earliest failure ends it. The lane's last test and its duration in 10 ms are shown
and journalled. A pass is counted, clears the lane's failures, puts back the lane key outside D3 and counts the
wrapping counter on, records PT_RETRY for a repeat test, and leaves the lane waiting for the drain, or FENCED in an
idle role with its next due time INTV later. A failure is counted and leaves the lane FENCED with PT_FAIL live, and
KEYZ_FAIL and RESTORE_FAIL as they are its cause, its lane keys gone from step 5 on; a repeat test starts at once,
and a failed repeat test holds the lane with PT_HOLD live. Nothing else changes but what raisings do. (R185, R186,
R188, R189, R194, R195, R196, R197, R198, R199, R203, R204) -/
def Obligations.ProofTestsStartAndEndByTheirRules : Prop :=
  ∀ (s : State) (l : Lane) (now : Nat),
    let v := later s now
    let q := testOf v.bst l
    let idle := idleRole v = true
    let others := ∀ k, k ≠ l → (laneOf v.vot k).limited = false ∧ (testOf v.bst k).isDue = false
      ∧ ∀ a, (testOf v.bst k).due = some a → v.now < a
    (q.due = none → exec (.proofTestDue l now) s = .next v ∧ exec (.ptLate l now) s = .next v)
    ∧ (∀ k, q.due = some k →
      let able := idle ∧ v.sys.ready = true ∧ v.bst.under = none ∧ q.hold = false ∧ (laneOf v.vot l).booting = false
      (v.now < k → exec (.proofTestDue l now) s = .next v)
      ∧ (k ≤ v.now → ¬ idle ∨ v.sys.ready = false ∨ v.bst.under ≠ none → exec (.proofTestDue l now) s = .next { v with
          bst := setTest v.bst l fun t => { t with isDue := true } })
      ∧ (k ≤ v.now → able → ∃ t, exec (.proofTestDue l now) s = .next t ∧ t.bst.under ≠ none)
      ∧ (k ≤ v.now → able → others → (laneOf v.vot l).limited = false → ∃ t, exec (.proofTestDue l now) s = .next t
          ∧ t.bst.under = some l ∧ t.bst.startedAt = v.now ∧ t.bst.again = false ∧ (laneOf t.vot l).state = .proving
          ∧ (∀ k, k ≠ l → laneOf t.vot k = laneOf v.vot k) ∧ (testOf t.bst l).due = none
          ∧ (testOf t.bst l).isDue = false ∧ (testOf t.bst l).late = false
          ∧ t.bst.journal = v.bst.journal.set (l.num - 1) { result := 3 } ∧ RaiseFrame { v with bst := t.bst } t)
      ∧ (let tardy := k + 60000000 * fieldOf v.cfg.bstCtl 8 8 ≤ v.now
        (¬ tardy → exec (.ptLate l now) s = .next v)
        ∧ (tardy → ∃ t, exec (.ptLate l now) s = .next t ∧ isLive t .bst bPT_LATE = true
            ∧ RaiseFrame { v with bst := setTest v.bst l fun t => { t with late := true } } t)))
    ∧ (∀ res : TestResult,
      let c := Instr.proofTestEnd l res now
      let again := v.bst.again
      let ran := v.now - v.bst.startedAt
      let dur := min 65535 (ran / 10000)
      let kept := fun (t : State) => RaiseFrame { v with
        bst := t.bst, sec := { v.sec with plain := t.sec.plain, blobs := t.sec.blobs, counters := t.sec.counters } } t
          ∧ ∀ k, k ≠ l → laneOf t.vot k = laneOf v.vot k
      let sound := res.found = none ∧ (∀ (i w : Nat) (p : Nat × Nat × Nat), testPieces[i]? = some p → res.took[i]? = some w → w ≤ p.2.2)
        ∧ (again = true → (activeBank (lfwPair v.upd l)).intact = true ∧ (activeBank v.upd.mzp).intact = true
            ∧ res.reload ≤ 20000000)
        ∧ unwrapFails v l = false ∧ ran ≤ 52410000 + if again then 20000000 else 0
      let runs := v.bst.under = some l ∧ v.bst.startedAt ≤ v.now
      (¬ runs → exec c s = .next v)
      ∧ (testFailure? v l res = none ↔ sound)
      ∧ (runs → ¬ idle ∨ (others ∧ 1 ≤ fieldOf v.cfg.bstCtl 0 5) → sound → ∃ t, exec c s = .next t ∧ kept t
          ∧ t.bst.under = none ∧ (testOf t.bst l).last = { result := 1, again := again, dur := dur }
          ∧ t.bst.journal = v.bst.journal.set (l.num - 1) { result := 1, again := again, dur := dur }
          ∧ (testOf t.bst l).failed = false ∧ (testOf t.bst l).restoreFail = false ∧ (testOf t.bst l).keyzFail = false
          ∧ (testOf t.bst l).hold = q.hold
          ∧ (∀ sl < 2, keyCounter t.sec 1 l.num sl = keyCounter v.sec 1 l.num sl + 1)
          ∧ (v.sec.dbg ≠ .d3 → ∀ b ∈ v.sec.blobs, b.ktype = 1 → b.index = l.num → b.slot < 2 → usableBlob v.sec b = true →
              ∃ k ∈ t.sec.plain, k.ktype = 1 ∧ k.index = l.num ∧ k.slot = b.slot)
          ∧ (again = true → isLive t .bst bPT_RETRY = true
              ∧ (laneOf t.vot l).booted = bankImgId (activeBank (lfwPair v.upd l)))
          ∧ (¬ idle → (laneOf t.vot l).passed = true)
          ∧ (idle → (laneOf t.vot l).state = .fenced ∧ (laneOf t.vot l).limited = false
              ∧ (testOf t.bst l).due = some (v.now + 3600000000 * fieldOf v.cfg.bstCtl 0 5)))
      ∧ ∀ f, testFailure? v l res = some f → runs → ¬ idle ∨ others → ∃ t, exec c s = .next t ∧ kept t
          ∧ (laneOf t.vot l).state = .fenced ∧ (laneOf t.vot l).why = .test ∧ (laneOf t.vot l).passed = false
          ∧ (testOf t.bst l).last = { result := 2, again := again, block := f.block, step := f.step, unit := f.unit, dur := dur }
          ∧ (testOf t.bst l).failed = true ∧ isLive t .bst bPT_FAIL = true ∧ t.bst.fail = satAdd 255 1 v.bst.fail
          ∧ (f.keyzFail = true → isLive t .bst bKEYZ_FAIL = true) ∧ (f.restoreFail = true → isLive t .bst bRESTORE_FAIL = true)
          ∧ (f.block ≠ 0 → t.bst.sigF = f.signature)
          ∧ (5 ≤ f.step → ∀ k ∈ t.sec.plain, ¬ (k.ktype = 1 ∧ k.index = l.num))
          ∧ (again = false → t.bst.under = some l ∧ t.bst.again = true ∧ t.bst.startedAt = v.now)
          ∧ (again = true → t.bst.under = none ∧ (testOf t.bst l).hold = true ∧ isLive t .bst bPT_HOLD = true))

/-! ## The field clusters -/

/-- A port that is off does nothing. A cycle start counts the cycle modulo 2^32, closes every node's account (heard:
missing 0; else one more, unless R355 spares it; what was valid shows as that of the last cycle), sends the current
messages in RUN, a sync frame of slot 255 in FOLLOW and of slot 0 otherwise, on each channel that transmits; a
guardian whose table fails is CLOSED; a port due to RUN runs, one stopped or relinquished sends sync frames only
with nothing current, one due to be silent is silent. A valid uplink goes to the buffer that is not frozen, admits a
node that was valid in the cycle before, and never touches the frozen one's content; a mailbox whose pointer copies
differ raises MAILBOX; two valid copies that differ are both errors. Offset correction acts in odd cycles, by the
fault-tolerant average within 40 microticks, and SYNC_LOSS follows. An admitted node silent for the limit drops out,
its waiting frames go, DROPOUT is live; after 64 silent cycles it is absent. A guardian's violation cuts; the third
in 1,000 cycles blocks it for 10,000 cycles, the second block in 1 h for good. (R54, R177, R211, R219, R225, R227,
R230, R232, R233, R234, R352) -/
def Obligations.FieldCyclesSendTakeAndJudge : Prop :=
  ∀ (s : State) (c : Cluster) (env : CycleEnv),
    let now := env.now
    let v := later s now
    let f := frnOf v c
    let able := fun (ch : Chan) => linkOn v c ch = true ∧ (guardOf f ch).state = .run ∧ f.mute = false ∧ ch ∉ env.tableBad
    (f.state = .off → exec (.fieldCycleStart c env) s = .next (upsetMailboxes env c v)
        ∧ exec (.offsetCorrection c now) s = .next v)
    ∧ (f.state ≠ .off → f.begun = true → ∃ t, exec (.fieldCycleStart c env) s = .next t
        ∧ let g := frnOf t c
          g.cycle = (f.cycle + 1) % 2 ^ 32 ∧ g.cycleAt = v.now ∧ g.goRun = false ∧ g.stopPending = false ∧ g.muteDue = false
          ∧ (f.goRun = true → g.state = .run ∧ g.mute = false ∧ g.runCycles = some 1)
          ∧ (f.goRun = false → f.muteDue = true ∨ f.mute = true → g.mute = true ∧ t.sent = v.sent)
          ∧ (f.goRun = false → f.stopPending = true ∨ (gaveUp v = true ∧ f.isRoot = true) →
              g.state = .syncOnly ∧ g.current = []
              ∧ ∀ ch, able ch → f.muteDue = false → .field c ch (syncBytes t c 0) ∈ t.sent)
          ∧ (f.state = .follow ∨ f.state = .followNoSync → f.goRun = false → f.stopPending = false → f.muteDue = false →
              g.fenced = f.fenced → t.sys.stopped = v.sys.stopped →
              (g.state = .follow ∨ g.state = .followNoSync) ∧ ∀ ch, able ch → .field c ch (syncBytes t c 0xFF) ∈ t.sent)
          ∧ (f.state = .run → f.stopPending = false → v.dpx.relinquished = false → f.muteDue = false →
              g.fenced = f.fenced → t.sys.stopped = v.sys.stopped → t.dpx.relinquished = false →
              g.state = .run ∧ g.current = f.current ∧ ∀ ch, able ch → ∀ m ∈ f.current, .field c ch (downlinkBytes t c m) ∈ t.sent)
          ∧ (∀ ch ∈ env.tableBad, (guardOf g ch).state = .closed)
          ∧ (env.scheduleBad = true → isLive t .frn (nAt c nSCHEDULE) = true)
          ∧ ∀ b ∈ f.nodes, ∃ k ∈ g.nodes, k.node = b.node ∧ k.heard = false ∧ k.va = b.nowA ∧ k.vb = b.nowB
              ∧ k.withdrawn = (b.withdrawn || b.withdrawDue)
              ∧ (b.heard = true → k.missing = 0)
              ∧ (b.heard = false → b.state ≠ .admitted ∨ silenceSpared f = false → k.missing = b.missing + 1))
    ∧ (f.state ≠ .off → f.begun = true →
        (f.cycle % 2 = 0 → exec (.offsetCorrection c now) s = .next v)
        ∧ (f.cycle % 2 = 1 → ∃ t, exec (.offsetCorrection c now) s = .next t
          ∧ let devs := (f.nodes.filter fun b => b.state = .admitted && b.heard && isSyncNode v c b.node).filterMap (·.dev)
                ++ f.partnerSync.toList
            let raw := ftAverage (0 :: devs)
            let g := frnOf t c
            g.offs = max (-40) (min 40 raw) ∧ -8 ≤ g.rate ∧ g.rate ≤ 8 ∧ g.nsync = devs.length + 1
            ∧ (isLive t .frn (nAt c nSYNC_LOSS) = true ↔ g.offs ≠ raw ∨ devs.length < 2)
            ∧ RaiseFrame (setFrn v c fun f => { f with offs := g.offs, rate := g.rate, prec := g.prec, nsync := g.nsync }) t))
    ∧ (∀ x y : Int, ftAverage [x, y] = 0 ∧ ∀ z, x ≤ y → y ≤ z → ftAverage [x, y, z] = y ∧ ftAverage [z, x, y] = y)
    ∧ (∀ node b d copyA copyB, nodeOf? v c node = some b → (v.mzp.bind fun st => stNode? st c node) = some d → f.state ≠ .off →
        let okA := linkOn v c .a = true ∧ ∃ a, copyA = some a ∧ uplinkOk v c d a = true
        let okB := linkOn v c .b = true ∧ ∃ a, copyB = some a ∧ uplinkOk v c d a = true
        let same := copyA.map (·.data) = copyB.map (·.data)
        ∃ t, exec (.uplink c node copyA copyB now) s = .next t
        ∧ (¬ okA ∧ ¬ okB ∨ (okA ∧ okB ∧ ¬ same) → (frnOf t c).cycle = f.cycle ∧ t.faults = v.faults
            ∧ ∃ k, nodeOf? t c node = some k ∧ (k.nowA = true ↔ okA) ∧ (k.nowB = true ↔ okB)
              ∧ k = { b with nowA := k.nowA, nowB := k.nowB })
        ∧ (okA → okB → ¬ same → chanOn v c .a = true → chanOn v c .b = true →
            (frnOf t c).errA = satAdd 65535 1 f.errA ∧ (frnOf t c).errB = satAdd 65535 1 f.errB)
        ∧ (∀ a : Arrival, (okA ∧ copyA = some a ∧ (¬ okB ∨ same)) ∨ (¬ okA ∧ okB ∧ copyB = some a) →
            ∃ k cyc, nodeOf? t c node = some k ∧ (frnOf t c).cycle = cyc
            ∧ cyc = (if f.state = .follow ∨ f.state = .followNoSync then fieldAt a.data 2 4 else f.cycle)
            ∧ (isLive v .frn (nAt c nMAILBOX) = true ∨ (∃ b ∈ f.nodes, b.node = node ∧ mailboxAgrees b = false) ↔
                isLive t .frn (nAt c nMAILBOX) = true)
            ∧ k.heard = true ∧ (k.nowA = true ↔ okA) ∧ (k.nowB = true ↔ okB) ∧ k.lastValid = some cyc ∧ k.dev = some a.dev
            ∧ k.frozen = b.frozen ∧ k.latest ≠ k.frozen
            ∧ frozenBuf k = (if k.state = b.state ∨ k.state ≠ .admitted then frozenBuf b
                else (frozenBuf b).map fun u => { u with admitted := false })
            ∧ (∃ u, (if k.latest = 0 then k.buf0 else k.buf1) = some u ∧ u.cycle = cyc ∧ u.nstat = fieldAt a.data 6 2
                ∧ u.lastF = fieldAt a.data 8 6 ∧ u.reports = reportsOf d.nel a.data
                ∧ (u.admitted = true ↔ b.state = .admitted))
            ∧ (b.state = .admitted ∨ b.state = .refused ∨ b.state = .notConfigured → k.state = b.state)
            ∧ (b.state ≠ .admitted → b.state ≠ .refused → b.state ≠ .notConfigured →
                (1 ≤ b.clean → k.state = .admitted ∧ k.wasDropped = false) ∧ (b.clean = 0 → k.state = .oneClean)))
        ∧ (∀ m, m ≠ node → nodeOf? t c m = nodeOf? v c m)
        ∧ RaiseFrame (setFrn v c fun f =>
            { f with errA := (frnOf t c).errA, errB := (frnOf t c).errB, cycle := (frnOf t c).cycle, nodes := (frnOf t c).nodes
                     guardA := (frnOf t c).guardA, guardB := (frnOf t c).guardB }) t)
    ∧ (∀ arr : Arrival,
        let good := ∃ h, unCrc? arr.data = some h ∧ h.length = 12 ∧ fieldAt h 0 1 = 0xA2 ∧ fieldAt h 1 1 = 0xFF
          ∧ fieldAt h 8 2 = 0 ∧ fieldAt h 10 1 = c.num
        (f.isRoot = true → good → exec (.syncFrame c arr now) s = .next (setFrn v c fun f => { f with partnerSync := some arr.dev }))
        ∧ (f.isRoot = false ∨ ¬ good → exec (.syncFrame c arr now) s = .next v))
    ∧ (∀ node b, nodeOf? s c node = some b →
        let k := frnOf s c
        let drops := k.state ≠ .off ∧ b.state = .admitted ∧ dropLimit s c ≤ missingNow k b
        let stale := ∀ j, b.lastValid = some j → 64 ≤ (k.cycle + 2 ^ 32 - j) % 2 ^ 32
        (¬ drops → exec (.dropout c node) s = .next s)
        ∧ (drops → ∃ t, exec (.dropout c node) s = .next t ∧ isLive t .frn (nAt c nDROPOUT) = true
            ∧ RaiseFrame (setFrn s c fun f => { f with
                nodes := updFirst (·.node == node) (fun b =>
                  { b with state := .dropped, wasDropped := true, withdrawDue := true, onlyRestr := true }) f.nodes
                svc := f.svc.filter (·.node != node) }) t)
        ∧ (b.state = .dropped → stale → exec (.returnToAbsent c node) s = .next (setNode s c node fun b =>
            { b with state := .absent, dlyA := none, dlyB := none, wasDropped := false }))
        ∧ (b.state ≠ .dropped ∨ ¬ stale → exec (.returnToAbsent c node) s = .next s))
    ∧ (∀ ch : Chan, let g := guardOf f ch
        let vs := f.cycle :: g.violations.filter fun k => (f.cycle + 2 ^ 32 - k) % 2 ^ 32 < 1000
        (g.state ≠ .run → exec (.guardianViolation c ch now) s = .next v)
        ∧ (g.state = .run → ∃ t, exec (.guardianViolation c ch now) s = .next t ∧ isLive t .frn (nAt c nGUARDIAN) = true
            ∧ let k := guardOf (frnOf t c) ch
              k.cut = true ∧ RaiseFrame (setFrn v c fun f => setGuard f ch fun _ => k) t
              ∧ (vs.length < 3 → k.state = .run ∧ k.violations = vs)
              ∧ (3 ≤ vs.length → k.state = .blocked ∧ k.blockedAt = some f.cycle
                  ∧ (k.forever = true ↔ ∃ a ∈ g.blockedTimes, v.now < a + 3600000000)))
        ∧ let h := guardOf (frnOf s c) ch
          let done := h.state = .blocked ∧ h.forever = false ∧ ∃ j, h.blockedAt = some j ∧ 10000 ≤ ((frnOf s c).cycle + 2 ^ 32 - j) % 2 ^ 32
          (¬ done → exec (.guardianBlockedExpiry c ch) s = .next s)
          ∧ (done → exec (.guardianBlockedExpiry c ch) s = .next (setFrn s c fun f => setGuard f ch fun g =>
              { g with state := .listen, blockedAt := none, good := 0 })))

/-- For a party asked on a channel in this cycle. A reply of that party with its identifiers as the record has them
and at most 60.0 µs gives δ, half the lateness, which leaves with RANGED in the next cycle; another identifier or a
longer way refuses the party and raises ADMIT_FAIL; a frame that is no reply of that party in that cycle changes
nothing. A window without a reply leaves the party unranged. ACK, OCF_STATE and DIAG_REPLY end the waiting frame of
that node and number and no other; an ACK with a status to an OCF frame ends the node's distribution, OCF_STATE
shows the node's state and sends again the first missing block. A CONFIG_SET or OCF_RESTART unanswered for 16 cycles
is sent again, and the order to restart goes to a node with nothing claimed and everything commanded restrictive,
with its new identifier accepted. (R213, R222, R224, R231, R386) -/
def Obligations.RangingAndServiceAnswersAreTaken : Prop :=
  ∀ (s : State) (c : Cluster) (ch : Chan) (now : Nat),
    let v := later s now
    let askOf := fun (f : FrnBlk) => match ch with | .a => f.askA | .b => f.askB
    let rangedOf := fun (f : FrnBlk) => match ch with | .a => f.rangedA | .b => f.rangedB
    let delayOf := fun (b : NodeBlk) => match ch with | .a => b.dlyA | .b => b.dlyB
    (∀ p cyc data late, askOf (frnOf v c) = some (p, cyc) →
      let reply := fun (h : Bytes) => h.length = 20 ∧ fieldAt h 0 1 = 0xC4 ∧ fieldAt h 8 2 = 8 ∧ fieldAt h 1 1 = p.kind
        ∧ fieldAt h 2 1 = p.num ∧ cyc = (frnOf v c).cycle
      ((∀ h, unCrc? data = some h → ¬ reply h) → exec (.rangeReply c ch data late now) s = .next v)
      ∧ ∀ h sched cfgs, unCrc? data = some h → reply h → recordOf v c ch p = some (sched, cfgs) →
          let good := fieldAt h 12 4 = sched ∧ fieldAt h 16 4 ∈ cfgs ∧ late / 2 ≤ 7500
          ∃ t, exec (.rangeReply c ch data late now) s = .next t ∧ askOf (frnOf t c) = none
          ∧ (good → rangedOf (frnOf t c) = some (p, late / 2) ∧ t.faults = v.faults
              ∧ (∀ n b, p = .node n → nodeOf? v c n = some b → ∃ k, nodeOf? t c n = some k ∧ delayOf k = some (late / 2)
                  ∧ k.state = b.state ∧ k.ranCfg = some (fieldAt h 16 4))
              ∧ (∀ n, p = .coupler n → ∀ k ∈ (frnOf t c).couplers, k.chan = ch → k.num = n → k.dly = some (late / 2))
              ∧ t.sent = v.sent ∧ t.core = v.core)
          ∧ (¬ good → isLive t .frn (nAt c nADMIT_FAIL) = true ∧ rangedOf (frnOf t c) = rangedOf (frnOf v c)
              ∧ (∀ n b, p = .node n → nodeOf? v c n = some b → ∃ k, nodeOf? t c n = some k ∧ k.state = .refused)
              ∧ (∀ n, p = .coupler n → ∀ k ∈ (frnOf t c).couplers, k.chan = ch → k.num = n → k.refused = true)))
    ∧ (askOf (frnOf s c) = none → exec (.rangingWindowTimeout c ch) s = .next s)
    ∧ (∀ p cyc, askOf (frnOf s c) = some (p, cyc) → ∃ t, exec (.rangingWindowTimeout c ch) s = .next t
        ∧ askOf (frnOf t c) = none ∧ t.sent = s.sent ∧ t.core = s.core ∧ t.faults = s.faults
        ∧ ∀ n b, p = .node n → nodeOf? s c n = some b →
            nodeOf? t c n = some { b with state := if b.state = .ranging ∧ b.dlyA = none ∧ b.dlyB = none then .absent else b.state })
    ∧ (∀ data w, parseSvc? data = some w →
        let rest := (frnOf s c).svc.filter fun k => !(k.node == w.node && k.snum == w.ref)
        let u := setFrn s c fun f => { f with svc := rest }
        let toOcf := ∃ k, svcFor? s c w = some k ∧ 2 ≤ k.code ∧ k.code ≤ 4
        (w.code ≠ 0x81 → exec (.ack c data) s = .next s)
        ∧ (w.code = 0x81 → fieldAt w.content 0 1 = 0 ∨ ¬ toOcf → exec (.ack c data) s = .next u)
        ∧ (w.code = 0x81 → fieldAt w.content 0 1 ≠ 0 → toOcf →
            exec (.ack c data) s = .next (setNode u c w.node fun b => { b with ocfWant := false, ocfState := 0 }))
        ∧ (w.code = 0x83 → exec (.diagReply c data) s = .next u)
        ∧ (w.code ≠ 0x83 → exec (.diagReply c data) s = .next s)
        ∧ (w.code ≠ 0x82 → exec (.ocfState c data) s = .next s)
        ∧ (w.code = 0x82 → ∀ b, nodeOf? s c w.node = some b →
          let pkg := fieldAt w.content 0 4
          let k := fieldAt w.content 8 4
          let st := fieldAt w.content 12 1
          ∃ t b', exec (.ocfState c data) s = .next t ∧ nodeOf? t c w.node = some b' ∧ b'.ocfState = st ∧ b'.ocfMissing = k
            ∧ b'.ocfReceived = fieldAt w.content 4 4 ∧ b'.ocfPkg = b.ocfPkg
            ∧ (b'.ocfWant = true ↔ b.ocfWant = true ∨ (st = 2 ∧ b.ocfPkg = pkg)) ∧ t.core = s.core ∧ t.cfg = s.cfg
            ∧ (2 ≤ st ∨ k = 0xFFFFFFFF ∨ b.ocfPkg ≠ pkg → (frnOf t c).svc = rest ∧ t.sent = s.sent)
            ∧ (st ≤ 1 → k ≠ 0xFFFFFFFF → b.ocfPkg = pkg → ∀ bank, ocfImage? s pkg = some bank → 3968 * k < bank.image.length →
                ∃ o, (frnOf t c).svc = rest ++ [o] ∧ o.node = w.node ∧ o.code = 0x02 ∧ o.ref = pkg
                  ∧ o.content.drop 12 = (bank.image.drop (3968 * k)).take 3968 ∧ o.content.take 4 = be 4 k)))
    ∧ (∀ node, let f := frnOf s c
        let due := fun (w : SvcOut) => w.node = node ∧ (w.code = 0x01 ∨ w.code = 0x04) ∧ 16 ≤ (f.cycle + 2 ^ 32 - w.sentCycle) % 2 ^ 32
        ∃ t, exec (.configSetRepeat c node) s = .next t
          ∧ (∀ w ∈ f.svc, ∀ k : Chan, due w → linkOn s c k = true → (guardOf f k).state = .run → f.mute = false → f.state ≠ .off →
              f.state ≠ .follow → f.state ≠ .followNoSync →
              .field c k (dynamicBytes s c 0xC1 (.node node) k
                (be 1 w.code ++ be 1 0 ++ be 2 w.snum ++ be 4 w.ref ++ w.content)) ∈ t.sent)
          ∧ ((∀ w ∈ f.svc, ¬ due w) → t = s)
          ∧ (frnOf t c).svc.length = f.svc.length
          ∧ t = { setFrn s c (fun f => { f with svc := (frnOf t c).svc }) with sent := t.sent })
    ∧ (∀ node b, nodeOf? s c node = some b →
        let go := b.ocfWant = true ∧ nodeQuiet s c node = true
        (¬ go → exec (.ocfRestart c node) s = .next s)
        ∧ (go → ∃ t k o, exec (.ocfRestart c node) s = .next t ∧ nodeOf? t c node = some k ∧ k.ocfWant = false
            ∧ (∀ bank ids e, ocfImage? s b.ocfPkg = some bank → bank.content = .ocf ids → ids.find? (·.1 == node) = some e →
                k.altCfg = some e.2)
            ∧ (frnOf t c).svc = (frnOf s c).svc ++ [o] ∧ o.node = node ∧ o.code = 0x04 ∧ o.ref = b.ocfPkg
            ∧ t.core = s.core ∧ t.cfg = s.cfg ∧ t.faults = s.faults))

/-! ## The local vital I/O -/

/-- A vital side without its rails sends and takes no frame, and a field side that runs misses it. Otherwise each
downstream frame leaves with its number, whatever becomes of it. Where the field side does not run nothing else
happens; a lost frame is counted and changes no switch. One that arrives with DRIVE 0 puts the field side in RESTART
with everything off; a masked trip channel is off; without a new command no output that was off but for a fence
comes on. In LIVE a command with valid signatures, tags and a new FRAME restarts the toffee, and then exactly
outputs that it energises can be on, and those are on where supply, lock and group allow; a trip channel that it
does not energise is off. RESTART ends at the third accepted command. At the end of the toffee window everything
opens. An upstream frame that arrives is what the field side forms, ends BARRIER, and counts Praline's guards (where
their sources do not fence): an armed one that reaches its threshold is tripped. Two lost frames upstream raise
BARRIER, downstream they open the trip channels. A key round not confirmed in 2 ms starts again. (R148, R149, R244,
R245, R246, R247, R249, R254, R256, R260, R266) -/
def Obligations.BarrierCarriesCommandsAndKeys : Prop :=
  ∀ (s : State) (now : Nat),
    let v := later s now
    let f := v.lio.field
    let w := v.lio.vital
    let dark := fun (g : FieldSide) => ∀ n, outOn g n = false ∧ tripOn g n = false
    (vitalOn v = false → ∀ d : DownIn, exec (.barrierDownstreamFrame d now) s = .next (if fieldRuns f = true then
        { v with lio := { v.lio with field := { f with lossRun := f.lossRun + 1 } } } else v))
    ∧ (vitalOn v = true → ∀ d : DownIn, ∃ t, exec (.barrierDownstreamFrame d now) s = .next t
        ∧ t.lio.vital.downSeq = (w.downSeq + 1) % 65536 ∧ t.sent = v.sent ++ [.barrierDown w.downSeq]
        ∧ t.lio.vital.restart = false ∧ t.lio.vital.test = 0 ∧ t = { v with sent := t.sent, lio := t.lio }
        ∧ (fieldRuns f = false → t.lio.field = f)
        ∧ (fieldRuns f = true → d.fault ≠ .arrives → t.lio.field = { f with lossRun := f.lossRun + 1 }
            ∧ t.lio.vital.lost = satAdd 65535 1 w.lost)
        ∧ (fieldRuns f = true → d.fault = .arrives →
            t.lio.field.lossRun = 0 ∧ t.lio.field.downSeq = some w.downSeq ∧ t.lio.field.barrierLost = false
            ∧ t.lio.field.drive = driveBit v
            ∧ (driveBit v = false ∨ w.restart = true ∨ w.kzero = true → t.lio.field.hold = .restart ∧ dark t.lio.field)
            ∧ (∀ c, tripMask v c = true → c < 4 → tripOn t.lio.field c = false)
            ∧ (w.current = none ∨ w.stopped = true ∨ (∀ m, w.current = some m → m.frame ≤ f.lastF ∧ m.frame ≤ f.lastF2) →
                ∀ n, outOn t.lio.field n = true → outOn { f with fence := false } n = true)
            ∧ (∀ m st, w.current = some m → w.stopped = false → v.mzp = some st → f.hold ≠ .restart → f.keyed = true →
                driveBit v = true → w.restart = false → w.kzero = false → 3 * w.keys.length ≤ w.kseg →
                d.f1Discards = false → d.f2Discards = false → locAccepted v m = true → f.lastF < m.frame → f.lastF2 < m.frame →
                t.lio.field.hold = .live ∧ t.lio.field.holdFrom = some v.now
                ∧ t.lio.field.lastF = m.frame ∧ t.lio.field.lastF2 = m.frame
                ∧ (∀ n, outOn t.lio.field n = true → n ∈ energised st m)
                ∧ (∀ n o, f.outs[n]? = some o → n ∈ energised st m → f.x2Ok = true → o.locked = false → groupOk f (n / 8) = true →
                    f.suplatch = false → f.fence = false → w.fence = false → outOn t.lio.field n = true)
                ∧ ∀ c, m.trips[c]? ≠ some true → tripOn t.lio.field c = false)))
    ∧ (∀ m st, f.cmd = some m → v.mzp = some st →
        let ends := f.hold = .restart ∧ 3 ≤ f.succ ∧ f.drive = true ∧ f.keyed = true ∧ f.restartAt = none
        (¬ ends → exec (.restartEnd now) s = .next v)
        ∧ (ends → ∃ t, exec (.restartEnd now) s = .next t ∧ t = { v with lio := { v.lio with field := t.lio.field } }
            ∧ t.lio.field.hold = .live ∧ t.lio.field.holdFrom = some v.now ∧ t.lio.field.succ = 0
            ∧ ∀ n, outOn t.lio.field n = true → n ∈ energised st m))
    ∧ (∀ a, f.hold = .live → f.holdFrom = some a →
        (v.now < a + 10000 * fieldOf v.cfg.dpxCtl 8 8 → exec (.toffeeExpiry now) s = .next v)
        ∧ (a + 10000 * fieldOf v.cfg.dpxCtl 8 8 ≤ v.now → ∃ t, exec (.toffeeExpiry now) s = .next t
            ∧ t = { v with lio := { v.lio with field := t.lio.field } } ∧ t.lio.field.hold = .expired ∧ dark t.lio.field
            ∧ t.lio.field.lastF = f.lastF ∧ t.lio.field.keyed = f.keyed ∧ t.lio.field.ins = f.ins))
    ∧ (vitalOn v = false → ∀ fault : LinkFault, exec (.barrierUpstreamFrame fault now) s = .next v)
    ∧ (vitalOn v = true → ∀ fault : LinkFault,
        (fieldRuns f = false ∨ fault ≠ .arrives → ∃ t, exec (.barrierUpstreamFrame fault now) s = .next t
            ∧ t = { v with lio := { v.lio with vital := { w with
                lossRun := w.lossRun + 1, lost := satAdd 65535 1 w.lost, crcErr := t.lio.vital.crcErr } } })
        ∧ (fieldRuns f = true → fault = .arrives → ∃ t, exec (.barrierUpstreamFrame fault now) s = .next t
            ∧ t.lio.vital.up = formUp v ∧ t.lio.vital.lossRun = 0 ∧ t.lio.vital.barrierLost = false ∧ t.lio.vital.linkUp = true
            ∧ isLive t .lio lBARRIER = false ∧ t.lio.field = { f with upSeq := (f.upSeq + 1) % 65536 }
            ∧ t.sent = v.sent ++ [.barrierUp f.upSeq]
            ∧ (isLive t .lio lSUPPLY = true ↔ f.suplatch = true ∨ f.x2 < 1920 ∨ 3000 < f.x2)
            ∧ (isLive t .lio lTOFFEE_EXP = true ↔ f.hold = .expired)
            ∧ ∀ (p : Prt) (n : Nat) (gd : GuardDef) (g : GuardBlk), v.prt = some p → p.guards[n]? = some gd → v.prl.guards[n]? = some g →
              (sevOf v.cfg .prl pGUARD_TRIP).code < 2 → (sevOf v.cfg .prl pGUARD_FAULT).code < 2 →
              let k := gd.pair / 2
              let more := fun (m : Nat) (a b : List Nat) => ((b[k]?).getD 0 + m - (a[k]?).getD 0) % m
              let up := formUp v
              let add := (if gd.dir = 0 then more 65536 w.up.cnt0 up.cnt0 else more 65536 w.up.cnt1 up.cnt1) + more 256 w.up.seqe up.seqe
              ∃ h : GuardBlk, t.prl.guards[n]? = some h
                ∧ (g.armed = true → h.count = g.count + add)
                ∧ (g.armed = true → gd.thr ≤ g.count + add → h.tripped = true ∧ h.armed = false ∧ (g.tripped = false → isLive t .prl pGUARD_TRIP = true))
                ∧ (g.armed = true → g.count + add < gd.thr → h.tripped = g.tripped ∧ h.armed = true)
                ∧ (g.armed = false → h.count = g.count ∧ h.tripped = g.tripped ∧ h.armed = false)))
    ∧ (w.lossRun < 2 ∨ vitalOn v = false → exec (.barrierLoss true now) s = .next v)
    ∧ (vitalOn v = true → 2 ≤ w.lossRun → ∃ t, exec (.barrierLoss true now) s = .next t ∧ isLive t .lio lBARRIER = true ∧ t.lio.vital.barrierLost = true
        ∧ RaiseFrame { v with lio := { v.lio with vital := { w with barrierLost := true } } } t)
    ∧ (f.lossRun < 2 ∨ fieldRuns f = false → exec (.barrierLoss false now) s = .next v)
    ∧ (fieldRuns f = true → 2 ≤ f.lossRun → ∃ t, exec (.barrierLoss false now) s = .next t
        ∧ t = { v with lio := { v.lio with field := { f with barrierLost := true, trips := t.lio.field.trips } } }
        ∧ (∀ c, tripOn t.lio.field c = false)
        ∧ ∀ (c : Nat) b, f.trips[c]? = some b → b.degraded = true → b.app = true → ∃ k, t.lio.field.trips[c]? = some k ∧ k.locked = true)
    ∧ (∀ a, w.ksentAt = some a → w.keys ≠ [] → 3 * w.keys.length ≤ w.kseg →
        let done := w.up.keyed = true ∧ w.up.kseg + 1 = 3 * w.keys.length
        (v.now < a + 2000 ∨ done → exec (.keyRoundRepeat now) s = .next v)
        ∧ (a + 2000 ≤ v.now → ¬ done → exec (.keyRoundRepeat now) s =
            .next { v with lio := { v.lio with vital := { w with kseg := 0, ksentAt := none } } }))

/-- For a field side that runs and an input of the variant. A change to the restrictive reading, or on a counting
input, is the input's value at once; a permissive one waits FILT × 0.25 ms from when it came. Contacts that disagree
for the channel's time fault both inputs, and 1 s restrictive together clears that. A passage over a counting pair,
A then both then B then none, each at least 16 µs, adds one to the count of its direction and nothing to the errors;
a change of both levels at once, or after less than 16 µs, is one sequence error; a pair counted singly adds one at
each rising level; a pair that does not count stays. Comparators that disagree fault every input of the bank until a
location test; on a counting input that is a sequence error too. A failed shunt test faults its input, unless a
location test is asked for in its bank. A location test faults the inputs it finds, and clears the bank where it
finds none. No other input changes. (R250, R251, R252, R253, R266) -/
def Obligations.InputsAreFilteredCountedAndTested : Prop :=
  ∀ (s : State) (now : Nat),
    let v := later s now
    let f := v.lio.field
    let only := fun (t : State) (ns : List Nat) => t = { v with lio := { v.lio with field := t.lio.field } }
      ∧ (∀ m, m ∉ ns → t.lio.field.ins[m]? = f.ins[m]?) ∧ t.lio.field.outs = f.outs ∧ t.lio.field.trips = f.trips
      ∧ t.lio.field.hold = f.hold
    (fieldRuns f = true → ∀ n i level, n < nInputs v → f.ins[n]? = some i → ∃ t k, exec (.inputChange n level now) s = .next t
        ∧ only t [n] ∧ t.lio.field.ins[n]? = some k ∧ k.level = level ∧ k.cmp1 = level ∧ k.cmp2 = level
        ∧ (isCounting (inputCfg v n).mode = true ∨ level = restrReading v n ∨ (inputCfg v n).filt = 0 → k.value = level)
        ∧ (isCounting (inputCfg v n).mode = false → level ≠ restrReading v n → (inputCfg v n).filt ≠ 0 → i.value ≠ level →
            k.value = i.value ∧ k.since = some (i.since.getD v.now)))
    ∧ (∀ n i a, f.ins[n]? = some i → i.since = some a →
        (v.now < a + 250 * (inputCfg v n).filt → exec (.filtExpiry n now) s = .next v)
        ∧ (a + 250 * (inputCfg v n).filt ≤ v.now → ∃ t, exec (.filtExpiry n now) s = .next t ∧ only t [n]
            ∧ t.lio.field.ins[n]? = some { i with value := i.level, since := none }))
    ∧ (∀ k ch i j, f.chans[k]? = some ch → f.ins[2 * k]? = some i → f.ins[2 * k + 1]? = some j →
        let both := fun (c : Instr) (on : Bool) => ∃ t, exec c s = .next t ∧ only t [2 * k, 2 * k + 1]
          ∧ t.lio.field.ins[2 * k]? = some { i with discFault := on }
          ∧ t.lio.field.ins[2 * k + 1]? = some { j with discFault := on }
        (∀ a, ch.disSince = some a → (v.now < a + 10000 * (inputCfg v (2 * k)).disc → exec (.discrepancyExpiry k now) s = .next v)
          ∧ (a + 10000 * (inputCfg v (2 * k)).disc ≤ v.now → both (.discrepancyExpiry k now) true))
        ∧ (∀ a, ch.restrSince = some a → (v.now < a + 1000000 → exec (.discrepancyFaultClear k now) s = .next v)
          ∧ (a + 1000000 ≤ v.now → both (.discrepancyFaultClear k now) false)))
    ∧ (fieldRuns f = true → ∀ k b, k < nPairs v → f.pairs[k]? = some b → (inputCfg v (2 * k)).mode = .paired →
        b.cur = (false, false) → b.entry = none → b.bad = false →
        (∀ d1 d2 d3 d4, 16 ≤ d1 → 16 ≤ d2 → 16 ≤ d3 → 16 ≤ d4 →
          (∃ t, exec (.axleCount k [(true, false, d1), (true, true, d2), (false, true, d3), (false, false, d4)] now) s = .next t
            ∧ only t [] ∧ t.lio.field.pairs[k]? = some { b with cnt0 := (b.cnt0 + 1) % 65536 })
          ∧ ∃ t, exec (.axleCount k [(false, true, d1), (true, true, d2), (true, false, d3), (false, false, d4)] now) s = .next t
            ∧ only t [] ∧ t.lio.field.pairs[k]? = some { b with cnt1 := (b.cnt1 + 1) % 65536 })
        ∧ (∀ x y d, (x, y) ≠ (false, false) → d < 16 ∨ (x, y) = (true, true) → ∃ t h,
            exec (.axleCount k [(x, y, d)] now) s = .next t ∧ only t [] ∧ t.lio.field.pairs[k]? = some h
            ∧ h.seqe = (b.seqe + 1) % 256 ∧ h.bad = true ∧ h.cnt0 = b.cnt0 ∧ h.cnt1 = b.cnt1))
    ∧ (fieldRuns f = true → ∀ k b d, k < nPairs v → f.pairs[k]? = some b → (inputCfg v (2 * k)).mode = .countSingle →
        b.cur = (false, false) → b.bad = false → 16 ≤ d →
        (∃ t h, exec (.axleCount k [(true, false, d)] now) s = .next t ∧ only t [] ∧ t.lio.field.pairs[k]? = some h
          ∧ h.cnt0 = (b.cnt0 + 1) % 65536 ∧ h.cnt1 = b.cnt1 ∧ h.seqe = b.seqe)
        ∧ ∃ t h, exec (.axleCount k [(false, true, d)] now) s = .next t ∧ only t [] ∧ t.lio.field.pairs[k]? = some h
          ∧ h.cnt1 = (b.cnt1 + 1) % 65536 ∧ h.cnt0 = b.cnt0 ∧ h.seqe = b.seqe)
    ∧ (∀ k levels, isCounting (inputCfg v (2 * k)).mode = false → exec (.axleCount k levels now) s = .next v)
    ∧ (fieldRuns f = true → ∀ n i, n < nInputs v → f.ins[n]? = some i → f.ibf.length = 4 → f.ibTested.length = 4 →
        ∃ t, exec (.comparatorDisagreement n now) s = .next t ∧ only t [n]
          ∧ (∀ m, m / 8 = n / 8 → inputFault t.lio.field m = true) ∧ t.lio.field.ibf = f.ibf.set (n / 8) true
          ∧ t.lio.field.ibTested = f.ibTested.set (n / 8) false
          ∧ (isCounting (inputCfg v n).mode = true → ∀ b, f.pairs[n / 2]? = some b →
              t.lio.field.pairs[n / 2]? = some { b with seqe := (b.seqe + 1) % 256, bad := true })
          ∧ (isCounting (inputCfg v n).mode = false → t.lio.field.pairs = f.pairs))
    ∧ (fieldRuns s.lio.field = true → ∀ n i, n < nInputs s → s.lio.field.ins[n]? = some i →
        (s.lio.field.locating = some (n / 8) → exec (.shuntTest n false) s = .next s)
        ∧ exec (.shuntTest n true) s = .next s
        ∧ (s.lio.field.locating ≠ some (n / 8) → exec (.shuntTest n false) s = .next { s with lio := { s.lio with
            field := { s.lio.field with ins := s.lio.field.ins.set n { i with shuntFault := true } } } }))
    ∧ (fieldRuns s.lio.field = true → ∀ (bank : Nat) (bad : List Nat),
        (s.lio.field.locating ≠ some bank → ∀ aborted, exec (.locationTest bank bad aborted) s = .next s)
        ∧ (s.lio.field.locating = some bank →
          exec (.locationTest bank bad true) s = .next { s with lio := { s.lio with
            field := { s.lio.field with locating := none, tresBank := bank, tres := 2 } } }
          ∧ ∃ t, exec (.locationTest bank bad false) s = .next t ∧ t.lio.field.locating = none ∧ t.lio.field.tresBank = bank
            ∧ t.lio.field.ibTested = s.lio.field.ibTested.set bank true
            ∧ (∀ (n : Nat) i, s.lio.field.ins[n]? = some i →
                t.lio.field.ins[n]? = some { i with located := i.located || decide (n ∈ bad ∧ n / 8 = bank) })
            ∧ ((∀ n ∈ bad, n / 8 ≠ bank) → t.lio.field.tres = 0 ∧ t.lio.field.ibf = s.lio.field.ibf.set bank false)
            ∧ ((∃ n ∈ bad, n / 8 = bank) → t.lio.field.tres = 1 ∧ t.lio.field.ibf = s.lio.field.ibf)
            ∧ t = { s with lio := { s.lio with field := t.lio.field } }))

/-- For a field side that runs. Each off-pulse leaves on its output; a failed one, and a switch or current fault,
locks the output off with code 3. A short opens the bank's group switch, and with it every output or trip channel of
the bank; 1 ms later it is classified code 1 or 2. A trip channel's test locks it, or makes it DEGRADED, or changes
nothing; DEGX follows DEGT later, and 1 s after it the channel still energised is opened and, being DEGRADED,
locked. X2 out of 19.2 to 30 V with anything on, or opened by a hold's end within 10 ms, opens everything and
latches; otherwise a sag is noted and opens nothing. A further fault in a bank already opened is only recorded.
Losing X2 switches a UX-4810's field side off; its return starts it in RESTART; below range, a UX-4820 runs on
without supply; 1 s within 20.4 to 30 V applies what was held. A UX-4820's converter out of its limits holds the
field side in reset and raises CONVERTER, its recovery starts it again. The end of the restart tests clears the
latches but for what the tests found. (R248, R257, R258, R259, R260, R261, R262, R263, R442) -/
def Obligations.OutputFaultsAndSupplyOpenSwitches : Prop :=
  ∀ (s : State) (now : Nat),
    let v := later s now
    let f := v.lio.field
    let field := fun (g : FieldSide) => { v with lio := { v.lio with field := g } }
    let others := fun (t : State) (n : Nat) => (∀ m, m ≠ n → t.lio.field.outs[m]? = f.outs[m]?) ∧ t.lio.field.trips = f.trips
    let dark := fun (g : FieldSide) => ∀ n, outOn g n = false ∧ tripOn g n = false
    (fieldRuns f = true →
      (∀ n o, n < nOutputs v → f.outs[n]? = some o →
        let locked := fun (t : State) => t.lio.field.outs[n]? = some { o with app := false, locked := true, code := 3 }
          ∧ others t n ∧ outOn t.lio.field n = false ∧ t.lio.field.oflt = (n, 3)
        exec (.offPulse n true now) s = .next { v with sent := v.sent ++ [.switchTest n] }
        ∧ (∃ t, exec (.offPulse n false now) s = .next t ∧ locked t ∧ t.sent = v.sent ++ [.switchTest n])
        ∧ (groupOk f (n / 8) = true → ∃ t, exec (.outputFault n false false now) s = .next t ∧ locked t ∧ t = field t.lio.field)
        ∧ (groupOk f (n / 8) = true → ∃ t, exec (.outputFault n false true now) s = .next t ∧ t = field t.lio.field
            ∧ groupOk t.lio.field (n / 8) = false ∧ (∀ m, m / 8 = n / 8 → outOn t.lio.field m = false)
            ∧ (n < 8 → t.lio.field.openAt0 = some v.now ∧ t.lio.field.openOut0 = some n)
            ∧ (8 ≤ n → t.lio.field.openAt1 = some v.now ∧ t.lio.field.openOut1 = some n))
        ∧ (groupOk f (n / 8) = false → ∀ short, exec (.outputFault n false short now) s = .next (field { f with oflt := (n, o.code) })))
      ∧ (∀ c b, c < nTrips v → f.trips[c]? = some b →
        let opened := fun (t : State) (k : TripBlk) => t = field { f with trips := f.trips.set c k }
        let shut := { b with f1 := false, f2 := false, app := false, locked := true }
        exec (.tripChannelTest c .pass now) s = .next v
        ∧ (∃ t, exec (.tripChannelTest c .locked now) s = .next t ∧ opened t shut ∧ tripOn t.lio.field c = false)
        ∧ (b.degraded = true → exec (.tripChannelTest c .degraded now) s = .next v)
        ∧ (b.degraded = false → ∃ t, exec (.tripChannelTest c .degraded now) s = .next t
            ∧ opened t { b with degraded := true, degSince := some v.now, locked := b.locked || !tripOn f c })
        ∧ (f.grpT = true → ∃ t, exec (.outputFault c true false now) s = .next t ∧ opened t shut)
        ∧ (f.grpT = true → ∃ t, exec (.outputFault c true true now) s = .next t ∧ t = field t.lio.field
            ∧ t.lio.field.grpT = false ∧ t.lio.field.openAtT = some v.now ∧ t.lio.field.openOutT = some c
            ∧ ∀ k, tripOn t.lio.field k = false)
        ∧ (f.grpT = false → ∀ short, exec (.outputFault c true short now) s = .next v))
      ∧ (∀ x2,
          let g := { f with x2 := x2, x2Ok := f.x2Ok && decide (2040 ≤ x2 ∧ x2 ≤ 3000) }
          let lit := anythingOn f = true ∨ ∃ a, f.openedAt = some a ∧ v.now < a + 10000
          (1920 ≤ x2 ∧ x2 ≤ 3000 ∨ ¬ lit → exec (.supplySag x2 now) s = .next (field g))
          ∧ (x2 < 1920 ∨ 3000 < x2 → lit → ∃ t, exec (.supplySag x2 now) s = .next t ∧ t = field t.lio.field
              ∧ t.lio.field.x2 = x2 ∧ t.lio.field.x2Ok = false ∧ dark t.lio.field ∧ t.lio.field.suplatch = true))
      ∧ (f.restartAt ≠ none → ∀ res : RestartTests, ∃ t, exec (.restartTestsEnd res now) s = .next t ∧ t = field t.lio.field
          ∧ t.lio.field.hold = .restart ∧ t.lio.field.restartAt = none ∧ t.lio.field.suplatch = false ∧ t.lio.field.fence = false
          ∧ t.lio.field.selfTestBad = res.selfTestBad ∧ dark t.lio.field
          ∧ (t.lio.field.grp0 = true ↔ 0 ∉ res.badBanks) ∧ (t.lio.field.grp1 = true ↔ 1 ∉ res.badBanks)
          ∧ (t.lio.field.grpT = true ↔ 2 ∉ res.badBanks)
          ∧ (∀ (n : Nat) o, t.lio.field.outs[n]? = some o → (o.locked = true ↔ n ∈ res.badOutputs))
          ∧ (∀ (c : Nat) k, t.lio.field.trips[c]? = some k → (k.locked = true ↔ c ∈ res.badTrips))
          ∧ ∀ (n : Nat) i, t.lio.field.ins[n]? = some i → (i.shuntFault = true ↔ n ∈ res.badInputs)))
    ∧ (∀ (c : Nat) b a, f.trips[c]? = some b → b.degSince = some a → b.degraded = true → b.degx = false →
        (v.now < a + 60000000 * fieldOf v.cfg.lioCtl 8 8 → exec (.degx c now) s = .next v)
        ∧ (a + 60000000 * fieldOf v.cfg.lioCtl 8 8 ≤ v.now → exec (.degx c now) s =
            .next (field { f with trips := f.trips.set c { b with degx := true, degxAt := some v.now } })))
    ∧ (∀ (c : Nat) b a, f.trips[c]? = some b → b.degxAt = some a →
        let shut := { b with f1 := false, f2 := false, app := false, locked := b.locked || (b.degraded && b.app) }
        (v.now < a + 1000000 ∨ tripOn f c = false → exec (.degxOpen c now) s = .next v)
        ∧ (a + 1000000 ≤ v.now → tripOn f c = true →
            exec (.degxOpen c now) s = .next (field { f with trips := f.trips.set c shut })))
    ∧ (∀ a n o high, f.openAt0 = some a → f.openOut0 = some n → f.outs[n]? = some o →
        (v.now < a + 1000 → exec (.faultClassification 0 high now) s = .next v)
        ∧ (a + 1000 ≤ v.now → ∃ t, exec (.faultClassification 0 high now) s = .next t ∧ t = field t.lio.field
            ∧ t.lio.field.openAt0 = none ∧ t.lio.field.outs[n]? = some { o with code := if high = true then 1 else 2 }
            ∧ t.lio.field.oflt = (n, if high = true then 1 else 2) ∧ others t n))
    ∧ (∀ a n o high, f.openAt1 = some a → f.openOut1 = some n → f.outs[n]? = some o →
        (v.now < a + 1000 → exec (.faultClassification 1 high now) s = .next v)
        ∧ (a + 1000 ≤ v.now → ∃ t, exec (.faultClassification 1 high now) s = .next t ∧ t = field t.lio.field
            ∧ t.lio.field.openAt1 = none ∧ t.lio.field.outs[n]? = some { o with code := if high = true then 1 else 2 }
            ∧ t.lio.field.oflt = (n, if high = true then 1 else 2) ∧ others t n))
    ∧ (∀ a n high, f.openAtT = some a → f.openOutT = some n → a + 1000 ≤ v.now →
        exec (.faultClassification 2 high now) s = .next (field { f with openAtT := none }))
    ∧ (∃ t, exec (.x2Loss now) s = .next t ∧ t = field t.lio.field ∧ t.lio.field.x2 = 0 ∧ t.lio.field.x2Ok = false
        ∧ (v.sys.variant = 0x10 → t.lio.field.powered = false ∧ t.lio.field.keyed = false ∧ t.lio.field.hold = .restart ∧ dark t.lio.field)
        ∧ (v.sys.variant ≠ 0x10 → t.lio.field = { f with x2 := 0, x2Ok := false }))
    ∧ (∀ x2, ∃ t, exec (.x2Return x2 now) s = .next t ∧ t = field t.lio.field ∧ t.lio.field.x2 = x2
        ∧ (v.sys.variant = 0x10 → f.powered = false → 1600 ≤ x2 → t.lio.field.powered = true ∧ t.lio.field.hold = .restart
            ∧ t.lio.field.keyed = false ∧ t.lio.field.lastF = 0 ∧ t.lio.field.lastF2 = 0 ∧ dark t.lio.field
            ∧ t.lio.field.suplatch = f.suplatch)
        ∧ (v.sys.variant ≠ 0x10 ∨ f.powered = true ∨ x2 < 1600 →
            t.lio.field = { f with x2 := x2, x2Ok := f.x2Ok && decide (2040 ≤ x2 ∧ x2 ≤ 3000) }))
    ∧ (∀ x2, (x2 < 2040 ∨ 3000 < x2 → exec (.x2WithinRange x2 now) s = .next v)
        ∧ (2040 ≤ x2 → x2 ≤ 3000 → ∃ t, exec (.x2WithinRange x2 now) s = .next t ∧ t = field t.lio.field
            ∧ t.lio.field.x2Ok = true ∧ t.lio.field.x2 = x2
            ∧ (∀ (n : Nat) o, f.outs[n]? = some o → t.lio.field.outs[n]? = some { o with app := o.app || (o.f1 && o.f2) })
            ∧ ∀ (c : Nat) k, f.trips[c]? = some k → t.lio.field.trips[c]? = some { k with app := k.app || (k.f1 && k.f2) }))
    ∧ (v.sys.variant = 0x10 → exec (.converter now) s = .next v)
    ∧ (v.sys.variant ≠ 0x10 → ∃ t, exec (.converter now) s = .next t ∧ isLive t .lio lCONVERTER = true
        ∧ t.lio.vital.converterBad = true ∧ t.lio.field.inReset = true ∧ t.lio.field.keyed = false ∧ dark t.lio.field)
    ∧ (v.sys.variant = 0x10 ∨ v.lio.vital.converterBad = false ∧ f.inReset = false → exec (.converterRecovery now) s = .next v)
    ∧ (v.sys.variant ≠ 0x10 → v.lio.vital.converterBad = true ∨ f.inReset = true → ∃ t, exec (.converterRecovery now) s = .next t ∧ isLive t .lio lCONVERTER = false
        ∧ t.lio.vital.converterBad = false ∧ t.lio.field.inReset = false ∧ t.lio.field.suplatch = f.suplatch
        ∧ (f.powered = true → t.lio.field.hold = .restart ∧ dark t.lio.field)
        ∧ t = { v with faults := t.faults, lio := { field := t.lio.field, vital := { v.lio.vital with converterBad := false } } })

/-! ## Packets -/

/-- For a connector that listens, and a whole datagram (two fragments that join give one; a first fragment waits 1
s). An unknown sender is discarded with UNKNOWN_SRC live. Of a known one: a bad header is discarded and counted; a
wrong LEN gets BAD_LEN, a bad CRC BAD_CRC, another DST is discarded, another SRC gets NOT_AUTH, an undefined opcode
BAD_OPC, each only where every check before it passes; so do a class, lifecycle or session that does not allow it
its status, and SAFETY not zero in a packet that is not vital BAD_SAFETY, once in a frame. Such a packet that passes
has the effect of its own command, as IDENTITY shows; one that acts on the vital domain, as COMMIT, waits in CMD_IN
where it is taken, and is refused for room as a vital one is. A vital request already answered gets its stored
reply, one in progress is dropped; outside ACTIVE and ALONE it is dropped; without room QUEUE_FULL is raised; else
it waits in CMD_IN and as pending, alone where the copies of a pointer of CMD_IN differ. A pending request ends
after FRESH + 8 frames. A partner silent for its time raises PARTNER_SILENT. A connector that does not listen
changes nothing. (R269, R270, R272, R273, R275, R280, R282, R286, R295, R296, R310, R311) -/
def Obligations.PacketsPassTheChecksInOrder : Prop :=
  ∀ (s : State) (d : DatagramIn) (env : StartEnv) (now : Nat),
    let v := later s now
    let bs := d.data
    let p := pktOf bs
    let go := exec (.datagram d env now) s
    let dropped := fun (t : State) => t = { v with cmd := { v.cmd with ports := t.cmd.ports, otherErr := t.cmd.otherErr } }
    (connListens v d.conn = false → go = .next v)
    ∧ (connListens v d.conn = true → d.frag = none →
      (senderEntry? v d = none → opensWithout v d p = false → ∃ t, go = .next t ∧ isLive t .cmd cUNKNOWN_SRC = true
        ∧ t.cmd.otherErr = satAdd 65535 1 v.cmd.otherErr
        ∧ RaiseFrame { v with cmd := { v.cmd with ports := t.cmd.ports, otherErr := t.cmd.otherErr, unknownAt := some v.now } } t)
      ∧ ∀ n, senderEntry? v d = some n →
        let q := partnerAt v n
        let src := srcOf n p
        let request := isUnsolicited p.opc = false
        let h2 := 28 ≤ bs.length ∧ fieldAt bs 0 2 = 0xC3A5 ∧ (fieldAt bs 2 1 = 2 ∨ (fieldAt bs 2 1 = 1 ∧ q.flags % 2 = 1))
        let h3 := fieldAt bs 6 2 ≤ 8192 ∧ bs.length = 28 + fieldAt bs 6 2
        let h4 := (unCrc? bs).isSome = true
        let h5 := p.dst = ownAddr v.cfg ∨ (p.dst = ownPair v.cfg * 2048 + 0x300 ∧ (v.dpx.role = .active ∨ v.dpx.role = .alone))
        let h6 := q.addr = p.src
        let h7 := opcodeOk v q p = true
        let wait : Pending := { entry := n, seq := p.seq, safety := p.safety, tag := p.tag, frame := v.core.counter, ip := d.ip, udpp := d.udpp }
        let waits : QItem := { iseq := v.xbr.q0.nextSeq, conn := d.conn, data := bs, ip := d.ip, udpp := d.udpp }
        let tells := fun (st : Status) => ∃ t, go = .next t ∧ Replies v t src p.opc st []
        (¬ h2 → ∃ t, go = .next t ∧ dropped t ∧ t.cmd.otherErr = satAdd 65535 1 v.cmd.otherErr)
        ∧ (h2 → ¬ h3 → request → tells .badLen)
        ∧ (h2 → h3 → ¬ h4 → request → ∃ t, go = .next t
            ∧ Replies { v with cmd := { v.cmd with crcErr := satAdd 65535 1 v.cmd.crcErr } } t src p.opc .badCrc [])
        ∧ (h2 → h3 → h4 → ¬ h5 → ∃ t, go = .next t ∧ dropped t)
        ∧ (h2 → h3 → h4 → h5 → ¬ h6 → request → tells .notAuth)
        ∧ (h2 → h3 → h4 → h5 → h6 → ¬ h7 → request → tells .badOpc)
        ∧ (h2 → h3 → h4 → h5 → h6 → h7 → request →
          (∀ st, gateOf v src p.opc = .answer st → classOf p.opc = .vital → tells st)
          ∧ (gateOf v src p.opc = .pass →
            (classOf p.opc ≠ .vital → p.safety ≠ 0 →
              (n ∉ v.cmd.badSafety → ∃ t, go = .next t ∧ t.sent = v.sent ++ [.packet (replyPacket v src p.opc .badSafety [])]
                ∧ n ∈ t.cmd.badSafety ∧ t.xbr = v.xbr ∧ t.core = v.core ∧ t.cfg = v.cfg)
              ∧ (n ∈ v.cmd.badSafety → ∃ t, go = .next t ∧ t.sent = v.sent ∧ t.xbr = v.xbr ∧ t.core = v.core ∧ t.cfg = v.cfg))
            ∧ (p.safety = 0 → p.payload = [] →
                let counted := updFirst (·.conn == d.conn) (fun c : PortCount => { c with received := (c.received + 1) % 2 ^ 32 }) v.cmd.ports
                let u := { v with cmd := { v.cmd with ports := counted } }
                (p.opc = 0x50 → go = exec (.identity src) u)
                ∧ (p.opc = 0x84 →
                  (lanesTake v = false ∨ v.xbr.fenced = true → go = exec (.commit src) u)
                  ∧ (lanesTake v = true → v.xbr.fenced = false → pointersAgree v.xbr.q0 = true → ∃ t, go = .next t ∧ t.xbr.cpend = v.xbr.cpend ∧ t.sent = v.sent
                    ∧ (queueRoom v.xbr 0 bs.length = true → t = { hearFrom u n with xbr := t.xbr }
                        ∧ t.xbr.q0.items = v.xbr.q0.items ++ [waits])
                    ∧ (queueRoom v.xbr 0 bs.length = false → t.xbr.q0 = v.xbr.q0 ∧ isLive t .cmd cQUEUE_FULL = true))))
            ∧ (classOf p.opc = .vital →
              let same := fun (seq safety entry : Nat) => entry = n ∧ seq = p.seq ∧ safety = p.safety
              (∀ r, v.cmd.stored.find? (fun r => r.entry == n && r.seq == p.seq && r.safety == p.safety) = some r →
                ∃ t, go = .next t ∧ t.sent = v.sent ++ [.packet { conn := q.conn, ip := q.ip, udpp := q.udpp, data := r.reply }]
                  ∧ t.cmd.dup = satAdd 65535 1 v.cmd.dup ∧ t.xbr = v.xbr ∧ t.cmd.pend = v.cmd.pend)
              ∧ ((∀ r ∈ v.cmd.stored, ¬ same r.seq r.safety r.entry) →
                ((∃ r ∈ v.cmd.pend, same r.seq r.safety r.entry) → ∃ t, go = .next t ∧ t.sent = v.sent ∧ t.xbr = v.xbr
                    ∧ t.cmd.dup = satAdd 65535 1 v.cmd.dup ∧ t.cmd.pend = v.cmd.pend)
                ∧ ((∀ r ∈ v.cmd.pend, ¬ same r.seq r.safety r.entry) →
                  (v.dpx.role ≠ .active → v.dpx.role ≠ .alone → ∃ t, go = .next t ∧ dropped t)
                  ∧ (v.dpx.role = .active ∨ v.dpx.role = .alone → v.xbr.fenced = false → pointersAgree v.xbr.q0 = false →
                    ∃ t, go = .next t ∧ t.xbr.q0.items = [waits] ∧ t.cmd.pend = [wait] ∧ t.xbr.sawQptr = true)
                  ∧ (v.dpx.role = .active ∨ v.dpx.role = .alone → v.xbr.fenced = false → pointersAgree v.xbr.q0 = true →
                    (queueRoom v.xbr 0 bs.length = false → ∃ t, go = .next t ∧ isLive t .cmd cQUEUE_FULL = true
                      ∧ t.cmd.full = satAdd 65535 1 v.cmd.full ∧ t.sent = v.sent ∧ t.xbr.q0 = v.xbr.q0 ∧ t.cmd.pend = v.cmd.pend)
                    ∧ (queueRoom v.xbr 0 bs.length = true → ∃ t, go = .next t
                      ∧ t.xbr.q0.items = v.xbr.q0.items ++ [waits]
                      ∧ t = { v with xbr := { v.xbr with q0 := t.xbr.q0 }, cmd := { v.cmd with ports := t.cmd.ports, pend := v.cmd.pend ++ [wait] } }))))))))
    ∧ (connListens v d.conn = true → ∀ ident,
        let live := v.cmd.reassembly.filter fun r => v.now < r.startedAt + 1000000
        let one := fun (r : Reassembly) => sameAssembly d ident r
        let put := fun (u : State) (rs : List Reassembly) => { u with cmd := { u.cmd with reassembly := rs } }
        (∀ a, live.find? one = none → (live.filter (·.conn == d.conn)).length < 8 → a.length ≤ 8220 →
          let begun : Reassembly :=
            { conn := d.conn, ip := d.ip, udpp := d.udpp, ident := ident, startedAt := v.now, parts := [(0, a)], total := none }
          exec (.datagram { d with data := a, frag := some (ident, 0, true) } env now) s = .next (put v (live ++ [begun])))
        ∧ (∀ r a b, live.find? one = some r → r.parts = [(0, a)] → r.total = none → a ≠ [] → b ≠ [] → a.length + b.length ≤ 8220 →
            exec (.datagram { d with data := b, frag := some (ident, a.length, false) } env now) s
              = exec (.datagram { d with data := a ++ b, frag := none } env now) (put s (live.filter fun r => !one r))))
    ∧ (∀ conn ident,
        let left := v.cmd.reassembly.filter fun r => !(r.conn == conn && r.ident == ident && decide (r.startedAt + 1000000 ≤ v.now))
        exec (.reassemblyTimeout conn ident now) s = .next { v with cmd := { v.cmd with reassembly := left } })
    ∧ (∀ entry seq, ∃ t, exec (.pendingExpiry entry seq) s = .next t ∧ t = { s with cmd := { s.cmd with pend := t.cmd.pend } }
        ∧ ∀ r, r ∈ t.cmd.pend ↔ r ∈ s.cmd.pend
            ∧ ¬ (r.entry = entry ∧ r.seq = seq ∧ r.frame + fieldOf s.cfg.cmdCtl 0 8 + 8 ≤ s.core.counter))
    ∧ (∀ entry, let q := tableEntry v entry
        let last := ((v.cmd.heard.find? (·.1 == entry)).map (·.2)).getD 0
        let due := q.addr ≠ 0xFFFF ∧ q.silent ≠ 0 ∧ last + 1000000 * q.silent ≤ v.now ∧ entry ∉ v.cmd.silent
        (¬ due → exec (.partnerSilent entry now) s = .next v)
        ∧ (due → ∃ t, exec (.partnerSilent entry now) s = .next t ∧ isLive t .cmd cPARTNER_SILENT = true
            ∧ RaiseFrame { v with cmd := { v.cmd with silent := entry :: v.cmd.silent } } t))
end

