-- ==== Sys2Proof/Laws/State.lean ====
section
/-! SUPPORT. What the named updates of State leave: one lemma for each field of each update, so that no proof unfolds a
record update. -/

namespace Sys2Proof.Machine

open Sys2Proof

/-! ## Time -/

@[simp] theorem later_now (s : State) (t : Nat) : (later s t).now = max s.now t := rfl
@[simp] theorem later_cfg (s : State) (t : Nat) : (later s t).cfg = s.cfg := rfl
@[simp] theorem later_staged (s : State) (t : Nat) : (later s t).staged = s.staged := rfl
@[simp] theorem later_stagedPartners (s : State) (t : Nat) : (later s t).stagedPartners = s.stagedPartners := rfl
@[simp] theorem later_faults (s : State) (t : Nat) : (later s t).faults = s.faults := rfl
@[simp] theorem later_frm (s : State) (t : Nat) : (later s t).frm = s.frm := rfl
@[simp] theorem later_vot (s : State) (t : Nat) : (later s t).vot = s.vot := rfl
@[simp] theorem later_bst (s : State) (t : Nat) : (later s t).bst = s.bst := rfl
@[simp] theorem later_prl (s : State) (t : Nat) : (later s t).prl = s.prl := rfl
@[simp] theorem later_frn0 (s : State) (t : Nat) : (later s t).frn0 = s.frn0 := rfl
@[simp] theorem later_frn1 (s : State) (t : Nat) : (later s t).frn1 = s.frn1 := rfl
@[simp] theorem later_lio (s : State) (t : Nat) : (later s t).lio = s.lio := rfl
@[simp] theorem later_cmd (s : State) (t : Nat) : (later s t).cmd = s.cmd := rfl
@[simp] theorem later_xbr (s : State) (t : Nat) : (later s t).xbr = s.xbr := rfl
@[simp] theorem later_dpx (s : State) (t : Nat) : (later s t).dpx = s.dpx := rfl
@[simp] theorem later_upd (s : State) (t : Nat) : (later s t).upd = s.upd := rfl
@[simp] theorem later_evr (s : State) (t : Nat) : (later s t).evr = s.evr := rfl
@[simp] theorem later_pwr (s : State) (t : Nat) : (later s t).pwr = s.pwr := rfl
@[simp] theorem later_sec (s : State) (t : Nat) : (later s t).sec = s.sec := rfl
@[simp] theorem later_sys (s : State) (t : Nat) : (later s t).sys = s.sys := rfl
@[simp] theorem later_mzp (s : State) (t : Nat) : (later s t).mzp = s.mzp := rfl
@[simp] theorem later_prt (s : State) (t : Nat) : (later s t).prt = s.prt := rfl
@[simp] theorem later_core (s : State) (t : Nat) : (later s t).core = s.core := rfl
@[simp] theorem later_work (s : State) (t : Nat) : (later s t).work = s.work := rfl
@[simp] theorem later_image (s : State) (t : Nat) : (later s t).image = s.image := rfl
@[simp] theorem later_sent (s : State) (t : Nat) : (later s t).sent = s.sent := rfl
@[simp] theorem later_free (s : State) (t : Nat) : (later s t).free = s.free := rfl
@[simp] theorem later_pending (s : State) (t : Nat) : (later s t).pending = s.pending := rfl

/-! ## The interlocking state, committed and proposed -/

@[simp] theorem updInter_now (s : State) (f : Inter → Inter) : (updInter s f).now = s.now := rfl
@[simp] theorem updInter_cfg (s : State) (f : Inter → Inter) : (updInter s f).cfg = s.cfg := rfl
@[simp] theorem updInter_staged (s : State) (f : Inter → Inter) : (updInter s f).staged = s.staged := rfl
@[simp] theorem updInter_stagedPartners (s : State) (f : Inter → Inter) : (updInter s f).stagedPartners = s.stagedPartners := rfl
@[simp] theorem updInter_faults (s : State) (f : Inter → Inter) : (updInter s f).faults = s.faults := rfl
@[simp] theorem updInter_frm (s : State) (f : Inter → Inter) : (updInter s f).frm = s.frm := rfl
@[simp] theorem updInter_vot (s : State) (f : Inter → Inter) : (updInter s f).vot = s.vot := rfl
@[simp] theorem updInter_bst (s : State) (f : Inter → Inter) : (updInter s f).bst = s.bst := rfl
@[simp] theorem updInter_prl (s : State) (f : Inter → Inter) : (updInter s f).prl = s.prl := rfl
@[simp] theorem updInter_frn0 (s : State) (f : Inter → Inter) : (updInter s f).frn0 = s.frn0 := rfl
@[simp] theorem updInter_frn1 (s : State) (f : Inter → Inter) : (updInter s f).frn1 = s.frn1 := rfl
@[simp] theorem updInter_lio (s : State) (f : Inter → Inter) : (updInter s f).lio = s.lio := rfl
@[simp] theorem updInter_cmd (s : State) (f : Inter → Inter) : (updInter s f).cmd = s.cmd := rfl
@[simp] theorem updInter_xbr (s : State) (f : Inter → Inter) : (updInter s f).xbr = s.xbr := rfl
@[simp] theorem updInter_dpx (s : State) (f : Inter → Inter) : (updInter s f).dpx = s.dpx := rfl
@[simp] theorem updInter_upd (s : State) (f : Inter → Inter) : (updInter s f).upd = s.upd := rfl
@[simp] theorem updInter_evr (s : State) (f : Inter → Inter) : (updInter s f).evr = s.evr := rfl
@[simp] theorem updInter_pwr (s : State) (f : Inter → Inter) : (updInter s f).pwr = s.pwr := rfl
@[simp] theorem updInter_sec (s : State) (f : Inter → Inter) : (updInter s f).sec = s.sec := rfl
@[simp] theorem updInter_sys (s : State) (f : Inter → Inter) : (updInter s f).sys = s.sys := rfl
@[simp] theorem updInter_mzp (s : State) (f : Inter → Inter) : (updInter s f).mzp = s.mzp := rfl
@[simp] theorem updInter_prt (s : State) (f : Inter → Inter) : (updInter s f).prt = s.prt := rfl
@[simp] theorem updInter_core (s : State) (f : Inter → Inter) : (updInter s f).core = f s.core := rfl
@[simp] theorem updInter_work (s : State) (f : Inter → Inter) : (updInter s f).work = s.work.map f := rfl
@[simp] theorem updInter_image (s : State) (f : Inter → Inter) : (updInter s f).image = s.image := rfl
@[simp] theorem updInter_sent (s : State) (f : Inter → Inter) : (updInter s f).sent = s.sent := rfl
@[simp] theorem updInter_free (s : State) (f : Inter → Inter) : (updInter s f).free = s.free := rfl
@[simp] theorem updInter_pending (s : State) (f : Inter → Inter) : (updInter s f).pending = s.pending := rfl

/-! ## A change of the state that the frame proposes -/

@[simp] theorem onWork_now (s : State) (f : Inter → Inter) : (onWork s f).now = s.now := rfl
@[simp] theorem onWork_cfg (s : State) (f : Inter → Inter) : (onWork s f).cfg = s.cfg := rfl
@[simp] theorem onWork_staged (s : State) (f : Inter → Inter) : (onWork s f).staged = s.staged := rfl
@[simp] theorem onWork_stagedPartners (s : State) (f : Inter → Inter) : (onWork s f).stagedPartners = s.stagedPartners := rfl
@[simp] theorem onWork_faults (s : State) (f : Inter → Inter) : (onWork s f).faults = s.faults := rfl
@[simp] theorem onWork_frm (s : State) (f : Inter → Inter) : (onWork s f).frm = s.frm := rfl
@[simp] theorem onWork_vot (s : State) (f : Inter → Inter) : (onWork s f).vot = s.vot := rfl
@[simp] theorem onWork_bst (s : State) (f : Inter → Inter) : (onWork s f).bst = s.bst := rfl
@[simp] theorem onWork_prl (s : State) (f : Inter → Inter) : (onWork s f).prl = s.prl := rfl
@[simp] theorem onWork_frn0 (s : State) (f : Inter → Inter) : (onWork s f).frn0 = s.frn0 := rfl
@[simp] theorem onWork_frn1 (s : State) (f : Inter → Inter) : (onWork s f).frn1 = s.frn1 := rfl
@[simp] theorem onWork_lio (s : State) (f : Inter → Inter) : (onWork s f).lio = s.lio := rfl
@[simp] theorem onWork_cmd (s : State) (f : Inter → Inter) : (onWork s f).cmd = s.cmd := rfl
@[simp] theorem onWork_xbr (s : State) (f : Inter → Inter) : (onWork s f).xbr = s.xbr := rfl
@[simp] theorem onWork_dpx (s : State) (f : Inter → Inter) : (onWork s f).dpx = s.dpx := rfl
@[simp] theorem onWork_upd (s : State) (f : Inter → Inter) : (onWork s f).upd = s.upd := rfl
@[simp] theorem onWork_evr (s : State) (f : Inter → Inter) : (onWork s f).evr = s.evr := rfl
@[simp] theorem onWork_pwr (s : State) (f : Inter → Inter) : (onWork s f).pwr = s.pwr := rfl
@[simp] theorem onWork_sec (s : State) (f : Inter → Inter) : (onWork s f).sec = s.sec := rfl
@[simp] theorem onWork_sys (s : State) (f : Inter → Inter) : (onWork s f).sys = s.sys := rfl
@[simp] theorem onWork_mzp (s : State) (f : Inter → Inter) : (onWork s f).mzp = s.mzp := rfl
@[simp] theorem onWork_prt (s : State) (f : Inter → Inter) : (onWork s f).prt = s.prt := rfl
@[simp] theorem onWork_core (s : State) (f : Inter → Inter) : (onWork s f).core = s.core := rfl
@[simp] theorem onWork_work (s : State) (f : Inter → Inter) : (onWork s f).work = s.work.map f := rfl
@[simp] theorem onWork_image (s : State) (f : Inter → Inter) : (onWork s f).image = s.image := rfl
@[simp] theorem onWork_sent (s : State) (f : Inter → Inter) : (onWork s f).sent = s.sent := rfl
@[simp] theorem onWork_free (s : State) (f : Inter → Inter) : (onWork s f).free = s.free := rfl
@[simp] theorem onWork_pending (s : State) (f : Inter → Inter) : (onWork s f).pending = s.pending := rfl

/-! ## The vital side of the local I/O -/

@[simp] theorem updVital_now (s : State) (f : LioVital → LioVital) : (updVital s f).now = s.now := rfl
@[simp] theorem updVital_cfg (s : State) (f : LioVital → LioVital) : (updVital s f).cfg = s.cfg := rfl
@[simp] theorem updVital_staged (s : State) (f : LioVital → LioVital) : (updVital s f).staged = s.staged := rfl
@[simp] theorem updVital_stagedPartners (s : State) (f : LioVital → LioVital) : (updVital s f).stagedPartners = s.stagedPartners := rfl
@[simp] theorem updVital_faults (s : State) (f : LioVital → LioVital) : (updVital s f).faults = s.faults := rfl
@[simp] theorem updVital_frm (s : State) (f : LioVital → LioVital) : (updVital s f).frm = s.frm := rfl
@[simp] theorem updVital_vot (s : State) (f : LioVital → LioVital) : (updVital s f).vot = s.vot := rfl
@[simp] theorem updVital_bst (s : State) (f : LioVital → LioVital) : (updVital s f).bst = s.bst := rfl
@[simp] theorem updVital_prl (s : State) (f : LioVital → LioVital) : (updVital s f).prl = s.prl := rfl
@[simp] theorem updVital_frn0 (s : State) (f : LioVital → LioVital) : (updVital s f).frn0 = s.frn0 := rfl
@[simp] theorem updVital_frn1 (s : State) (f : LioVital → LioVital) : (updVital s f).frn1 = s.frn1 := rfl
@[simp] theorem updVital_lio (s : State) (f : LioVital → LioVital) : (updVital s f).lio = { s.lio with vital := f s.lio.vital } := rfl
@[simp] theorem updVital_cmd (s : State) (f : LioVital → LioVital) : (updVital s f).cmd = s.cmd := rfl
@[simp] theorem updVital_xbr (s : State) (f : LioVital → LioVital) : (updVital s f).xbr = s.xbr := rfl
@[simp] theorem updVital_dpx (s : State) (f : LioVital → LioVital) : (updVital s f).dpx = s.dpx := rfl
@[simp] theorem updVital_upd (s : State) (f : LioVital → LioVital) : (updVital s f).upd = s.upd := rfl
@[simp] theorem updVital_evr (s : State) (f : LioVital → LioVital) : (updVital s f).evr = s.evr := rfl
@[simp] theorem updVital_pwr (s : State) (f : LioVital → LioVital) : (updVital s f).pwr = s.pwr := rfl
@[simp] theorem updVital_sec (s : State) (f : LioVital → LioVital) : (updVital s f).sec = s.sec := rfl
@[simp] theorem updVital_sys (s : State) (f : LioVital → LioVital) : (updVital s f).sys = s.sys := rfl
@[simp] theorem updVital_mzp (s : State) (f : LioVital → LioVital) : (updVital s f).mzp = s.mzp := rfl
@[simp] theorem updVital_prt (s : State) (f : LioVital → LioVital) : (updVital s f).prt = s.prt := rfl
@[simp] theorem updVital_core (s : State) (f : LioVital → LioVital) : (updVital s f).core = s.core := rfl
@[simp] theorem updVital_work (s : State) (f : LioVital → LioVital) : (updVital s f).work = s.work := rfl
@[simp] theorem updVital_image (s : State) (f : LioVital → LioVital) : (updVital s f).image = s.image := rfl
@[simp] theorem updVital_sent (s : State) (f : LioVital → LioVital) : (updVital s f).sent = s.sent := rfl
@[simp] theorem updVital_free (s : State) (f : LioVital → LioVital) : (updVital s f).free = s.free := rfl
@[simp] theorem updVital_pending (s : State) (f : LioVital → LioVital) : (updVital s f).pending = s.pending := rfl

/-! ## The field side -/

@[simp] theorem updField_now (s : State) (f : FieldSide → FieldSide) : (updField s f).now = s.now := rfl
@[simp] theorem updField_cfg (s : State) (f : FieldSide → FieldSide) : (updField s f).cfg = s.cfg := rfl
@[simp] theorem updField_staged (s : State) (f : FieldSide → FieldSide) : (updField s f).staged = s.staged := rfl
@[simp] theorem updField_stagedPartners (s : State) (f : FieldSide → FieldSide) : (updField s f).stagedPartners = s.stagedPartners := rfl
@[simp] theorem updField_faults (s : State) (f : FieldSide → FieldSide) : (updField s f).faults = s.faults := rfl
@[simp] theorem updField_frm (s : State) (f : FieldSide → FieldSide) : (updField s f).frm = s.frm := rfl
@[simp] theorem updField_vot (s : State) (f : FieldSide → FieldSide) : (updField s f).vot = s.vot := rfl
@[simp] theorem updField_bst (s : State) (f : FieldSide → FieldSide) : (updField s f).bst = s.bst := rfl
@[simp] theorem updField_prl (s : State) (f : FieldSide → FieldSide) : (updField s f).prl = s.prl := rfl
@[simp] theorem updField_frn0 (s : State) (f : FieldSide → FieldSide) : (updField s f).frn0 = s.frn0 := rfl
@[simp] theorem updField_frn1 (s : State) (f : FieldSide → FieldSide) : (updField s f).frn1 = s.frn1 := rfl
@[simp] theorem updField_lio (s : State) (f : FieldSide → FieldSide) : (updField s f).lio = { s.lio with field := f s.lio.field } := rfl
@[simp] theorem updField_cmd (s : State) (f : FieldSide → FieldSide) : (updField s f).cmd = s.cmd := rfl
@[simp] theorem updField_xbr (s : State) (f : FieldSide → FieldSide) : (updField s f).xbr = s.xbr := rfl
@[simp] theorem updField_dpx (s : State) (f : FieldSide → FieldSide) : (updField s f).dpx = s.dpx := rfl
@[simp] theorem updField_upd (s : State) (f : FieldSide → FieldSide) : (updField s f).upd = s.upd := rfl
@[simp] theorem updField_evr (s : State) (f : FieldSide → FieldSide) : (updField s f).evr = s.evr := rfl
@[simp] theorem updField_pwr (s : State) (f : FieldSide → FieldSide) : (updField s f).pwr = s.pwr := rfl
@[simp] theorem updField_sec (s : State) (f : FieldSide → FieldSide) : (updField s f).sec = s.sec := rfl
@[simp] theorem updField_sys (s : State) (f : FieldSide → FieldSide) : (updField s f).sys = s.sys := rfl
@[simp] theorem updField_mzp (s : State) (f : FieldSide → FieldSide) : (updField s f).mzp = s.mzp := rfl
@[simp] theorem updField_prt (s : State) (f : FieldSide → FieldSide) : (updField s f).prt = s.prt := rfl
@[simp] theorem updField_core (s : State) (f : FieldSide → FieldSide) : (updField s f).core = s.core := rfl
@[simp] theorem updField_work (s : State) (f : FieldSide → FieldSide) : (updField s f).work = s.work := rfl
@[simp] theorem updField_image (s : State) (f : FieldSide → FieldSide) : (updField s f).image = s.image := rfl
@[simp] theorem updField_sent (s : State) (f : FieldSide → FieldSide) : (updField s f).sent = s.sent := rfl
@[simp] theorem updField_free (s : State) (f : FieldSide → FieldSide) : (updField s f).free = s.free := rfl
@[simp] theorem updField_pending (s : State) (f : FieldSide → FieldSide) : (updField s f).pending = s.pending := rfl

/-! ## A cluster -/

@[simp] theorem setFrn_now (s : State) (c : Cluster) (f : FrnBlk → FrnBlk) : (setFrn s c f).now = s.now := by cases c <;> rfl
@[simp] theorem setFrn_cfg (s : State) (c : Cluster) (f : FrnBlk → FrnBlk) : (setFrn s c f).cfg = s.cfg := by cases c <;> rfl
@[simp] theorem setFrn_staged (s : State) (c : Cluster) (f : FrnBlk → FrnBlk) : (setFrn s c f).staged = s.staged := by cases c <;> rfl
@[simp] theorem setFrn_stagedPartners (s : State) (c : Cluster) (f : FrnBlk → FrnBlk) : (setFrn s c f).stagedPartners = s.stagedPartners := by cases c <;> rfl
@[simp] theorem setFrn_faults (s : State) (c : Cluster) (f : FrnBlk → FrnBlk) : (setFrn s c f).faults = s.faults := by cases c <;> rfl
@[simp] theorem setFrn_frm (s : State) (c : Cluster) (f : FrnBlk → FrnBlk) : (setFrn s c f).frm = s.frm := by cases c <;> rfl
@[simp] theorem setFrn_vot (s : State) (c : Cluster) (f : FrnBlk → FrnBlk) : (setFrn s c f).vot = s.vot := by cases c <;> rfl
@[simp] theorem setFrn_bst (s : State) (c : Cluster) (f : FrnBlk → FrnBlk) : (setFrn s c f).bst = s.bst := by cases c <;> rfl
@[simp] theorem setFrn_prl (s : State) (c : Cluster) (f : FrnBlk → FrnBlk) : (setFrn s c f).prl = s.prl := by cases c <;> rfl
@[simp] theorem setFrn_lio (s : State) (c : Cluster) (f : FrnBlk → FrnBlk) : (setFrn s c f).lio = s.lio := by cases c <;> rfl
@[simp] theorem setFrn_cmd (s : State) (c : Cluster) (f : FrnBlk → FrnBlk) : (setFrn s c f).cmd = s.cmd := by cases c <;> rfl
@[simp] theorem setFrn_xbr (s : State) (c : Cluster) (f : FrnBlk → FrnBlk) : (setFrn s c f).xbr = s.xbr := by cases c <;> rfl
@[simp] theorem setFrn_dpx (s : State) (c : Cluster) (f : FrnBlk → FrnBlk) : (setFrn s c f).dpx = s.dpx := by cases c <;> rfl
@[simp] theorem setFrn_upd (s : State) (c : Cluster) (f : FrnBlk → FrnBlk) : (setFrn s c f).upd = s.upd := by cases c <;> rfl
@[simp] theorem setFrn_evr (s : State) (c : Cluster) (f : FrnBlk → FrnBlk) : (setFrn s c f).evr = s.evr := by cases c <;> rfl
@[simp] theorem setFrn_pwr (s : State) (c : Cluster) (f : FrnBlk → FrnBlk) : (setFrn s c f).pwr = s.pwr := by cases c <;> rfl
@[simp] theorem setFrn_sec (s : State) (c : Cluster) (f : FrnBlk → FrnBlk) : (setFrn s c f).sec = s.sec := by cases c <;> rfl
@[simp] theorem setFrn_sys (s : State) (c : Cluster) (f : FrnBlk → FrnBlk) : (setFrn s c f).sys = s.sys := by cases c <;> rfl
@[simp] theorem setFrn_mzp (s : State) (c : Cluster) (f : FrnBlk → FrnBlk) : (setFrn s c f).mzp = s.mzp := by cases c <;> rfl
@[simp] theorem setFrn_prt (s : State) (c : Cluster) (f : FrnBlk → FrnBlk) : (setFrn s c f).prt = s.prt := by cases c <;> rfl
@[simp] theorem setFrn_core (s : State) (c : Cluster) (f : FrnBlk → FrnBlk) : (setFrn s c f).core = s.core := by cases c <;> rfl
@[simp] theorem setFrn_work (s : State) (c : Cluster) (f : FrnBlk → FrnBlk) : (setFrn s c f).work = s.work := by cases c <;> rfl
@[simp] theorem setFrn_image (s : State) (c : Cluster) (f : FrnBlk → FrnBlk) : (setFrn s c f).image = s.image := by cases c <;> rfl
@[simp] theorem setFrn_sent (s : State) (c : Cluster) (f : FrnBlk → FrnBlk) : (setFrn s c f).sent = s.sent := by cases c <;> rfl
@[simp] theorem setFrn_free (s : State) (c : Cluster) (f : FrnBlk → FrnBlk) : (setFrn s c f).free = s.free := by cases c <;> rfl
@[simp] theorem setFrn_pending (s : State) (c : Cluster) (f : FrnBlk → FrnBlk) : (setFrn s c f).pending = s.pending := by cases c <;> rfl

@[simp] theorem setFrn_same (s : State) (c : Cluster) (f : FrnBlk → FrnBlk) : frnOf (setFrn s c f) c = f (frnOf s c) := by
  cases c <;> rfl

@[simp] theorem setFrn_c0_other (s : State) (f : FrnBlk → FrnBlk) : (setFrn s .c0 f).frn1 = s.frn1 := rfl
@[simp] theorem setFrn_c1_other (s : State) (f : FrnBlk → FrnBlk) : (setFrn s .c1 f).frn0 = s.frn0 := rfl

/-! ## The next free value -/

@[simp] theorem takeFree_now (s : State) : ((takeFree s).2).now = s.now := rfl
@[simp] theorem takeFree_cfg (s : State) : ((takeFree s).2).cfg = s.cfg := rfl
@[simp] theorem takeFree_staged (s : State) : ((takeFree s).2).staged = s.staged := rfl
@[simp] theorem takeFree_stagedPartners (s : State) : ((takeFree s).2).stagedPartners = s.stagedPartners := rfl
@[simp] theorem takeFree_faults (s : State) : ((takeFree s).2).faults = s.faults := rfl
@[simp] theorem takeFree_frm (s : State) : ((takeFree s).2).frm = s.frm := rfl
@[simp] theorem takeFree_vot (s : State) : ((takeFree s).2).vot = s.vot := rfl
@[simp] theorem takeFree_bst (s : State) : ((takeFree s).2).bst = s.bst := rfl
@[simp] theorem takeFree_prl (s : State) : ((takeFree s).2).prl = s.prl := rfl
@[simp] theorem takeFree_frn0 (s : State) : ((takeFree s).2).frn0 = s.frn0 := rfl
@[simp] theorem takeFree_frn1 (s : State) : ((takeFree s).2).frn1 = s.frn1 := rfl
@[simp] theorem takeFree_lio (s : State) : ((takeFree s).2).lio = s.lio := rfl
@[simp] theorem takeFree_cmd (s : State) : ((takeFree s).2).cmd = s.cmd := rfl
@[simp] theorem takeFree_xbr (s : State) : ((takeFree s).2).xbr = s.xbr := rfl
@[simp] theorem takeFree_dpx (s : State) : ((takeFree s).2).dpx = s.dpx := rfl
@[simp] theorem takeFree_upd (s : State) : ((takeFree s).2).upd = s.upd := rfl
@[simp] theorem takeFree_evr (s : State) : ((takeFree s).2).evr = s.evr := rfl
@[simp] theorem takeFree_pwr (s : State) : ((takeFree s).2).pwr = s.pwr := rfl
@[simp] theorem takeFree_sec (s : State) : ((takeFree s).2).sec = s.sec := rfl
@[simp] theorem takeFree_sys (s : State) : ((takeFree s).2).sys = s.sys := rfl
@[simp] theorem takeFree_mzp (s : State) : ((takeFree s).2).mzp = s.mzp := rfl
@[simp] theorem takeFree_prt (s : State) : ((takeFree s).2).prt = s.prt := rfl
@[simp] theorem takeFree_core (s : State) : ((takeFree s).2).core = s.core := rfl
@[simp] theorem takeFree_work (s : State) : ((takeFree s).2).work = s.work := rfl
@[simp] theorem takeFree_image (s : State) : ((takeFree s).2).image = s.image := rfl
@[simp] theorem takeFree_sent (s : State) : ((takeFree s).2).sent = s.sent := rfl
@[simp] theorem takeFree_free (s : State) : ((takeFree s).2).free = s.free + 1 := rfl
@[simp] theorem takeFree_pending (s : State) : ((takeFree s).2).pending = s.pending := rfl

/-! ## Lanes, tests, instances -/

@[simp] theorem setLane_same (v : VotBlk) (l : Lane) (f : LaneBlk → LaneBlk) : laneOf (setLane v l f) l = f (laneOf v l) := by
  cases l <;> rfl

theorem setLane_other (v : VotBlk) (l k : Lane) (f : LaneBlk → LaneBlk) (h : k ≠ l) : laneOf (setLane v l f) k = laneOf v k := by
  cases l <;> cases k <;> first | rfl | exact absurd rfl h

@[simp] theorem setTest_same (b : BstBlk) (l : Lane) (f : LaneTest → LaneTest) : testOf (setTest b l f) l = f (testOf b l) := by
  cases l <;> rfl

theorem setTest_other (b : BstBlk) (l k : Lane) (f : LaneTest → LaneTest) (h : k ≠ l) : testOf (setTest b l f) k = testOf b k := by
  cases l <;> cases k <;> first | rfl | exact absurd rfl h

@[simp] theorem setInst_same (p : PrlBlk) (i : Inst) (f : InstBlk → InstBlk) : instOf (setInst p i f) i = f (instOf p i) := by
  cases i <;> rfl

/-! ## Queues and fault sub-blocks -/

theorem setQueue_same (x : XbrBlk) (q : Nat) (f : Queue → Queue) (h : q ≤ 5) : queueOf (setQueue x q f) q = f (queueOf x q) := by
  match q, h with
  | 0, _ => rfl
  | 1, _ => rfl
  | 2, _ => rfl
  | 3, _ => rfl
  | 4, _ => rfl
  | 5, _ => rfl

@[simp] theorem setFault_same (fs : Faults) (b : Blk) (f : FaultBlk) : faultOf (setFault fs b f) b = f := by
  cases b <;> rfl

theorem setFault_other (fs : Faults) (b c : Blk) (f : FaultBlk) (h : c ≠ b) : faultOf (setFault fs b f) c = faultOf fs c := by
  cases b <;> cases c <;> first | rfl | exact absurd rfl h

/-! ## The step -/

/-- With a command at the front of the queue the step is that command on the state with the rest. -/
theorem step_cons (s : State) (c : Instr) (rest : List Instr) (h : s.pending = c :: rest) :
    step s = exec c { s with pending := rest } := by
  simp only [step, h]

theorem step_nil (s : State) (h : s.pending = []) : step s = .next s := by
  simp only [step, h]

end Sys2Proof.Machine
end

