-- ==== Sys2Proof/Laws/Ops.lean ====
section
/-! SUPPORT. What the shared operations of Machine/Ops.lean can do, said once for each: none touches the queue of commands or the
configuration, every one keeps the sticky bits over the live ones, and none leaves a frame in progress in a stopped
module. A lemma about faults has its premise on the state before; simp discharges it through nested operations with a
greater discharge depth. -/

namespace Sys2Proof.Machine

open Sys2Proof Sys2Proof.Safety

/-! ## Fault sub-blocks -/

/-- A sub-block whose sticky bits cover its live ones. -/
def Covered (g : FaultBlk) : Prop := ∀ n, g.live.getLsbD n = true → g.latch.getLsbD n = true

@[simp] theorem latched_setFault (fs : Faults) (b : Blk) (g : FaultBlk) (h : LatchedFaults fs) (hg : Covered g) :
    LatchedFaults (setFault fs b g) := by
  intro c n
  by_cases hc : c = b
  · subst hc
    rw [setFault_same]
    exact hg n
  · rw [setFault_other _ _ _ _ hc]
    exact h c n

@[simp] theorem covered_keep (fs : Faults) (b : Blk) (i : Word) (o : List (Nat × Nat × Nat)) (h : LatchedFaults fs) :
    Covered { live := (faultOf fs b).live, latch := (faultOf fs b).latch, ien := i, told := o } := fun n => h b n

@[simp] theorem covered_raise (fs : Faults) (b : Blk) (x : BitVec 16) (i : Word) (o : List (Nat × Nat × Nat)) (h : LatchedFaults fs) :
    Covered { live := (faultOf fs b).live ||| x, latch := (faultOf fs b).latch ||| x, ien := i, told := o } := by
  intro n
  have := h b n
  simp only [BitVec.getLsbD_or, Bool.or_eq_true]
  tauto

@[simp] theorem covered_lower (fs : Faults) (b : Blk) (x : BitVec 16) (i : Word) (o : List (Nat × Nat × Nat)) (h : LatchedFaults fs) :
    Covered { live := (faultOf fs b).live &&& x, latch := (faultOf fs b).latch, ien := i, told := o } := by
  intro n
  have := h b n
  simp only [BitVec.getLsbD_and, Bool.and_eq_true]
  tauto

/-- The bit of a source. -/
theorem srcBit_get (n k : Nat) (hk : k < 16) : (srcBit n).getLsbD k = decide (n = k) := by
  rw [srcBit, ← BitVec.testBit_toNat, BitVec.toNat_ofNat, Nat.testBit_mod_two_pow, Nat.testBit_two_pow]
  simp [hk]

/-- A sticky bit that is cleared while its source is not live. -/
@[simp] theorem covered_clear (s : State) (b : Blk) (n : Nat) (i : Word) (o : List (Nat × Nat × Nat)) (h : LatchedFaults s.faults)
    (hn : isLive s b n = false) :
    Covered { live := (faultOf s.faults b).live, latch := (faultOf s.faults b).latch &&& ~~~srcBit n, ien := i, told := o } := by
  intro k hk
  have h1 := h b k hk
  have hlt : k < 16 := BitVec.lt_of_getLsbD hk
  have hne : n ≠ k := by
    intro e
    subst e
    have e2 : isLive s b n = true := hk
    rw [e2] at hn
    cases hn
  have h2 : (srcBit n).getLsbD k = false := by rw [srcBit_get _ _ hlt]; exact decide_eq_false hne
  simp only [BitVec.getLsbD_and, BitVec.getLsbD_not, h1, h2, hlt, decide_true, Bool.not_false, Bool.and_self]

@[simp] theorem foldl_pending {α : Type} (f : State → α → State) (hf : ∀ s a, (f s a).pending = s.pending) (l : List α) (s : State) :
    (l.foldl f s).pending = s.pending := by
  induction l generalizing s with
  | nil => rfl
  | cons a l ih => rw [List.foldl_cons, ih, hf]

@[simp] theorem foldl_latched {α : Type} (f : State → α → State) (hf : ∀ s a, LatchedFaults s.faults → LatchedFaults (f s a).faults)
    (l : List α) (s : State) (h : LatchedFaults s.faults) : LatchedFaults (l.foldl f s).faults := by
  induction l generalizing s with
  | nil => exact h
  | cons a l ih => exact ih _ (hf _ _ h)

@[simp] theorem foldl_quiet {α : Type} (f : State → α → State)
    (hf : ∀ s a, QuietAt s.sys.stopped s.work → QuietAt (f s a).sys.stopped (f s a).work) (l : List α) (s : State)
    (h : QuietAt s.sys.stopped s.work) : QuietAt (l.foldl f s).sys.stopped (l.foldl f s).work := by
  induction l generalizing s with
  | nil => exact h
  | cons a l ih => exact ih _ (hf _ _ h)

@[simp] theorem quietAt_none (b : Bool) : QuietAt b none := fun _ => rfl

@[simp] theorem quietAt_map (b : Bool) (w : Option Inter) (f : Inter → Inter) : QuietAt b (w.map f) ↔ QuietAt b w := by
  cases w <;> simp [QuietAt]

/-! ## The operations -/

@[simp] theorem startFlush_pending (s : State) : (startFlush s).pending = s.pending := by
  unfold startFlush <;> (try dsimp only) <;> (repeat' split) <;> simp_all (config := { maxDischargeDepth := 30, implicitDefEqProofs := false })

@[simp] theorem startFlush_cfg (s : State) : (startFlush s).cfg = s.cfg := by
  unfold startFlush <;> (try dsimp only) <;> (repeat' split) <;> simp_all (config := { maxDischargeDepth := 30, implicitDefEqProofs := false })

@[simp] theorem startFlush_latched (s : State) (h : LatchedFaults s.faults) : LatchedFaults (startFlush s).faults := by
  unfold startFlush <;> (try dsimp only) <;> (repeat' split) <;> simp_all (config := { maxDischargeDepth := 30, implicitDefEqProofs := false })

@[simp] theorem startFlush_quiet (s : State) (h : QuietAt s.sys.stopped s.work) : QuietAt (startFlush s).sys.stopped (startFlush s).work := by
  unfold startFlush <;> (try dsimp only) <;> (repeat' split) <;> simp_all (config := { maxDischargeDepth := 30, implicitDefEqProofs := false })

@[simp] theorem loseRec_pending (s : State) : (loseRec s).pending = s.pending := by
  unfold loseRec <;> (try dsimp only) <;> (repeat' split) <;> simp_all (config := { maxDischargeDepth := 30, implicitDefEqProofs := false })

@[simp] theorem loseRec_cfg (s : State) : (loseRec s).cfg = s.cfg := by
  unfold loseRec <;> (try dsimp only) <;> (repeat' split) <;> simp_all (config := { maxDischargeDepth := 30, implicitDefEqProofs := false })

@[simp] theorem loseRec_latched (s : State) (h : LatchedFaults s.faults) : LatchedFaults (loseRec s).faults := by
  unfold loseRec <;> (try dsimp only) <;> (repeat' split) <;> simp_all (config := { maxDischargeDepth := 30, implicitDefEqProofs := false })

@[simp] theorem loseRec_quiet (s : State) (h : QuietAt s.sys.stopped s.work) : QuietAt (loseRec s).sys.stopped (loseRec s).work := by
  unfold loseRec <;> (try dsimp only) <;> (repeat' split) <;> simp_all (config := { maxDischargeDepth := 30, implicitDefEqProofs := false })

@[simp] theorem bufferRec_pending (s : State) (t : Nat) (r : Rec) : (bufferRec s t r).pending = s.pending := by
  unfold bufferRec <;> (try dsimp only) <;> (repeat' split) <;> simp_all (config := { maxDischargeDepth := 30, implicitDefEqProofs := false })

@[simp] theorem bufferRec_cfg (s : State) (t : Nat) (r : Rec) : (bufferRec s t r).cfg = s.cfg := by
  unfold bufferRec <;> (try dsimp only) <;> (repeat' split) <;> simp_all (config := { maxDischargeDepth := 30, implicitDefEqProofs := false })

@[simp] theorem bufferRec_latched (s : State) (t : Nat) (r : Rec) (h : LatchedFaults s.faults) : LatchedFaults (bufferRec s t r).faults := by
  unfold bufferRec <;> (try dsimp only) <;> (repeat' split) <;> simp_all (config := { maxDischargeDepth := 30, implicitDefEqProofs := false })

@[simp] theorem bufferRec_quiet (s : State) (t : Nat) (r : Rec) (h : QuietAt s.sys.stopped s.work) : QuietAt (bufferRec s t r).sys.stopped (bufferRec s t r).work := by
  unfold bufferRec <;> (try dsimp only) <;> (repeat' split) <;> simp_all (config := { maxDischargeDepth := 30, implicitDefEqProofs := false })

@[simp] theorem tellOne_pending (n whr : Nat) (s : State) : (tellOne n whr s).pending = s.pending := by
  unfold tellOne <;> (try dsimp only) <;> (repeat' split) <;> simp_all (config := { maxDischargeDepth := 30, implicitDefEqProofs := false })

@[simp] theorem tellOne_cfg (n whr : Nat) (s : State) : (tellOne n whr s).cfg = s.cfg := by
  unfold tellOne <;> (try dsimp only) <;> (repeat' split) <;> simp_all (config := { maxDischargeDepth := 30, implicitDefEqProofs := false })

@[simp] theorem tellOne_latched (n whr : Nat) (s : State) (h : LatchedFaults s.faults) : LatchedFaults (tellOne n whr s).faults := by
  unfold tellOne <;> (try dsimp only) <;> (repeat' split) <;> simp_all (config := { maxDischargeDepth := 30, implicitDefEqProofs := false })

@[simp] theorem tellOne_quiet (n whr : Nat) (s : State) (h : QuietAt s.sys.stopped s.work) : QuietAt (tellOne n whr s).sys.stopped (tellOne n whr s).work := by
  unfold tellOne <;> (try dsimp only) <;> (repeat' split) <;> simp_all (config := { maxDischargeDepth := 30, implicitDefEqProofs := false })

@[simp] theorem tellLoss_pending (s : State) : (tellLoss s).pending = s.pending := by
  unfold tellLoss <;> (try dsimp only) <;> (repeat' split) <;> simp_all (config := { maxDischargeDepth := 30, implicitDefEqProofs := false })

@[simp] theorem tellLoss_cfg (s : State) : (tellLoss s).cfg = s.cfg := by
  unfold tellLoss <;> (try dsimp only) <;> (repeat' split) <;> simp_all (config := { maxDischargeDepth := 30, implicitDefEqProofs := false })

@[simp] theorem tellLoss_latched (s : State) (h : LatchedFaults s.faults) : LatchedFaults (tellLoss s).faults := by
  unfold tellLoss <;> (try dsimp only) <;> (repeat' split) <;> simp_all (config := { maxDischargeDepth := 30, implicitDefEqProofs := false })

@[simp] theorem tellLoss_quiet (s : State) (h : QuietAt s.sys.stopped s.work) : QuietAt (tellLoss s).sys.stopped (tellLoss s).work := by
  unfold tellLoss <;> (try dsimp only) <;> (repeat' split) <;> simp_all (config := { maxDischargeDepth := 30, implicitDefEqProofs := false })

@[simp] theorem svcRec_pending (s : State) (ty sev : Nat) (body : Bytes) : (svcRec s ty sev body).pending = s.pending := by
  unfold svcRec <;> (try dsimp only) <;> (repeat' split) <;> simp_all (config := { maxDischargeDepth := 30, implicitDefEqProofs := false })

@[simp] theorem svcRec_cfg (s : State) (ty sev : Nat) (body : Bytes) : (svcRec s ty sev body).cfg = s.cfg := by
  unfold svcRec <;> (try dsimp only) <;> (repeat' split) <;> simp_all (config := { maxDischargeDepth := 30, implicitDefEqProofs := false })

@[simp] theorem svcRec_latched (s : State) (ty sev : Nat) (body : Bytes) (h : LatchedFaults s.faults) : LatchedFaults (svcRec s ty sev body).faults := by
  unfold svcRec <;> (try dsimp only) <;> (repeat' split) <;> simp_all (config := { maxDischargeDepth := 30, implicitDefEqProofs := false })

@[simp] theorem svcRec_quiet (s : State) (ty sev : Nat) (body : Bytes) (h : QuietAt s.sys.stopped s.work) : QuietAt (svcRec s ty sev body).sys.stopped (svcRec s ty sev body).work := by
  unfold svcRec <;> (try dsimp only) <;> (repeat' split) <;> simp_all (config := { maxDischargeDepth := 30, implicitDefEqProofs := false })

@[simp] theorem dropPending_pending (q : Nat) (s : State) : (dropPending q s).pending = s.pending := by
  unfold dropPending <;> (try dsimp only) <;> (repeat' split) <;> simp_all (config := { maxDischargeDepth := 30, implicitDefEqProofs := false })

@[simp] theorem dropPending_cfg (q : Nat) (s : State) : (dropPending q s).cfg = s.cfg := by
  unfold dropPending <;> (try dsimp only) <;> (repeat' split) <;> simp_all (config := { maxDischargeDepth := 30, implicitDefEqProofs := false })

@[simp] theorem dropPending_latched (q : Nat) (s : State) (h : LatchedFaults s.faults) : LatchedFaults (dropPending q s).faults := by
  unfold dropPending <;> (try dsimp only) <;> (repeat' split) <;> simp_all (config := { maxDischargeDepth := 30, implicitDefEqProofs := false })

@[simp] theorem dropPending_quiet (q : Nat) (s : State) (h : QuietAt s.sys.stopped s.work) : QuietAt (dropPending q s).sys.stopped (dropPending q s).work := by
  unfold dropPending <;> (try dsimp only) <;> (repeat' split) <;> simp_all (config := { maxDischargeDepth := 30, implicitDefEqProofs := false })

@[simp] theorem touchQueue_pending (s : State) (q : Nat) : (touchQueue s q).pending = s.pending := by
  unfold touchQueue <;> (try dsimp only) <;> (repeat' split) <;> simp_all (config := { maxDischargeDepth := 30, implicitDefEqProofs := false })

@[simp] theorem touchQueue_cfg (s : State) (q : Nat) : (touchQueue s q).cfg = s.cfg := by
  unfold touchQueue <;> (try dsimp only) <;> (repeat' split) <;> simp_all (config := { maxDischargeDepth := 30, implicitDefEqProofs := false })

@[simp] theorem touchQueue_latched (s : State) (q : Nat) (h : LatchedFaults s.faults) : LatchedFaults (touchQueue s q).faults := by
  unfold touchQueue <;> (try dsimp only) <;> (repeat' split) <;> simp_all (config := { maxDischargeDepth := 30, implicitDefEqProofs := false })

@[simp] theorem touchQueue_quiet (s : State) (q : Nat) (h : QuietAt s.sys.stopped s.work) : QuietAt (touchQueue s q).sys.stopped (touchQueue s q).work := by
  unfold touchQueue <;> (try dsimp only) <;> (repeat' split) <;> simp_all (config := { maxDischargeDepth := 30, implicitDefEqProofs := false })

@[simp] theorem pushTo_pending (s : State) (q conn : Nat) (data : Bytes) : (pushTo s q conn data).pending = s.pending := by
  unfold pushTo <;> (try dsimp only) <;> (repeat' split) <;> simp_all (config := { maxDischargeDepth := 30, implicitDefEqProofs := false })

@[simp] theorem pushTo_cfg (s : State) (q conn : Nat) (data : Bytes) : (pushTo s q conn data).cfg = s.cfg := by
  unfold pushTo <;> (try dsimp only) <;> (repeat' split) <;> simp_all (config := { maxDischargeDepth := 30, implicitDefEqProofs := false })

@[simp] theorem pushTo_latched (s : State) (q conn : Nat) (data : Bytes) (h : LatchedFaults s.faults) : LatchedFaults (pushTo s q conn data).faults := by
  unfold pushTo <;> (try dsimp only) <;> (repeat' split) <;> simp_all (config := { maxDischargeDepth := 30, implicitDefEqProofs := false })

@[simp] theorem pushTo_quiet (s : State) (q conn : Nat) (data : Bytes) (h : QuietAt s.sys.stopped s.work) : QuietAt (pushTo s q conn data).sys.stopped (pushTo s q conn data).work := by
  unfold pushTo <;> (try dsimp only) <;> (repeat' split) <;> simp_all (config := { maxDischargeDepth := 30, implicitDefEqProofs := false })

@[simp] theorem pushRec_pending (s : State) (r : Rec) : (pushRec s r).pending = s.pending := by
  unfold pushRec <;> (try dsimp only) <;> (repeat' split) <;> simp_all (config := { maxDischargeDepth := 30, implicitDefEqProofs := false })

@[simp] theorem pushRec_cfg (s : State) (r : Rec) : (pushRec s r).cfg = s.cfg := by
  unfold pushRec <;> (try dsimp only) <;> (repeat' split) <;> simp_all (config := { maxDischargeDepth := 30, implicitDefEqProofs := false })

@[simp] theorem pushRec_latched (s : State) (r : Rec) (h : LatchedFaults s.faults) : LatchedFaults (pushRec s r).faults := by
  unfold pushRec <;> (try dsimp only) <;> (repeat' split) <;> simp_all (config := { maxDischargeDepth := 30, implicitDefEqProofs := false })

@[simp] theorem pushRec_quiet (s : State) (r : Rec) (h : QuietAt s.sys.stopped s.work) : QuietAt (pushRec s r).sys.stopped (pushRec s r).work := by
  unfold pushRec <;> (try dsimp only) <;> (repeat' split) <;> simp_all (config := { maxDischargeDepth := 30, implicitDefEqProofs := false })

@[simp] theorem frameRec_pending (s : State) (ty sev : Nat) (body : Bytes) : (frameRec s ty sev body).pending = s.pending := by
  unfold frameRec <;> (try dsimp only) <;> (repeat' split) <;> simp_all (config := { maxDischargeDepth := 30, implicitDefEqProofs := false })

@[simp] theorem frameRec_cfg (s : State) (ty sev : Nat) (body : Bytes) : (frameRec s ty sev body).cfg = s.cfg := by
  unfold frameRec <;> (try dsimp only) <;> (repeat' split) <;> simp_all (config := { maxDischargeDepth := 30, implicitDefEqProofs := false })

@[simp] theorem frameRec_latched (s : State) (ty sev : Nat) (body : Bytes) (h : LatchedFaults s.faults) : LatchedFaults (frameRec s ty sev body).faults := by
  unfold frameRec <;> (try dsimp only) <;> (repeat' split) <;> simp_all (config := { maxDischargeDepth := 30, implicitDefEqProofs := false })

@[simp] theorem frameRec_quiet (s : State) (ty sev : Nat) (body : Bytes) (h : QuietAt s.sys.stopped s.work) : QuietAt (frameRec s ty sev body).sys.stopped (frameRec s ty sev body).work := by
  unfold frameRec <;> (try dsimp only) <;> (repeat' split) <;> simp_all (config := { maxDischargeDepth := 30, implicitDefEqProofs := false })

@[simp] theorem laneTo_pending (s : State) (l : Lane) (st : LaneSt) : (laneTo s l st).pending = s.pending := by
  unfold laneTo <;> (try dsimp only) <;> (repeat' split) <;> simp_all (config := { maxDischargeDepth := 30, implicitDefEqProofs := false })

@[simp] theorem laneTo_cfg (s : State) (l : Lane) (st : LaneSt) : (laneTo s l st).cfg = s.cfg := by
  unfold laneTo <;> (try dsimp only) <;> (repeat' split) <;> simp_all (config := { maxDischargeDepth := 30, implicitDefEqProofs := false })

@[simp] theorem laneTo_latched (s : State) (l : Lane) (st : LaneSt) (h : LatchedFaults s.faults) : LatchedFaults (laneTo s l st).faults := by
  unfold laneTo <;> (try dsimp only) <;> (repeat' split) <;> simp_all (config := { maxDischargeDepth := 30, implicitDefEqProofs := false })

@[simp] theorem laneTo_quiet (s : State) (l : Lane) (st : LaneSt) (h : QuietAt s.sys.stopped s.work) : QuietAt (laneTo s l st).sys.stopped (laneTo s l st).work := by
  unfold laneTo <;> (try dsimp only) <;> (repeat' split) <;> simp_all (config := { maxDischargeDepth := 30, implicitDefEqProofs := false })

@[simp] theorem duoStart_pending (s : State) : (duoStart s).pending = s.pending := by
  unfold duoStart <;> (try dsimp only) <;> (repeat' split) <;> simp_all (config := { maxDischargeDepth := 30, implicitDefEqProofs := false })

@[simp] theorem duoStart_cfg (s : State) : (duoStart s).cfg = s.cfg := by
  unfold duoStart <;> (try dsimp only) <;> (repeat' split) <;> simp_all (config := { maxDischargeDepth := 30, implicitDefEqProofs := false })

@[simp] theorem duoStart_latched (s : State) (h : LatchedFaults s.faults) : LatchedFaults (duoStart s).faults := by
  unfold duoStart <;> (try dsimp only) <;> (repeat' split) <;> simp_all (config := { maxDischargeDepth := 30, implicitDefEqProofs := false })

@[simp] theorem duoStart_quiet (s : State) (h : QuietAt s.sys.stopped s.work) : QuietAt (duoStart s).sys.stopped (duoStart s).work := by
  unfold duoStart <;> (try dsimp only) <;> (repeat' split) <;> simp_all (config := { maxDischargeDepth := 30, implicitDefEqProofs := false })

@[simp] theorem laneFence_pending (s : State) (l : Lane) : (laneFence s l).pending = s.pending := by
  unfold laneFence <;> (try dsimp only) <;> (repeat' split) <;> simp_all (config := { maxDischargeDepth := 30, implicitDefEqProofs := false })

@[simp] theorem laneFence_cfg (s : State) (l : Lane) : (laneFence s l).cfg = s.cfg := by
  unfold laneFence <;> (try dsimp only) <;> (repeat' split) <;> simp_all (config := { maxDischargeDepth := 30, implicitDefEqProofs := false })

@[simp] theorem laneFence_latched (s : State) (l : Lane) (h : LatchedFaults s.faults) : LatchedFaults (laneFence s l).faults := by
  unfold laneFence <;> (try dsimp only) <;> (repeat' split) <;> simp_all (config := { maxDischargeDepth := 30, implicitDefEqProofs := false })

@[simp] theorem laneFence_quiet (s : State) (l : Lane) (h : QuietAt s.sys.stopped s.work) : QuietAt (laneFence s l).sys.stopped (laneFence s l).work := by
  unfold laneFence <;> (try dsimp only) <;> (repeat' split) <;> simp_all (config := { maxDischargeDepth := 30, implicitDefEqProofs := false })

@[simp] theorem armGuards_pending (s : State) : (armGuards s).pending = s.pending := by
  unfold armGuards <;> (try dsimp only) <;> (repeat' split) <;> simp_all (config := { maxDischargeDepth := 30, implicitDefEqProofs := false })

@[simp] theorem armGuards_cfg (s : State) : (armGuards s).cfg = s.cfg := by
  unfold armGuards <;> (try dsimp only) <;> (repeat' split) <;> simp_all (config := { maxDischargeDepth := 30, implicitDefEqProofs := false })

@[simp] theorem armGuards_latched (s : State) (h : LatchedFaults s.faults) : LatchedFaults (armGuards s).faults := by
  unfold armGuards <;> (try dsimp only) <;> (repeat' split) <;> simp_all (config := { maxDischargeDepth := 30, implicitDefEqProofs := false })

@[simp] theorem armGuards_quiet (s : State) (h : QuietAt s.sys.stopped s.work) : QuietAt (armGuards s).sys.stopped (armGuards s).work := by
  unfold armGuards <;> (try dsimp only) <;> (repeat' split) <;> simp_all (config := { maxDischargeDepth := 30, implicitDefEqProofs := false })

@[simp] theorem prlSwitch_pending (s : State) : (prlSwitch s).pending = s.pending := by
  unfold prlSwitch <;> (try dsimp only) <;> (repeat' split) <;> simp_all (config := { maxDischargeDepth := 30, implicitDefEqProofs := false })

@[simp] theorem prlSwitch_cfg (s : State) : (prlSwitch s).cfg = s.cfg := by
  unfold prlSwitch <;> (try dsimp only) <;> (repeat' split) <;> simp_all (config := { maxDischargeDepth := 30, implicitDefEqProofs := false })

@[simp] theorem prlSwitch_latched (s : State) (h : LatchedFaults s.faults) : LatchedFaults (prlSwitch s).faults := by
  unfold prlSwitch <;> (try dsimp only) <;> (repeat' split) <;> simp_all (config := { maxDischargeDepth := 30, implicitDefEqProofs := false })

@[simp] theorem prlSwitch_quiet (s : State) (h : QuietAt s.sys.stopped s.work) : QuietAt (prlSwitch s).sys.stopped (prlSwitch s).work := by
  unfold prlSwitch <;> (try dsimp only) <;> (repeat' split) <;> simp_all (config := { maxDischargeDepth := 30, implicitDefEqProofs := false })

@[simp] theorem prlFence_pending (s : State) : (prlFence s).pending = s.pending := by
  unfold prlFence <;> (try dsimp only) <;> (repeat' split) <;> simp_all (config := { maxDischargeDepth := 30, implicitDefEqProofs := false })

@[simp] theorem prlFence_cfg (s : State) : (prlFence s).cfg = s.cfg := by
  unfold prlFence <;> (try dsimp only) <;> (repeat' split) <;> simp_all (config := { maxDischargeDepth := 30, implicitDefEqProofs := false })

@[simp] theorem prlFence_latched (s : State) (h : LatchedFaults s.faults) : LatchedFaults (prlFence s).faults := by
  unfold prlFence <;> (try dsimp only) <;> (repeat' split) <;> simp_all (config := { maxDischargeDepth := 30, implicitDefEqProofs := false })

@[simp] theorem prlFence_quiet (s : State) (h : QuietAt s.sys.stopped s.work) : QuietAt (prlFence s).sys.stopped (prlFence s).work := by
  unfold prlFence <;> (try dsimp only) <;> (repeat' split) <;> simp_all (config := { maxDischargeDepth := 30, implicitDefEqProofs := false })

@[simp] theorem frnFence_pending (s : State) (c : Cluster) : (frnFence s c).pending = s.pending := by
  unfold frnFence <;> (try dsimp only) <;> (repeat' split) <;> simp_all (config := { maxDischargeDepth := 30, implicitDefEqProofs := false })

@[simp] theorem frnFence_cfg (s : State) (c : Cluster) : (frnFence s c).cfg = s.cfg := by
  unfold frnFence <;> (try dsimp only) <;> (repeat' split) <;> simp_all (config := { maxDischargeDepth := 30, implicitDefEqProofs := false })

@[simp] theorem frnFence_latched (s : State) (c : Cluster) (h : LatchedFaults s.faults) : LatchedFaults (frnFence s c).faults := by
  unfold frnFence <;> (try dsimp only) <;> (repeat' split) <;> simp_all (config := { maxDischargeDepth := 30, implicitDefEqProofs := false })

@[simp] theorem frnFence_quiet (s : State) (c : Cluster) (h : QuietAt s.sys.stopped s.work) : QuietAt (frnFence s c).sys.stopped (frnFence s c).work := by
  unfold frnFence <;> (try dsimp only) <;> (repeat' split) <;> simp_all (config := { maxDischargeDepth := 30, implicitDefEqProofs := false })

@[simp] theorem fenceUnit_pending (s : State) (b : Blk) (n : Nat) (lane : Option Lane) : (fenceUnit s b n lane).pending = s.pending := by
  unfold fenceUnit <;> (try dsimp only) <;> (repeat' split) <;> simp_all (config := { maxDischargeDepth := 30, implicitDefEqProofs := false })

@[simp] theorem fenceUnit_cfg (s : State) (b : Blk) (n : Nat) (lane : Option Lane) : (fenceUnit s b n lane).cfg = s.cfg := by
  unfold fenceUnit <;> (try dsimp only) <;> (repeat' split) <;> simp_all (config := { maxDischargeDepth := 30, implicitDefEqProofs := false })

@[simp] theorem fenceUnit_latched (s : State) (b : Blk) (n : Nat) (lane : Option Lane) (h : LatchedFaults s.faults) : LatchedFaults (fenceUnit s b n lane).faults := by
  unfold fenceUnit <;> (try dsimp only) <;> (repeat' split) <;> simp_all (config := { maxDischargeDepth := 30, implicitDefEqProofs := false })

@[simp] theorem fenceUnit_quiet (s : State) (b : Blk) (n : Nat) (lane : Option Lane) (h : QuietAt s.sys.stopped s.work) : QuietAt (fenceUnit s b n lane).sys.stopped (fenceUnit s b n lane).work := by
  unfold fenceUnit <;> (try dsimp only) <;> (repeat' split) <;> simp_all (config := { maxDischargeDepth := 30, implicitDefEqProofs := false })

@[simp] theorem relinquish_pending (s : State) : (relinquish s).pending = s.pending := by
  unfold relinquish <;> (try dsimp only) <;> (repeat' split) <;> simp_all (config := { maxDischargeDepth := 30, implicitDefEqProofs := false })

@[simp] theorem relinquish_cfg (s : State) : (relinquish s).cfg = s.cfg := by
  unfold relinquish <;> (try dsimp only) <;> (repeat' split) <;> simp_all (config := { maxDischargeDepth := 30, implicitDefEqProofs := false })

@[simp] theorem relinquish_latched (s : State) (h : LatchedFaults s.faults) : LatchedFaults (relinquish s).faults := by
  unfold relinquish <;> (try dsimp only) <;> (repeat' split) <;> simp_all (config := { maxDischargeDepth := 30, implicitDefEqProofs := false })

@[simp] theorem relinquish_quiet (s : State) (h : QuietAt s.sys.stopped s.work) : QuietAt (relinquish s).sys.stopped (relinquish s).work := by
  unfold relinquish <;> (try dsimp only) <;> (repeat' split) <;> simp_all (config := { maxDischargeDepth := 30, implicitDefEqProofs := false })

@[simp] theorem stopFrames_pending (s : State) : (stopFrames s).pending = s.pending := by
  unfold stopFrames <;> (try dsimp only) <;> (repeat' split) <;> simp_all (config := { maxDischargeDepth := 30, implicitDefEqProofs := false })

@[simp] theorem stopFrames_cfg (s : State) : (stopFrames s).cfg = s.cfg := by
  unfold stopFrames <;> (try dsimp only) <;> (repeat' split) <;> simp_all (config := { maxDischargeDepth := 30, implicitDefEqProofs := false })

@[simp] theorem stopFrames_latched (s : State) (h : LatchedFaults s.faults) : LatchedFaults (stopFrames s).faults := by
  unfold stopFrames <;> (try dsimp only) <;> (repeat' split) <;> simp_all (config := { maxDischargeDepth := 30, implicitDefEqProofs := false })

@[simp] theorem stopFrames_quiet (s : State) (h : QuietAt s.sys.stopped s.work) : QuietAt (stopFrames s).sys.stopped (stopFrames s).work := by
  unfold stopFrames <;> (try dsimp only) <;> (repeat' split) <;> simp_all (config := { maxDischargeDepth := 30, implicitDefEqProofs := false })

@[simp] theorem safeStop_pending (s : State) : (safeStop s).pending = s.pending := by
  unfold safeStop <;> (try dsimp only) <;> (repeat' split) <;> simp_all (config := { maxDischargeDepth := 30, implicitDefEqProofs := false })

@[simp] theorem safeStop_cfg (s : State) : (safeStop s).cfg = s.cfg := by
  unfold safeStop <;> (try dsimp only) <;> (repeat' split) <;> simp_all (config := { maxDischargeDepth := 30, implicitDefEqProofs := false })

@[simp] theorem safeStop_latched (s : State) (h : LatchedFaults s.faults) : LatchedFaults (safeStop s).faults := by
  unfold safeStop <;> (try dsimp only) <;> (repeat' split) <;> simp_all (config := { maxDischargeDepth := 30, implicitDefEqProofs := false })

@[simp] theorem safeStop_quiet (s : State) (h : QuietAt s.sys.stopped s.work) : QuietAt (safeStop s).sys.stopped (safeStop s).work := by
  unfold safeStop <;> (try dsimp only) <;> (repeat' split) <;> simp_all (config := { maxDischargeDepth := 30, implicitDefEqProofs := false })

@[simp] theorem react_pending (s : State) (b : Blk) (n : Nat) (sev : Sev) (lane : Option Lane) : (react s b n sev lane).pending = s.pending := by
  unfold react <;> (try dsimp only) <;> (repeat' split) <;> simp_all (config := { maxDischargeDepth := 30, implicitDefEqProofs := false })

@[simp] theorem react_cfg (s : State) (b : Blk) (n : Nat) (sev : Sev) (lane : Option Lane) : (react s b n sev lane).cfg = s.cfg := by
  unfold react <;> (try dsimp only) <;> (repeat' split) <;> simp_all (config := { maxDischargeDepth := 30, implicitDefEqProofs := false })

@[simp] theorem react_latched (s : State) (b : Blk) (n : Nat) (sev : Sev) (lane : Option Lane) (h : LatchedFaults s.faults) : LatchedFaults (react s b n sev lane).faults := by
  unfold react <;> (try dsimp only) <;> (repeat' split) <;> simp_all (config := { maxDischargeDepth := 30, implicitDefEqProofs := false })

@[simp] theorem react_quiet (s : State) (b : Blk) (n : Nat) (sev : Sev) (lane : Option Lane) (h : QuietAt s.sys.stopped s.work) : QuietAt (react s b n sev lane).sys.stopped (react s b n sev lane).work := by
  unfold react <;> (try dsimp only) <;> (repeat' split) <;> simp_all (config := { maxDischargeDepth := 30, implicitDefEqProofs := false })

@[simp] theorem tellAt_pending (s : State) (b : Blk) (n t unrec : Nat) : (tellAt s b n t unrec).pending = s.pending := by
  unfold tellAt <;> (try dsimp only) <;> (repeat' split) <;> simp_all (config := { maxDischargeDepth := 30, implicitDefEqProofs := false })

@[simp] theorem tellAt_cfg (s : State) (b : Blk) (n t unrec : Nat) : (tellAt s b n t unrec).cfg = s.cfg := by
  unfold tellAt <;> (try dsimp only) <;> (repeat' split) <;> simp_all (config := { maxDischargeDepth := 30, implicitDefEqProofs := false })

@[simp] theorem tellAt_latched (s : State) (b : Blk) (n t unrec : Nat) (h : LatchedFaults s.faults) : LatchedFaults (tellAt s b n t unrec).faults := by
  unfold tellAt <;> (try dsimp only) <;> (repeat' split) <;> simp_all (config := { maxDischargeDepth := 30, implicitDefEqProofs := false })

@[simp] theorem tellAt_quiet (s : State) (b : Blk) (n t unrec : Nat) (h : QuietAt s.sys.stopped s.work) : QuietAt (tellAt s b n t unrec).sys.stopped (tellAt s b n t unrec).work := by
  unfold tellAt <;> (try dsimp only) <;> (repeat' split) <;> simp_all (config := { maxDischargeDepth := 30, implicitDefEqProofs := false })

@[simp] theorem faultRec_pending (s : State) (b : Blk) (n : Nat) (sev : Sev) : (faultRec s b n sev).pending = s.pending := by
  unfold faultRec <;> (try dsimp only) <;> (repeat' split) <;> simp_all (config := { maxDischargeDepth := 30, implicitDefEqProofs := false })

@[simp] theorem faultRec_cfg (s : State) (b : Blk) (n : Nat) (sev : Sev) : (faultRec s b n sev).cfg = s.cfg := by
  unfold faultRec <;> (try dsimp only) <;> (repeat' split) <;> simp_all (config := { maxDischargeDepth := 30, implicitDefEqProofs := false })

@[simp] theorem faultRec_latched (s : State) (b : Blk) (n : Nat) (sev : Sev) (h : LatchedFaults s.faults) : LatchedFaults (faultRec s b n sev).faults := by
  unfold faultRec <;> (try dsimp only) <;> (repeat' split) <;> simp_all (config := { maxDischargeDepth := 30, implicitDefEqProofs := false })

@[simp] theorem faultRec_quiet (s : State) (b : Blk) (n : Nat) (sev : Sev) (h : QuietAt s.sys.stopped s.work) : QuietAt (faultRec s b n sev).sys.stopped (faultRec s b n sev).work := by
  unfold faultRec <;> (try dsimp only) <;> (repeat' split) <;> simp_all (config := { maxDischargeDepth := 30, implicitDefEqProofs := false })

@[simp] theorem raiseAt_pending (s : State) (b : Blk) (n : Nat) (lane : Option Lane) : (raiseAt s b n lane).pending = s.pending := by
  unfold raiseAt <;> (try dsimp only) <;> (repeat' split) <;> simp_all (config := { maxDischargeDepth := 30, implicitDefEqProofs := false })

@[simp] theorem raiseAt_cfg (s : State) (b : Blk) (n : Nat) (lane : Option Lane) : (raiseAt s b n lane).cfg = s.cfg := by
  unfold raiseAt <;> (try dsimp only) <;> (repeat' split) <;> simp_all (config := { maxDischargeDepth := 30, implicitDefEqProofs := false })

@[simp] theorem raiseAt_latched (s : State) (b : Blk) (n : Nat) (lane : Option Lane) (h : LatchedFaults s.faults) : LatchedFaults (raiseAt s b n lane).faults := by
  unfold raiseAt <;> (try dsimp only) <;> (repeat' split) <;> simp_all (config := { maxDischargeDepth := 30, implicitDefEqProofs := false })

@[simp] theorem raiseAt_quiet (s : State) (b : Blk) (n : Nat) (lane : Option Lane) (h : QuietAt s.sys.stopped s.work) : QuietAt (raiseAt s b n lane).sys.stopped (raiseAt s b n lane).work := by
  unfold raiseAt <;> (try dsimp only) <;> (repeat' split) <;> simp_all (config := { maxDischargeDepth := 30, implicitDefEqProofs := false })

@[simp] theorem raise_pending (s : State) (b : Blk) (n : Nat) : (raise s b n).pending = s.pending := by
  unfold raise <;> (try dsimp only) <;> (repeat' split) <;> simp_all (config := { maxDischargeDepth := 30, implicitDefEqProofs := false })

@[simp] theorem raise_cfg (s : State) (b : Blk) (n : Nat) : (raise s b n).cfg = s.cfg := by
  unfold raise <;> (try dsimp only) <;> (repeat' split) <;> simp_all (config := { maxDischargeDepth := 30, implicitDefEqProofs := false })

@[simp] theorem raise_latched (s : State) (b : Blk) (n : Nat) (h : LatchedFaults s.faults) : LatchedFaults (raise s b n).faults := by
  unfold raise <;> (try dsimp only) <;> (repeat' split) <;> simp_all (config := { maxDischargeDepth := 30, implicitDefEqProofs := false })

@[simp] theorem raise_quiet (s : State) (b : Blk) (n : Nat) (h : QuietAt s.sys.stopped s.work) : QuietAt (raise s b n).sys.stopped (raise s b n).work := by
  unfold raise <;> (try dsimp only) <;> (repeat' split) <;> simp_all (config := { maxDischargeDepth := 30, implicitDefEqProofs := false })

@[simp] theorem lower_pending (s : State) (b : Blk) (n : Nat) : (lower s b n).pending = s.pending := by
  unfold lower <;> (try dsimp only) <;> (repeat' split) <;> simp_all (config := { maxDischargeDepth := 30, implicitDefEqProofs := false })

@[simp] theorem lower_cfg (s : State) (b : Blk) (n : Nat) : (lower s b n).cfg = s.cfg := by
  unfold lower <;> (try dsimp only) <;> (repeat' split) <;> simp_all (config := { maxDischargeDepth := 30, implicitDefEqProofs := false })

@[simp] theorem lower_latched (s : State) (b : Blk) (n : Nat) (h : LatchedFaults s.faults) : LatchedFaults (lower s b n).faults := by
  unfold lower <;> (try dsimp only) <;> (repeat' split) <;> simp_all (config := { maxDischargeDepth := 30, implicitDefEqProofs := false })

@[simp] theorem lower_quiet (s : State) (b : Blk) (n : Nat) (h : QuietAt s.sys.stopped s.work) : QuietAt (lower s b n).sys.stopped (lower s b n).work := by
  unfold lower <;> (try dsimp only) <;> (repeat' split) <;> simp_all (config := { maxDischargeDepth := 30, implicitDefEqProofs := false })

@[simp] theorem setLive_pending (s : State) (b : Blk) (n : Nat) (on : Bool) : (setLive s b n on).pending = s.pending := by
  unfold setLive <;> (try dsimp only) <;> (repeat' split) <;> simp_all (config := { maxDischargeDepth := 30, implicitDefEqProofs := false })

@[simp] theorem setLive_cfg (s : State) (b : Blk) (n : Nat) (on : Bool) : (setLive s b n on).cfg = s.cfg := by
  unfold setLive <;> (try dsimp only) <;> (repeat' split) <;> simp_all (config := { maxDischargeDepth := 30, implicitDefEqProofs := false })

@[simp] theorem setLive_latched (s : State) (b : Blk) (n : Nat) (on : Bool) (h : LatchedFaults s.faults) : LatchedFaults (setLive s b n on).faults := by
  unfold setLive <;> (try dsimp only) <;> (repeat' split) <;> simp_all (config := { maxDischargeDepth := 30, implicitDefEqProofs := false })

@[simp] theorem setLive_quiet (s : State) (b : Blk) (n : Nat) (on : Bool) (h : QuietAt s.sys.stopped s.work) : QuietAt (setLive s b n on).sys.stopped (setLive s b n on).work := by
  unfold setLive <;> (try dsimp only) <;> (repeat' split) <;> simp_all (config := { maxDischargeDepth := 30, implicitDefEqProofs := false })

@[simp] theorem setLiveAt_pending (s : State) (b : Blk) (n : Nat) (lane : Option Lane) (on : Bool) : (setLiveAt s b n lane on).pending = s.pending := by
  unfold setLiveAt <;> (try dsimp only) <;> (repeat' split) <;> simp_all (config := { maxDischargeDepth := 30, implicitDefEqProofs := false })

@[simp] theorem setLiveAt_cfg (s : State) (b : Blk) (n : Nat) (lane : Option Lane) (on : Bool) : (setLiveAt s b n lane on).cfg = s.cfg := by
  unfold setLiveAt <;> (try dsimp only) <;> (repeat' split) <;> simp_all (config := { maxDischargeDepth := 30, implicitDefEqProofs := false })

@[simp] theorem setLiveAt_latched (s : State) (b : Blk) (n : Nat) (lane : Option Lane) (on : Bool) (h : LatchedFaults s.faults) : LatchedFaults (setLiveAt s b n lane on).faults := by
  unfold setLiveAt <;> (try dsimp only) <;> (repeat' split) <;> simp_all (config := { maxDischargeDepth := 30, implicitDefEqProofs := false })

@[simp] theorem setLiveAt_quiet (s : State) (b : Blk) (n : Nat) (lane : Option Lane) (on : Bool) (h : QuietAt s.sys.stopped s.work) : QuietAt (setLiveAt s b n lane on).sys.stopped (setLiveAt s b n lane on).work := by
  unfold setLiveAt <;> (try dsimp only) <;> (repeat' split) <;> simp_all (config := { maxDischargeDepth := 30, implicitDefEqProofs := false })

@[simp] theorem pulse_pending (s : State) (b : Blk) (n : Nat) : (pulse s b n).pending = s.pending := by
  unfold pulse <;> (try dsimp only) <;> (repeat' split) <;> simp_all (config := { maxDischargeDepth := 30, implicitDefEqProofs := false })

@[simp] theorem pulse_cfg (s : State) (b : Blk) (n : Nat) : (pulse s b n).cfg = s.cfg := by
  unfold pulse <;> (try dsimp only) <;> (repeat' split) <;> simp_all (config := { maxDischargeDepth := 30, implicitDefEqProofs := false })

@[simp] theorem pulse_latched (s : State) (b : Blk) (n : Nat) (h : LatchedFaults s.faults) : LatchedFaults (pulse s b n).faults := by
  unfold pulse <;> (try dsimp only) <;> (repeat' split) <;> simp_all (config := { maxDischargeDepth := 30, implicitDefEqProofs := false })

@[simp] theorem pulse_quiet (s : State) (b : Blk) (n : Nat) (h : QuietAt s.sys.stopped s.work) : QuietAt (pulse s b n).sys.stopped (pulse s b n).work := by
  unfold pulse <;> (try dsimp only) <;> (repeat' split) <;> simp_all (config := { maxDischargeDepth := 30, implicitDefEqProofs := false })

end Sys2Proof.Machine
end

