-- ==== Sys2Proof/Laws/PerInstr.lean ====
section
/-! SUPPORT. Statements about every command as syntax, one lemma for each constructor. -/

namespace Sys2Proof.Laws.Sender

open Sys2Proof.Machine

/-- A well-formed command that comes in a packet names a partner entry, an address, a TAG and a SEQ that fit their fields, and
a VER that the module knows (R271 to R273, R283). -/
def Statement (i : Instr) : Prop :=
  i.wf = true → ∀ src, i.sender = some src →
    src.entry ≤ 33 ∧ src.addr < 65536 ∧ src.tag < 65536 ∧ src.seq < 4294967296 ∧ (src.ver = 1 ∨ src.ver = 2)

/-- What the check of a source says. -/
theorem src_fits (s : Src) (h : WellFormed.srcWf s = true) :
    s.entry ≤ 33 ∧ s.addr < 65536 ∧ s.tag < 65536 ∧ s.seq < 4294967296 ∧ (s.ver = 1 ∨ s.ver = 2) := by
  simp only [WellFormed.srcWf, WellFormed.half, WellFormed.word, WellFormed.byte, Bool.and_eq_true, Bool.or_eq_true, beq_iff_eq,
    decide_eq_true_eq] at h
  omega

/-- A command that comes in no packet. -/
theorem of_none (i : Instr) (h : i.sender = none) : Statement i := by
  intro _ src hs
  rw [h] at hs
  cases hs

/-- The first of two checks. -/
theorem left_of_and {a b : Bool} (h : (a && b) = true) : a = true := by
  cases a
  · cases h
  · rfl

/-- A command whose check begins with that of its source. -/
theorem of_some (i : Instr) (a : Src) (hs : i.sender = some a) (hw : i.wf = true → WellFormed.srcWf a = true) : Statement i := by
  intro h src e
  rw [hs] at e
  cases e
  exact src_fits a (hw h)

theorem frameTick (now : Nat) (env : TickEnv) : Statement (.frameTick now env) := of_none _ rfl
theorem lanePublish (lane : Lane) (now : Nat) (dev : PubDev) : Statement (.lanePublish lane now dev) := of_none _ rfl
theorem voteInstant (now : Nat) (env : VoteEnv) (d : DrainEnv) : Statement (.voteInstant now env d) := of_none _ rfl
theorem releasePoint (now : Nat) : Statement (.releasePoint now) := of_none _ rfl
theorem overrun (now : Nat) : Statement (.overrun now) := of_none _ rfl
theorem watchdog (now : Nat) : Statement (.watchdog now) := of_none _ rfl
theorem shadowFramesMatched (lane : Lane) : Statement (.shadowFramesMatched lane) := of_none _ rfl
theorem instanceIn (inst : Inst) : Statement (.instanceIn inst) := of_none _ rfl
theorem pralineDuoLimit (now : Nat) : Statement (.pralineDuoLimit now) := of_none _ rfl
theorem duoLimit (now : Nat) : Statement (.duoLimit now) := of_none _ rfl
theorem duoSwitchoverTimeout (now : Nat) : Statement (.duoSwitchoverTimeout now) := of_none _ rfl
theorem laneFault (lane : Lane) (present : Bool) (now : Nat) : Statement (.laneFault lane present now) := of_none _ rfl
theorem tableScrub (bad : List Inst) (now : Nat) : Statement (.tableScrub bad now) := of_none _ rfl
theorem timerExpiry (num : Nat) (now : Nat) : Statement (.timerExpiry num now) := of_none _ rfl
theorem moveTimerExpiry (obj : Nat) (now : Nat) : Statement (.moveTimerExpiry obj now) := of_none _ rfl
theorem closeTimerExpiry (obj : Nat) (now : Nat) : Statement (.closeTimerExpiry obj now) := of_none _ rfl
theorem settlePeriodEnd (obj : Nat) (now : Nat) : Statement (.settlePeriodEnd obj now) := of_none _ rfl
theorem boundaryAgeLimit (obj : Nat) (now : Nat) : Statement (.boundaryAgeLimit obj now) := of_none _ rfl
theorem waitLimitExpiry (route : Nat) (now : Nat) : Statement (.waitLimitExpiry route now) := of_none _ rfl
theorem approachLockExpiry (route : Nat) (now : Nat) : Statement (.approachLockExpiry route now) := of_none _ rfl
theorem overlapExpiry (route : Nat) (now : Nat) : Statement (.overlapExpiry route now) := of_none _ rfl
theorem emergencyReleaseExpiry (route : Nat) (now : Nat) : Statement (.emergencyReleaseExpiry route now) := of_none _ rfl
theorem proofTestDue (lane : Lane) (now : Nat) : Statement (.proofTestDue lane now) := of_none _ rfl
theorem proofTestEnd (lane : Lane) (res : TestResult) (now : Nat) : Statement (.proofTestEnd lane res now) := of_none _ rfl
theorem ptLate (lane : Lane) (now : Nat) : Statement (.ptLate lane now) := of_none _ rfl
theorem fieldCycleStart (c : Cluster) (env : CycleEnv) : Statement (.fieldCycleStart c env) := of_none _ rfl
theorem offsetCorrection (c : Cluster) (now : Nat) : Statement (.offsetCorrection c now) := of_none _ rfl
theorem uplink (c : Cluster) (node : Nat) (copyA : Option Arrival) (copyB : Option Arrival) (now : Nat) : Statement (.uplink c node copyA copyB now) := of_none _ rfl
theorem syncFrame (c : Cluster) (arr : Arrival) (now : Nat) : Statement (.syncFrame c arr now) := of_none _ rfl
theorem dropout (c : Cluster) (node : Nat) : Statement (.dropout c node) := of_none _ rfl
theorem returnToAbsent (c : Cluster) (node : Nat) : Statement (.returnToAbsent c node) := of_none _ rfl
theorem rangeReply (c : Cluster) (chan : Chan) (data : Bytes) (late : Nat) (now : Nat) : Statement (.rangeReply c chan data late now) := of_none _ rfl
theorem rangingWindowTimeout (c : Cluster) (chan : Chan) : Statement (.rangingWindowTimeout c chan) := of_none _ rfl
theorem ack (c : Cluster) (data : Bytes) : Statement (.ack c data) := of_none _ rfl
theorem ocfState (c : Cluster) (data : Bytes) : Statement (.ocfState c data) := of_none _ rfl
theorem diagReply (c : Cluster) (data : Bytes) : Statement (.diagReply c data) := of_none _ rfl
theorem configSetRepeat (c : Cluster) (node : Nat) : Statement (.configSetRepeat c node) := of_none _ rfl
theorem ocfRestart (c : Cluster) (node : Nat) : Statement (.ocfRestart c node) := of_none _ rfl
theorem guardianViolation (c : Cluster) (chan : Chan) (now : Nat) : Statement (.guardianViolation c chan now) := of_none _ rfl
theorem guardianBlockedExpiry (c : Cluster) (chan : Chan) : Statement (.guardianBlockedExpiry c chan) := of_none _ rfl
theorem barrierDownstreamFrame (f : DownIn) (now : Nat) : Statement (.barrierDownstreamFrame f now) := of_none _ rfl
theorem restartEnd (now : Nat) : Statement (.restartEnd now) := of_none _ rfl
theorem barrierUpstreamFrame (fault : LinkFault) (now : Nat) : Statement (.barrierUpstreamFrame fault now) := of_none _ rfl
theorem barrierLoss (up : Bool) (now : Nat) : Statement (.barrierLoss up now) := of_none _ rfl
theorem keyRoundRepeat (now : Nat) : Statement (.keyRoundRepeat now) := of_none _ rfl
theorem toffeeExpiry (now : Nat) : Statement (.toffeeExpiry now) := of_none _ rfl
theorem filtExpiry (input : Nat) (now : Nat) : Statement (.filtExpiry input now) := of_none _ rfl
theorem discrepancyExpiry (chan : Nat) (now : Nat) : Statement (.discrepancyExpiry chan now) := of_none _ rfl
theorem axleCount (pair : Nat) (levels : List (Bool × Bool × Nat)) (now : Nat) : Statement (.axleCount pair levels now) := of_none _ rfl
theorem shuntTest (input : Nat) (ok : Bool) : Statement (.shuntTest input ok) := of_none _ rfl
theorem locationTest (bank : Nat) (bad : List Nat) (aborted : Bool) : Statement (.locationTest bank bad aborted) := of_none _ rfl
theorem offPulse (out : Nat) (ok : Bool) (now : Nat) : Statement (.offPulse out ok now) := of_none _ rfl
theorem tripChannelTest (chan : Nat) (res : TripResult) (now : Nat) : Statement (.tripChannelTest chan res now) := of_none _ rfl
theorem degx (chan : Nat) (now : Nat) : Statement (.degx chan now) := of_none _ rfl
theorem degxOpen (chan : Nat) (now : Nat) : Statement (.degxOpen chan now) := of_none _ rfl
theorem outputFault (out : Nat) (trip : Bool) (short : Bool) (now : Nat) : Statement (.outputFault out trip short now) := of_none _ rfl
theorem faultClassification (bank : Nat) (high : Bool) (now : Nat) : Statement (.faultClassification bank high now) := of_none _ rfl
theorem supplySag (x2 : Nat) (now : Nat) : Statement (.supplySag x2 now) := of_none _ rfl
theorem x2Loss (now : Nat) : Statement (.x2Loss now) := of_none _ rfl
theorem converter (now : Nat) : Statement (.converter now) := of_none _ rfl
theorem restartTestsEnd (res : RestartTests) (now : Nat) : Statement (.restartTestsEnd res now) := of_none _ rfl
theorem x2Return (x2 : Nat) (now : Nat) : Statement (.x2Return x2 now) := of_none _ rfl
theorem x2WithinRange (x2 : Nat) (now : Nat) : Statement (.x2WithinRange x2 now) := of_none _ rfl
theorem converterRecovery (now : Nat) : Statement (.converterRecovery now) := of_none _ rfl
theorem inputChange (input : Nat) (level : Bool) (now : Nat) : Statement (.inputChange input level now) := of_none _ rfl
theorem discrepancyFaultClear (chan : Nat) (now : Nat) : Statement (.discrepancyFaultClear chan now) := of_none _ rfl
theorem comparatorDisagreement (input : Nat) (now : Nat) : Statement (.comparatorDisagreement input now) := of_none _ rfl
theorem datagram (d : DatagramIn) (env : StartEnv) (now : Nat) : Statement (.datagram d env now) := of_none _ rfl
theorem reassemblyTimeout (conn : Nat) (ident : Nat) (now : Nat) : Statement (.reassemblyTimeout conn ident now) := of_none _ rfl
theorem pendingExpiry (entry : Nat) (seq : Nat) : Statement (.pendingExpiry entry seq) := of_none _ rfl
theorem partnerSilent (entry : Nat) (now : Nat) : Statement (.partnerSilent entry now) := of_none _ rfl
theorem routeSet (src : Src) (route : Nat) (wait : Nat) : Statement (.routeSet src route wait) :=
  of_some _ src rfl fun h => left_of_and (left_of_and (h))
theorem routeCancel (src : Src) (route : Nat) : Statement (.routeCancel src route) :=
  of_some _ src rfl fun h => left_of_and (h)
theorem emergencyRelease (src : Src) (route : Nat) : Statement (.emergencyRelease src route) :=
  of_some _ src rfl fun h => left_of_and (h)
theorem pointMove (src : Src) (group : Bool) (target : Nat) (pos : Nat) : Statement (.pointMove src group target pos) :=
  of_some _ src rfl fun h => left_of_and (left_of_and (h))
theorem sectionRestore (src : Src) (obj : Nat) : Statement (.sectionRestore src obj) :=
  of_some _ src rfl fun h => left_of_and (h)
theorem blockSet (src : Src) (onRoute : Bool) (target : Nat) : Statement (.blockSet src onRoute target) :=
  of_some _ src rfl fun h => left_of_and (h)
theorem blockClear (src : Src) (onRoute : Bool) (target : Nat) : Statement (.blockClear src onRoute target) :=
  of_some _ src rfl fun h => left_of_and (h)
theorem guardAck (src : Src) (guard : Nat) : Statement (.guardAck src guard) :=
  of_some _ src rfl fun h => left_of_and (h)
theorem stationCmd (src : Src) (code : Nat) (arg : Nat) : Statement (.stationCmd src code arg) :=
  of_some _ src rfl fun h => left_of_and (left_of_and (h))
theorem boundaryState (src : Src) (msg : BoundaryIn) : Statement (.boundaryState src msg) :=
  of_some _ src rfl fun h => left_of_and (h)
theorem grantRequest (p : GrantReqIn) (now : Nat) : Statement (.grantRequest p now) := of_none _ rfl
theorem startWindowEnd (now : Nat) : Statement (.startWindowEnd now) := of_none _ rfl
theorem witnessStartEnd (now : Nat) : Statement (.witnessStartEnd now) := of_none _ rfl
theorem grant (p : GrantIn) (now : Nat) : Statement (.grant p now) := of_none _ rfl
theorem takeoverFirstTick (now : Nat) : Statement (.takeoverFirstTick now) := of_none _ rfl
theorem grantRefuse (why : Nat) (now : Nat) : Statement (.grantRefuse why now) := of_none _ rfl
theorem witnessStatus (p : WitIn) (now : Nat) : Statement (.witnessStatus p now) := of_none _ rfl
theorem beat (now : Nat) : Statement (.beat now) := of_none _ rfl
theorem leaseLapse (now : Nat) : Statement (.leaseLapse now) := of_none _ rfl
theorem waferSegment (g : SegIn) (now : Nat) : Statement (.waferSegment g now) := of_none _ rfl
theorem waferSegmentTimeout (now : Nat) : Statement (.waferSegmentTimeout now) := of_none _ rfl
theorem waferAcknowledgement (frame : Nat) (acode : BitVec 64) (now : Nat) : Statement (.waferAcknowledgement frame acode now) := of_none _ rfl
theorem heartbeat (h : HeartIn) (now : Nat) : Statement (.heartbeat h now) := of_none _ rfl
theorem heartbeatSend (now : Nat) : Statement (.heartbeatSend now) := of_none _ rfl
theorem waferMiss (now : Nat) : Statement (.waferMiss now) := of_none _ rfl
theorem oldActiveToStandby (now : Nat) : Statement (.oldActiveToStandby now) := of_none _ rfl
theorem peerDown (now : Nat) : Statement (.peerDown now) := of_none _ rfl
theorem witnessDown (now : Nat) : Statement (.witnessDown now) := of_none _ rfl
theorem identity (src : Src) : Statement (.identity src) :=
  of_some _ src rfl fun h => h
theorem status (src : Src) : Statement (.status src) :=
  of_some _ src rfl fun h => h
theorem objectRead (src : Src) (first : Nat) (count : Nat) : Statement (.objectRead src first count) :=
  of_some _ src rfl fun h => left_of_and (left_of_and (h))
theorem routeRead (src : Src) (first : Nat) (count : Nat) : Statement (.routeRead src first count) :=
  of_some _ src rfl fun h => left_of_and (left_of_and (h))
theorem crumbRead (src : Src) (first : Nat) (count : Nat) : Statement (.crumbRead src first count) :=
  of_some _ src rfl fun h => left_of_and (left_of_and (h))
theorem eventRead (src : Src) (start : Nat) (maxb : Nat) (minsev : Nat) : Statement (.eventRead src start maxb minsev) :=
  of_some _ src rfl fun h => left_of_and (left_of_and (left_of_and (h)))
theorem subscribe (src : Src) (period : Nat) : Statement (.subscribe src period) :=
  of_some _ src rfl fun h => left_of_and (h)
theorem timeRead (src : Src) (now : Nat) : Statement (.timeRead src now) :=
  of_some _ src rfl fun h => h
theorem sessionOpen (src : Src) (net : NetAddr) (kslot : Nat) (now : Nat) : Statement (.sessionOpen src net kslot now) :=
  of_some _ src rfl fun h => left_of_and (left_of_and (h))
theorem sessionOpenProof (src : Src) (net : NetAddr) (kslot : Nat) (chal : BitVec 128) (proof : BitVec 64) (now : Nat) : Statement (.sessionOpenProof src net kslot chal proof now) :=
  of_some _ src rfl fun h => left_of_and (left_of_and (h))
theorem sessionClose (src : Src) : Statement (.sessionClose src) :=
  of_some _ src rfl fun h => h
theorem sessionTimeout (now : Nat) : Statement (.sessionTimeout now) := of_none _ rfl
theorem authLockoutEnd (entry : Nat) (now : Nat) : Statement (.authLockoutEnd entry now) := of_none _ rfl
theorem regReadCmd (src : Src) (addr : Nat) (count : Nat) : Statement (.regReadCmd src addr count) :=
  of_some _ src rfl fun h => left_of_and (left_of_and (h))
theorem regWriteCmd (src : Src) (addr : Nat) (words : List Word) : Statement (.regWriteCmd src addr words) :=
  of_some _ src rfl fun h => left_of_and (left_of_and (h))
theorem commit (src : Src) : Statement (.commit src) :=
  of_some _ src rfl fun h => h
theorem stageDiscard (src : Src) : Statement (.stageDiscard src) :=
  of_some _ src rfl fun h => h
theorem partnerStage (src : Src) (entry : Nat) (words : List Word) : Statement (.partnerStage src entry words) :=
  of_some _ src rfl fun h => left_of_and (left_of_and (h))
theorem settingsSave (src : Src) : Statement (.settingsSave src) :=
  of_some _ src rfl fun h => h
theorem laneOut (src : Src) (lane : Lane) : Statement (.laneOut src lane) :=
  of_some _ src rfl fun h => h
theorem laneIn (src : Src) (lane : Lane) : Statement (.laneIn src lane) :=
  of_some _ src rfl fun h => h
theorem duoExtend (src : Src) (hours : Nat) : Statement (.duoExtend src hours) :=
  of_some _ src rfl fun h => left_of_and (h)
theorem lioRestart (src : Src) : Statement (.lioRestart src) :=
  of_some _ src rfl fun h => h
theorem switchover (src : Src) : Statement (.switchover src) :=
  of_some _ src rfl fun h => h
theorem debug (src : Src) (level : Nat) (lane : Nat) : Statement (.debug src level lane) :=
  of_some _ src rfl fun h => left_of_and (left_of_and (h))
theorem lifecycle (src : Src) (target : Nat) (serial : Nat) : Statement (.lifecycle src target serial) :=
  of_some _ src rfl fun h => left_of_and (left_of_and (h))
theorem keyLoad (src : Src) (ktype : Nat) (index : Nat) (slot : Nat) (epub : Bytes) (wrapped : Bytes) (now : Nat) : Statement (.keyLoad src ktype index slot epub wrapped now) :=
  of_some _ src rfl fun h => left_of_and (left_of_and (left_of_and (left_of_and (left_of_and (h)))))
theorem keyErase (src : Src) (ktype : Nat) (index : Nat) (slot : Nat) : Statement (.keyErase src ktype index slot) :=
  of_some _ src rfl fun h => left_of_and (left_of_and (left_of_and (h)))
theorem timeSet (src : Src) (time : Nat) (now : Nat) : Statement (.timeSet src time now) :=
  of_some _ src rfl fun h => left_of_and (h)
theorem restartModule (src : Src) (env : StartEnv) (now : Nat) : Statement (.restartModule src env now) :=
  of_some _ src rfl fun h => h
theorem restartCold (src : Src) (env : StartEnv) (now : Nat) : Statement (.restartCold src env now) :=
  of_some _ src rfl fun h => h
theorem tamperRearm (src : Src) (serial : Nat) (closed : Bool) (env : StartEnv) (now : Nat) : Statement (.tamperRearm src serial closed env now) :=
  of_some _ src rfl fun h => left_of_and (h)
theorem updBegin (src : Src) (part : Nat) (bank : Nat) (header : Bytes) : Statement (.updBegin src part bank header) :=
  of_some _ src rfl fun h => left_of_and (left_of_and (left_of_and (h)))
theorem updBlock (src : Src) (xid : Nat) (num : Nat) (data : Bytes) (crc : Nat) : Statement (.updBlock src xid num data crc) :=
  of_some _ src rfl fun h => left_of_and (left_of_and (left_of_and (left_of_and (h))))
theorem blockNote (xid : Nat) (num : Nat) (readback : Bytes) : Statement (.blockNote xid num readback) := of_none _ rfl
theorem updBitmap (src : Src) (xid : Nat) (first : Nat) : Statement (.updBitmap src xid first) :=
  of_some _ src rfl fun h => left_of_and (left_of_and (h))
theorem updVerify (src : Src) (xid : Nat) : Statement (.updVerify src xid) :=
  of_some _ src rfl fun h => left_of_and (h)
theorem verifyEnd (told : ImageSays) (now : Nat) : Statement (.verifyEnd told now) := of_none _ rfl
theorem updActivate (src : Src) (part : Nat) (unit : Nat) (delay : Nat) (now : Nat) : Statement (.updActivate src part unit delay now) :=
  of_some _ src rfl fun h => left_of_and (left_of_and (left_of_and (h)))
theorem laneBoot (lane : Lane) (ok : Bool) (now : Nat) : Statement (.laneBoot lane ok now) := of_none _ rfl
theorem preload (lane : Lane) (ok : Bool) : Statement (.preload lane ok) := of_none _ rfl
theorem exchangeAbandon (now : Nat) : Statement (.exchangeAbandon now) := of_none _ rfl
theorem healthy (now : Nat) : Statement (.healthy now) := of_none _ rfl
theorem confirmWindowExpiry (env : StartEnv) (now : Nat) : Statement (.confirmWindowExpiry env now) := of_none _ rfl
theorem updConfirm (src : Src) (part : Nat) : Statement (.updConfirm src part) :=
  of_some _ src rfl fun h => left_of_and (h)
theorem updAbort (src : Src) (xid : Nat) : Statement (.updAbort src xid) :=
  of_some _ src rfl fun h => left_of_and (h)
theorem updFallback (src : Src) (part : Nat) (env : StartEnv) (now : Nat) : Statement (.updFallback src part env now) :=
  of_some _ src rfl fun h => left_of_and (h)
theorem ocfDistribute (src : Src) (pkg : Nat) (mask : BitVec 256) : Statement (.ocfDistribute src pkg mask) :=
  of_some _ src rfl fun h => left_of_and (h)
theorem svcRestartEnd (ok : Bool) (now : Nat) : Statement (.svcRestartEnd ok now) := of_none _ rfl
theorem echo (src : Src) (data : Bytes) : Statement (.echo src data) :=
  of_some _ src rfl fun h => left_of_and (h)
theorem portCounters (src : Src) (conn : Nat) : Statement (.portCounters src conn) :=
  of_some _ src rfl fun h => left_of_and (h)
theorem laneDiag (src : Src) (lane : Nat) (start : Nat) (maxb : Nat) : Statement (.laneDiag src lane start maxb) :=
  of_some _ src rfl fun h => left_of_and (left_of_and (left_of_and (h)))
theorem flatchClear (src : Src) (blk : Blk) (mask : Word) : Statement (.flatchClear src blk mask) :=
  of_some _ src rfl fun h => h
theorem xbrQack (q : Nat) (iseq : Nat) : Statement (.xbrQack q iseq) := of_none _ rfl
theorem xbrQpush (q : Nat) (conn : Nat) (data : Bytes) (master : Nat) : Statement (.xbrQpush q conn data master) := of_none _ rfl
theorem xbrQflush (q : Nat) : Statement (.xbrQflush q) := of_none _ rfl
theorem semAcquire (n : Nat) (master : Nat) (now : Nat) : Statement (.semAcquire n master now) := of_none _ rfl
theorem semRelease (n : Nat) (master : Nat) : Statement (.semRelease n master) := of_none _ rfl
theorem semaphoreTimeout (n : Nat) (now : Nat) : Statement (.semaphoreTimeout n now) := of_none _ rfl
theorem xbrWinDone (now : Nat) : Statement (.xbrWinDone now) := of_none _ rfl
theorem transferTimeout (addr : Nat) (write : Bool) : Statement (.transferTimeout addr write) := of_none _ rfl
theorem registerWrite (acc : Access) (writer : Nat) (addr : Nat) (word : Word) (now : Nat) : Statement (.registerWrite acc writer addr word now) := of_none _ rfl
theorem frmPhclr (word : Word) : Statement (.frmPhclr word) := of_none _ rfl
theorem prlCclr (word : Word) : Statement (.prlCclr word) := of_none _ rfl
theorem votClr (word : Word) : Statement (.votClr word) := of_none _ rfl
theorem bstClr (word : Word) : Statement (.bstClr word) := of_none _ rfl
theorem frnClr (c : Cluster) (word : Word) : Statement (.frnClr c word) := of_none _ rfl
theorem lioClr (word : Word) : Statement (.lioClr word) := of_none _ rfl
theorem cmdClr (word : Word) : Statement (.cmdClr word) := of_none _ rfl
theorem xbrClr (word : Word) : Statement (.xbrClr word) := of_none _ rfl
theorem dpxClr (word : Word) : Statement (.dpxClr word) := of_none _ rfl
theorem evrClr (word : Word) : Statement (.evrClr word) := of_none _ rfl
theorem pwrClr (word : Word) : Statement (.pwrClr word) := of_none _ rfl
theorem bridgeEcc (addr : Nat) (now : Nat) : Statement (.bridgeEcc addr now) := of_none _ rfl
theorem eventRecordTaken (now : Nat) : Statement (.eventRecordTaken now) := of_none _ rfl
theorem flush (now : Nat) : Statement (.flush now) := of_none _ rfl
theorem flushEnd (ok : Bool) (now : Nat) : Statement (.flushEnd ok now) := of_none _ rfl
theorem segmentCopy (ok : Bool) : Statement (.segmentCopy ok) := of_none _ rfl
theorem mark (now : Nat) : Statement (.mark now) := of_none _ rfl
theorem ptpSync (domain : Nat) (utc : Int) (now : Nat) : Statement (.ptpSync domain utc now) := of_none _ rfl
theorem ptpUnlock (now : Nat) : Statement (.ptpUnlock now) := of_none _ rfl
theorem rtcWrite (now : Nat) : Statement (.rtcWrite now) := of_none _ rfl
theorem powerOn (env : StartEnv) (now : Nat) : Statement (.powerOn env now) := of_none _ rfl
theorem holdup (x1 : Nat) (now : Nat) : Statement (.holdup x1 now) := of_none _ rfl
theorem x1Return (x1 : Nat) (now : Nat) : Statement (.x1Return x1 now) := of_none _ rfl
theorem holdupSafeStop (now : Nat) : Statement (.holdupSafeStop now) := of_none _ rfl
theorem holdupZeroise (now : Nat) : Statement (.holdupZeroise now) := of_none _ rfl
theorem backup (now : Nat) : Statement (.backup now) := of_none _ rfl
theorem tamper (now : Nat) : Statement (.tamper now) := of_none _ rfl
theorem cellMeasurement (mv : Nat) : Statement (.cellMeasurement mv) := of_none _ rfl
theorem s1Release (pressed : Nat) (env : StartEnv) (now : Nat) : Statement (.s1Release pressed env now) := of_none _ rfl
theorem s1Stuck (now : Nat) : Statement (.s1Stuck now) := of_none _ rfl
theorem s1Rearm (now : Nat) : Statement (.s1Rearm now) := of_none _ rfl
theorem svcWdog (now : Nat) : Statement (.svcWdog now) := of_none _ rfl
theorem temp (tenths : Int) : Statement (.temp tenths) := of_none _ rfl
theorem rail (now : Nat) : Statement (.rail now) := of_none _ rfl
theorem opticInserted (conn : Nat) (qualified : Bool) : Statement (.opticInserted conn qualified) := of_none _ rfl
theorem timebaseLoss (now : Nat) : Statement (.timebaseLoss now) := of_none _ rfl
theorem x1Range (x1 : Nat) (now : Nat) : Statement (.x1Range x1 now) := of_none _ rfl
theorem backupDomainLoss (now : Nat) : Statement (.backupDomainLoss now) := of_none _ rfl

end Sys2Proof.Laws.Sender
end

