-- ==== Sys2Proof/Laws/Queue.lean ====
section
/-! SUPPORT. The queues of the bridge (R306 to R310) and the raising of a source (R326), each said once. -/

namespace Sys2Proof.Machine

open Sys2Proof

/-- ISEQ stays within 1 to 65,535 (R307). -/
theorem nextIseq_range (n : Nat) : 1 ≤ nextIseq n ∧ (n ≤ 65535 → nextIseq n ≤ 65535) := by
  unfold nextIseq
  split <;> omega

theorem setQueue_other (x : XbrBlk) (q p : Nat) (f : Queue → Queue) (hq : q ≤ 5) (hp : p ≤ 5) (h : p ≠ q) :
    queueOf (setQueue x q f) p = queueOf x p := by
  match q, p, hq, hp with
  | 0, 0, _, _ | 1, 1, _, _ | 2, 2, _, _ | 3, 3, _, _ | 4, 4, _, _ | 5, 5, _, _ => exact absurd rfl h
  | 0, 1, _, _ | 0, 2, _, _ | 0, 3, _, _ | 0, 4, _, _ | 0, 5, _, _ => rfl
  | 1, 0, _, _ | 1, 2, _, _ | 1, 3, _, _ | 1, 4, _, _ | 1, 5, _, _ => rfl
  | 2, 0, _, _ | 2, 1, _, _ | 2, 3, _, _ | 2, 4, _, _ | 2, 5, _, _ => rfl
  | 3, 0, _, _ | 3, 1, _, _ | 3, 2, _, _ | 3, 4, _, _ | 3, 5, _, _ => rfl
  | 4, 0, _, _ | 4, 1, _, _ | 4, 2, _, _ | 4, 3, _, _ | 4, 5, _, _ => rfl
  | 5, 0, _, _ | 5, 1, _, _ | 5, 2, _, _ | 5, 3, _, _ | 5, 4, _, _ => rfl

/-- A push that finds room (R307). -/
theorem pushQueue_room (x : XbrBlk) (q conn : Nat) (data : Bytes) (hq : q ≤ 5) (h : queueRoom x q data.length = true) :
    (queueOf (pushQueue x q conn data) q).items
        = (queueOf x q).items ++ [{ iseq := (queueOf x q).nextSeq, conn := conn, data := data }]
      ∧ (queueOf (pushQueue x q conn data) q).nextSeq = nextIseq (queueOf x q).nextSeq
      ∧ (queueOf (pushQueue x q conn data) q).loss = (queueOf x q).loss := by
  have e : pushQueue x q conn data = setQueue x q fun u =>
      { u with items := u.items ++ [{ iseq := u.nextSeq, conn := conn, data := data }], nextSeq := nextIseq u.nextSeq
               wr := u.wr.advance (itemBytes data.length / 8) } := by
    simp only [pushQueue, h, if_true]
  rw [e, setQueue_same _ _ _ hq]
  exact ⟨rfl, rfl, rfl⟩

/-- A push that finds none: LOSS advances, the items stand (R307, R309). -/
theorem pushQueue_full (x : XbrBlk) (q conn : Nat) (data : Bytes) (hq : q ≤ 5) (h : queueRoom x q data.length = false) :
    (queueOf (pushQueue x q conn data) q).items = (queueOf x q).items
      ∧ (queueOf (pushQueue x q conn data) q).loss = satAdd 255 1 (queueOf x q).loss := by
  match q, hq with
  | 0, _ => simp [pushQueue, h, queueOf, setQueue]
  | 1, _ => simp [pushQueue, h, queueOf, setQueue]
  | 2, _ => simp [pushQueue, h, queueOf, setQueue]
  | 3, _ => simp [pushQueue, h, queueOf, setQueue]
  | 4, _ => simp [pushQueue, h, queueOf, setQueue]
  | 5, _ => simp [pushQueue, h, queueOf, setQueue]

/-- A source that is live is not raised again (R326). -/
theorem raiseAt_live (s : State) (b : Blk) (n : Nat) (lane : Option Lane) (h : isLive s b n = true) : raiseAt s b n lane = s := by
  simp only [raiseAt, h, if_true]

/-- Lowering leaves every sticky bit (R326, R327). -/
theorem lower_latch (s : State) (b c : Blk) (n : Nat) : (faultOf (lower s b n).faults c).latch = (faultOf s.faults c).latch := by
  by_cases h : c = b
  · subst h
    simp [lower]
  · simp [lower, setFault_other _ _ _ _ h]

/-- Lowering touches nothing but the fault sub-blocks. -/
theorem lower_else (s : State) (b : Blk) (n : Nat) : lower s b n = { s with faults := (lower s b n).faults } := rfl

end Sys2Proof.Machine
end

