-- ==== Sys2Proof/Laws/Raise.lean ====
section
/-! SUPPORT. What a record and a raising change, and what they leave (R326 to R337, R393 to R396). -/

namespace Sys2Proof.Safety

open Sys2Proof Sys2Proof.Machine

theorem SvcFrame.refl (s : State) : SvcFrame s s := rfl

theorem SvcFrame.trans {s t u : State} (h : SvcFrame s t) (g : SvcFrame t u) : SvcFrame s u := by
  unfold SvcFrame at *
  rw [g, h]

theorem RaiseFrame.refl (s : State) : RaiseFrame s s := rfl

theorem RaiseFrame.trans {s t u : State} (h : RaiseFrame s t) (g : RaiseFrame t u) : RaiseFrame s u := by
  unfold RaiseFrame at *
  rw [g, h]

theorem SvcFrame.raise {s t : State} (h : SvcFrame s t) : RaiseFrame s t := by
  unfold SvcFrame at h
  unfold RaiseFrame
  rw [h]

end Sys2Proof.Safety

namespace Sys2Proof.Machine

open Sys2Proof Sys2Proof.Safety

/-! ## Records -/

theorem startFlush_frame (s : State) : SvcFrame s (startFlush s) := by
  unfold startFlush
  dsimp only
  repeat' split
  all_goals rfl

theorem loseRec_frame (s : State) : SvcFrame s (loseRec s) := rfl

theorem bufferRec_frame (s : State) (t : Nat) (r : Rec) : SvcFrame s (bufferRec s t r) := by
  unfold bufferRec
  dsimp only
  repeat' split
  · rfl
  · exact loseRec_frame s
  · exact SvcFrame.trans (t := { s with evr := { s.evr with buffer := s.evr.buffer ++ [numbered s t r], next := s.evr.next + 1 } })
      rfl (startFlush_frame _)
  · rfl

theorem tellOne_frame (n whr : Nat) (s : State) : SvcFrame s (tellOne n whr s) := by
  unfold tellOne
  split
  · rfl
  · exact bufferRec_frame _ _ _

theorem tellLoss_frame (s : State) : SvcFrame s (tellLoss s) := by
  unfold tellLoss
  dsimp only
  split
  · exact SvcFrame.trans (t := { s with evr := { s.evr with lost2 := 0, lost3 := 0 } }) rfl
      ((tellOne_frame _ _ _).trans (tellOne_frame _ _ _))
  · rfl

theorem svcRec_frame (s : State) (ty sev : Nat) (body : Bytes) : SvcFrame s (svcRec s ty sev body) :=
  (tellLoss_frame s).trans (bufferRec_frame _ _ _)

theorem pushQueue_evt (x : XbrBlk) (conn : Nat) (data : Bytes) :
    pushQueue x 2 conn data = { x with q2 := (pushQueue x 2 conn data).q2, sawQloss := (pushQueue x 2 conn data).sawQloss } := by
  unfold pushQueue
  split <;> rfl

/-- What the comparison of EVT_OUT's pointers can change (R311). -/
theorem touchQueue_evt (s : State) : touchQueue s 2 =
    { s with xbr := { s.xbr with q2 := (touchQueue s 2).xbr.q2, sawQptr := (touchQueue s 2).xbr.sawQptr } } := by
  unfold touchQueue
  dsimp only
  split <;> rfl

/-- What a push into EVT_OUT can change (R307, R309, R311). -/
theorem pushTo_evt (s : State) (conn : Nat) (data : Bytes) : pushTo s 2 conn data =
    { s with xbr := { s.xbr with q2 := (pushTo s 2 conn data).xbr.q2, sawQloss := (pushTo s 2 conn data).xbr.sawQloss
                                 sawQptr := (pushTo s 2 conn data).xbr.sawQptr } } := by
  unfold pushTo
  dsimp only
  rw [pushQueue_evt, touchQueue_evt]

theorem pushRec_frame (s : State) (r : Rec) : RaiseFrame s (pushRec s r) := by
  unfold pushRec
  dsimp only
  rw [pushTo_evt]
  split <;> rfl

theorem frameRec_frame (s : State) (ty sev : Nat) (body : Bytes) : RaiseFrame s (frameRec s ty sev body) := by
  unfold frameRec
  dsimp only
  split
  · exact pushRec_frame _ _
  · exact (svcRec_frame _ _ _ _).raise

/-! ## Fencing, the stop and a raising -/

theorem vot_frame (s : State) (v : VotBlk) : RaiseFrame s { s with vot := v } := rfl

theorem faults_frame (s : State) (v : Faults) : RaiseFrame s { s with faults := v } := rfl

theorem stopFrames_frame (s : State) : RaiseFrame s (stopFrames s) := rfl

theorem laneTo_frame (s : State) (l : Lane) (st : LaneSt) : RaiseFrame s (laneTo s l st) := by
  unfold laneTo
  dsimp only
  split
  · rfl
  · exact (vot_frame s _).trans (frameRec_frame _ _ _ _)

theorem duoStart_frame (s : State) : RaiseFrame s (duoStart s) := by
  unfold duoStart
  split <;> rfl

theorem laneFence_frame (s : State) (l : Lane) : RaiseFrame s (laneFence s l) := by
  unfold laneFence
  dsimp only
  split
  · exact (laneTo_frame s l _).trans ((vot_frame _ _).trans (duoStart_frame _))
  · rfl

theorem prlSwitch_frame (s : State) : RaiseFrame s (prlSwitch s) := by
  unfold prlSwitch
  split <;> rfl

theorem prlFence_frame (s : State) : RaiseFrame s (prlFence s) := by
  unfold prlFence
  split
  · rfl
  · exact RaiseFrame.trans (t := armGuards (updInter { s with prl := { s.prl with fenced := true } } fun x =>
      { x with permits := [] })) rfl (prlSwitch_frame _)

theorem frnFence_frame (s : State) (c : Cluster) : RaiseFrame s (frnFence s c) := by
  unfold frnFence
  dsimp only
  cases c <;> repeat' split
  all_goals rfl

theorem fenceUnit_frame (s : State) (b : Blk) (n : Nat) (lane : Option Lane) : RaiseFrame s (fenceUnit s b n lane) := by
  cases b <;> cases lane <;>
    first
    | rfl
    | exact laneFence_frame _ _
    | exact prlFence_frame _
    | exact frnFence_frame _ _

theorem relinquish_frame (s : State) : RaiseFrame s (relinquish s) := rfl

theorem safeStop_frame (s : State) : RaiseFrame s (safeStop s) := by
  unfold safeStop
  split
  · rfl
  · exact (stopFrames_frame s).trans ((startFlush_frame _).raise.trans (relinquish_frame _))

theorem react_frame (s : State) (b : Blk) (n : Nat) (sev : Sev) (lane : Option Lane) : RaiseFrame s (react s b n sev lane) := by
  cases sev
  · rfl
  · rfl
  · exact fenceUnit_frame _ _ _ _
  · exact (fenceUnit_frame _ _ _ _).trans (safeStop_frame _)

theorem tellAt_frame (s : State) (b : Blk) (n t unrec : Nat) : RaiseFrame s (tellAt s b n t unrec) := rfl

/-- The note of a last record, where there is a count to write out. -/
theorem told_frame (s : State) (b : Blk) (n t u : Nat) (p : Prop) [Decidable p] : RaiseFrame s (if p then s else tellAt s b n t u) := by
  split
  · rfl
  · exact tellAt_frame _ _ _ _ _

theorem faultRec_frame (s : State) (b : Blk) (n : Nat) (sev : Sev) : RaiseFrame s (faultRec s b n sev) := by
  unfold faultRec
  dsimp only
  split
  · exact (told_frame _ _ _ _ _ _).trans (svcRec_frame _ _ _ _).raise
  · exact (told_frame _ _ _ _ _ _).trans (frameRec_frame _ _ _ _)
  · repeat' split
    · exact tellAt_frame _ _ _ _ _
    · exact (tellAt_frame _ _ _ _ _).trans (frameRec_frame _ _ _ _)
    · exact (tellAt_frame _ _ _ _ _).trans (frameRec_frame _ _ _ _)

theorem raiseAt_frame (s : State) (b : Blk) (n : Nat) (lane : Option Lane) : RaiseFrame s (raiseAt s b n lane) := by
  unfold raiseAt
  dsimp only
  split
  · rfl
  · exact (faults_frame s _).trans ((faultRec_frame _ _ _ _).trans (react_frame _ _ _ _ _))

theorem raise_frame (s : State) (b : Blk) (n : Nat) : RaiseFrame s (raise s b n) := raiseAt_frame s b n none

theorem lower_frame (s : State) (b : Blk) (n : Nat) : RaiseFrame s (lower s b n) := rfl

theorem setLive_frame (s : State) (b : Blk) (n : Nat) (on : Bool) : RaiseFrame s (setLive s b n on) := by
  cases on
  · exact lower_frame s b n
  · exact raise_frame s b n

theorem pulse_frame (s : State) (b : Blk) (n : Nat) : RaiseFrame s (pulse s b n) :=
  (lower_frame s b n).trans (raise_frame _ b n)

/-! ## The bits of the fault sub-blocks -/

/-- Two fault sub-blocks show the same bits and enables. -/
def SameBits (s t : State) : Prop :=
  ∀ c, (faultOf t.faults c).live = (faultOf s.faults c).live ∧ (faultOf t.faults c).latch = (faultOf s.faults c).latch
    ∧ (faultOf t.faults c).ien = (faultOf s.faults c).ien

theorem SameBits.of {s t : State} (h : t.faults = s.faults) : SameBits s t := fun c => by rw [h]; exact ⟨rfl, rfl, rfl⟩

theorem SameBits.trans {s t u : State} (h : SameBits s t) (g : SameBits t u) : SameBits s u := fun c =>
  ⟨(g c).1.trans (h c).1, (g c).2.1.trans (h c).2.1, (g c).2.2.trans (h c).2.2⟩

theorem SvcFrame.faults {s t : State} (h : SvcFrame s t) : t.faults = s.faults := by
  unfold SvcFrame at h
  rw [h]

theorem pushRec_faults (s : State) (r : Rec) : (pushRec s r).faults = s.faults := by
  unfold pushRec
  dsimp only
  rw [pushTo_evt]
  split <;> rfl

theorem frameRec_faults (s : State) (ty sev : Nat) (body : Bytes) : (frameRec s ty sev body).faults = s.faults := by
  unfold frameRec
  dsimp only
  split
  · exact pushRec_faults _ _
  · exact SvcFrame.faults (svcRec_frame _ _ _ _)

theorem laneTo_faults (s : State) (l : Lane) (st : LaneSt) : (laneTo s l st).faults = s.faults := by
  unfold laneTo
  dsimp only
  split
  · rfl
  · exact frameRec_faults _ _ _ _

theorem duoStart_faults (s : State) : (duoStart s).faults = s.faults := by
  unfold duoStart
  split <;> rfl

theorem laneFence_faults (s : State) (l : Lane) : (laneFence s l).faults = s.faults := by
  unfold laneFence
  dsimp only
  split
  · rw [duoStart_faults]
    exact laneTo_faults s l _
  · rfl

theorem prlFence_faults (s : State) : (prlFence s).faults = s.faults := by
  unfold prlFence prlSwitch
  repeat' split
  all_goals rfl

theorem fenceUnit_faults (s : State) (b : Blk) (n : Nat) (lane : Option Lane) : (fenceUnit s b n lane).faults = s.faults := by
  cases b <;> cases lane <;>
    first
    | rfl
    | exact laneFence_faults _ _
    | exact prlFence_faults _
    | (unfold fenceUnit frnFence; dsimp only; repeat' split) <;> rfl

theorem safeStop_faults (s : State) : (safeStop s).faults = s.faults := by
  unfold safeStop
  split
  · rfl
  · exact (SvcFrame.faults (startFlush_frame (stopFrames s)) :)

theorem react_faults (s : State) (b : Blk) (n : Nat) (sev : Sev) (lane : Option Lane) : (react s b n sev lane).faults = s.faults := by
  cases sev
  · rfl
  · rfl
  · exact fenceUnit_faults _ _ _ _
  · exact (safeStop_faults _).trans (fenceUnit_faults _ _ _ _)

theorem tellAt_bits (s : State) (b : Blk) (n t unrec : Nat) : SameBits s (tellAt s b n t unrec) := by
  intro c
  by_cases h : c = b
  · subst h
    simp [tellAt]
  · simp [tellAt, setFault_other _ _ _ _ h]

theorem told_bits (s : State) (b : Blk) (n t u : Nat) (p : Prop) [Decidable p] : SameBits s (if p then s else tellAt s b n t u) := by
  split
  · exact .of rfl
  · exact tellAt_bits _ _ _ _ _

theorem faultRec_bits (s : State) (b : Blk) (n : Nat) (sev : Sev) : SameBits s (faultRec s b n sev) := by
  unfold faultRec
  dsimp only
  split
  · exact (told_bits _ _ _ _ _ _).trans (.of (SvcFrame.faults (svcRec_frame _ _ _ _)))
  · exact (told_bits _ _ _ _ _ _).trans (.of (frameRec_faults _ _ _ _))
  · repeat' split
    · exact tellAt_bits _ _ _ _ _
    · exact (tellAt_bits _ _ _ _ _).trans (.of (frameRec_faults _ _ _ _))
    · exact (tellAt_bits _ _ _ _ _).trans (.of (frameRec_faults _ _ _ _))

/-- A raising sets one live bit and one sticky bit, and no other bit of any sub-block (R326). -/
theorem raiseAt_bits (s : State) (b : Blk) (n : Nat) (lane : Option Lane) (h : isLive s b n = false) (c : Blk) :
    (faultOf (raiseAt s b n lane).faults c).live
        = (if c = b then (faultOf s.faults b).live ||| srcBit n else (faultOf s.faults c).live)
      ∧ (faultOf (raiseAt s b n lane).faults c).latch
        = (if c = b then (faultOf s.faults b).latch ||| srcBit n else (faultOf s.faults c).latch)
      ∧ (faultOf (raiseAt s b n lane).faults c).ien = (faultOf s.faults c).ien := by
  simp only [raiseAt, h, Bool.false_eq_true, if_false]
  rw [react_faults]
  generalize hg : FaultBlk.mk ((faultOf s.faults b).live ||| srcBit n) ((faultOf s.faults b).latch ||| srcBit n)
    (faultOf s.faults b).ien (faultOf s.faults b).told = g
  obtain ⟨h1, h2, h3⟩ := faultRec_bits { s with faults := setFault s.faults b g } b n (sevOf s.cfg b n) c
  rw [h1, h2, h3]
  subst hg
  by_cases e : c = b
  · subst e
    simp
  · simp [setFault_other _ _ _ _ e, e]

/-- After a raising the source is live. -/
theorem raiseAt_isLive (s : State) (b : Blk) (n : Nat) (lane : Option Lane) (hn : n < 16) :
    isLive (raiseAt s b n lane) b n = true := by
  cases h : isLive s b n
  · have e := (raiseAt_bits s b n lane h b).1
    rw [if_pos rfl] at e
    rw [isLive, e, BitVec.getLsbD_or, srcBit_get _ _ hn]
    simp
  · rw [raiseAt_live s b n lane h]
    exact h

theorem raise_isLive (s : State) (b : Blk) (n : Nat) (hn : n < 16) : isLive (raise s b n) b n = true :=
  raiseAt_isLive s b n none hn

theorem lower_isLive (s : State) (b : Blk) (n : Nat) (hn : n < 16) : isLive (lower s b n) b n = false := by
  simp [isLive, lower, srcBit_get _ _ hn]

theorem setLive_isLive (s : State) (b : Blk) (n : Nat) (on : Bool) (hn : n < 16) : isLive (setLive s b n on) b n = on := by
  cases on
  · exact lower_isLive s b n hn
  · exact raise_isLive s b n hn

theorem pulse_isLive (s : State) (b : Blk) (n : Nat) (hn : n < 16) : isLive (pulse s b n) b n = true :=
  raise_isLive _ b n hn

/-- After a raising the sticky bit is set, where it covered the source before. -/
theorem raiseAt_isLatched (s : State) (b : Blk) (n : Nat) (lane : Option Lane) (hn : n < 16) (hl : LatchedFaults s.faults) :
    isLatched (raiseAt s b n lane) b n = true := by
  cases h : isLive s b n
  · have e := (raiseAt_bits s b n lane h b).2.1
    rw [if_pos rfl] at e
    rw [isLatched, e, BitVec.getLsbD_or, srcBit_get _ _ hn]
    simp
  · rw [raiseAt_live s b n lane h]
    exact hl b n h

/-- The stop (R334). -/
theorem safeStop_stopped (s : State) : (safeStop s).sys.stopped = true := by
  unfold safeStop
  split
  · assumption
  · have e := startFlush_frame (stopFrames s)
    unfold SvcFrame at e
    show (startFlush (stopFrames s)).sys.stopped = true
    rw [e]
    rfl

/-- A source whose severity in effect is SAFE-STOP stops the module (R333, R334). -/
theorem raise_stops (s : State) (b : Blk) (n : Nat) (h : isLive s b n = false) (hs : sevOf s.cfg b n = .safeStop) :
    (raise s b n).sys.stopped = true := by
  simp only [raise, raiseAt, h, hs, Bool.false_eq_true, if_false, react]
  exact safeStop_stopped _

end Sys2Proof.Machine
end

