-- ==== Sys2Proof/Laws/Recorder.lean ====
section
/-! SUPPORT. The recorder's operations: no flush loses a record, and a record that finds room is kept (R395, R397). -/

namespace Sys2Proof.Machine

open Sys2Proof Sys2Proof.Safety

/-- A flush moves records and loses none (R397). -/
theorem startFlush_kept (s : State) : allKept (startFlush s).evr = allKept s.evr := by
  unfold startFlush
  dsimp only
  split
  · rfl
  · rename_i h
    have e : s.evr.flushing = none := by
      cases f : s.evr.flushing with
      | none => rfl
      | some b => exact absurd (by rw [f]; rfl) h
    split
    · rfl
    · simp [allKept, mramKept, e]

theorem startFlush_next (s : State) : (startFlush s).evr.next = s.evr.next := by
  unfold startFlush
  dsimp only
  repeat' split
  all_goals rfl

/-- A record that finds room is kept, under the next number. -/
theorem bufferRec_kept (s : State) (t : Nat) (r : Rec) (h : CanRecord s (recSize r)) : KeepsRecord s (bufferRec s t r) t r := by
  obtain ⟨h1, h2, _, _, h5⟩ := h
  unfold bufferRec KeepsRecord
  dsimp only
  rw [if_neg (by simp [h1, h2]), if_neg (by omega)]
  split
  · rw [startFlush_kept, startFlush_next]
    simp [allKept, mramKept, numbered]
  · simp [allKept, mramKept, numbered]

/-- With no loss to tell of, none is told. -/
theorem tellLoss_none (s : State) (h2 : s.evr.lost2 = 0) (h3 : s.evr.lost3 = 0) : tellLoss s = s := by
  simp [tellLoss, h2, h3]

/-- A record that the service processor forms is kept (R394, R395). -/
theorem svcRec_kept (s : State) (ty sev : Nat) (body : Bytes) (h : CanRecord s (16 + body.length)) :
    KeepsRecord s (svcRec s ty sev body) s.now { ty := ty, sev := sev, orig := true, msw := msw s, body := body } := by
  unfold svcRec
  rw [tellLoss_none s h.2.2.1 h.2.2.2.1]
  exact bufferRec_kept s s.now _ h

/-- The first records leave the MRAM, the others stay in their order (R398). -/
theorem dropRecs_flat (n : Nat) (bs : List Batch) : (dropRecs n bs).flatMap batchLeft = (bs.flatMap batchLeft).drop n := by
  induction bs generalizing n with
  | nil => cases n <;> simp [dropRecs]
  | cons b bs ih =>
    cases n with
    | zero => simp [dropRecs]
    | succ n =>
      rw [dropRecs]
      split
      · rename_i h
        rw [ih, List.flatMap_cons, List.drop_append]
        simp [List.drop_eq_nil_of_le h]
      · rename_i h
        rw [List.flatMap_cons, List.flatMap_cons, List.drop_append]
        rw [Nat.sub_eq_zero_of_le (Nat.le_of_not_le h)]
        simp [batchLeft, List.drop_drop]

end Sys2Proof.Machine
end

