-- ==== Sys2Proof/Tests/Slice0.lean ====
section
/-! SUPPORT. The model's own tests: ill-formed commands are refused by each check of WellFormed, a few steps on small
states, and for each statement of Certificates/Slice0 that has hypotheses a state and operands that meet them together,
clause by clause. A hypothesis about a value that only an opaque function gives has no such state: where a statement has
one clause for each way that the value can fall, the other hypotheses of both clauses are met here. -/

namespace Sys2Proof.Tests

open Sys2Proof Sys2Proof.Machine Sys2Proof.Safety

/-! ## Small states -/

/-- A partner of an operator's side on X13 with every class but the witness's. -/
def operator : Partner := { addr := 0x0400, conn := 13, classes := 0x1F, flags := 1, silent := 1, udpp := 5, ip := 7 }

/-- The module of a neighbour pair: pair 1, KIND 0. -/
def neighbour : Partner := { addr := 0x0800, conn := 12, classes := 0x01, udpp := 6, ip := 8 }

/-- Requests of entry 0 and of entry 1. -/
def src0 : Src := { entry := 0, addr := 0x0400, tag := 3, seq := 9 }
def src1 : Src := { entry := 1, addr := 0x0800 }

/-- A module in MAINT with its recorder numbered, two partners, and the operator's maintenance session open. -/
def calm : State :=
  { State.reset with
    cmd := { partners := [operator, neighbour] ++ List.replicate 30 {} }
    sec := { life := .maint, session := some { entry := 0, addr := 0x0400, ip := 7, udpp := 5, kslot := 0, lastAt := 0 } }
    evr := { next := 1, lastFlush := 0, journal := 1 }
    sys := { ready := true, step := 10, s1mask := false } }

def describe (i : Nat) (ty : ObjTy) : ObjDesc :=
  { idx := i, ty := ty, loc := .nowhere, approachLit := false, restorable := ty = .track, timer := if ty = .point then some 1 else none
    sections := [], inMap := [], lampInput := none, outMap := [], neighbour := if ty = .boundary then some (1, 40) else none }

/-- Point 1, signal 2, section 3, boundary 4, and route 10 from the signal over the section. -/
def station : Station := { emptyStation with
  imgId := 5, mzpid := 6, prtid := 7, stationCodes := [4], bage := 5, neighbours := [(1, 4)]
  objects := [describe 1 .point, describe 2 .signal, describe 3 .track, describe 4 .boundary]
  timers := [{ num := 1, kind := .watch, presetMs := 8000, use := .object 1 }, { num := 2, kind := .release, presetMs := 0, use := .route 10 },
    { num := 3, kind := .release, presetMs := 500, use := .logic (.const 1) }]
  nodes := [{ cluster := .c0, node := 20, nel := 1, sync := true, slot := some 3, schedId := 77, cfgId := 88 }]
  routes := [{ num := 10, entry := 2, exit := 2, path := [{ ref := .obj 3, edge := 0, points := [], flank := [] }], overlapSections := []
               overlapPoints := [], crossings := [], boundary := none, approach := none, approachMs := 60000, overlapMs := 1000
               timer := 2, aspect := 3, limits := [], inhibit := .const 0 }] }

def table : Prt :=
  { prtid := 7, mzpid := 6, variant := 0x20, settle := 3, bage := 5, cwarn := 0, ccrit := 0, objects := [], routes := []
    conflicts := [], guards := [{ pair := 0, dir := 0, trip := 0, thr := 1, sig := none, quiet := 10 }], tripSignal := [] }

/-- An ALONE module between two frames, its images loaded, the next tick at 1 ms. -/
def running : State :=
  { calm with dpx := { role := .alone }, frm := { nextTick := some 1000 }, mzp := some station, prt := some table }

/-- The same in the middle of a frame. -/
def inFrame : State := { running with work := some {}, frm := { nextTick := some 1000, phase := .prove } }

/-- The four objects, valid, settled, none commanded. -/
def objects : List ObjInst :=
  [{ idx := 1, ty := .point, cmd := 0, rep := posRep 0, valid := true }, { idx := 2, ty := .signal, cmd := 0, rep := sgStop, valid := true },
   { idx := 3, ty := .track, cmd := 0, rep := 0, valid := true }, { idx := 4, ty := .boundary, cmd := 0, rep := 0, valid := true }]

/-- A transaction of route 10 in slot 0. -/
def txn (st : RouteSt) : Txn := { slot := 0, route := 10, age := 1, admittedAt := 0, waitMs := 1000, state := st, relRemain := 0 }

/-- The running module with these objects and transactions, ready for a vital request. -/
def station1 (x : Inter) : State := { running with core := x }

/-- In holdup since a time. -/
def failing0 (at_ : Nat) : State := { calm with pwr := { power := .holdup, huAt := some at_ } }

/-- Node 20 of Cluster 0 asked on channel A in cycle 7, and its reply. -/
def asked0 : State := { calm with
  mzp := some station
  frn0 := { state := .run, begun := true, cycle := 7, nodes := [{ node := 20, state := .ranging }], askA := some (.node 20, 7) } }
def replyOf0 (cfgId : Nat) : Bytes :=
  let h : Bytes := [0xC4, 0, 20, 0] ++ be 4 0 ++ be 2 8 ++ be 2 0 ++ be 4 77 ++ be 4 cfgId
  h ++ be 4 (crc32c h).toNat

/-- A field side that runs, inputs 2 and 3 a counting pair. -/
def counting : State := { running with
  lio := { field := { powered := true } }
  mzp := some { station with inputs := List.replicate 4 { filt := 0, mode := .paired, disc := 0 } } }

/-! ## Well-formedness: a command that each check refuses -/

theorem test_wf_accepts : (Instr.routeSet src0 1 600).wf = true ∧ (Instr.echo src0 []).wf = true := by decide
theorem test_wf_byte : (Instr.subscribe src0 256).wf = false := by decide
theorem test_wf_half : (Instr.routeCancel src0 65536).wf = false := by decide
theorem test_wf_word : (Instr.reassemblyTimeout 10 4294967296 0).wf = false := by decide
theorem test_wf_dbl : (Instr.stationCmd src0 1 18446744073709551616).wf = false := by decide
theorem test_wf_frameNo : (Instr.waferAcknowledgement 281474976710656 0 0).wf = false := by decide
theorem test_wf_below : (Instr.degx 4 0).wf = false := by decide
theorem test_wf_bytesOf : (Instr.updBegin src0 1 0 [1]).wf = false := by decide
theorem test_wf_upTo : (Instr.ack .c0 (List.replicate 4017 0)).wf = false := by decide +kernel
theorem test_wf_lengthUpTo : (Instr.regWriteCmd src0 0 (List.replicate 2049 0)).wf = false := by decide +kernel
theorem test_wf_commandPort : (Instr.reassemblyTimeout 9 1 0).wf = false := by decide
theorem test_wf_opticPort : (Instr.opticInserted 4 true).wf = false := by decide
theorem test_wf_source : (Instr.identity { entry := 34 }).wf = false ∧ (Instr.identity { entry := 0, ver := 3 }).wf = false := by decide
theorem test_wf_net : (Instr.sessionOpen src0 { conn := 9, ip := 0, udpp := 0 } 0 0).wf = false := by decide
theorem test_wf_datagram : (Instr.datagram { conn := 13, ip := 0, udpp := 65536, data := [] } {} 0).wf = false := by decide
theorem test_wf_boundary :
    (Instr.boundaryState src1 { pair := 32, frame := 0, entries := [] }).wf = false
      ∧ (Instr.boundaryState src1 { pair := 1, frame := 0, entries := [{ obj := 65536, offer := 0, border := 0, tag := 0 }] }).wf
        = false := by decide
theorem test_wf_grantRequest :
    (Instr.grantRequest { src := src0, unit := 3, fref := 0, beat := 0, reason := 1, miss := 0, wframe := 0 } 0).wf = false := by
  decide
theorem test_wf_grant : (Instr.grant { fref := 0, beat := 0, unit := 256, gepoch := 0, wframe := 0 } 0).wf = false := by decide
theorem test_wf_witnessStatus :
    (Instr.witnessStatus { entry := 32, fref := 0, beat := 0, role := 0, flags := 0, wframe := 0, miss := 0, hl := 0, gepoch := 0
                           kind := 0 } 0).wf = false := by decide
theorem test_wf_segment : (Instr.waferSegment { unit := 2, seg := 0, nseg := 1, crcOk := true, wafer := {} } 0).wf = false := by
  decide
theorem test_wf_heartbeat :
    (Instr.heartbeat { unit := 2, wframe := 0, msw := 0, ready := true, granted := true, crcOk := true } 0).wf = false := by decide
theorem test_wf_test : (Instr.proofTestEnd .l1 { took := List.replicate 29 0 } 0).wf = false
    ∧ (Instr.proofTestEnd .l1 { found := some (.cell 1 9) } 0).wf = false ∧ (Instr.proofTestEnd .l1 { found := some (.bist 6 0) } 0).wf = false := by
  decide
theorem test_wf_access : (Instr.registerWrite .lanes 65536 0 0 0).wf = false
    ∧ (Instr.registerWrite (.service { bytes := 9 }) 0 0 0 0).wf = false := by decide
theorem test_wf_tick :
    (Instr.frameTick 0 { m1 := 0, m2 := 0, m3 := 0, ptrUpsets := [{ queue := 6, bits := 1 }] }).wf = false := by decide
theorem test_wf_drain : (Instr.voteInstant 0 {} { drainEnd := 0, durations := List.replicate 8 0 }).wf = false := by decide
theorem test_no_word_spells_a_command : decodeTableWord 32 0x12345678 = none ∧ State.reset.withFetchWord 8 1 = State.reset := by
  decide

/-! ## A few values and steps, each against the spec's own numbers -/

/-- The state after a command, where it answers one. -/
def after (c : Instr) (s : State) : Option State :=
  match exec c s with
  | .next t => some t
  | _ => none

/-- The nine bytes of the check values (00_scope.md, R141). -/
def nine : Bytes := [0x31, 0x32, 0x33, 0x34, 0x35, 0x36, 0x37, 0x38, 0x39]
theorem test_crc32c : crc32c nine = 0xE3069283 := by decide +kernel
theorem test_crc16 : crc16 nine = 0xD0DB := by decide +kernel

/-- The codes of the standards that R134 and R368 name: the empty message of NIST SP 800-38B's examples for a 256-bit key, and
`abc` of FIPS 180-4's. -/
theorem test_cmac :
    aesCmac 0x603deb1015ca71be2b73aef0857d77811f352c073b6108d72d9810a30914dff4 [] = 0x028962f61b7bf89efc6b551f4667d983 := by
  decide +kernel
set_option maxRecDepth 100000 in
theorem test_sha384 :
    beVal (sha384Bytes [0x61, 0x62, 0x63])
      = 0xcb00753f45a35e8bb5a03d699ac65007272c32ab0eded1631a8b605a43ff5bed8086072ba1e7cc2358baeca134c825a7 := by
  decide +kernel

/-- The header of the worked example of 10_command_packets.md. -/
theorem test_packet_header :
    (pktBytes { ver := 2, opc := 0x10, tag := 0x0A31, seq := 0x12F40, src := 0x2C01, dst := 0x2B00, safety := 0
                payload := [0, 0, 0, 0x4F, 0x58, 0x73, 0, 0, 2, 0x63, 0, 0x1E] }).take 16
      = [0xC3, 0xA5, 0x02, 0x10, 0x0A, 0x31, 0x00, 0x0C, 0, 1, 0x2F, 0x40, 0x2C, 1, 0x2B, 0] := by decide +kernel
theorem test_packet_length :
    (pktBytes { ver := 2, opc := 0x10, tag := 0x0A31, seq := 0x12F40, src := 0x2C01, dst := 0x2B00, safety := 0
                payload := [0, 0, 0, 0x4F, 0x58, 0x73, 0, 0, 2, 0x63, 0, 0x1E] }).length = 40 := by decide +kernel

/-- The worked example of 11_bridge_registers.md: a period of 100 ms needs the longer toffee window. -/
def example0 (toffee : Word) : State := { calm with staged := [(.frmCtl, 0x1405), (.frmOvr, 0x219), (.dpxCtl, toffee)] }
theorem test_commit_example_refused : commitCheck (example0 0x08281900) = some 0x10000 := by decide +kernel
theorem test_commit_example_applied : commitCheck (example0 0x08281E00) = none := by decide +kernel
theorem test_staging_example :
    (after (.registerWrite .lanes 0 0x10000 0x1405 0) calm).map (fun t => (regView t 0x10000, stagingView t 0x10000))
      = some (some 0x1401, some 0x1405) := by decide +kernel

/-- The register table of R319: a push of each kind shows in its count, and the ISEQ returns to 1 after 65,535. -/
theorem test_push_wraps :
    (after (.xbrQpush 1 9 [7] 0) { calm with xbr := { q1 := { nextSeq := 65535 } } }).map (fun t => t.xbr.q1.nextSeq) = some 1 := by
  decide
theorem test_semaphore_released_by_its_holder_only :
    (after (.semRelease 0 3) { calm with xbr := { sems := [{ req := true, owner := 2, takenAt := 0 }] } }).map (fun t => t.xbr.sems)
      = some [{ req := true, owner := 2, takenAt := 0 }] := by decide

/-- A sticky bit with a live cause stays (R327). -/
theorem test_latch_of_a_live_source_stays :
    (after (.flatchClear src0 .pwr 1) (raiseAt calm .pwr 0 none)).map (fun t => isLatched t .pwr 0) = some true := by decide
theorem test_latch_without_its_cause_clears :
    (after (.flatchClear src0 .sys 3) { calm with faults := { sys := { latch := 1 } } }).map (fun t => isLatched t .sys 0) = some false := by
  decide

/-- Holdup below 16 V, the stop 20 ms later, the return before it (R413). -/
theorem test_holdup : (after (.holdup 159 5) calm).map (fun t => (t.pwr.power, t.pwr.huAt, t.pwr.hucnt)) = some (.holdup, some 5, 1) := by
  decide
theorem test_holdup_stop : (after (.holdupSafeStop 20000) (failing0 0)).map (fun t => t.sys.stopped) = some true := by decide
theorem test_x1_returns : (after (.x1Return 175 9) (failing0 0)).map (fun t => t.pwr.power) = some .run := by decide

/-- 2.6 V and +75.0 degrees are in range (R340, R414, R34). -/
theorem test_cell_low : (after (.cellMeasurement 2599) calm).map (fun t => isLive t .pwr wCELL_LOW) = some true
    ∧ (after (.cellMeasurement 2600) calm).map (fun t => isLive t .pwr wCELL_LOW) = some false := by decide
theorem test_temperature : (after (.temp 751) calm).map (fun t => isLive t .sys sTEMP) = some true
    ∧ (after (.temp 750) calm).map (fun t => isLive t .sys sTEMP) = some false := by decide

/-- The worked example of 08_field_network.md: a reply 48.8 µs late gives 3,050 microticks. -/
theorem test_range_example :
    (after (.rangeReply .c0 .a (replyOf0 88) 6100 0) asked0).map (fun t => (nodeOf? t .c0 20).map (·.dlyA)) = some (some (some 3050)) := by
  decide +kernel

/-- Three shadow frames bring a lane back, two do not (R169). -/
theorem test_shadow_frames :
    (after (.shadowFramesMatched .l2) { running with vot := { lane2 := { state := .resync, shadow := 3 } } }).map
        (fun t => (laneOf t.vot .l2).state) = some .voting
      ∧ (after (.shadowFramesMatched .l2) { running with vot := { lane2 := { state := .resync, shadow := 2 } } }).map
        (fun t => (laneOf t.vot .l2).state) = some .resync := by decide

/-- An axle over a pair counts once, and two levels at once are a sequence error (R252). -/
theorem test_axle :
    (after (.axleCount 1 [(true, false, 20), (true, true, 20), (false, true, 20), (false, false, 20)] 0) counting).map
        (fun t => (t.lio.field.pairs[1]?).map fun p => (p.cnt0, p.cnt1, p.seqe)) = some (some (1, 0, 0))
      ∧ (after (.axleCount 1 [(true, true, 20)] 0) counting).map (fun t => (t.lio.field.pairs[1]?).map fun p => (p.cnt0, p.seqe))
        = some (some (0, 1)) := by decide

/-- A route command needs the class; a module outside ACTIVE and ALONE drops it (R282, R286). -/
theorem test_route_dropped_by_a_standby : exec (.routeSet src0 10 30) calm = .next calm := by rfl
theorem test_route_claimed :
    (after (.routeSet src0 10 30) { running with core := { objs := objects } }).map (fun t => t.core.txns.map fun u => (u.slot, u.route, u.state))
      = some [(0, 10, .requested)] := by decide +kernel

/-- WHY 2 ends the asking (R353). -/
theorem test_refusal_ends_the_asking :
    (after (.grantRefuse 2 0) { calm with dpx := { asking := some 3 } }).map (fun t => t.dpx.asking) = some none := by decide

/-- Bit 0 of a clear register asks, the others do not (R183). -/
theorem test_clear_registers : (after (.votClr 1) calm).map (fun t => t.vot.clr) = some true
    ∧ (after (.votClr 2) calm).map (fun t => t.vot.clr) = some false := by decide

/-- A tamper in RUN stops the module and erases the KEK (R415). -/
theorem test_tamper : (after (.tamper 3) calm).map (fun t => (t.sys.stopped, t.sec.kek, t.sec.tamper)) = some (true, false, true) := by decide

/-- The empty queue idles; the front command runs with the rest (R20, log entry 3). -/
theorem test_step : step { calm with pending := [.votClr 1, .bstClr 1] } = exec (.votClr 1) { calm with pending := [.bstClr 1] }
    ∧ step calm = .next calm := by constructor <;> rfl


/-- Every injection frame gets the verdict that R182 asks for, and a vote unit that errs shows its case. -/
theorem test_injection : (List.range 21).all (injPasses {}) = true
    ∧ injPasses { injBad := [(4, .l2)] } 4 = false ∧ injPasses { injBad := [(4, .l2)] } 5 = true := by decide +kernel
/-! ## Witnesses: rules, bridge, clears, recorder, power -/

/-- Two commands waiting: the hypotheses of StepTakesTheFrontCommand, both clauses. -/
theorem test_witness_StepTakesTheFrontCommand :
    { calm with pending := [.duoLimit 1, .mark 2] }.pending = [Instr.duoLimit 1, .mark 2] ∧ calm.pending = [] := by decide

/-- States after reset with every invariant, and steps from them. -/
theorem test_witness_invariants :
    (Latched calm ∧ Quiet calm ∧ Numbered calm)
      ∧ step { calm with pending := [.rail 1] } = exec (.rail 1) calm ∧ calm.sys.stopped = false := by
  refine ⟨⟨?_, ?_, ?_⟩, by rfl, by decide⟩
  · intro b n; cases b <;> simp [calm, State.reset, faultOf]
  · intro h; exact absurd h (by decide)
  · simp [calm, Numbered, NumberedQueue, State.reset]

theorem test_witness_TimerCountsInItsFrame :
    ({ elapsed := 1500 } : FrameIn).takeover = none
      ∧ ({ num := 1, kind := .watch, remain := 9, preset := 9, run := true } : TimerInst).run = true
      ∧ (tickTimer { elapsed := 1500 } true false { num := 1, kind := .watch, remain := 9, preset := 9, run := true }).remain = 7
      ∧ (tickTimer { elapsed := 1500 } true false { num := 1, kind := .release, remain := 1, preset := 9, run := true }).q = true := by
  decide

/-- Sources at each severity, live and not live; the last source of a block. -/
theorem test_witness_RaisingLatchesAndReacts :
    0 < sourceCount .pwr ∧ isLive calm .pwr 0 = false ∧ isLive (raiseAt calm .pwr 0 none) .pwr 0 = true
      ∧ sevOf calm.cfg .pwr 0 = .warn ∧ sevOf calm.cfg .frm fTIMEBASE = .safeStop ∧ calm.sys.stopped = false
      ∧ sevOf calm.cfg .vot vLANE_FAULT = .fence ∧ 13 < sourceCount .frn
      ∧ isVoting { calm.vot with lane2 := { calm.vot.lane2 with state := .voting } } .l2 = true := by decide

/-- Queue 1 with an item of number 5, and an empty one. -/
def queued : State := { calm with xbr := { q1 := { items := [{ iseq := 5, conn := 0, data := [1] }], nextSeq := 6 } } }

/-- The same with one bit of a pointer copy upset. -/
def upset1 : State := { queued with xbr := { q1 := { queued.xbr.q1 with wr := { copy := 0xFFFFFFFE } } } }

theorem test_witness_QueueAcknowledgeConsumesHead :
    queued.xbr.fenced = false ∧ (queueOf queued.xbr 1).items = [{ iseq := 5, conn := 0, data := [1] }] ∧ 5 ≠ 6
      ∧ (queueOf queued.xbr 5).items = [] ∧ pointersAgree (queueOf queued.xbr 1) = true
      ∧ pointersAgree (queueOf queued.xbr 5) = true ∧ upset1.xbr.fenced = false ∧ pointersAgree (queueOf upset1.xbr 1) = false := by decide

theorem test_witness_QueueFlushEmptiesOneQueue :
    queued.xbr.fenced = false ∧ pointersAgree (queueOf queued.xbr 5) = true ∧ pointersAgree (queueOf upset1.xbr 1) = false
      ∧ upset1.xbr.fenced = false := by decide

theorem test_witness_LatchTakesItsRestrictiveSideOnBoth :
    (tickLatch true false false { num := 1, q := false }).q = true ∧ (tickLatch false true true { num := 1, q := true }).q = false
      ∧ (tickLatch true true true { num := 1, q := false }).q = true ∧ (tickLatch false false false { num := 1, q := true }).q = true := by
  decide

/-- A full CMD_IN, and semaphore 0 held by master 2. -/
def holding (n : Nat) : State := { calm with
  xbr := { sems := [{ req := true, owner := 2, takenAt := 10 }] ++ List.replicate 7 {}
           q0 := { items := List.replicate n { iseq := 1, conn := 13, data := [] } } } }

theorem test_witness_QueuePushTakesOrCountsLoss :
    queueRoom calm.xbr 1 8 = true ∧ queueRoom { q5 := { items := List.replicate 17 { iseq := 1, conn := 0, data := List.replicate 1000 0 } } } 5 1000 = false
      ∧ (holding 63).xbr.fenced = false ∧ HeldBy (holding 63) 0 2 ∧ (holding 63).xbr.q0.items.length < 64
      ∧ 28 ≤ (List.replicate 28 (0 : Byte)).length ∧ 64 ≤ (holding 64).xbr.q0.items.length
      ∧ pointersAgree (queueOf (holding 64).xbr 0) = true ∧ pointersAgree (queueOf calm.xbr 5) = true
      ∧ 24 ≤ (List.replicate 24 (0 : Byte)).length ∧ ¬ HeldBy calm 0 2 := by
  refine ⟨by decide, by decide +kernel, by decide, ⟨_, rfl, by decide, by decide⟩, by decide, by decide, by decide, by decide, by decide,
    by decide, ?_⟩
  rintro ⟨m, h, hr, -⟩
  have : m = {} := by simpa [calm, State.reset] using h.symm
  subst this; exact absurd hr (by decide)

theorem test_witness_SemaphoresAreTakenAndReleased :
    calm.xbr.fenced = false ∧ Unheld calm 7 ∧ HeldBy (holding 0) 0 2 ∧ 3 ≠ 2 ∧ 10 + 1000 < max (holding 0).now 1011 := by
  refine ⟨by decide, ⟨_, rfl, by decide⟩, ⟨_, rfl, by decide, by decide⟩, by decide, by decide⟩

theorem test_witness_FencedBridgeRefusesEveryAccess : (2 : Nat) ≠ 0 ∧ { calm with xbr := { fenced := true } }.xbr.fenced = true := by decide

theorem test_witness_BridgeErrorsAreCountedAndFence : isLive calm .xbr xBRIDGE_ECC = false
    ∧ sevOf calm.cfg .xbr xBRIDGE_ECC = .fence := by decide

theorem test_witness_ClearRegistersAskAndHoldNothing : (1 : Word).getLsbD 0 = true ∧ (2 : Word).getLsbD 0 = false := by decide

/-- Every clear asked for at once, and none. -/
def clearing : State := { calm with
  frm := { clrPeak := true }, prl := { clr := true }, vot := { clr := true }, bst := { clr := true }
  frn0 := { clr := true }, frn1 := { clr := true }, lio := { vital := { clr := true } }
  cmd := { calm.cmd with clr := true }, xbr := { clr := true }, dpx := { clr := true }, evr := { calm.evr with clr := true }
  pwr := { clr := true } }

theorem test_witness_DrainClearsWhatWasAsked :
    (clearing.frm.clrPeak && clearing.prl.clr && clearing.vot.clr && clearing.bst.clr && clearing.frn0.clr && clearing.frn1.clr
      && clearing.lio.vital.clr && clearing.cmd.clr && clearing.xbr.clr && clearing.dpx.clr && clearing.evr.clr && clearing.pwr.clr)
      = true
    ∧ (calm.frm.clrPeak || calm.prl.clr || calm.vot.clr || calm.bst.clr || calm.frn0.clr || calm.frn1.clr || calm.lio.vital.clr
      || calm.cmd.clr || calm.xbr.clr || calm.dpx.clr || calm.evr.clr || calm.pwr.clr) = false := by decide

theorem test_witness_RegisterWritesReachStagingOnly :
    calm.xbr.fenced = false ∧ calm.sec.life ≠ .sealed ∧ { calm with sec := { life := .sealed } }.sec.life = .sealed
      ∧ StReg.frmCtl ≠ .xbrFsev ∧ ({ more := [] } : Transfer).write = true ∧ ({ more := [] } : Transfer).bytes = 4
      ∧ ({ more := [] } : Transfer).exclusive = false ∧ ({ exclusive := true } : Transfer).exclusive = true
      ∧ ({ bytes := 2 } : Transfer).bytes ≠ 4 ∧ 0x10001 % 4 ≠ 0 ∧ 1 < ({ write := false, count := 2 } : Transfer).count
      ∧ singleSpace calm 0x10000 = true ∧ StReg.frmFsev.mask &&& ~~~ StReg.frmFsev.unlocked ≠ 0 := by decide

theorem test_witness_StickyBitClearsOnlyWithoutItsCause :
    calm.sec.life ≠ .retired ∧ { calm with sec := { life := .retired } }.sec.life = .retired ∧ 9 < sourceCount .vot := by decide

/-- EVT_OUT with a record of 16 bytes with LEN 0, and one whose LEN is wrong. -/
def told (n : Nat) : State := { calm with xbr := { q2 := { items := [{ iseq := 1, conn := 0, data := be 1 0x15 ++ be n 0 }] } } }

theorem test_witness_RecordsAreTakenInOrder :
    svcRuns (told 15) = true ∧ (told 15).evr.sawLoss = false ∧ pointersAgree (told 15).xbr.q2 = true ∧ (told 15).xbr.fenced = false
      ∧ CanRecord (told 16) 16 ∧ CanRecord (told 15) 16
      ∧ recLenField (be 1 0x15 ++ be 15 0) + 16 = (be 1 0x15 ++ be 15 0).length
      ∧ recLenField (be 1 0x15 ++ be 16 0) + 16 ≠ (be 1 0x15 ++ be 16 0).length
      ∧ (told 15).evr.markAt + 3600000000 ≤ max (told 15).now 3600000000 := by
  refine ⟨by decide, by decide, by decide, by decide, ?_, ?_, by decide, by decide, by decide⟩ <;> unfold CanRecord <;> decide

/-- A kept record, and an MRAM with a segment's worth of them. -/
def kept (n sev : Nat) : Kept := { r := { ty := 0x15, sev := sev, num := n, body := List.replicate 1007 0 }, opsec := 0, pcc := 0 }

def buffered : State := { calm with evr := { calm.evr with next := 3, buffer := [kept 1 0, kept 2 1] } }

theorem test_witness_FlushesLoseNoRecord :
    (svcRuns buffered = true ∧ buffered.pwr.power ≠ .holdup ∧ buffered.evr.flushing = none ∧ buffered.evr.buffer ≠ []
        ∧ mramRoom buffered.evr buffered.evr.buffer = true ∧ buffered.evr.buffer.any (fun k => k.r.sev ≥ 1) = true)
    ∧ ({ calm.evr with flushing := some [kept 1 0] }.flushing = some [kept 1 0] ∧ calm.evr.again = false
      ∧ [kept 1 0].getLast? = some (kept 1 0))
    ∧ 1048576 ≤ mramBytes { calm.evr with mram := List.replicate 35 { first := 1, count := 31, crc := 0, recs := List.replicate 31 (kept 1 0) } } := by
  refine ⟨by decide +kernel, by decide +kernel, by decide +kernel⟩

/-- A locked module and one about to lock. -/
def timed : State := { calm with evr := { calm.evr with lock := true, base := some 5000, syncAt := some 0 } }
def locking : State := { calm with evr := { calm.evr with ptpBase := some 0, goodSyncs := 15 } }

theorem test_witness_CalendarTimeFollowsItsSources :
    svcRuns timed = true ∧ 0 = fieldOf timed.cfg.evrCtl 0 8 ∧ fieldOf timed.cfg.evrCtl 8 1 = 1 ∧ timed.evr.lock = true
      ∧ timed.evr.base = some 5000 ∧ (5000 + 1000 * 100 - 100000 : Int) < 1000000 ∧ (-1000000 : Int) < 5000 + 1000 * 100 - 100000
      ∧ (1000000 : Int) ≤ 5000 + 1000 * 2000 - 5000 ∧ svcRuns locking = true ∧ locking.evr.lock = false
      ∧ locking.evr.ptpBase = some 0 ∧ (0 - (10000 - 1000 * 10) : Int) ≤ 10000 ∧ (10000 - 1000 * 10 - 0 : Int) ≤ 10000
      ∧ 15 ≤ locking.evr.goodSyncs ∧ (10000 : Int) < 0 - (0 - 1000 * 11) ∧ timed.evr.syncAt = some 0
      ∧ 0 + 5000000 ≤ max timed.now 5000000 ∧ max timed.now 4999999 < 0 + 5000000
      ∧ timed.evr.rtcAt + 60000000 ≤ max timed.now 60000000 := by decide

/-- In holdup, before and after the stop. -/
def failing (stopped : Bool) : State := { calm with pwr := { power := .holdup, huAt := some 0, huStopped := stopped } }

theorem test_witness_PowerFailureRunsItsSteps :
    calm.pwr.power = .run ∧ 159 < 160
      ∧ (failing false).pwr.power = .holdup ∧ (failing false).pwr.huStopped = false ∧ 175 ≤ 175
      ∧ (failing false).pwr.huAt = some 0 ∧ 0 + 20000 ≤ max (failing false).now 20000 ∧ (failing false).sys.stopped = false
      ∧ (failing true).pwr.huStopped = true ∧ (failing true).pwr.zeroised = false ∧ 0 + 25000 ≤ max (failing true).now 25000
      ∧ 0 + 30000 ≤ max (failing true).now 30000
      ∧ { calm with pwr := { power := .backup } }.pwr.power = .backup := by decide

theorem test_witness_BrokenSealErasesEveryKey :
    calm.pwr.power = .run ∧ isLive calm .sec eTAMPER = false ∧ sevOf calm.cfg .sec eTAMPER = .safeStop
      ∧ { calm with pwr := { power := .holdup } }.pwr.power = .holdup ∧ { calm with pwr := { power := .backup } }.pwr.power = .backup
      ∧ { calm with pwr := { power := .off } }.pwr.power = .off := by decide

theorem test_witness_MeasurementsSetTheirSource :
    isLive calm .pwr wRAIL = false ∧ sevOf calm.cfg .pwr wRAIL = .safeStop ∧ isLive calm .frm fTIMEBASE = false
      ∧ sevOf calm.cfg .frm fTIMEBASE = .safeStop := by decide

theorem test_witness_S1WatchdogAndOpticActOnTheirOwn :
    calm.sys.s1mask = false ∧ calm.pwr.power = .run ∧ 5 ≤ 9 ∧ 9 ≤ 9 ∧ State.reset.sys.s1mask = true ∧ 49 < 50 ∧ 8000 < 8001 := by decide

theorem test_witness_PowerOnAndS1StartTheModule :
    State.reset.evr.next = 0 ∧ { calm with pwr := { power := .off } }.pwr.power = .off ∧ calm.sys.s1mask = false
      ∧ calm.pwr.power = .run ∧ mramRoom (commitBatch calm).evr calm.evr.buffer = true := by decide

/-! ## Witnesses: queries and vital requests -/

/-- Recovery mode, keyless, retired, and a partner with no class. -/
def recovering : State := { calm with upd := { recov := true }, cmd := { calm.cmd with partners := [{ operator with conn := 12 }] } }
def retired : State := { calm with sec := { life := .retired } }
def classless : State := { calm with cmd := { partners := [{ operator with classes := 0 }] } }

theorem test_witness_GateDecidesByClassLifecycleAndSession :
    svcRuns calm = true ∧ (partnerAt calm 5).addr = 0xFFFF ∧ (partnerAt calm 0).addr ≠ 0xFFFF
      ∧ recovering.upd.recov = true ∧ svcRuns recovering = true ∧ (partnerAt recovering 0).addr ≠ 0xFFFF
      ∧ (partnerAt recovering 0).conn ≠ 13 ∧ calm.upd.recov = false ∧ calm.sec.keyless = false
      ∧ { src0 with ver := 1 }.ver = 1 ∧ src0.ver ≠ 1 ∧ hasClass classless src0 (classOf 0x50) = false
      ∧ hasClass retired src0 (classOf 0x84) = true ∧ lifeRefuses retired.sec.life 0x84 = some .notAuth
      ∧ lifeRefuses calm.sec.life 0x84 = none ∧ classOf 0x84 = .maint ∧ inSession { calm with sec := { life := .maint } } src0 = false
      ∧ classOf 0x50 = .query ∧ classOf 0xE1 = .diag ∧ gateOf classless src0 0x50 = .answer .notAuth
      ∧ gateOf calm { src0 with entry := 5 } 0x50 = .silent := by decide

theorem test_witness_QueriesAnswerFromTheImage :
    gateOf calm src0 0x50 = .pass ∧ gateOf calm src0 0x51 = .pass ∧ gateOf calm src0 0x52 = .pass ∧ gateOf calm src0 0x53 = .pass
      ∧ gateOf calm src0 0x54 = .pass ∧ 3072 + 1024 ≤ 4096 ∧ 1026 + 1022 ≤ 2048 ∧ 2 + 1022 ≤ 1024
      ∧ (laneOf { calm.vot with lane1 := { booted := 1 }, lane2 := { booted := 1 }, lane3 := { booted := 1 } } .l3).booted ≠ 0 := by
  decide

/-- A ring segment whose CHKs do not hold. -/
def damaged : Segment :=
  { seq := 1, first := 1, count := 2, prev := List.replicate 48 0, hcrc := 0, recs := [kept 1 0, kept 2 0], chks := [0, 0]
    close := List.replicate 48 0 }

set_option maxRecDepth 100000 in
theorem test_witness_ReadersMeetEveryRecord :
    gateOf buffered src0 0x55 = .pass ∧ Ascending (walkRecords (hearFrom buffered 0)).1 buffered.evr.next ∧ 3 ≤ 3 ∧ 3 < 4
      ∧ gateOf buffered src0 0xE2 = .pass ∧ Ascending [] (diagOf buffered.evr .l1).next ∧ 3 < 4
      ∧ (walkRecords (hearFrom buffered 0)).2 = false
      ∧ (walkRecords { calm with evr := { calm.evr with ring := [damaged] } }).2 = true := by
  refine ⟨by decide, ⟨?_, ?_⟩, by decide, by decide, by decide, ⟨?_, ?_⟩, by decide, by decide +kernel, by decide +kernel⟩ <;>
    decide +kernel

theorem test_witness_SubscriptionsTimeAndEchoAreServed :
    gateOf calm src0 0x56 = .pass ∧ 250 ≤ 250 ∧ 250 < 251 ∧ gateOf (later timed 9) src0 0x57 = .pass ∧ timed.evr.base = some 5000
      ∧ (0 : Int) ≤ 5000 + 1000 * (max timed.now 9 : Nat) ∧ calm.evr.base = none ∧ gateOf calm src0 0xE0 = .pass
      ∧ gateOf calm src0 0xE1 = .pass ∧ calm.cmd.ports.find? (·.conn == 13) = some { conn := 13 } := by decide

/-- Requests that reach the lanes, with a transaction in flight. -/
theorem test_witness_takesFrom :
    TakesFrom (station1 { objs := objects, txns := [txn .claimed] }) src0 station table
      ∧ OwnSide (station1 { objs := objects, txns := [txn .claimed] }) src0 := by
  refine ⟨⟨by decide, by decide, by decide, by decide, by decide, by decide, by decide, by decide, rfl, rfl, rfl, rfl, by decide⟩, ?_⟩
  unfold OwnSide; decide

def blockedAll : Inter := { objs := objects, txns := (List.range 128).map fun n => { txn .claimed with slot := n, route := 100 + n } }

theorem test_witness_RouteCommandsAreTakenByTheirRules :
    600 ≤ 600 ∧ (({} : Inter).asks.filter (·.opc == 0x10)).length < 8 ∧ (stRoute? station 10).isSome = true ∧ stRoute? station 11 = none
      ∧ [txn .claimed].any (·.route = 10) = true
      ∧ (∀ rd ∈ station.routes, holdsExpr station { objs := objects } { objs := objects } rd.inhibit = false
          ∧ routeBlocked station { objs := objects } rd = false
          ∧ routeBlocked station { objs := objects, blockedRoutes := [10] } rd = true
          ∧ trainEntered station { objs := objects } rd = false
          ∧ trainEntered station { objs := objects.map fun o => if o.idx = 3 then { o with rep := scOccupied } else o } rd = true)
      ∧ (∀ n < 128, ∃ u ∈ blockedAll.txns, u.slot = n)
      ∧ txnOfRoute? { txns := [txn .requested] } 10 = some (txn .requested) ∧ txnOfRoute? {} 10 = none
      ∧ { txn .cleared with wantCancel := true }.wantCancel = true ∧ (txn .cleared).ended = false
      ∧ txnOfSlot? { txns := [{ txn .cleared with wantCancel := true }] } 0 = some { txn .cleared with wantCancel := true }
      ∧ (txn .claimed).state = .claimed ∧ (txn .proved).state = .proved ∧ { txn .cleared with byCancel := true }.byCancel = true
      ∧ (txn .inUse).state = .inUse ∧ (txn .requested).byCancel = false ∧ (txn .requested).ended = false
      ∧ (txn .setting).state = .setting ∧ (txn .cleared).state = .cleared
      ∧ approachIsClear { objs := objects } 2 = false
      ∧ approachIsClear { objs := objects.map fun o => { o with appr := false } } 2 = true
      ∧ (txn .releasing).relUse ≠ .emergency ∧ { txn .releasing with relUse := .emergency }.relUse = .emergency := by
  refine ⟨by decide, by decide, by decide, by decide, by decide, by decide, by decide +kernel, ?_⟩
  decide

theorem test_witness_ObjectCommandsAreTakenByTheirRules :
    moveTargets station false 9 0 = none ∧ moveTargets station false 1 1 = some [(1, 1)]
      ∧ objOf? { objs := objects } 1 = some { idx := 1, ty := .point, cmd := 0, rep := posRep 0, valid := true }
      ∧ shows (seenObj { objs := objects } 1) (posRep 0) = true ∧ shows (seenObj { objs := objects } 1) (posRep 1) = false
      ∧ (stObj? station 3).isSome = true ∧ (describe 3 .track).ty = .track ∧ (describe 3 .track).restorable = true
      ∧ (objOf? { objs := objects.map fun o => { o with rep := scDisturbed } } 3).map (·.rep) = some scDisturbed
      ∧ objOf? { objs := objects } 3 = some { idx := 3, ty := .track, cmd := 0, rep := 0, valid := true } ∧ 0 ≠ scDisturbed
      ∧ stRoute? station 11 = none ∧ stObj? station 9 = none ∧ 15 ≤ 15 ∧ 0 < table.guards.length
      ∧ ({ running.prl with guards := [{ tripped := true }] }.guards[0]? = some { tripped := true }) ∧ 4 ∈ station.stationCodes := by
  decide

theorem test_witness_VitalRequestsAreAnsweredDroppedOrKept :
    (partnerAt running 0).addr ≠ 0xFFFF ∧ running.xbr.fenced = false ∧ svcRuns running = true ∧ hasClass running src0 .vital = true
      ∧ hasClass classless src0 .vital = false ∧ running.sec.life ≠ .factory ∧ running.sec.life ≠ .retired
      ∧ takesVital calm = false ∧ takesVital running = true ∧ { running with cmd := { running.cmd with fenced := true } }.cmd.fenced = true
      ∧ running.cmd.fenced = false ∧ (partnerAt running 1).addr / 256 % 8 ≤ 3 ∧ hasClass running src1 .vital = true
      ∧ OwnSide running src0 ∧ inFrame.work.isSome = true ∧ inFrame.mzp.isSome = true ∧ inFrame.prt.isSome = true
      ∧ 600 < 601 ∧ 3 ≠ 1 ∧ 3 ≠ 2 ∧ 15 < 16 := by
  unfold OwnSide; decide

theorem test_witness_BoundaryStateReachesItsObjects :
    TakesFrom (station1 { objs := objects }) src1 station table ∧ ¬ OwnSide (station1 { objs := objects }) src1
      ∧ (partnerAt running 1).addr / 2048 = 1 ∧ (partnerAt running 1).addr / 2048 ≠ 2
      ∧ ownBoundary? station 1 41 = none ∧ ownBoundary? station 1 40 = some 4 ∧ 64 < (List.replicate 65 (0 : Nat)).length
      ∧ ([ownBoundary? station 1 40]).Nodup ∧ bdGranted ≤ 1 ∧ bdWithheld ≤ 1 := by
  refine ⟨⟨by decide, by decide, by decide, by decide, by decide, by decide, by decide, by decide, rfl, rfl, rfl, rfl, by decide⟩, ?_⟩
  unfold OwnSide; decide

/-! ## Witnesses: maintenance and updating -/

/-- Keys that may prove, a challenge open, and four failures. -/
def proving : State := { calm with
  now := 100
  sec := { calm.sec with session := none, plain := [{ ktype := 6, index := 0, slot := 0, key := 1 }]
                         chal := some { entry := 0, addr := 0x0400, value := 5, givenAt := 0 }
                         failures := [(0, 1), (0, 2), (0, 3), (0, 4)] } }
def net0 : NetAddr := { conn := 13, ip := 7, udpp := 5 }

theorem test_witness_SessionsOpenUnderProofOnly :
    guestEntry proving net0 0 = none ∧ gateOf proving src0 0x80 = .pass ∧ kslotOk proving 0 = true ∧ isLockedOut proving 0 = false
      ∧ 2 < 3 ∧ 2 ≤ 2 ∧ kslotOk proving 2 = false
      ∧ isLockedOut { proving with sec := { proving.sec with locked := [(0, 0)] } } 0 = true
      ∧ heldByOther proving src0 net0 = false ∧ heldByOther calm src0 { net0 with ip := 8 } = true ∧ gateOf calm src0 0x80 = .pass
      ∧ proving.sec.chal = some { entry := 0, addr := 0x0400, value := 5, givenAt := 0 } ∧ proving.now ≤ 0 + 30000000
      ∧ 1 ∈ proofKeys proving 0 0
      ∧ 4 ≤ (proving.sec.failures.filter fun f => f.1 == 0 && decide (proving.now < f.2 + 600000000)).length
      ∧ gateOf calm src0 0x81 = .pass ∧ calm.sec.session.map (·.lastAt) = some 0
      ∧ 0 + 60000000 * fieldOf calm.cfg.secCtl 0 8 ≤ max calm.now 1800000000 := by decide

theorem test_witness_RegisterCommandsReachTheirRegisters :
    gateOf calm src0 0x82 = .pass ∧ gateOf calm src0 0x83 = .pass ∧ gateOf calm src0 0x84 = .pass ∧ gateOf calm src0 0x85 = .pass
      ∧ gateOf calm src0 0x86 = .pass ∧ gateOf calm src0 0x87 = .pass ∧ 0x10002 % 4 ≠ 0 ∧ 0x10000 % 4 = 0 ∧ 1 ≤ 2045 ∧ 2045 < 2046
      ∧ ((List.range 6).all fun q => pointersAgree (queueOf calm.xbr q)) = true ∧ serviceRead calm 0x10000 = .ok 0x1401 ∧ serviceRead calm 0x10FF0 = .error 1 ∧ 0x10FF0 % 4 = 0
      ∧ 31 ≤ 31 ∧ 31 < 32 ∧ (List.replicate 8 (0xFFFF0000 : Word)).length = 8
      ∧ fieldAt ((List.replicate 8 (0xFFFF0000 : Word)).flatMap fun w => be 4 w.toNat) 0 2 = 0xFFFF
      ∧ calm.upd.unconf = none
      ∧ { calm.upd with unconf := some { part := .svc, since := 0, healthyFrom := 0 } }.unconf.map (fun q : Unconf => q.part) = some .svc := by
  decide +kernel

/-- A staged value, one that fails, and a partner staged. -/
def staging (v : Word) : State := { calm with staged := [(.frmCtl, v)] }

theorem test_witness_CommitIsAllOrNothing :
    (StReg.all.all fun r => stagedOf calm r = cfgGet calm.cfg r) = true ∧ calm.stagedPartners = []
      ∧ stagedOf (staging 0x0407) .frmCtl ≠ cfgGet calm.cfg .frmCtl ∧ commitCheck (staging 0x0407) = some 0x10000
      ∧ rangeFails (staging 0x0407) .frmCtl = true
      ∧ commitCheck { calm with stagedPartners := [(3, { neighbour with addr := 0x1000, udpp := 9 })] } = none
      ∧ tableEntry calm 3 ≠ { neighbour with addr := 0x1000, udpp := 9 } := by decide +kernel

/-- Three lanes vote in a running module; and two, with the clock started. -/
def voting3 : State := { running with
  vot := { lane1 := { state := .voting }, lane2 := { state := .voting }, lane3 := { state := .voting } } }
def voting2 : State := { running with
  vot := { lane1 := { state := .voting }, lane2 := { state := .voting }, lane3 := { state := .fenced, why := .command }
           duoSince := some 0 } }
def paired : State := { calm with dpx := { role := .active, peerReady := true } }

theorem test_witness_LaneAndLifecycleCommandsKeepTheirConditions :
    gateOf voting3 src0 0x88 = .pass ∧ framesRun voting3 = true ∧ voting3.vot.duoSince = none
      ∧ (Lane.all.all fun k => (laneOf voting3.vot k).state = .voting && !(laneOf voting3.vot k).latent
          && !(laneOf voting3.vot k).wantOut && !(laneOf voting3.vot k).wantHalt && !(laneOf voting3.vot k).wantBoot) = true
      ∧ gateOf voting2 src0 0x89 = .pass ∧ (laneOf voting2.vot .l3).state = .fenced ∧ (laneOf voting2.vot .l3).why = .command
      ∧ gateOf voting2 src0 0x8A = .pass ∧ voting2.sec.life = .maint ∧ voting2.vot.duoSince.isSome = true ∧ voting2.vot.extUsed = false
      ∧ { voting2 with vot := { voting2.vot with limitAt := some 9 } }.vot.limitAt.isSome = true ∧ voting2.vot.limitAt = none
      ∧ voting2.now < 0 + duoLimitUs { voting2 with vot := { voting2.vot with extUsed := true, extH := 1 } }
      ∧ 1 ≤ 72 ∧ 72 ≤ 72 ∧ 72 < 73 ∧ gateOf calm src0 0x8B = .pass
      ∧ { calm with lio := { field := { x2Ok := true } } }.lio.field.x2Ok = true
      ∧ ((List.range 12).all fun n => !isLive calm .lio n) = true ∧ calm.lio.field.x2Ok = false
      ∧ gateOf paired src0 0x8C = .pass ∧ paired.dpx.role = .active ∧ paired.dpx.peerReady = true
      ∧ isLive paired .dpx dPEER_DOWN = false ∧ isLive paired .dpx dWITNESS_DOWN = false
      ∧ gateOf calm src0 0x8D = .pass ∧ 3 < 4 ∧ debugAllowed calm .d1 none = true ∧ debugAllowed calm .d3 none = false
      ∧ debugAllowed voting3 .d2 (some .l2) = true ∧ debugAllowed voting2 .d2 (some .l1) = false
      ∧ gateOf calm src0 0x8E = .pass ∧ 4 < 5 ∧ 1 ≠ calm.sys.serial ∧ lifeAllowed calm .retired = true
      ∧ lifeAllowed calm .factory = false := by decide

/-- A key unwraps under an opaque device key: both ways of KEY_LOAD share these hypotheses. -/
theorem test_witness_KeysAreLoadedAndErasedByTheirCounters :
    gateOf calm src0 0x8F = .pass ∧ gateOf calm src0 0x90 = .pass ∧ keyPlace 6 31 1 = true ∧ keyPlace 4 0 1 = false
      ∧ (List.replicate 97 (0 : Byte)).length = 97 ∧ (List.replicate 40 (0 : Byte)).length = 40 ∧ keyInUse calm 6 1 = false
      ∧ keyInUse calm 1 0 = true ∧ keyPlace 1 3 0 = true ∧ calm.evr.lock = false ∧ timed.evr.lock = true
      ∧ gateOf timed src0 0x90 = .pass := by decide

/-- The tamper latch set, and a session under KSLOT 2. -/
def tampered (ks : Nat) : State := { calm with
  sec := { calm.sec with tamper := true, session := some { entry := 0, addr := 0x0400, ip := 7, udpp := 5, kslot := ks, lastAt := 0 } } }

theorem test_witness_RestartsAnswerAndStartAgain :
    gateOf calm src0 0x91 = .pass ∧ gateOf (tampered 2) src0 0x92 = .pass ∧ (tampered 2).sec.tamper = true ∧ 0 = (tampered 2).sys.serial
      ∧ 1 ≠ (tampered 2).sys.serial ∧ calm.sec.tamper = false ∧ (tampered 2).sec.session.map (·.kslot) = some 2
      ∧ (tampered 0).sec.session.map (·.kslot) = some 0 ∧ gateOf (tampered 0) src0 0x92 = .pass := by decide

/-- The header of an MZP image of one block for a UX-4820, with its CRC. -/
def header60 : Bytes := be 4 0x5558494D ++ [1, 3, 0x20, 7, 7, 9, 0, 0x41] ++ be 4 9 ++ be 4 0 ++ be 4 0 ++ be 4 200 ++ be 4 120
  ++ be 4 6 ++ be 4 7 ++ be 20 0
def header64 : Bytes := header60 ++ be 4 (crc32c header60).toNat

/-- A transfer open with one block, all of it or none of it held. -/
def transfer (held : List Nat) : UpdTransfer :=
  { id := 12, part := .mzp, onB := true, header := header64, blocks := [(0, [1])], have_ := held, notes := [(0, src0)] }
def receiving (held : List Nat) : State := { calm with upd := { xfer := some (transfer held), xst := 1 } }

theorem test_witness_TransfersFollowHeaderAndBlocks :
    { calm.upd with incompat := some .mzp }.incompat = some .mzp ∧ gateOf calm src0 0xC0 = .pass ∧ Part.ofCode? 9 = none ∧ Part.ofCode? 3 = some .mzp ∧ 1 ≤ 1 ∧ header64.length = 64
      ∧ calm.upd.verifying = false ∧ { calm.upd with verifying := true }.verifying = true
      ∧ headerCheck calm .mzp true (be 64 0) = some .hdrBad ∧ headerCheck calm .mzp true header64 = none ∧ calm.upd.xfer = none
      ∧ (receiving []).upd.xfer = some (transfer []) ∧ headerCheck (receiving []) .mzp true header64 = none
      ∧ gateOf (receiving []) src0 0xC1 = .pass ∧ (transfer []).id ≠ 13 ∧ nblkOf header64 = 1 ∧ blockLen header64 0 = 120
      ∧ (List.replicate 120 (0 : Byte)).length = 120 ∧ 0 ∈ (transfer [0]).have_ ∧ 0 ∉ (transfer []).have_
      ∧ (transfer []).blocks.find? (·.1 == 0) = some (0, [1]) ∧ (transfer []).notes.filter (·.1 == 0) = [(0, src0)]
      ∧ crc32c [2] ≠ crc32c [1]
      ∧ gateOf calm src0 0xC2 = .pass ∧ nblkOf header64 ≤ 1 ∧ 0 < nblkOf header64 ∧ gateOf calm src0 0xC6 = .pass := by decide +kernel

/-- A signature is valid under an opaque key: a bank that passes shares the other hypotheses of one that fails. -/
theorem test_witness_OnlySignedImagesAreVerified :
    gateOf (receiving []) src0 0xC3 = .pass ∧ (receiving []).upd.verifying = false ∧ (receiving []).upd.xfer = some (transfer [])
      ∧ (transfer []).id = 12 ∧ (receiving []).upd.result = none
      ∧ { (receiving []).upd with xfer := none, lastXid := 12, result := some .signature }.result = some .signature
      ∧ { (receiving [0]).upd with verifying := true }.xfer = some (transfer [0])
      ∧ (transfer []).have_.length < nblkOf header64 ∧ nblkOf header64 ≤ (transfer [0]).have_.length
      ∧ verifiedBank { calm with sec := { calm.sec with imageKeys := [] } } (transfer [0]) .opaqueImage = none := by decide +kernel

/-- Bank headers of EPOCH 7 for parts 1 to 5 with image identifier `img`. -/
def header (part img epoch : Nat) : Bytes := be 4 0x5558494D ++ [1] ++ be 1 part ++ [0x20] ++ be 1 epoch ++ [7, 9, 0, 0x41]
  ++ be 4 img ++ be 4 0 ++ be 4 0 ++ be 4 200 ++ be 4 120 ++ be 4 6 ++ be 4 7 ++ be 20 0 ++ be 4 0
def banks (part : Nat) (cur other : BankSt) (c : Content) : BankPair :=
  { a := { state := cur, header := header part 5 7, content := c }, b := { state := other, header := header part 8 7, content := c } }
def station8 : Content := .mzp { station with
  imgId := 8, migration := [{ baseImg := 5, unmapped := [], unchangedRoutes := [], reverseUnmapped := [] }] }
def loaded (other : BankSt) : UpdBlk :=
  { lfw1 := banks 1 .confirmed other .opaqueImage, lfw2 := banks 1 .confirmed other .opaqueImage
    lfw3 := banks 1 .confirmed other .opaqueImage, mzp := banks 3 .confirmed other station8
    svc := banks 4 .confirmed other .opaqueImage, ocf := banks 5 .confirmed other (.ocf [(20, 89)]) }
def voting (other : BankSt) : State := { voting3 with upd := loaded other }
def standby (other : BankSt) : State := { calm with upd := loaded other, mzp := some station, prt := some table }

/-- A lane booting from a new bank, and an exchange that fell due. -/
def booting : State := { standby .previous with
  vot := { lane1 := { booting := true } }
  upd := { loaded .previous with lfw1 := banks 1 .unconfirmed .previous .opaqueImage, exchange := some { frame := 60, due := some 5 } } }

theorem test_witness_ActivationTakesTheRouteOfItsPart :
    gateOf (voting .verified) src0 0xC4 = .pass ∧ Part.ofCode? 0 = none
      ∧ activateRefusal (voting .empty) .lfw 1 0 = some .order ∧ activateRefusal (voting .verified) .lfw 3 0 = none
      ∧ routeOf (voting .verified) .lfw 3 = .laneByLane .l3
      ∧ activateRefusal (voting .verified) .mzp 0 50 = none ∧ routeOf (voting .verified) .mzp 0 = .exchange
      ∧ activateRefusal (standby .verified) .mzp 0 0 = none ∧ routeOf (standby .verified) .mzp 0 = .idle [.mzp]
      ∧ activateRefusal (standby .verified) .lfw 0 0 = none ∧ routeOf (standby .verified) .lfw 0 = .idle [.lfw]
      ∧ (bankStation? (otherBank (standby .verified).upd.mzp)).isSome = true
      ∧ activateRefusal (standby .verified) .svc 0 0 = none ∧ routeOf (standby .verified) .svc 0 = .service
      ∧ gateOf (standby .verified) src0 0xC4 = .pass
      ∧ (let s := { voting .verified with upd := { loaded .verified with
                      lfw1 := { a := { state := .confirmed, header := header 1 5 8 }, b := (banks 1 .confirmed .verified .opaqueImage).b } } }
        routeOf s .lfw 0 = .restart [.lfw] ∧ activateRefusal s .lfw 0 0 = none)
      ∧ (let s := { standby .verified with upd := { loaded .verified with recov := true } }
        gateOf s src0 0xC4 = .pass ∧ routeOf s .mzp 0 = .recovery ∧ activateRefusal s .mzp 0 0 = none)
      ∧ (laneOf booting.vot .l1).booting = true ∧ onNewBank booting .l1 = true
      ∧ onNewBank { booting with upd := loaded .previous } .l1 = false ∧ booting.upd.exchange.isSome = true
      ∧ booting.upd.exchange = some { frame := 60, due := some 5 } ∧ 5 + 3600000000 ≤ max booting.now 3600000005 := by
  decide +kernel

/-- An UNCONFIRMED part with its predecessor. -/
def window (p : Part) (healthy : Bool) : State := { standby .previous with
  upd := { loaded .previous with unconf := some { part := p, since := 0, healthyFrom := 0, healthy := healthy } } }

theorem test_witness_ConfirmationAndFallbackEndTheWindow :
    healthHolds (window .svc false) { part := .svc, since := 0, healthyFrom := 0 } = true
      ∧ 0 + 60000000 * fieldOf calm.cfg.updCtl 8 8 ≤ max calm.now 600000000
      ∧ gateOf (window .svc true) src0 0xC5 = .pass ∧ ((window .svc true).upd.unconf.map (·.healthy)) = some true
      ∧ ((window .svc false).upd.unconf.map (·.healthy)) = some false
      ∧ 0 + 60000000 * fieldOf calm.cfg.updCtl 16 8 ≤ max calm.now 1800000000 ∧ (window .svc false).dpx.handDue = false
      ∧ (window .svc false).dpx.wanted = false ∧ (window .svc false).dpx.commanded = false ∧ partInProgress (window .svc false) = false
      ∧ (otherBank (updPair (window .svc false).upd 5)).state = .previous ∧ idleRole (window .lfw false) = true
      ∧ idleRole (voting .previous) = false ∧ sameMzpid (voting .previous) (otherBank (voting .previous).upd.mzp).header = true
      ∧ hdrEpoch (otherBank (voting .previous).upd.lfw1).header = lfwEpoch (voting .previous)
      ∧ gateOf (window .svc false) src0 0xC7 = .pass ∧ isUnconf (window .svc false) .svc = true
      ∧ (otherBank (firstPair (window .svc false) .svc)).state = .previous ∧ partInProgress booting = true
      ∧ isUnconf (standby .empty) .svc = false ∧ mayFallBack (standby .empty) .svc = false
      ∧ mayFallBack { standby .previous with upd := { loaded .previous with copyA := some { fmt := 0, cfg := {}, partners := [] } } } .svc
        = true
      ∧ gateOf (standby .empty) src0 0xC8 = .pass ∧ ocfImage? (standby .empty) 99 = none ∧ (ocfImage? (standby .empty) 5).isSome = true
      ∧ maskBit (BitVec.ofNat 256 (2 ^ 235)) 20 = true ∧ ((List.range 15).all fun i => !maskBit (BitVec.ofNat 256 (2 ^ 235)) (i + 1)) = true
      ∧ maskBit (BitVec.ofNat 256 (2 ^ 254)) 1 = true ∧ ((List.range 256).all fun i => i < 16 || !maskBit 0 i) = true
      ∧ { calm.upd with svcAt := some 4 }.svcAt = some 4 ∧ calm.sys.wdogAt ≠ some 4
      ∧ { calm.sys with settingsLost := true }.settingsLost = true ∧ calm.sys.settingsLost = false
      ∧ settingsFor (window .svc false) (activeBank (window .svc false).upd.svc).header = false
      ∧ (otherBank (window .svc false).upd.svc).state = .previous ∧ calm.upd.unconf = none := by
  decide +kernel

/-! ## Witnesses: the duplex pair -/

/-- Entries 0 and 1: the units; entry 2: the witness. -/
def party (kind : Nat) : Partner := { addr := 256 * kind, conn := 10, classes := 0x20, udpp := kind, ip := kind }
def parties : List Partner := [party 0, party 1, party 2] ++ List.replicate 29 ({} : Partner)

/-- A witness past its first second, with a status of each unit, and with a holder or none. -/
def witness (holder : Nat) : State := { calm with
  now := 5000000
  cmd := { partners := parties }
  dpx := { role := .witness, holder := holder, beat := 100, startedAt := some 0
           units := [{ unit := 0, time := 5000000, role := 0, granted := true, wframe := 50 }] } }
def asks (reason fref wframe : Nat) : GrantReqIn :=
  { src := { entry := 1 }, unit := 1, fref := fref, beat := 9, reason := reason, miss := 3, wframe := wframe }

theorem test_witness_WitnessDecides :
    onWitness (witness 0) = true ∧ (witness 0).dpx.role = .witness ∧ 1 ∈ witnessEntries (witness 0) ∧ 95 ≤ 100 ∧ 100 ≤ 95 + 5
      ∧ ¬ (100 ≤ 94 + 5) ∧ entryUnit? (witness 0) 1 = some 1 ∧ entryUnit? (witness 0) 2 = none ∧ (witness 0).dpx.adopting = false
      ∧ (witness 0).sys.stopped = false ∧ (asks 2 95 0).reason = 2 ∧ (witness 1).dpx.holder ≠ 0 ∧ (witness 0).dpx.holder = 0
      ∧ (unitStatus? (witness 1) 0).map (fun x => (x.granted, x.stopped, x.handover, x.wframe)) = some (true, false, false, 50)
      ∧ (unitStatus? { witness 1 with dpx := { (witness 1).dpx with units := [{ unit := 0, time := 0, handover := true, wframe := 50 }] } } 0).map
        (fun x => (x.granted, x.handover, x.wframe)) = some (false, true, 50)
      ∧ fieldOf (witness 0).cfg.dpxCtl 24 6 = 8 ∧ (42 ≠ 0 ∧ 50 ≤ 42 + 8) ∧ ¬ (41 ≠ 0 ∧ 50 ≤ 41 + 8)
      ∧ (witness 0).now < 5000000 + 1000000 ∧ entryKind (witness 0) 1 = 1
      ∧ { (witness 0).dpx with windowAt := some 3000000, windowReqs := [{ entry := 1, unit := 1, wframe := 0 }] }.windowAt = some 3000000
      ∧ 3000000 + 2000000 ≤ max (witness 0).now 5000000
      ∧ { (witness 0).dpx with adopting := true }.startedAt = some 0 ∧ 0 + 1000000 ≤ max (witness 0).now 0
      ∧ (7 : Nat).testBit 2 = true := by decide

/-- A STANDBY and an ACTIVE unit 1 with the optic of X9, its wafer key, and the witness network. -/
def unit1 (role : Role) : State := { calm with
  now := 5000000
  cmd := { partners := parties }
  sys := { calm.sys with optics := [9] }
  sec := { calm.sec with plain := [{ ktype := 4, index := 0, slot := 0, key := 7 }] }
  mzp := some station, prt := some table
  dpx := { role := role, granted := role = .active, gepoch := 3, beat := 100, beatAt := 4990000, startedAt := some 0
           leaseAt := if role = .active then some 4970000 else none } }
def tells (hl gepoch fref : Nat) : WitIn :=
  { entry := 2, fref := fref, beat := 7, role := 2, flags := 0, wframe := 0, miss := 0, hl := hl, gepoch := gepoch, kind := 2 }

theorem test_witness_BeatsAndLeasesHoldTheGrant :
    (unit1 .active).sys.ready = true ∧ 4990000 + 10000 ≤ max (unit1 .active).now 5000000 ∧ onWitness (unit1 .active) = true
      ∧ 2 ∈ witnessEntries (unit1 .active) ∧ entryKind (unit1 .active) 2 = 2
      ∧ { unit1 .active with dpx := { beatAt := 4999999, statusDue := true } }.dpx.statusDue = true
      ∧ 5000000 < 4999999 + 10000 ∧ (tells 1 3 95).fref ≤ 100 ∧ 100 ≤ 95 + 5 ∧ ownKind (unit1 .active).cfg + 1 = 1
      ∧ 2 - ownKind (unit1 .active).cfg = 2 ∧ 3 < (tells 1 4 95).gepoch ∧ (unit1 .active).dpx.granted = true
      ∧ { (unit1 .active).dpx with relinquished := true, granted := false }.relinquished = true
      ∧ 5000000 ≤ 4970000 + 1000 * fieldOf (unit1 .active).cfg.dpxCtl 16 8
      ∧ ¬ (5010001 ≤ 4970000 + 1000 * fieldOf (unit1 .active).cfg.dpxCtl 16 8) ∧ (unit1 .active).dpx.ackAt = none
      ∧ (unit1 .active).sys.stopped = false ∧ (unit1 .active).dpx.role ≠ .alone
      ∧ 0 + 1000 * fieldOf (unit1 .active).cfg.dpxCtl 16 8 ≤ 5000000 ∧ 0 + 30000 ≤ 5000000
      ∧ { (unit1 .active).dpx with peerAt := some 4999999 }.peerAt = some 4999999 ∧ 5000000 < 4999999 + 30000
      ∧ onPeer (unit1 .active) = true ∧ 1 ≠ 1 - 0 + 1 ∧ (1 : Nat) = 1 - ownKind (unit1 .active).cfg ∧ (unit1 .active).xbr.fenced = false
      ∧ 0x0000 / 0x2000 % 4 = 0 ∧ 0x0000 / 0x400 % 2 = 0 ∧ (unit1 .active).dpx.hbAt = none ∧ x9On (unit1 .active) = true
      ∧ twoLanes (unit1 .active) = true ∧ (unit1 .active).xbr.q1.items = [] ∧ svcRuns (unit1 .active) = true
      ∧ (tableEntry (unit1 .active) 2).conn ≠ 0 ∧ plainKey? (unit1 .active) 4 0 0 = some 7 := by decide

/-- A wafer of unit 2 for the station at hand, gathering and gathered. -/
def wafer : Wafer := { unit := 1, frame := 60, mzpid := 6, prtid := 7, layout := 5, len := 900 }
def gathering (got : List Nat) : State := { unit1 .standby with
  dpx := { (unit1 .standby).dpx with inbound := some { wafer := wafer, nseg := 2, got := got, startedAt := 4999000, lastAt := 4999000 } } }
def segment : SegIn := { unit := 1, seg := 1, nseg := 2, crcOk := true, wafer := wafer }
def waiting : State := { unit1 .standby with dpx := { (unit1 .standby).dpx with held := some wafer, heldAt := 4900000, miss := 2 } }

theorem test_witness_WafersAreAcceptedWholeAndValid :
    segment.crcOk = true ∧ segment.unit = 1 - ownKind (unit1 .standby).cfg ∧ onPeer (unit1 .standby) = true
      ∧ (unit1 .standby).dpx.role = .standby ∧ { (unit1 .standby).xbr with winFree := true }.winFree = true
      ∧ (unit1 .standby).xbr.fenced = false ∧ svcRuns (unit1 .standby) = true ∧ 1 ≤ segment.nseg ∧ segment.nseg ≤ 361
      ∧ segment.seg < segment.nseg ∧ 360 < 361 ∧ (unit1 .standby).dpx.inbound = none
      ∧ (gathering [0]).dpx.inbound = some { wafer := wafer, nseg := 2, got := [0], startedAt := 4999000, lastAt := 4999000 }
      ∧ 4999000 + 5000 < max (gathering [0]).now 5004001 ∧ (gathering [0]).now ≤ 4999000 + 5000 ∧ [0].length < 2
      ∧ 2 ≤ [1, 0].length ∧ 4999000 ≤ 4999000 + 5000 ∧ ¬ (5004001 ≤ 4999000 + 5000) ∧ (gathering [1, 0]).xbr.q1.items.length < 256 ∧ wafer.hcrcOk = true ∧ wafer.crcOk = true ∧ wafer.wcodeOk = true
      ∧ (plainKey? (gathering [1, 0]) 4 0 0).isSome = true ∧ twoLanes (gathering [1, 0]) = true
      ∧ wafer.pair = ownPair (gathering [1, 0]).cfg ∧ wafer.unit = 1 - ownKind (gathering [1, 0]).cfg ∧ (gathering [1, 0]).dpx.held = none
      ∧ wafer.epoch = hdrEpoch (activeBank (gathering [1, 0]).upd.lfw1).header ∧ (gathering [1, 0]).mzp.map (·.imgId) = some wafer.layout
      ∧ wafer.mzpid = station.mzpid ∧ wafer.prtid = station.prtid ∧ { wafer with crcOk := false }.crcOk = false
      ∧ { wafer with prtid := 8 }.prtid ≠ station.prtid ∧ { wafer with handover := true }.handover = true
      ∧ x9On (gathering [1, 0]) = true ∧ 2 ∈ witnesses (gathering [1, 0])
      ∧ waiting.dpx.held = some wafer ∧ 4900000 + (2 + 1) * expectedUs wafer.cfg + 2000 ≤ waiting.now
      ∧ 4900000 < 4900000 + (2 + 1) * expectedUs wafer.cfg + 2000 ∧ standbyFit waiting = true ∧ waiting.sys.stopped = false
      ∧ waiting.dpx.asking = none ∧ 2 ≤ waiting.dpx.miss ∧ (unit1 .standby).dpx.miss < 2
      ∧ { waiting with dpx := { waiting.dpx with why2 := true } }.dpx.why2 = true := by decide

/-- A session key for the witness, in the slot in use. -/
theorem test_witness_CanSendTo : CanSendTo { waiting with sec := { waiting.sec with
    plain := [{ ktype := 5, index := 2, slot := 0, key := 9 }] } } 2 := by unfold CanSendTo CanPush; decide

/-- An entry with a bit of its object upset. -/
def upsetCrumb : Crumb := { shr := false, kind := .route, pos := 0, owner := 0, refs := 1, obj := 1, flip := 1 }
theorem test_upset_crumb : [upsetCrumb].any crumbBad = true ∧ { upsetCrumb with flip := 0 }.flip = 0 := by decide +kernel

def granted1 (fref : Nat) : GrantIn := { fref := fref, beat := 7, unit := 0, gepoch := 4, wframe := 60 }
def old : State := { unit1 .active with dpx := { (unit1 .active).dpx with relinquished := true, holder := 2, granted := false } }

theorem test_witness_TheGrantMakesTheModuleActive :
    (witnesses waiting).head? = some 2 ∧ onWitness waiting = true ∧ (granted1 95).unit = ownKind waiting.cfg
      ∧ waiting.dpx.role = .standby ∧ (granted1 95).fref ≤ waiting.dpx.beat ∧ waiting.dpx.beat ≤ (granted1 95).fref + 5
      ∧ ¬ (waiting.dpx.beat ≤ (granted1 94).fref + 5) ∧ waiting.sys.stopped = false ∧ waiting.dpx.asking ≠ some 2
      ∧ { waiting.sys with stopped := true }.stopped = true ∧ { waiting.dpx with asking := some 2 }.asking = some 2
      ∧ waiting.dpx.asking = none ∧ waiting.dpx.miss < 3 ∧ waiting.dpx.held ≠ none ∧ 3 ≤ { waiting.dpx with miss := 3 }.miss
      ∧ waiting.mzp = some station ∧ (unit1 .standby).dpx.held = none ∧ sevOf waiting.cfg .dpx dTAKEOVER ≠ .safeStop
      ∧ sevOf wafer.cfg .upd uCONFIRM_PENDING ≠ .safeStop ∧ waiting.dpx.held = some wafer ∧ wafer.layout = station.imgId
      ∧ wafer.inter.crumbs.any crumbBad = false ∧ sevOf wafer.cfg .prl pCRUMB_CORRUPT ≠ .safeStop
      ∧ (laneOf waiting.vot .l1).hwFault = false ∧ (laneOf waiting.vot .l1).limited = false ∧ (testOf waiting.bst .l1).hold = false ∧ waiting.bst.under = none
      ∧ { waiting.frn0 with state := .follow }.state ≠ .off
      ∧ (let s := { unit1 .active with dpx := { (unit1 .active).dpx with takeAt := some 4999000 } }
        s.frn0.state = .off ∧ s.frn1.state = .off ∧ 4999000 + 1000 ≤ s.now ∧ s.dpx.role = .active ∧ 4999000 < 4999000 + 1000)
      ∧ 13 ≤ { waiting.dpx with takeCycles := 13 }.takeCycles ∧ { waiting.dpx with asking := some 1 }.asking = some 1
      ∧ old.dpx.relinquished = true ∧ old.dpx.role = .active ∧ old.sys.stopped = false ∧ old.dpx.holder = 2 - ownKind old.cfg
      ∧ old.dpx.lastRelease + toffeeUs old.cfg ≤ old.now ∧ 249999 < 0 + toffeeUs old.cfg ∧ old.upd.fbkTo = []
      ∧ (laneOf old.vot .l1).state ≠ .proving ∧ chanOn old .c0 .a = true := by decide

/-! ## Witnesses: frame, interlocking timers, proof tests -/

/-- A frame in PROVE in which lanes 1 and 2 have published alike, and lane 3 differs by its hash. -/
def published (h3 : BitVec 64) : State := { inFrame with
  now := 3000
  frm := { nextTick := some 10000, tick := 0, T := 20000, ext := 2000, phase := .prove }
  vot := { lane1 := { state := .voting, pub := some { pubAt := 9, hash := 1, sig := 2, sigf := false } }
           lane2 := { state := .voting, pub := some { pubAt := 9, hash := 1, sig := 2, sigf := false } }
           lane3 := { state := .voting, pub := some { pubAt := 9, hash := h3, sig := 2, sigf := false } } } }

/-- The severities that let a tick and a vote stop nothing, as a reset leaves them. -/
theorem test_calm_severities :
    ([(Blk.frn, nMAILBOX), (.frn, 8 + nMAILBOX), (.lio, lCOUNT_ERR), (.prl, pREQ_SINGLE), (.prl, pGUARD_TRIP), (.prl, pINST_OUT),
      (.vot, vODD_LANE), (.vot, vRESYNC_FAIL), (.vot, vVOTER_DISAGREE)].all fun q => sevOf running.cfg q.1 q.2 != .safeStop) = true := by
  decide

/-- The vector that lanes 1 and 2 agree on, over a signal commanded to an aspect. -/
def agreed (fenced : Bool) : Inter :=
  let x : Inter := { objs := [{ idx := 2, ty := .signal, cmd := 3, rep := 0 }] }
  fencedVector fenced (applyVec (votedVec (published 5) .l1 x) x)

theorem test_witness_FramesRunFromTickToRelease :
    framesRun calm = false ∧ { calm with sys := { calm.sys with ready := false } }.sys.ready = false
      ∧ framesRun running = true ∧ running.frm.nextTick = some 1000 ∧ running.now < 1000 ∧ 1000 ≤ max running.now 1000
      ∧ running.work = none ∧ inFrame.work.isSome = true ∧ running.mzp.isSome = true ∧ running.xbr.q0.items = []
      ∧ running.cmd.inbox = [] ∧ running.dpx.handDue = false ∧ running.frm.ended = false
      ∧ ([10000, 10000, 10000].filter (deviates 10000)).length < 2 ∧ 2 ≤ (instsIn running.prl).length
      ∧ ((instsIn running.prl).filter fun i => copyDiffers running.core.crumbs (instOf running.prl i)) = []
      ∧ ((instsIn running.prl).filter fun i => [Inst.x].contains i).length = 1 ∧ (instsIn running.prl).length = 3
      ∧ releasable { running with frm := { running.frm with voted := true } } = true
      ∧ inFrame.work = some {} ∧ { inFrame with vot := voting3.vot }.frm.voted = false ∧ (laneOf voting3.vot .l1).pub = none
      ∧ (laneOf voting3.vot .l1).state = .voting ∧ (laneOf calm.vot .l1).state = .fenced
      ∧ (pubOf inFrame {} {} { sigf := true }).sigf = true ∧ (pubOf inFrame {} {} {}).sigf = false := by
  decide

theorem test_witness_FramesRunFromTickToRelease_vote :
    1 < (votingLanes voting3.vot).length ∧ ((votingLanes voting3.vot).filter fun l => (laneOf voting3.vot l).pub.isSome).length < 2
      ∧ 3000 < 0 + 20000 * 70 / 100 + 2000 ∧ votingLanes (published 1).vot ≠ []
      ∧ ((votingLanes (published 1).vot).all fun l => ((laneOf (published 1).vot l).pub.map fun p => decide (p.pubAt ≤ 3000)).getD false)
        = true ∧ countedLanes (published 5) = Lane.all
      ∧ pubsAgree (published 5).vot .l1 .l2 = true ∧ pubsAgree (published 5).vot .l1 .l3 = false ∧ (published 5).work = some {}
      ∧ pubsAgree (published 1).vot .l1 .l3 = true ∧ pubsAgree (published 1).vot .l2 .l3 = true
      ∧ ((Lane.all.all fun a => Lane.all.all fun b => a = b || !pubsAgree voting3.vot a b) = true)
      ∧ ({ noVerdict := true } : VoteEnv).noVerdict = true ∧ (votingLanes voting2.vot).length = 2
      ∧ (agreed true).objs.map (·.cmd) = [sgStop] ∧ (agreed false).objs.map (·.cmd) = [3] ∧ (agreed false).permits = []
      ∧ isRestrictive .signal 3 = false ∧ (applyVec (votedVec (published 5) .l1 {}) {}).objs = [] ∧ ({} : OutVec).trips = [] := by
  decide

theorem test_witness_FramesRunFromTickToRelease_emit :
    max 3000 (0 + (([100, 200] : List Nat).take 5).sum) ≤ 0 + 20000 * 75 / 100 + 2000
      ∧ 0 + 20000 * 75 / 100 + 2000 < max 3000 (0 + (([100, 200, 17000] : List Nat).take 5).sum)
      ∧ (plainKey? { calm with sec := { calm.sec with plain := [{ ktype := 1, index := 1, slot := 0, key := 5 }] } } 1 1
          (laneKsel calm.cfg)).isSome = true
      ∧ (published 1).xbr.cpend = false ∧ (published 1).upd.exchange = none ∧ (published 1).sys.stopped = false
      ∧ (published 1).lio.vital.stopped = false ∧ { (published 1).frn0 with state := .run }.fenced = false
      ∧ { running.frm with voted := true }.released = false ∧ max (0 + 20000 * 75 / 100) running.frm.emitEnd ≤ 99999
      ∧ { running.dpx with handDue := true }.handDue = true ∧ running.xbr.q1.items = [] ∧ svcRuns running = true
      ∧ running.xbr.fenced = false ∧ framesRun inFrame = true
      ∧ inFrame.frm.tick + inFrame.frm.T * 75 / 100 + inFrame.frm.ext < 99999
      ∧ inFrame.frm.tick + 2 * inFrame.frm.T ≤ 99999 ∧ (published 1).now ≤ 0 + 20000 * 75 / 100 + 2000
      ∧ { (published 1).frm with ended := true, drainEnd := 3001 }.ended = true ∧ 3000 < 0 + 2 * 20000 := by
  decide

theorem test_witness_LanesAndInstancesLeaveAndReturn :
    (let b : LaneBlk := { state := .resync, shadow := 3 }; b.state = .resync ∧ 3 ≤ b.shadow)
      ∧ (laneOf calm.vot .l1).state = .fenced
      ∧ (let b : InstBlk := { state := .reseed, equal := 3 }; b.state = .reseed ∧ 3 ≤ b.equal) ∧ (instOf calm.prl .x).state = .isIn
      ∧ (let b : InstBlk := { outAt := some 5 }; b.state = .isIn ∧ b.outAt = some 5 ∧ 100 < 5 + 86400000000)
      ∧ (Inst.all.filter fun i => (instOf { calm.prl with iz := { state := .out } } i).state = .isIn).length = 2
      ∧ { calm.prl with duoFrom := some 0 }.duoFrom = some 0 ∧ 3600000000 * fieldOf calm.cfg.prlCtl 0 8 ≤ 0 + (259200000000 - 0)
      ∧ voting2.vot.duoSince = some 0 ∧ framesRun voting2 = true ∧ voting2.vot.limitAt = none ∧ paired.dpx.peerReady = true
      ∧ 0 + 3600000000 * (fieldOf voting2.cfg.votCtl 0 8 + voting2.vot.extH) ≤ max voting2.now 259200000000
      ∧ { voting2.vot with limitAt := some 7 }.limitAt = some 7 ∧ 7 + 3600000000 ≤ max voting2.now 3600000007
      ∧ framesRun { voting2 with dpx := { role := .active } } = true := by decide

/-- A timer with its rest covered, a point and a crossing moving, a settle period and a wait limit at their end. -/
def ticking (objs : List ObjInst) (ts : List TimerInst) (txns : List Txn) : State := { running with
  now := 11000
  prl := { fenced := false }
  frm := { nextTick := some 10000, tick := 0, T := 10000, started := true, ended := true }
  core := { objs := objs, timers := ts, txns := txns
            crumbs := [{ shr := false, kind := .route, pos := 1, owner := 0, refs := 1, obj := 2 }]
            prlTracks := txns.map fun t => { slot := t.slot, use := t.relUse, remain := 11 }
            prlObjs := [{ idx := 2, rep := sgStop, valid := true }, { idx := 4, rep := 0, age := 5 }] } }
def timer1 : TimerInst := { num := 1, kind := .watch, remain := 11, preset := 8000, run := true }
def timer3 : TimerInst := { num := 3, kind := .release, remain := 12, preset := 500, run := true }
def moving : List ObjInst := objects.map fun o => if o.idx = 1 then { o with cmd := 2 } else if o.idx = 4 then { o with age := 6 } else o
def releasing (u : RelUse) : Txn :=
  { slot := 0, route := 10, age := 1, admittedAt := 0, waitMs := 1000, state := .releasing, relUse := u, relRemain := 11, held := [2] }
def table10 : Prt := { table with
  routes := [{ num := 10, entry := 2, exit := 2, footprint := [{ obj := 2, kind := .route, pos := 1 }], limits := [] }] }

/-- What Praline has counted of a release time at the tick. -/
def timed10 (u : RelUse) : Inter :=
  let s := ticking objects [] [releasing u]
  trackNow table10 (dueFrame s) (releasing u) (setTxn s.core 0 fun _ => tickRel (dueFrame s) (releasing u))

/-- A request over its wait limit whose claim fails under a fenced Praline, and one whose wait goes on. -/
def waiting10 (waitMs : Nat) : State :=
  let s := ticking objects [] [{ txn .requested with waitMs := waitMs }]
  { s with prl := { s.prl with fenced := true } }
def requestAfter (waitMs : Nat) : Option RouteSt :=
  (runFrame { m1 := 10000, m2 := 10000, m3 := 10000 } (waiting10 waitMs)).work.bind fun z => (txnOfRoute? z 10).map (·.state)
theorem test_wait_limit : requestAfter 10 = some .refused ∧ requestAfter 600000 = some .requested ∧ 0 + 10 * 1000 ≤ (waiting10 10).now := by
  decide +kernel

theorem test_witness_InterlockTimersEndAtTheTick :
    (ticking [] [] []).mzp = some station ∧ (ticking [] [] []).prt = some table ∧ (ticking [] [] []).work = none
      ∧ framesRun (ticking [] [] []) = true ∧ (ticking [] [] []).dpx.gapDue = false ∧ (ticking [] [] []).frm.nextTick = some 10000
      ∧ 10000 ≤ (ticking [] [] []).now ∧ running.now < 1000
      ∧ timerOf? (ticking [] [timer3] []).core 3 = some timer3 ∧ (∀ d ∈ station.objects, d.timer ≠ some 3)
      ∧ ¬ (timer3.remain ≤ 11000 / 1000) ∧ timer1.run = true ∧ timer1.remain ≠ 0 ∧ timer1.remain ≤ (11000 + 999) / 1000
      ∧ (stObj? station 1).map (·.timer) = some (some 1) ∧ timerOf? (ticking moving [timer1] []).core 1 = some timer1
      ∧ (objOf? (ticking moving [timer1] []).core 1).map (fun o => (o.ty, o.cmd, o.rep)) = some (.point, 2, posRep 0)
      ∧ (2 ≠ ptcNone ∧ posRep 0 ≠ posRep (2 - 1)) ∧ (ObjTy.crossing = .crossing ∧ lxClose = lxClose ∧ lxSecured ≠ lxClose)
      ∧ (station.objects.find? fun k => k.timer == some 1).map (·.ty) = some .point
      ∧ (objOf? (ticking moving [] []).core 4).map (fun o => (o.ty, o.valid)) = some (.boundary, true) ∧ station.bage < satAdd 255 1 6
      ∧ (objOf? (ticking objects [] []).core 3).isSome = true ∧ satAdd 255 1 0 ≤ station.bage
      ∧ table.bage < satAdd 255 1 5 ∧ 4 ∉ (ticking moving [] []).core.freshTag
      ∧ txnOfRoute? (ticking [] [] [txn .requested]).core 10 = some (txn .requested)
      ∧ txnOfSlot? (ticking [] [] [txn .requested]).core 0 = some (txn .requested) ∧ (txn .requested).byCancel = false
      ∧ 0 + 1000 * 1000 ≤ 1000000
      ∧ (stRoute? station 10).isSome = true ∧ (releasing .approach).ended = false ∧ ((releasing .approach).relQ || (releasing .approach).relNew) = false
      ∧ ¬ (11000 / 1000 < (releasing .approach).relRemain) ∧ (txn .inUse).relUse = .nothing ∧ 11000 / 1000 < 12
      ∧ provesStop (ticking objects [] []).core 2 = true
      ∧ prlProves table10 (timed10 .approach) (releasing .approach) { slot := 0, objs := [2], why := .approachEnd } = true
      ∧ prlProves table10 (timed10 .emergency) (releasing .emergency) { slot := 0, objs := [2], why := .emergency } = true
      ∧ prlProves table10 (timed10 .overlap) (releasing .overlap) { slot := 0, objs := [], why := .overlapEnd } = true
      ∧ (ticking [] [] []).prl.fenced = false
      ∧ (station.routes.all fun rd => overlapClear station (ticking objects [] []).core rd && rd.entry == 2) = true
      ∧ holdsShared (((prtRoute? table10 10).map (·.footprint)).getD []) 2 = false := by
  decide

/-- A RELEASE timer of the station logic counts from the tick of the frame before, 10.5 ms ago, rounded down (R88). -/
theorem test_timer_counts_from_tick_to_tick :
    (after (.frameTick 10500 { m1 := 10000, m2 := 10000, m3 := 10000 }) 
        { ticking objects [{ timer3 with remain := 500 }] [] with now := 0, mzp := some { station with logic := [.timer 3] } }).map
      (fun t => (t.work.bind fun x => timerOf? x 3).map (·.remain)) = some (some 490) := by decide +kernel

/-- Lane 2 due in a STANDBY module; under test, again or not. -/
def dueTest (role : Role) (under : Option Lane) : State := { calm with
  now := 100, dpx := { role := role }, bst := { t2 := { due := some 90 }, under := under, startedAt := 50 } }

/-- Lane 2 under test, the first time or again, and a blob of its key. -/
def testing (again : Bool) : State := { dueTest .standby (some .l2) with bst := { (dueTest .standby (some .l2)).bst with again := again } }
def blob12 (ctr : Nat) : Blob := { ktype := 1, index := 2, slot := 0, ctr := ctr, gen := 0, key := 3 }

theorem test_witness_ProofTestsStartAndEndByTheirRules :
    (testOf calm.bst .l1).due = none ∧ (testOf (dueTest .standby none).bst .l2).due = some 90 ∧ 90 ≤ (dueTest .standby none).now ∧ 89 < 90
      ∧ idleRole (dueTest .standby none) = true ∧ (dueTest .standby none).sys.ready = true ∧ (dueTest .standby none).bst.under = none
      ∧ (testOf (dueTest .standby none).bst .l2).hold = false ∧ (laneOf (dueTest .standby none).vot .l2).booting = false
      ∧ (Lane.all.all fun k => !(laneOf (dueTest .standby none).vot k).limited && !(testOf (dueTest .standby none).bst k).isDue
          && (k = .l2 || (testOf (dueTest .standby none).bst k).due = none)) = true
      ∧ idleRole (dueTest .alone none) = false
      ∧ 90 + 60000000 * fieldOf calm.cfg.bstCtl 8 8 ≤ max (dueTest .standby none).now 3600000090
      ∧ (testing false).bst.under = some .l2 ∧ (testing false).bst.startedAt ≤ (testing false).now ∧ 1 ≤ fieldOf calm.cfg.bstCtl 0 5
      ∧ (testFailure? (testing false) .l2 {}).isNone = true ∧ (testFailure? (testing true) .l2 { reload := 20000000 }).isNone = true
      ∧ (testFailure? (testing true) .l2 { reload := 20000001 }).isSome = true
      ∧ ((testFailure? (testing false) .l2 { took := [3000001] }).map (·.step)) = some 1
      ∧ ((testFailure? (testing false) .l2 { found := some .keyStore }).map fun f => (f.step, f.keyzFail)) = some (5, true)
      ∧ ((testFailure? (testing false) .l2 { found := some (.restored 2 14) }).map (·.restoreFail)) = some true
      ∧ ((testFailure? (testing false) .l2 { found := some (.bist 5 7) }).map fun f => (f.block, f.signature)) = some (5, 7)
      ∧ (testFailure? { testing false with now := 60 + 52410000 } .l2 {}).isSome = true
      ∧ (testing true).bst.again = true ∧ (testing false).bst.again = false ∧ (testing false).sec.dbg ≠ .d3
      ∧ usableBlob { calm.sec with counters := [(1, 2, 0, 1)] } (blob12 1) = true
      ∧ unwrapFails { calm with sec := { calm.sec with counters := [(1, 2, 0, 1)], blobs := [blob12 1] } } .l2 = false
      ∧ unwrapFails { calm with sec := { calm.sec with counters := [(1, 2, 0, 2)], blobs := [blob12 1] } } .l2 = true := by
  decide
/-! ## Witnesses: field clusters, local I/O, packets -/

def guardRun : GuardianBlk := { state := .run }

/-- Cluster 0 with node 20 in a state, both optics in, in a cycle. -/
def field (st : PortSt) (node : NodeBlk) (cycle : Nat) : State := { calm with
  mzp := some station, sys := { calm.sys with optics := [5, 6] }
  frn0 := { state := st, begun := true, cycle := cycle, nodes := [node], guardA := guardRun, guardB := guardRun } }
def node20 (st : NodeState) : NodeBlk := { node := 20, state := st }

/-- A valid uplink of node 20 with one report, VALID 3, and one with another report. -/
def uplinkOf (rep : Byte) : Arrival :=
  let head : Bytes := [0xB1, 20] ++ be 4 0 ++ be 2 0xC000 ++ be 6 1 ++ [1, 0, rep, 0]
  let body := head ++ be 4 (vchk 0 0 20 head).toNat
  { data := body ++ be 4 (crc32c body).toNat, dev := 3 }
def syncOf : Bytes := let h : Bytes := [0xA2, 0xFF] ++ be 6 0 ++ be 2 0 ++ [0, 0]; h ++ be 4 (crc32c h).toNat

theorem test_witness_FieldCyclesSendTakeAndJudge_starts :
    Chan.a ∉ ({ now := 0 } : CycleEnv).tableBad ∧ Chan.b ∈ ({ now := 0, tableBad := [.b] } : CycleEnv).tableBad
      ∧ ({ now := 0, scheduleBad := true } : CycleEnv).scheduleBad = true
      ∧ { calm.frn0 with goRun := true }.goRun = true ∧ { calm.frn0 with muteDue := true }.muteDue = true
      ∧ { calm.frn0 with stopPending := true }.stopPending = true ∧ calm.dpx.relinquished = false ∧ silenceSpared calm.frn0 = false
      ∧ calm.frn0.goRun = false ∧ (field .run (node20 .admitted) 7).frn0.muteDue = false
      ∧ gaveUp { calm with dpx := { calm.dpx with relinquished := true } } = true
      ∧ mailboxAgrees (node20 .admitted) = true ∧ mailboxAgrees { node20 .admitted with frozenN := 3 } = false := by decide

theorem test_witness_FieldCyclesSendTakeAndJudge :
    calm.frn0.state = .off ∧ (field .run (node20 .admitted) 7).frn0.state ≠ .off ∧ (field .run (node20 .admitted) 7).frn0.begun = true
      ∧ linkOn (field .run (node20 .admitted) 7) .c0 .a = true ∧ chanOn (field .run (node20 .admitted) 7) .c0 .b = true
      ∧ (field .follow (node20 .admitted) 7).frn0.goRun = false ∧ (field .follow (node20 .admitted) 7).frn0.stopPending = false
      ∧ (field .follow (node20 .admitted) 7).frn0.muteDue = false ∧ (field .run (node20 .admitted) 7).frn0.cycle % 2 = 1
      ∧ (field .run (node20 .admitted) 8).frn0.cycle % 2 = 0
      ∧ (stNode? station .c0 20).isSome = true ∧ nodeOf? (field .run (node20 .absent) 7) .c0 20 = some (node20 .absent)
      ∧ (station.nodes.all fun d => uplinkOk (field .run (node20 .absent) 7) .c0 d (uplinkOf 0x10)) = true
      ∧ (station.nodes.all fun d => uplinkOk (field .run (node20 .absent) 7) .c0 d (uplinkOf 0x20)) = true
      ∧ (uplinkOf 0x10).data ≠ (uplinkOf 0x20).data ∧ (node20 .absent).clean = 0 ∧ 1 ≤ { node20 .absent with clean := 1 }.clean
      ∧ (station.nodes.all fun d => !uplinkOk (field .run (node20 .absent) 7) .c0 d { data := [], dev := 0 }) = true
      ∧ (field .run (node20 .admitted) 7).frn0.isRoot = true ∧ (field .follow (node20 .admitted) 7).frn0.isRoot = false
      ∧ (unCrc? syncOf).map (fun h => (h.length, fieldAt h 0 1, fieldAt h 1 1, fieldAt h 8 2, fieldAt h 10 1)) = some (12, 0xA2, 0xFF, 0, 0)
      ∧ (let s := field .run { node20 .admitted with missing := 9 } 100
        (nodeOf? s .c0 20).map (·.state) = some .admitted ∧ dropLimit s .c0 ≤ missingNow s.frn0 { node20 .admitted with missing := 9 })
      ∧ ¬ (dropLimit calm .c0 ≤ missingNow calm.frn0 { node20 .admitted with heard := true })
      ∧ 64 ≤ (100 + 2 ^ 32 - 36) % 2 ^ 32 ∧ ¬ (64 ≤ (99 + 2 ^ 32 - 36) % 2 ^ 32)
      ∧ guardRun.state = .run ∧ calm.frn0.guardA.state ≠ .run
      ∧ 3 ≤ (7 :: { guardRun with violations := [6, 5] }.violations.filter fun k => (7 + 2 ^ 32 - k) % 2 ^ 32 < 1000).length
      ∧ (let g : GuardianBlk := { state := .blocked, blockedAt := some 0 }
        g.state = .blocked ∧ g.forever = false ∧ 10000 ≤ (10000 + 2 ^ 32 - 0) % 2 ^ 32) := by decide +kernel

/-- A range reply of node 20 with its schedule and configuration identifiers. -/
def replyOf (cfgId : Nat) : Bytes :=
  let h : Bytes := [0xC4, 0, 20, 0] ++ be 4 0 ++ be 2 8 ++ be 2 0 ++ be 4 77 ++ be 4 cfgId
  h ++ be 4 (crc32c h).toNat
def asked : State := let s := field .run (node20 .ranging) 7; { s with frn0 := { s.frn0 with askA := some (.node 20, 7) } }

/-- A service answer of node 20 with a code, to number 4. -/
def answerOf (code : Byte) (content : Bytes) : Bytes :=
  let h : Bytes := [0xC2, 0, 20, 0] ++ be 4 0 ++ be 2 (8 + content.length) ++ be 2 0 ++ [code, 0] ++ be 2 0 ++ be 4 4 ++ content
  h ++ be 4 (crc32c h).toNat
def serving (code : Nat) : State := let s := field .run (node20 .admitted) 40
  { s with frn0 := { s.frn0 with svc := [{ node := 20, code := code, snum := 4, ref := 0, content := [], sentCycle := 24 }] } }

theorem test_witness_RangingAndServiceAnswersAreTaken :
    asked.frn0.askA = some (.node 20, 7) ∧ 7 = asked.frn0.cycle ∧ Party.kind (.node 20) = 0 ∧ Party.num (.node 20) = 20
      ∧ (unCrc? (replyOf 88)).map (fun h => (h.length, fieldAt h 0 1, fieldAt h 8 2, fieldAt h 1 1, fieldAt h 2 1)) = some (20, 0xC4, 8, 0, 20)
      ∧ recordOf asked .c0 .a (.node 20) = some (77, [88]) ∧ (unCrc? (replyOf 88)).map (fun h => (fieldAt h 12 4, fieldAt h 16 4)) = some (77, 88)
      ∧ 15000 / 2 ≤ 7500 ∧ ¬ (15002 / 2 ≤ 7500) ∧ (unCrc? (replyOf 89)).map (fun h => fieldAt h 16 4) = some 89
      ∧ unCrc? [] = none ∧ calm.frn0.askA = none := by decide +kernel

theorem test_witness_RangingAndServiceAnswersAreTaken_answers :
    (parseSvc? (answerOf 0x81 [2])).map (fun w => (w.node, w.code, w.ref, fieldAt w.content 0 1)) = some (20, 0x81, 4, 2)
      ∧ (parseSvc? (answerOf 0x83 [])).map (·.code) = some 0x83
      ∧ (parseSvc? (answerOf 0x82 (be 4 5 ++ be 4 0 ++ be 4 0 ++ [1]))).map (fun w => (fieldAt w.content 0 4, fieldAt w.content 8 4, fieldAt w.content 12 1))
        = some (5, 0, 1)
      ∧ (svcFor? (serving 2) .c0 { node := 20, code := 0x81, ref := 4, content := [2] }).map (·.code) = some 2
      ∧ (svcFor? (serving 1) .c0 { node := 20, code := 0x81, ref := 4, content := [2] }).map (·.code) = some 1
      ∧ ({ node20 .admitted with ocfPkg := 5 }.ocfPkg = 5 ∧ 1 ≤ 1 ∧ 0 ≠ 0xFFFFFFFF)
      ∧ (ocfImage? { calm with upd := { ocf := { a := { state := .confirmed, header := header 5 5 7, image := [1, 2] } } } } 5).map (·.image.length)
        = some 2
      ∧ 16 ≤ ((serving 1).frn0.cycle + 2 ^ 32 - 24) % 2 ^ 32 ∧ ¬ (16 ≤ (39 + 2 ^ 32 - 24) % 2 ^ 32)
      ∧ nodeQuiet (serving 1) .c0 20 = true ∧ { node20 .admitted with ocfWant := true }.ocfWant = true := by decide +kernel

/-- A field side that runs, in LIVE, keyed, with a command. -/
def localCmd (frame : Nat) : LocCmd := { frame := frame, entries := [], trips := [true], tripTags := [], lane1 := 1, lane2 := 2, sig1 := 0, sig2 := 0 }
def side (f : FieldSide) : State := { running with lio := { field := { f with powered := true } } }
def live : FieldSide := { hold := .live, holdFrom := some 0, keyed := true, x2Ok := true, x2 := 2400, drive := true, succ := 3
                          cmd := some (localCmd 3) }
def outOn1 : OutBlk := { f1 := true, f2 := true, app := true }
def guarded : State := { side live with prl := { guards := [{ armed := true, count := 0 }] }, prt := some table }

/-- Acceptance of a command rests on opaque signatures: its clause shares these hypotheses but that one. -/
theorem test_witness_BarrierCarriesCommandsAndKeys :
    vitalOn (side live) = true ∧ vitalOn { side live with pwr := { power := .backup } } = false
      ∧ fieldRuns calm.lio.field = false ∧ fieldRuns (side live).lio.field = true ∧ LinkFault.badCrc ≠ .arrives ∧ driveBit calm = false
      ∧ driveBit (side live) = true ∧ (side live).lio.vital.restart = false ∧ (side live).lio.vital.kzero = false
      ∧ tripMask { side live with prl := { guards := [{ tripped := true }] } } 0 = true ∧ (side live).lio.vital.current = none
      ∧ (localCmd 3).frame ≤ { live with lastF := 3 }.lastF ∧ (localCmd 3).frame ≤ { live with lastF2 := 3 }.lastF2
      ∧ live.lastF < (localCmd 3).frame ∧ live.lastF2 < (localCmd 3).frame ∧ (sevOf running.cfg .prl pGUARD_TRIP).code < 2
      ∧ (sevOf running.cfg .prl pGUARD_FAULT).code < 2 ∧ 2 ≤ { live with lossRun := 2 }.lossRun ∧ live.lossRun < 2
      ∧ 2 ≤ ({ lossRun := 2 } : LioVital).lossRun ∧ (side live).lio.vital.lossRun < 2 ∧ live.hold ≠ .restart ∧ live.keyed = true
      ∧ (side live).lio.vital.stopped = false ∧ 3 * (side live).lio.vital.keys.length ≤ (side live).lio.vital.kseg
      ∧ ({} : DownIn).f1Discards = false ∧ (localCmd 3).trips[1]? ≠ some true
      ∧ (side { live with hold := .restart }).lio.field.hold = .restart ∧ 3 ≤ live.succ ∧ live.drive = true ∧ live.restartAt = none
      ∧ live.cmd = some (localCmd 3) ∧ (side live).mzp = some station ∧ live.holdFrom = some 0
      ∧ 0 + 10000 * fieldOf running.cfg.dpxCtl 8 8 ≤ max running.now 250000 ∧ max running.now 249999 < 0 + 10000 * fieldOf running.cfg.dpxCtl 8 8
      ∧ table.guards[0]? = some { pair := 0, dir := 0, trip := 0, thr := 1, sig := none, quiet := 10 }
      ∧ guarded.prl.guards[0]? = some { armed := true, count := 0 }
      ∧ ({ degraded := true, app := true } : TripBlk).app = true
      ∧ (let w : LioVital := { keys := [{ ktype := 1, index := 1, slot := 0, key := 2 }], kseg := 3, ksentAt := some 0 }
        w.keys ≠ [] ∧ 3 * w.keys.length ≤ w.kseg ∧ w.up.keyed = false ∧ 0 + 2000 ≤ 2000) := by decide

/-- Inputs 0 and 1 filtered, 2 and 3 a counting pair. -/
def inputs : State := { side live with mzp := some { station with
  inputs := [{ filt := 4, mode := .equivalent, disc := 2 }, { filt := 4, mode := .equivalent, disc := 2 }, { filt := 0, mode := .paired, disc := 0 },
    { filt := 0, mode := .paired, disc := 0 }] } }

theorem test_witness_InputsAreFilteredCountedAndTested :
    fieldRuns inputs.lio.field = true ∧ 31 < nInputs inputs ∧ inputs.lio.field.ins[31]?.isSome = true ∧ isCounting (inputCfg inputs 2).mode = true
      ∧ isCounting (inputCfg inputs 0).mode = false ∧ restrReading inputs 0 = false ∧ (inputCfg inputs 0).filt = 4
      ∧ { ({} : InBlk) with since := some 0 }.since = some 0 ∧ 0 + 250 * (inputCfg inputs 0).filt ≤ 1000 ∧ 999 < 0 + 250 * (inputCfg inputs 0).filt
      ∧ inputs.lio.field.chans[15]?.isSome = true ∧ inputs.lio.field.ins[2 * 15 + 1]?.isSome = true
      ∧ ({ disSince := some 0, restrSince := some 0 } : ChanBlk).disSince = some 0 ∧ 0 + 10000 * (inputCfg inputs 0).disc ≤ 20000
      ∧ 1 < nPairs inputs ∧ inputs.lio.field.pairs[1]?.isSome = true ∧ (inputCfg inputs (2 * 1)).mode = .paired ∧ 16 ≤ 16 ∧ 15 < 16
      ∧ (true, true) ≠ (false, false)
      ∧ (inputCfg { inputs with mzp := some { station with inputs := List.replicate 2 { filt := 0, mode := .countSingle, disc := 0 } } } (2 * 0)).mode
        = .countSingle ∧ 0 < nPairs inputs ∧ inputs.lio.field.ibf.length = 4 ∧ inputs.lio.field.ibTested.length = 4
      ∧ { inputs.lio.field with locating := some 3 }.locating = some (31 / 8) ∧ inputs.lio.field.locating ≠ some 0
      ∧ (∀ n ∈ ([] : List Nat), n / 8 ≠ 3) ∧ 31 / 8 = 3 := by decide

def tripped (degraded : Bool) : TripBlk := { degraded := degraded, degSince := some 0, f1 := true, f2 := true, app := true }

theorem test_witness_OutputFaultsAndSupplyOpenSwitches :
    fieldRuns (side live).lio.field = true ∧ 15 < nOutputs (side live) ∧ (side live).lio.field.outs[15]?.isSome = true ∧ groupOk live (15 / 8) = true
      ∧ groupOk { live with grp1 := false } (15 / 8) = false ∧ 7 < 8 ∧ 8 ≤ 15 ∧ 3 < nTrips (side live) ∧ (side live).lio.field.trips[3]?.isSome = true
      ∧ (tripped true).degraded = true ∧ (tripped false).degraded = false ∧ live.grpT = true ∧ 1920 ≤ 3000 ∧ 3000 < 3001 ∧ 1919 < 1920
      ∧ anythingOn { live with outs := [outOn1] } = true ∧ anythingOn live = false
      ∧ { live with openedAt := some 5 }.openedAt = some 5 ∧ 10004 < 5 + 10000 ∧ ¬ (10005 < 5 + 10000) ∧ { live with restartAt := some 0 }.restartAt ≠ none
      ∧ { live with trips := [tripped true] }.trips[0]? = some (tripped true) ∧ (tripped true).degx = false
      ∧ 0 + 60000000 * fieldOf running.cfg.lioCtl 8 8 ≤ 900000000 ∧ 899999999 < 0 + 60000000 * fieldOf running.cfg.lioCtl 8 8
      ∧ { tripped true with degxAt := some 0 }.degxAt = some 0 ∧ 0 + 1000000 ≤ 1000000
      ∧ tripOn { live with trips := [tripped true], grp0 := true } 0 = true ∧ tripOn live 0 = false
      ∧ ({ live with openAt0 := some 0, openOut0 := some 2 }).openOut0 = some 2
      ∧ ({ live with openAt1 := some 0, openOut1 := some 15 }).openOut1 = some 15 ∧ ({ live with openAtT := some 0, openOutT := some 3 }).openAtT = some 0 ∧ 0 + 1000 ≤ 1000
      ∧ { running.sys with variant := 0x10 }.variant = 0x10 ∧ running.sys.variant ≠ 0x10 ∧ calm.lio.field.powered = false ∧ 1600 ≤ 1600
      ∧ 1599 < 1600 ∧ 2040 ≤ 2040 ∧ 2039 < 2040 ∧ (side live).lio.vital.converterBad = false
      ∧ { (side live).lio.vital with converterBad := true }.converterBad = true ∧ (side live).lio.field.inReset = false
      ∧ { live with inReset := true }.inReset = true := by decide

/-- A datagram from the operator, with an opcode, a destination and a safety code. -/
def packet (opc dst safety : Nat) (src : Nat) : Bytes :=
  pktBytes { ver := 2, opc := opc, tag := 1, seq := 5, src := src, dst := dst, safety := safety, payload := [] }
def from0 (data : Bytes) : DatagramIn := { conn := 13, ip := 7, udpp := 5, data := data }
def p0 : Pkt := pktOf (packet 0x50 0 0 0x0400)

theorem test_witness_PacketsPassTheChecksInOrder :
    connListens calm 13 = true ∧ connListens calm 9 = false ∧ senderEntry? calm (from0 []) = some 0
      ∧ senderEntry? calm { from0 [] with ip := 9 } = none ∧ opensWithout calm { from0 [] with ip := 9 } p0 = false
      ∧ ¬ (28 ≤ ([] : Bytes).length)
      ∧ (28 ≤ (packet 0x50 0 0 0x0400).length ∧ fieldAt (packet 0x50 0 0 0x0400) 0 2 = 0xC3A5 ∧ fieldAt (packet 0x50 0 0 0x0400) 2 1 = 2)
      ∧ (packet 0x50 0 0 0x0400).length = 28 + fieldAt (packet 0x50 0 0 0x0400) 6 2
      ∧ (packet 0x50 0 0 0x0400 ++ [0]).length ≠ 28 + fieldAt (packet 0x50 0 0 0x0400) 6 2
      ∧ (unCrc? (packet 0x50 0 0 0x0400)).isSome = true ∧ (unCrc? (be 28 1)).isSome = false ∧ isUnsolicited p0.opc = false
      ∧ p0.dst = ownAddr calm.cfg ∧ (pktOf (packet 0x50 1 0 0x0400)).dst ≠ ownAddr calm.cfg ∧ p0.src = (partnerAt calm 0).addr
      ∧ (pktOf (packet 0x50 0 0 0x0401)).src ≠ (partnerAt calm 0).addr ∧ opcodeOk calm operator p0 = true
      ∧ opcodeOk calm operator (pktOf (packet 0x05 0 0 0x0400)) = false ∧ gateOf retired (srcOf 0 p0) 0x10 = .answer .notAuth
      ∧ classOf 0x10 = .vital ∧ gateOf running (srcOf 0 p0) 0x10 = .pass ∧ gateOf calm (srcOf 0 p0) 0x50 = .pass ∧ classOf 0x50 ≠ .vital
      ∧ (pktOf (packet 0x50 0 1 0x0400)).safety ≠ 0 ∧ 0 ∉ calm.cmd.badSafety ∧ 0 ∈ { calm.cmd with badSafety := [0] }.badSafety
      ∧ p0.payload = [] ∧ gateOf running (srcOf 0 p0) 0x84 = .pass ∧ lanesTake running = true ∧ queueRoom running.xbr 0 28 = true
      ∧ gateOf calm (srcOf 0 p0) 0x84 = .pass ∧ lanesTake { calm with dpx := { role := .alone } } = false
      ∧ ([({ entry := 0, seq := 5, safety := 0, reply := [] } : Stored)].find? fun r => r.entry == 0 && r.seq == 5 && r.safety == 0).isSome = true
      ∧ ({ entry := 0, seq := 5, safety := 0, tag := 1, frame := 0 } : Pending).seq = p0.seq ∧ calm.dpx.role ≠ .active ∧ calm.dpx.role ≠ .alone
      ∧ running.dpx.role = .alone ∧ pointersAgree running.xbr.q0 = true
      ∧ pointersAgree ({ rd := { ptr := 1 } } : Queue) = false ∧ running.xbr.fenced = false ∧ queueRoom (holding 64).xbr 0 28 = false ∧ queueRoom running.xbr 0 28 = true
      ∧ calm.cmd.reassembly = [] ∧ 8220 ≤ 8220
      ∧ sameAssembly (from0 []) 4 { conn := 13, ip := 7, udpp := 5, ident := 4, startedAt := 0, parts := [(0, [1])], total := none } = true
      ∧ (tableEntry calm 0).addr ≠ 0xFFFF ∧ (tableEntry calm 0).silent ≠ 0 ∧ 0 + 1000000 * (tableEntry calm 0).silent ≤ 1000000
      ∧ 0 ∉ calm.cmd.silent := by decide +kernel

end Sys2Proof.Tests
end

/-! PROOFS. Writes of registers (R12, R297, R299, R301 to R304, R322): what a staged write changes and what it leaves, the
paths by which the lanes and the service processor reach it, and the transfers that end in an error before any word. -/

namespace Sys2Proof.Proofs.RegisterWrites

open Sys2Proof Sys2Proof.Machine Sys2Proof.Safety

/-! ## The registers of a configuration -/

theorem cfgGet_cfgSet (c : Cfg) (r q : StReg) (w : Word) : cfgGet (cfgSet c r w) q = if q = r then w else cfgGet c q := by
  cases r <;> cases q <;> rfl

/-- What is staged under `r` does not reach the value of another register. -/
theorem cfgGet_foldl_filter {r q : StReg} (h : q ≠ r) (l : List (StReg × Word)) (c d : Cfg) (hcd : cfgGet c q = cfgGet d q) :
    cfgGet ((l.filter fun p => p.1 ≠ r).foldl (fun c p => cfgSet c p.1 p.2) c) q
      = cfgGet (l.foldl (fun c p => cfgSet c p.1 p.2) d) q := by
  induction l generalizing c d with
  | nil => exact hcd
  | cons p l ih =>
    by_cases hp : p.1 = r
    · have hq : q ≠ p.1 := hp ▸ h
      simpa [hp] using ih c (cfgSet d r p.2) (by simp [cfgGet_cfgSet, h, hcd])
    · simpa [hp] using ih (cfgSet c p.1 p.2) (cfgSet d p.1 p.2) (by simp [cfgGet_cfgSet, hcd])

/-! ## Register addresses -/

@[simp] theorem stRegAt?_addr (r : StReg) : stRegAt? r.addr = some r := by cases r <;> rfl

theorem addr_aligned (r : StReg) : r.addr % 4 = 0 := by cases r <;> rfl

theorem addr_lt (r : StReg) : r.addr < 0x000E0000 := by cases r <;> decide

/-- XBR_FSEV is the only ST register of the bridge. -/
theorem addr_outside_bridge {r : StReg} (h : r ≠ .xbrFsev) : ¬ (0x60000 ≤ r.addr ∧ r.addr < 0x70000) := by
  cases r
  case xbrFsev => exact absurd rfl h
  all_goals decide

@[simp] theorem regView_addr (s : State) (r : StReg) : regView s r.addr = some (cfgGet s.cfg r) := by
  simp [regView]

/-! ## A write of ST fields -/

/-- The fields of `r` that a write reaches (R12): all that are ST, in SEALED those that are not LK. -/
def reach (s : State) (r : StReg) : Word := if s.sec.life = .sealed then r.unlocked else r.mask

/-- The staged value of `r` after a write: the fields in reach from the word, the others as they were (R299). -/
def merged (s : State) (r : StReg) (w : Word) : Word := (stagedOf s r &&& ~~~ reach s r) ||| (w &&& reach s r)

/-- The staging of a write, before any record of it. -/
def stage (s : State) (r : StReg) (w : Word) : State :=
  { s with staged := (s.staged.filter fun p => p.1 ≠ r) ++ [(r, merged s r w)] }

theorem stagedOf_stage_same (s : State) (r : StReg) (w : Word) : stagedOf (stage s r w) r = merged s r w := by
  simp [stagedOf, stagedCfg, stage, cfgGet_cfgSet]

theorem stagedOf_stage_other (s : State) {r q : StReg} (w : Word) (h : q ≠ r) : stagedOf (stage s r w) q = stagedOf s q := by
  simpa [stagedOf, stagedCfg, stage, cfgGet_cfgSet, h] using cfgGet_foldl_filter h s.staged s.cfg s.cfg rfl

/-- A staged write leaves a record exactly in SEALED where the register has an LK field (R12). -/
theorem writeSt_eq (s : State) (r : StReg) (w : Word) : writeSt s r w =
    if s.sec.life = .sealed ∧ r.mask &&& ~~~ r.unlocked ≠ 0 then lkRecord (stage s r w) r.addr else stage s r w := by
  simp [writeSt, stage, merged, reach]

theorem writeSt_frame (s : State) (r : StReg) (w : Word) : RaiseFrame (stage s r w) (writeSt s r w) := by
  rw [writeSt_eq]
  split
  · exact frameRec_frame _ _ _ _
  · exact RaiseFrame.refl _

theorem staged_of_raiseFrame {s t : State} (h : RaiseFrame s t) : t.staged = s.staged := by rw [h]

theorem cfg_of_raiseFrame {s t : State} (h : RaiseFrame s t) : t.cfg = s.cfg := by rw [h]

theorem stagedOf_congr {s t : State} (hc : t.cfg = s.cfg) (hs : t.staged = s.staged) (r : StReg) :
    stagedOf t r = stagedOf s r := by
  simp [stagedOf, stagedCfg, hc, hs]

@[simp] theorem writeSt_staged (s : State) (r : StReg) (w : Word) : (writeSt s r w).staged = (stage s r w).staged :=
  staged_of_raiseFrame (writeSt_frame s r w)

@[simp] theorem writeSt_cfg (s : State) (r : StReg) (w : Word) : (writeSt s r w).cfg = s.cfg :=
  (cfg_of_raiseFrame (writeSt_frame s r w)).trans rfl

theorem stagedOf_writeSt (s : State) (r : StReg) (w : Word) (q : StReg) :
    stagedOf (writeSt s r w) q = if q = r then merged s r w else stagedOf s q := by
  rw [stagedOf_congr (s := stage s r w) (writeSt_cfg s r w) (writeSt_staged s r w)]
  split
  next h => rw [h, stagedOf_stage_same]
  next h => exact stagedOf_stage_other s w h

/-- Where a staged write leaves no record, it changes the staged values and nothing else. -/
theorem writeSt_else (s : State) (r : StReg) (w : Word) (h : s.sec.life ≠ .sealed ∨ r.mask &&& ~~~ r.unlocked = 0) :
    writeSt s r w = { s with staged := (writeSt s r w).staged } := by
  have hn : ¬ (s.sec.life = .sealed ∧ r.mask &&& ~~~ r.unlocked ≠ 0) := by tauto
  rw [writeSt_staged, writeSt_eq, if_neg hn]
  rfl

/-! ## The paths to a staged write -/

theorem laneWrite_live (s : State) (wr : Writer) (r : StReg) (w : Word) : laneWrite s wr r.addr w = some (writeSt s r w) := by
  have hlt := addr_lt r
  simp [laneWrite, writeAt, addr_aligned, hlt, show ¬ 0x01000000 ≤ r.addr by omega]

theorem writeStaging_addr (s : State) (r : StReg) (w : Word) :
    writeStaging s (0x01000000 + r.addr - 0x01000000) w = some (writeSt s r w) := by
  rw [Nat.add_sub_cancel_left, writeStaging, stRegAt?_addr]
  rfl

/-- The staging addresses stand between the live registers and the windows (R297). -/
theorem staging_bounds (r : StReg) : 0x01000000 ≤ 0x01000000 + r.addr ∧ 0x01000000 + r.addr < 0x010E0000 := by
  have hlt := addr_lt r
  omega

theorem staging_aligned (r : StReg) : (0x01000000 + r.addr) % 4 = 0 := by
  have hal := addr_aligned r
  omega

theorem laneWrite_staging (s : State) (wr : Writer) (r : StReg) (w : Word) :
    laneWrite s wr (0x01000000 + r.addr) w = some (writeSt s r w) := by
  rw [laneWrite, if_neg (by simp [staging_aligned]), if_pos (staging_bounds r), writeStaging_addr]

theorem serviceWrite_staging (s : State) (master : Nat) (r : StReg) (w : Word) :
    serviceWrite s master (0x01000000 + r.addr) w = .ok (writeSt s r w) := by
  have hpush : 0x01000000 + r.addr ≠ 0x60064 := by omega
  have hout : ¬ (0x60000 ≤ 0x01000000 + r.addr ∧ 0x01000000 + r.addr < 0x70000) := by omega
  simp only [serviceWrite, if_neg hpush, if_neg hout, if_pos (staging_bounds r), writeStaging_addr]

theorem serviceWrite_live (s : State) (master : Nat) {r : StReg} (w : Word) (h : r ≠ .xbrFsev) :
    serviceWrite s master r.addr w = .error 3 := by
  have hlt := addr_lt r
  have hout := addr_outside_bridge h
  simp [serviceWrite, hlt, hout, show r.addr ≠ 0x60064 by omega, show ¬ 0x01000000 ≤ r.addr by omega]

/-- One aligned word is one part of a transfer (R302). -/
theorem partsOf_one {a : Nat} (h : a % 4 = 0) : partsOf a 1 1 = [(a, 1)] := by
  have hm : min 1 ((256 - a % 256) / 4) = 1 := by omega
  simp [partsOf, hm]

theorem writePart_ok {s t : State} {master a : Nat} {w : Word} (h : serviceWrite s master a w = .ok t) :
    (writePart master (s, [w]) (a, 1)).1 = t := by
  simp [writePart, writeWords, h]

theorem writePart_error {s : State} {master a cause : Nat} {w : Word} (h : serviceWrite s master a w = .error cause) :
    (writePart master (s, [w]) (a, 1)).1 = accessError s a cause true := by
  simp [writePart, writeWords, h]

/-- A transfer of one aligned word, with the bridge not fenced, is that word's write. -/
theorem serviceTransfer_word (s : State) (x : Transfer) (master a : Nat) (w : Word) (hw : x.write = true) (hb : x.bytes = 4)
    (hm : x.more = []) (he : x.exclusive = false) (hf : s.xbr.fenced = false) (ha : a % 4 = 0) :
    serviceTransfer s x master a w = (writePart master (Met s x, [w]) (a, 1)).1 := by
  have hn : x.size = 1 := by simp [Transfer.size, hw, hm]
  simp [serviceTransfer, transferCause?, hn, hw, hb, hm, he, hf, ha, partsOf_one ha, Met, satAdd]

/-! ## What one staged write shows -/

/-- `t` follows `s` by a write of `w` to `r` and what `u` has beside: the staged value of `r`, every other one and the
configuration as R12 and R299 give them. -/
def StagesInto (s u t : State) (r : StReg) (w : Word) : Prop :=
  t.cfg = s.cfg ∧ (∀ q, q ≠ r → stagedOf t q = stagedOf s q)
    ∧ (s.sec.life ≠ .sealed → stagedOf t r = (stagedOf s r &&& ~~~ r.mask) ||| (w &&& r.mask)
        ∧ t = { u with staged := t.staged })
    ∧ (s.sec.life = .sealed → stagedOf t r = (stagedOf s r &&& ~~~ r.unlocked) ||| (w &&& r.unlocked)
        ∧ RaiseFrame { u with staged := t.staged } t
        ∧ (r.mask &&& ~~~ r.unlocked = 0 → t = { u with staged := t.staged }))

theorem writeSt_stagesInto {s u : State} (hc : u.cfg = s.cfg) (hs : u.staged = s.staged) (hl : u.sec = s.sec)
    (r : StReg) (w : Word) : StagesInto s u (writeSt u r w) r w := by
  have hst := stagedOf_congr hc hs
  have hr : stagedOf (writeSt u r w) r = merged u r w := by simp [stagedOf_writeSt]
  refine ⟨by rw [writeSt_cfg, hc], fun q hq => by rw [stagedOf_writeSt, if_neg hq, hst], fun hopen => ⟨?_, ?_⟩,
    fun hsealed => ⟨?_, ?_, fun hnone => writeSt_else u r w (.inr hnone)⟩⟩
  · simp [hr, merged, reach, hl, hst, hopen]
  · exact writeSt_else u r w (.inl (hl ▸ hopen))
  · simp [hr, merged, reach, hl, hst, hsealed]
  · rw [writeSt_staged]
    exact writeSt_frame u r w

/-! ## FIEN and FSTAT -/

theorem base_le (b : Blk) : b.base ≤ 0xD0000 := by cases b <;> decide

theorem base_aligned (b : Blk) : b.base % 4 = 0 := by cases b <;> rfl

/-- A lane access of an aligned address of a block's window is one to its live register. -/
theorem laneWrite_block (s : State) (wr : Writer) (b : Blk) {o : Nat} (w : Word) (ho : o < 0x10000) (ha : o % 4 = 0) :
    laneWrite s wr (b.base + o) w = writeAt s wr (b.base + o) w := by
  have hle := base_le b
  have hal := base_aligned b
  rw [laneWrite, if_neg (by omega), if_neg (by omega), if_pos (by omega)]

theorem writeAt_fien (s : State) (wr : Writer) (b : Blk) (w : Word) :
    writeAt s wr (b.base + 0xF00C) w = some (writeIen s b w) := by
  cases b <;> rfl

/-- FSTAT is listed and read only, so a write to it completes and does nothing (R322). -/
theorem writeAt_fstat (s : State) (wr : Writer) (b : Blk) (w : Word) : writeAt s wr (b.base + 0xF000) w = some s := by
  cases b <;> rfl

/-! ## Transfers that end in an error -/

/-- A transfer's all-ones answer: a read's words, a write's none (R301). -/
def onesOf (x : Transfer) : List Word := if x.write then [] else List.replicate x.size 0xFFFFFFFF

/-- The state in which a transfer that ends in an error leaves all but the bridge's error registers. -/
def answeredOnes (s : State) (x : Transfer) : State :=
  { Met s x with xbr := { (Met s x).xbr with readData := onesOf x } }

theorem serviceTransfer_cause {s : State} {x : Transfer} {a cause : Nat} (master : Nat) (w : Word)
    (h : transferCause? s x a = some cause) : EndsInError (answeredOnes s x) (serviceTransfer s x master a w) a cause x.write := by
  have hmet : transferCause? (Met s x) x a = some cause := h
  unfold serviceTransfer
  simp only [show ({ s with xbr := { s.xbr with retry := satAdd 0xFFFFFFFF x.crossed s.xbr.retry, readData := [] } } : State)
    = Met s x from rfl, hmet]
  cases hw : x.write <;> simp [EndsInError, answeredOnes, onesOf, accessError, hw, Met]

theorem transferCause?_exclusive {s : State} {x : Transfer} (a : Nat) (hf : s.xbr.fenced = false) (he : x.exclusive = true) :
    transferCause? s x a = some 6 := by
  simp [transferCause?, hf, he]

theorem transferCause?_width {s : State} {x : Transfer} {a : Nat} (hf : s.xbr.fenced = false) (he : x.exclusive = false)
    (h : x.bytes ≠ 4 ∨ a % 4 ≠ 0) : transferCause? s x a = some 2 := by
  simp only [transferCause?, hf, he, if_pos h]
  rfl

theorem transferCause?_burst {s : State} {x : Transfer} {a : Nat} (hf : s.xbr.fenced = false) (he : x.exclusive = false)
    (hb : x.bytes = 4) (ha : a % 4 = 0) (hn : 1 < x.size) (hs : singleSpace s a = true) : transferCause? s x a = some 7 := by
  simp [transferCause?, hf, he, hb, ha, hn, hs]

/-- The live address of an ST register outside the bridge is read only for the service processor (R297). -/
theorem serviceTransfer_live {s : State} {x : Transfer} (master : Nat) {r : StReg} (w : Word) (hr : r ≠ .xbrFsev)
    (hf : s.xbr.fenced = false) (hw : x.write = true) (he : x.exclusive = false) (hb : x.bytes = 4) (hm : x.more = []) :
    EndsInError (answeredOnes s x) (serviceTransfer s x master r.addr w) r.addr 3 x.write := by
  rw [serviceTransfer_word s x master r.addr w hw hb hm he hf (addr_aligned r),
    writePart_error (serviceWrite_live (Met s x) master w hr)]
  simp [EndsInError, answeredOnes, onesOf, accessError, hw, Met]

/-! ## The commands -/

theorem exec_lanes {s t : State} {wr a now : Nat} {w : Word} (h : laneWrite (later s now) { addr := wr } a w = some t) :
    exec (.registerWrite .lanes wr a w now) s = .next t := by
  have heq : exec (.registerWrite .lanes wr a w now) s = .next ((laneWrite (later s now) { addr := wr } a w).getD
      (accessError (later s now) a (if a % 4 ≠ 0 then 2 else 1) true)) := rfl
  rw [heq, h, Option.getD_some]

theorem exec_service (s : State) (x : Transfer) (wr a now : Nat) (w : Word) :
    exec (.registerWrite (.service x) wr a w now) s = .next (serviceTransfer (later s now) x wr a w) := rfl

theorem exec_service_staging (s : State) {x : Transfer} (wr now : Nat) (r : StReg) (w : Word) (hw : x.write = true)
    (hb : x.bytes = 4) (hm : x.more = []) (he : x.exclusive = false) (hf : s.xbr.fenced = false) :
    exec (.registerWrite (.service x) wr (0x01000000 + r.addr) w now) s = .next (writeSt (Met (later s now) x) r w) := by
  rw [exec_service, serviceTransfer_word (later s now) x wr _ w hw hb hm he hf (staging_aligned r),
    writePart_ok (serviceWrite_staging _ _ r w)]

/-- Each of the three ways to write an ST register stages its fields (R12, R297, R299). -/
theorem exec_stages {s u : State} {c : Instr} {wr now : Nat} {w : Word} {r : StReg}
    (h : (c = .registerWrite .lanes wr r.addr w now ∧ u = later s now)
      ∨ (c = .registerWrite .lanes wr (0x01000000 + r.addr) w now ∧ u = later s now)
      ∨ ∃ x : Transfer, x.write = true ∧ x.bytes = 4 ∧ x.more = [] ∧ x.exclusive = false ∧ s.xbr.fenced = false
          ∧ c = .registerWrite (.service x) wr (0x01000000 + r.addr) w now ∧ u = Met (later s now) x) :
    ∃ t, exec c s = .next t ∧ StagesInto s u t r w := by
  rcases h with ⟨rfl, rfl⟩ | ⟨rfl, rfl⟩ | ⟨x, hw, hb, hm, he, hf, rfl, rfl⟩
  · exact ⟨_, exec_lanes (laneWrite_live _ _ r w), writeSt_stagesInto rfl rfl rfl r w⟩
  · exact ⟨_, exec_lanes (laneWrite_staging _ _ r w), writeSt_stagesInto rfl rfl rfl r w⟩
  · exact ⟨_, exec_service_staging s wr now r w hw hb hm he hf, writeSt_stagesInto rfl rfl rfl r w⟩

theorem exec_fien (s : State) (wr now : Nat) (b : Blk) (w : Word) :
    exec (.registerWrite .lanes wr (b.base + 0xF00C) w now) s = .next (writeIen (later s now) b w) :=
  exec_lanes (by rw [laneWrite_block _ _ _ _ (by decide) (by decide), writeAt_fien])

theorem exec_fstat (s : State) (wr now : Nat) (b : Blk) (w : Word) :
    exec (.registerWrite .lanes wr (b.base + 0xF000) w now) s = .next (later s now) :=
  exec_lanes (by rw [laneWrite_block _ _ _ _ (by decide) (by decide), writeAt_fstat])

theorem exec_service_ends {s : State} {x : Transfer} {a now cause : Nat} (wr : Nat) (w : Word)
    (h : transferCause? (later s now) x a = some cause) :
    ∃ t, exec (.registerWrite (.service x) wr a w now) s = .next t ∧ EndsInError (answeredOnes (later s now) x) t a cause x.write :=
  ⟨_, exec_service s x wr a now w, serviceTransfer_cause wr w h⟩

/-- Settles O19: the three paths of a staged write by `exec_stages`, then FIEN, FSTAT, and each cause of a bus error. -/
theorem registerWritesReachStagingOnly : Obligations.RegisterWritesReachStagingOnly := by
  intro s wr now w
  refine ⟨fun r c u h => exec_stages h, fun b => ⟨_, exec_fien s wr now b w, ?_⟩, fun b => exec_fstat s wr now b w,
    fun hf x a => ⟨?_, ?_, ?_, ?_⟩⟩
  · refine ⟨by simp [writeIen], by simp [writeIen], by simp [writeIen], fun c hc => ?_, rfl⟩
    exact setFault_other s.faults b c _ hc
  · rintro r rfl hr hw he hb hn
    have hm : x.more = [] := by simpa [hw] using hn
    exact ⟨_, exec_service s x wr _ now w, serviceTransfer_live wr w hr hf hw he hb hm⟩
  · exact fun he => exec_service_ends wr w (transferCause?_exclusive a hf he)
  · exact fun he h => exec_service_ends wr w (transferCause?_width hf he h)
  · exact fun he hb ha hn hs => exec_service_ends wr w (transferCause?_burst hf he hb ha hn hs)

end Sys2Proof.Proofs.RegisterWrites

/-! PROOFS. Measurements and the losses of a rail or of the timebase (R34, R340, R414): a source that follows its
measured value, and a source that is raised. -/

namespace Sys2Proof.Proofs.Measurements

open Sys2Proof Sys2Proof.Machine Sys2Proof.Safety

/-! ## What a raising leaves -/

theorem pwr_of_raiseFrame {s t : State} (h : RaiseFrame s t) : t.pwr = s.pwr := by rw [h]

theorem temp_of_raiseFrame {s t : State} (h : RaiseFrame s t) : t.sys.temp = s.sys.temp := by rw [h]

@[simp] theorem setLive_pwr (s : State) (b : Blk) (n : Nat) (on : Bool) : (setLive s b n on).pwr = s.pwr :=
  pwr_of_raiseFrame (setLive_frame s b n on)

@[simp] theorem setLive_temp (s : State) (b : Blk) (n : Nat) (on : Bool) : (setLive s b n on).sys.temp = s.sys.temp :=
  temp_of_raiseFrame (setLive_frame s b n on)

/-! ## A source that follows its condition, and a source that is raised -/

/-- A source that follows its condition is live exactly where the condition holds (R326). -/
theorem setLive_isLive_iff (s : State) (b : Blk) {n : Nat} {on : Bool} {c : Prop} (hn : n < 16) (hc : on = true ↔ c) :
    isLive (setLive s b n on) b n = true ↔ c := by
  rw [setLive_isLive s b n on hn, hc]

/-- A supply measurement is stored, its source follows it, and the rest is what a raising changes (R326). -/
theorem setLive_supply (s : State) (p : PwrBlk) {n : Nat} {on : Bool} {c : Prop} (hn : n < 16) (hc : on = true ↔ c) :
    let t := setLive { s with pwr := p } .pwr n on
    t.pwr = p ∧ (isLive t .pwr n = true ↔ c) ∧ RaiseFrame { s with pwr := t.pwr } t := by
  intro t
  have hp : t.pwr = p := setLive_pwr _ _ _ _
  refine ⟨hp, setLive_isLive_iff _ .pwr hn hc, ?_⟩
  rw [hp]
  exact setLive_frame _ _ _ _

/-- A raised source is live, and stops the module where it was not and its severity is SAFE-STOP (R326, R333). -/
theorem raise_reports (s : State) (b : Blk) {n : Nat} (hn : n < 16) :
    isLive (raise s b n) b n = true ∧ RaiseFrame s (raise s b n)
      ∧ (isLive s b n = false → sevOf s.cfg b n = .safeStop → (raise s b n).sys.stopped = true) :=
  ⟨raise_isLive s b n hn, raise_frame s b n, raise_stops s b n⟩

/-! ## The commands -/

theorem exec_cellMeasurement (s : State) (mv : Nat) : exec (.cellMeasurement mv) s =
    .next (setLive { s with pwr := { s.pwr with cell := mv } } .pwr wCELL_LOW (mv < 2600)) := rfl

theorem exec_x1Range (s : State) (x1 now : Nat) : exec (.x1Range x1 now) s =
    .next (setLive (measureX1 (later s now) x1) .pwr wX1_RANGE (x1 < 180 || 1500 < x1)) := rfl

theorem exec_temp (s : State) (tenths : Int) : exec (.temp tenths) s =
    .next (setLive { s with sys := { s.sys with temp := tenths } } .sys sTEMP (tenths < -450 || 750 < tenths)) := rfl

theorem exec_rail (s : State) (now : Nat) : exec (.rail now) s = .next (raise (later s now) .pwr wRAIL) := rfl

theorem exec_timebaseLoss (s : State) (now : Nat) : exec (.timebaseLoss now) s = .next (raise (later s now) .frm fTIMEBASE) := rfl

/-- Settles O26: the three measurements by the rule of a source that follows its condition, RAIL and TIMEBASE_LOSS by
that of a raised source. -/
theorem measurementsSetTheirSource : Obligations.MeasurementsSetTheirSource := by
  intro s now
  refine ⟨fun mv => ⟨_, exec_cellMeasurement s mv, ?_⟩, fun x1 => ⟨_, exec_x1Range s x1 now, ?_⟩,
    fun tenths => ⟨_, exec_temp s tenths, setLive_temp _ _ _ _, ?_, setLive_frame _ _ _ _⟩,
    ⟨_, exec_rail s now, ?_⟩, ⟨_, exec_timebaseLoss s now, ?_⟩⟩
  · exact setLive_supply s { s.pwr with cell := mv } (by decide) decide_eq_true_iff
  · exact setLive_supply (later s now) { s.pwr with x1 := x1, x1min := min s.pwr.x1min x1 } (by decide) (by simp)
  · exact setLive_isLive_iff _ .sys (by decide) (by simp)
  · exact raise_reports (later s now) .pwr (by decide)
  · exact raise_reports (later s now) .frm (by decide)

end Sys2Proof.Proofs.Measurements

/-! PROOFS. The clear registers (R70, R153, R183, R203, R239, R267, R295, R319, R362, R406, R425): what a write to one asks
for, and what the drain makes of it. -/

namespace Sys2Proof.Proofs.ClearRegisters

open Sys2Proof Sys2Proof.Machine

/-! ## A write asks for its own block's clear, where bit 0 of the word is set -/

theorem exec_frmPhclr (w : Word) (s : State) :
    exec (.frmPhclr w) s = .next { s with frm := { s.frm with clrPeak := s.frm.clrPeak || w.getLsbD 0 } } := rfl

theorem exec_prlCclr (w : Word) (s : State) :
    exec (.prlCclr w) s = .next { s with prl := { s.prl with clr := s.prl.clr || w.getLsbD 0 } } := rfl

theorem exec_votClr (w : Word) (s : State) :
    exec (.votClr w) s = .next { s with vot := { s.vot with clr := s.vot.clr || w.getLsbD 0 } } := rfl

theorem exec_bstClr (w : Word) (s : State) :
    exec (.bstClr w) s = .next { s with bst := { s.bst with clr := s.bst.clr || w.getLsbD 0 } } := rfl

theorem exec_frnClr_c0 (w : Word) (s : State) :
    exec (.frnClr .c0 w) s = .next { s with frn0 := { s.frn0 with clr := s.frn0.clr || w.getLsbD 0 } } := rfl

theorem exec_frnClr_c1 (w : Word) (s : State) :
    exec (.frnClr .c1 w) s = .next { s with frn1 := { s.frn1 with clr := s.frn1.clr || w.getLsbD 0 } } := rfl

theorem exec_lioClr (w : Word) (s : State) : exec (.lioClr w) s =
    .next { s with lio := { s.lio with vital := { s.lio.vital with clr := s.lio.vital.clr || w.getLsbD 0 } } } := rfl

theorem exec_cmdClr (w : Word) (s : State) :
    exec (.cmdClr w) s = .next { s with cmd := { s.cmd with clr := s.cmd.clr || w.getLsbD 0 } } := rfl

theorem exec_xbrClr (w : Word) (s : State) :
    exec (.xbrClr w) s = .next { s with xbr := { s.xbr with clr := s.xbr.clr || w.getLsbD 0 } } := rfl

theorem exec_dpxClr (w : Word) (s : State) :
    exec (.dpxClr w) s = .next { s with dpx := { s.dpx with clr := s.dpx.clr || w.getLsbD 0 } } := rfl

theorem exec_evrClr (w : Word) (s : State) :
    exec (.evrClr w) s = .next { s with evr := { s.evr with clr := s.evr.clr || w.getLsbD 0 } } := rfl

theorem exec_pwrClr (w : Word) (s : State) :
    exec (.pwrClr w) s = .next { s with pwr := { s.pwr with clr := s.pwr.clr || w.getLsbD 0 } } := rfl

/-- Settles O17: each clear register adds bit 0 of the word to its block's request. -/
theorem clearRegistersAskAndHoldNothing : Obligations.ClearRegistersAskAndHoldNothing := by
  intro s w
  refine ⟨fun h => ?_, fun h => ?_⟩
  · simp only [exec_frmPhclr, exec_prlCclr, exec_votClr, exec_bstClr, exec_frnClr_c0, exec_frnClr_c1, exec_lioClr, exec_cmdClr,
      exec_xbrClr, exec_dpxClr, exec_evrClr, exec_pwrClr, h, Bool.or_true, and_self]
  · simp only [List.forall_mem_cons, exec_frmPhclr, exec_prlCclr, exec_votClr, exec_bstClr, exec_frnClr_c0, exec_frnClr_c1,
      exec_lioClr, exec_cmdClr, exec_xbrClr, exec_dpxClr, exec_evrClr, exec_pwrClr, h, Bool.or_false, true_and]
    exact fun _ hc => absurd hc List.not_mem_nil

/-! ## What the drain makes of the requests -/

/-- A clear of XBR empties the loss count of each queue and leaves its items. -/
theorem queueOf_applyClears {s : State} (h : s.xbr.clr = true) (q : Nat) :
    queueOf (applyClears s).xbr q = { queueOf s.xbr q with loss := 0 } := by
  match q with
  | 0 | 1 | 2 | 3 | 4 | _ + 5 => simp [applyClears, h, queueOf]

theorem laneOf_applyClears {s : State} (h : s.vot.clr = true) (l : Lane) :
    laneOf (applyClears s).vot l = { laneOf s.vot l with odd := 0 } := by
  cases l <;> simp [applyClears, h, allLanes, laneOf]

theorem frnOf_applyClears {s : State} {c : Cluster} (h : (frnOf s c).clr = true) :
    frnOf (applyClears s) c = { frnOf s c with errA := 0, errB := 0, clr := false } := by
  cases c <;> exact if_pos h

theorem applyClears_none {s : State} (hfrm : s.frm.clrPeak = false) (hprl : s.prl.clr = false) (hvot : s.vot.clr = false)
    (hbst : s.bst.clr = false) (hfrn0 : s.frn0.clr = false) (hfrn1 : s.frn1.clr = false) (hlio : s.lio.vital.clr = false)
    (hcmd : s.cmd.clr = false) (hxbr : s.xbr.clr = false) (hdpx : s.dpx.clr = false) (hevr : s.evr.clr = false)
    (hpwr : s.pwr.clr = false) : applyClears s = s := by
  simp [applyClears, hfrm, hprl, hvot, hbst, hfrn0, hfrn1, hlio, hcmd, hxbr, hdpx, hevr, hpwr]

/-- Settles O18: each block's request is looked at by itself, and with no request every field is as it was. -/
theorem drainClearsWhatWasAsked : Obligations.DrainClearsWhatWasAsked := by
  intro s
  refine ⟨fun h => ?_, fun h => ?_, fun h => ⟨fun l => by rw [laneOf_applyClears h], ?_⟩, fun h => ?_,
    fun c h => by simp [frnOf_applyClears h], fun h => ?_, fun h => ?_,
    fun h => ⟨?_, fun q _ => by simp [queueOf_applyClears h], ?_⟩, fun h => ?_, fun h => ?_, fun h => ?_, applyClears_none⟩
  all_goals simp [applyClears, h]

end Sys2Proof.Proofs.ClearRegisters

/-! PROOFS. The state after reset (the reset columns of the register tables, R326, R334, R307). -/

namespace Sys2Proof.Proofs.Reset

open Sys2Proof Sys2Proof.Machine Sys2Proof.Safety

theorem latched_reset : Latched State.reset := by
  intro b n h
  cases b <;> simp [State.reset, faultOf] at h

theorem quiet_reset : Quiet State.reset := fun _ => rfl

theorem numbered_reset : Numbered State.reset := by simp [Numbered, NumberedQueue, State.reset]

/-- Settles O6: the words of the tables by evaluation, and the three invariants. -/
theorem resetLeavesTheStatedRegisters : Obligations.ResetLeavesTheStatedRegisters :=
  ⟨by decide +kernel, by decide +kernel, latched_reset, quiet_reset, numbered_reset, rfl⟩

end Sys2Proof.Proofs.Reset

/-! PROOFS. What a packet of the witness protocol, a record and a raising without a fence unit leave as they were (R306 to
R311, R326, R333, R348, R392 to R397). -/

namespace Sys2Proof.Proofs.Frames

open Sys2Proof Sys2Proof.Machine Sys2Proof.Safety

/-! ## Packets of the witness protocol -/

theorem throughOut_trans {x y z : XbrBlk} (h : y = throughOut x y) (g : z = throughOut y z) : z = throughOut x z := by
  unfold throughOut at *
  rw [g, h]

/-- A change by which nothing leaves. -/
theorem witnessFrame_unsent {s t : State} (hsent : t.sent = s.sent)
    (h : t = { s with free := t.free, sent := t.sent, cmd := { s.cmd with vitalOut := t.cmd.vitalOut }
                      dpx := { s.dpx with statusDue := t.dpx.statusDue }, xbr := throughOut s.xbr t.xbr }) : WitnessFrame s t :=
  ⟨⟨[], by rw [List.append_nil, hsent]⟩, h⟩

theorem witnessFrame_refl (s : State) : WitnessFrame s s := witnessFrame_unsent rfl rfl

theorem witnessFrame_trans {s t u : State} (h : WitnessFrame s t) (g : WitnessFrame t u) : WitnessFrame s u := by
  obtain ⟨hsent, ht⟩ := h
  obtain ⟨gsent, gu⟩ := g
  refine ⟨hsent.trans gsent, ?_⟩
  unfold throughOut at *
  rw [gu, ht]

/-- The comparison of PKT_OUT's pointers touches PKT_OUT only (R311). -/
theorem touchQueue_out (s : State) : touchQueue s 1 = { s with xbr := throughOut s.xbr (touchQueue s 1).xbr } := by
  unfold touchQueue
  dsimp only
  split <;> rfl

theorem touchQueue_out_frame (s : State) : WitnessFrame s (touchQueue s 1) := by
  rw [touchQueue_out]
  exact witnessFrame_unsent rfl rfl

theorem pushQueue_out (x : XbrBlk) (conn : Nat) (data : Bytes) : pushQueue x 1 conn data = throughOut x (pushQueue x 1 conn data) := by
  unfold pushQueue
  split <;> rfl

theorem sendWaiting_frame (s : State) : WitnessFrame s (sendWaiting s) := by
  unfold sendWaiting
  split
  · exact witnessFrame_refl s
  · exact witnessFrame_trans (touchQueue_out_frame s) ⟨⟨_, rfl⟩, rfl⟩

theorem pushOut_frame (s : State) (conn : Nat) (d : Datagram) : WitnessFrame s (pushOut s conn d) := by
  unfold pushOut
  dsimp only
  refine witnessFrame_trans (touchQueue_out_frame s) (witnessFrame_trans ?_ (sendWaiting_frame _))
  generalize touchQueue s 1 = t
  split
  · rw [pushQueue_out]
    exact witnessFrame_unsent rfl rfl
  · rw [pushQueue_out]
    exact witnessFrame_unsent rfl rfl

theorem formVital_frame (s : State) (entry ver opc tag dst slot counter : Nat) (payload : Bytes) :
    WitnessFrame s (formVital s entry ver opc tag dst slot counter payload).1 := by
  unfold formVital
  dsimp only
  split
  · exact witnessFrame_refl s
  · split
    · exact witnessFrame_refl s
    · exact witnessFrame_unsent rfl rfl

theorem sendVital_frame (s : State) (entry ver opc tag dst slot counter : Nat) (payload : Bytes) :
    WitnessFrame s (sendVital s entry ver opc tag dst slot counter payload).1 := by
  have hform := formVital_frame s entry ver opc tag dst slot counter payload
  unfold sendVital
  split
  next s1 d h =>
    rw [h] at hform
    exact witnessFrame_trans hform (pushOut_frame s1 0 d)
  next s1 h =>
    rw [h] at hform
    exact hform

theorem takeFree_frame (s : State) : WitnessFrame s (takeFree s).2 := witnessFrame_unsent rfl rfl

theorem sendWitness_frame (s : State) (opc : Nat) (payload : State → Bytes) (n : Nat) :
    WitnessFrame s (sendWitness s opc payload n) := by
  unfold sendWitness
  exact witnessFrame_trans (takeFree_frame s) (sendVital_frame _ _ _ _ _ _ _ _ _)

theorem foldl_witnessFrame {α : Type} (f : State → α → State) (hf : ∀ s a, WitnessFrame s (f s a)) (l : List α) (s : State) :
    WitnessFrame s (l.foldl f s) := by
  induction l generalizing s with
  | nil => exact witnessFrame_refl s
  | cons a l ih => exact witnessFrame_trans (hf s a) (ih _)

theorem statusDue_frame (s : State) (due : Bool) : WitnessFrame s { s with dpx := { s.dpx with statusDue := due } } :=
  witnessFrame_unsent rfl rfl

theorem sendStatus_frame (s : State) : WitnessFrame s (sendStatus s) := by
  unfold sendStatus
  split
  · exact witnessFrame_trans (statusDue_frame s false) (foldl_witnessFrame _ (fun s n => sendWitness_frame s 0x4B statusBody n) _ _)
  · exact witnessFrame_refl s

/-! ## Records -/

/-- What a record may change and nothing else: the recorder but for its ring, and the bridge (R393 to R397). -/
def RecordFrame (s t : State) : Prop := t = { s with evr := { t.evr with ring := s.evr.ring }, xbr := t.xbr }

theorem RecordFrame.trans {s t u : State} (h : RecordFrame s t) (g : RecordFrame t u) : RecordFrame s u := by
  unfold RecordFrame at *
  rw [g, h]

theorem recordFrame_of_svc {s t : State} (h : SvcFrame s t) : RecordFrame s t := by
  unfold SvcFrame at h
  unfold RecordFrame
  rw [h]

theorem svcRec_recordFrame (s : State) (ty sev : Nat) (body : Bytes) : RecordFrame s (svcRec s ty sev body) :=
  recordFrame_of_svc (svcRec_frame s ty sev body)

theorem pushRec_recordFrame (s : State) (r : Rec) : RecordFrame s (pushRec s r) := by
  unfold pushRec
  dsimp only
  rw [pushTo_evt]
  split <;> rfl

theorem frameRec_recordFrame (s : State) (ty sev : Nat) (body : Bytes) : RecordFrame s (frameRec s ty sev body) := by
  unfold frameRec
  dsimp only
  split
  · exact pushRec_recordFrame _ _
  · exact svcRec_recordFrame _ _ _ _

/-! ## A raising below SAFE-STOP -/

/-- What a raising may change where it fences nothing and stops nothing: the fault sub-blocks and what its record changes
(R326, R333). -/
def NoteFrame (s t : State) : Prop := t = { s with faults := t.faults, evr := { t.evr with ring := s.evr.ring }, xbr := t.xbr }

theorem NoteFrame.trans {s t u : State} (h : NoteFrame s t) (g : NoteFrame t u) : NoteFrame s u := by
  unfold NoteFrame at *
  rw [g, h]

theorem RecordFrame.note {s t : State} (h : RecordFrame s t) : NoteFrame s t := by
  unfold RecordFrame at h
  unfold NoteFrame
  rw [h]

theorem faultRec_noteFrame (s : State) (b : Blk) (n : Nat) (sev : Sev) : NoteFrame s (faultRec s b n sev) := by
  have htell : ∀ (s : State) (t u : Nat), NoteFrame s (tellAt s b n t u) := fun _ _ _ => rfl
  have htold : ∀ (p : Prop) [Decidable p] (t u : Nat), NoteFrame s (if p then s else tellAt s b n t u) := by
    intro p _ t u
    split
    · rfl
    · exact htell _ _ _
  unfold faultRec
  dsimp only
  split
  · exact (htold _ _ _).trans (svcRec_recordFrame _ _ _ _).note
  · exact (htold _ _ _).trans (frameRec_recordFrame _ _ _ _).note
  · repeat' split
    · exact htell _ _ _
    · exact (htell _ _ _).trans (frameRec_recordFrame _ _ _ _).note
    · exact (htell _ _ _).trans (frameRec_recordFrame _ _ _ _).note

theorem faults_noteFrame (s : State) (fs : Faults) : NoteFrame s { s with faults := fs } := rfl

/-- A raising at its severity is a record, and then the reaction of that severity. -/
theorem raise_cases (s : State) (b : Blk) (n : Nat) :
    raise s b n = s ∨ ∃ u, NoteFrame s u ∧ raise s b n = react u b n (sevOf s.cfg b n) none := by
  unfold raise raiseAt
  by_cases h : isLive s b n = true
  · exact .inl (if_pos h)
  · rw [if_neg h]
    exact .inr ⟨_, (faults_noteFrame s _).trans (faultRec_noteFrame _ b n _), rfl⟩

/-- A raising of a block that has no fence unit (R330, R337), below SAFE-STOP, is its record only. -/
theorem raise_noteFrame {s : State} {b : Blk} (n : Nat) (hunit : hasFenceUnit b = false) (hsev : sevOf s.cfg b n ≠ .safeStop) :
    NoteFrame s (raise s b n) := by
  obtain h | ⟨u, hu, h⟩ := raise_cases s b n
  · rw [h]
    rfl
  · have hfence : fenceUnit u b n none = u := by
      cases b
      all_goals first | rfl | cases hunit
    rw [h]
    cases hs : sevOf s.cfg b n
    case safeStop => exact absurd hs hsev
    case fence => rwa [react, hfence]
    all_goals exact hu

/-! ## Live sources -/

/-- A source that is live stays live when any source is raised (R326). -/
theorem raise_keeps_live {s : State} {b c : Blk} {n k : Nat} (h : isLive s c k = true) : isLive (raise s b n) c k = true := by
  cases hb : isLive s b n with
  | true => rwa [raise, raiseAt_live s b n none hb]
  | false =>
    have hbits := (raiseAt_bits s b n none hb c).1
    unfold isLive at h
    rw [isLive, raise, hbits]
    by_cases hc : c = b
    · subst hc
      simp [h]
    · simpa [hc] using h

/-- A source of another block keeps its live bit when one is lowered. -/
theorem lower_isLive_other (s : State) {b c : Blk} (n k : Nat) (hc : c ≠ b) : isLive (lower s b n) c k = isLive s c k := by
  simp [isLive, lower, setFault_other _ _ _ _ hc]

theorem setLive_keeps_live {s : State} {b c : Blk} {n k : Nat} (on : Bool) (hc : c ≠ b) (h : isLive s c k = true) :
    isLive (setLive s b n on) c k = true := by
  cases on
  · rwa [show setLive s b n false = lower s b n from rfl, lower_isLive_other s n k hc]
  · exact raise_keeps_live h

theorem isLive_congr {s t : State} (h : t.faults = s.faults) (b : Blk) (n : Nat) : isLive t b n = isLive s b n := by
  rw [isLive, isLive, h]

end Sys2Proof.Proofs.Frames

/-! PROOFS. The grant (R342, R350 to R354, R359, R422): what the steps of a takeover change, the cold start of a granted
module, the first tick, and the return of the old ACTIVE module. -/

namespace Sys2Proof.Proofs.Grant

open Sys2Proof Sys2Proof.Machine Sys2Proof.Safety Sys2Proof.Proofs.Frames

/-! ## What the steps of a takeover may change -/

/-- The steps after the wafer's state is loaded, but for the lanes and the ports. -/
def StepFrame (s t : State) : Prop :=
  t = { s with faults := t.faults, evr := { t.evr with ring := s.evr.ring }, xbr := t.xbr, upd := t.upd
               prl := { s.prl with fenced := t.prl.fenced, guards := t.prl.guards }
               dpx := { s.dpx with wanted := t.dpx.wanted }, frm := { s.frm with record := t.frm.record } }

/-- Changes of the lanes' states, with their records. -/
def LanesFrame (s t : State) : Prop := t = { s with evr := { t.evr with ring := s.evr.ring }, xbr := t.xbr, vot := t.vot }

/-- Changes of the two ports. -/
def PortsFrame (s t : State) : Prop := t = { s with free := t.free, frn0 := t.frn0, frn1 := t.frn1 }

/-- All of these, and the packets that tell of them. -/
def TakenFrame (s t : State) : Prop :=
  t = { s with faults := t.faults, evr := { t.evr with ring := s.evr.ring }, xbr := t.xbr, upd := t.upd
               prl := { s.prl with fenced := t.prl.fenced, guards := t.prl.guards }
               dpx := { s.dpx with wanted := t.dpx.wanted, statusDue := t.dpx.statusDue }
               frm := { s.frm with record := t.frm.record }, vot := t.vot, free := t.free, frn0 := t.frn0, frn1 := t.frn1
               sent := t.sent, cmd := { s.cmd with vitalOut := t.cmd.vitalOut } }

theorem StepFrame.refl (s : State) : StepFrame s s := rfl

theorem StepFrame.trans {s t u : State} (h : StepFrame s t) (g : StepFrame t u) : StepFrame s u := by
  unfold StepFrame at *
  rw [g, h]

theorem LanesFrame.trans {s t u : State} (h : LanesFrame s t) (g : LanesFrame t u) : LanesFrame s u := by
  unfold LanesFrame at *
  rw [g, h]

theorem PortsFrame.trans {s t u : State} (h : PortsFrame s t) (g : PortsFrame t u) : PortsFrame s u := by
  unfold PortsFrame at *
  rw [g, h]

theorem TakenFrame.trans {s t u : State} (h : TakenFrame s t) (g : TakenFrame t u) : TakenFrame s u := by
  unfold TakenFrame at *
  rw [g, h]

theorem StepFrame.of_note {s t : State} (h : NoteFrame s t) : StepFrame s t := by
  unfold NoteFrame at h
  unfold StepFrame
  rw [h]

theorem LanesFrame.of_record {s t : State} (h : RecordFrame s t) : LanesFrame s t := by
  unfold RecordFrame at h
  unfold LanesFrame
  rw [h]

theorem StepFrame.taken {s t : State} (h : StepFrame s t) : TakenFrame s t := by
  unfold StepFrame at h
  unfold TakenFrame
  rw [h]

theorem LanesFrame.taken {s t : State} (h : LanesFrame s t) : TakenFrame s t := by
  unfold LanesFrame at h
  unfold TakenFrame
  rw [h]

theorem PortsFrame.taken {s t : State} (h : PortsFrame s t) : TakenFrame s t := by
  unfold PortsFrame at h
  unfold TakenFrame
  rw [h]

theorem TakenFrame.of_witness {s t : State} (h : WitnessFrame s t) : TakenFrame s t := by
  obtain ⟨-, h⟩ := h
  unfold TakenFrame
  rw [h]

/-! ## The lanes vote -/

theorem vot_lanesFrame (s : State) (v : VotBlk) : LanesFrame s { s with vot := v } := rfl

theorem laneTo_lanesFrame (s : State) (l : Lane) (st : LaneSt) : LanesFrame s (laneTo s l st) := by
  unfold laneTo
  dsimp only
  split
  · rfl
  · exact (vot_lanesFrame s _).trans (.of_record (frameRec_recordFrame _ _ _ _))

theorem vot_of_record {s t : State} (h : RecordFrame s t) : t.vot = s.vot := by rw [h]

theorem laneTo_vot (s : State) (l : Lane) (st : LaneSt) (h : (laneOf s.vot l).state ≠ st) :
    (laneTo s l st).vot = setLane s.vot l fun b => { b with state := st, shadow := 0 } := by
  unfold laneTo
  dsimp only
  rw [if_neg h]
  exact vot_of_record (frameRec_recordFrame _ _ _ _)

theorem laneTo_state (s : State) (l : Lane) (st : LaneSt) : (laneOf (laneTo s l st).vot l).state = st := by
  by_cases h : (laneOf s.vot l).state = st
  · rwa [laneTo, if_pos h]
  · rw [laneTo_vot s l st h, setLane_same]

theorem laneTo_other (s : State) {l k : Lane} (st : LaneSt) (hk : k ≠ l) :
    laneOf (laneTo s l st).vot k = laneOf s.vot k := by
  by_cases h : (laneOf s.vot l).state = st
  · rw [laneTo, if_pos h]
  · rw [laneTo_vot s l st h, setLane_other _ _ _ _ hk]

/-- Whether the first frame of the role finds a lane in the vote (R170, R175). -/
def Fit (s : State) (l : Lane) : Prop :=
  (laneOf s.vot l).hwFault = false ∧ (laneOf s.vot l).limited = false ∧ (testOf s.bst l).hold = false ∧ s.bst.under ≠ some l

/-- One lane of `lanesVote`. -/
def laneVotes (s : State) (l : Lane) : State :=
  if (laneOf s.vot l).hwFault || (laneOf s.vot l).limited || (testOf s.bst l).hold || s.bst.under == some l then s
  else
    { laneTo s l .voting with vot := setLane (laneTo s l .voting).vot l fun b =>
        { b with why := .none, latent := false, debugged := false, passed := false, upsets := [], shadowOff := [] } }

theorem lanesVote_eq (s : State) : lanesVote s = laneVotes (laneVotes (laneVotes s .l1) .l2) .l3 := rfl

theorem laneVotes_frame (s : State) (l : Lane) : LanesFrame s (laneVotes s l) := by
  unfold laneVotes
  split
  · rfl
  · exact (laneTo_lanesFrame s l .voting).trans (vot_lanesFrame _ _)

theorem lanesVote_frame (s : State) : LanesFrame s (lanesVote s) :=
  (laneVotes_frame s .l1).trans ((laneVotes_frame _ .l2).trans (laneVotes_frame _ .l3))

theorem laneVotes_other (s : State) {l k : Lane} (hk : k ≠ l) : laneOf (laneVotes s l).vot k = laneOf s.vot k := by
  unfold laneVotes
  split
  · rfl
  · rw [setLane_other _ _ _ _ hk, laneTo_other s .voting hk]

theorem laneVotes_voting {s : State} {l : Lane} (h : Fit s l) : (laneOf (laneVotes s l).vot l).state = .voting := by
  obtain ⟨hfault, hlimit, hhold, hunder⟩ := h
  simp [laneVotes, hfault, hlimit, hhold, hunder, laneTo_state]

theorem bst_of_lanes {s t : State} (h : LanesFrame s t) : t.bst = s.bst := by rw [h]

theorem fit_laneVotes {s : State} {l k : Lane} (hk : k ≠ l) (h : Fit s k) : Fit (laneVotes s l) k := by
  unfold Fit at *
  rwa [laneVotes_other s hk, bst_of_lanes (laneVotes_frame s l)]

theorem lanesVote_voting {s : State} {l : Lane} (h : Fit s l) : (laneOf (lanesVote s).vot l).state = .voting := by
  rw [lanesVote_eq]
  cases l
  case l1 => rw [laneVotes_other _ (by decide), laneVotes_other _ (by decide), laneVotes_voting h]
  case l2 => rw [laneVotes_other _ (by decide), laneVotes_voting (fit_laneVotes (by decide) h)]
  case l3 => exact laneVotes_voting (fit_laneVotes (by decide) (fit_laneVotes (by decide) h))

/-! ## Praline, the record of the counter, and the confirm window -/

theorem prlSwitch_step (s : State) : StepFrame s (prlSwitch s) := by
  unfold prlSwitch
  split <;> rfl

theorem prlSwitch_faults (s : State) : (prlSwitch s).faults = s.faults := by
  unfold prlSwitch
  split <;> rfl

theorem noteRecord_step (s : State) (n : Nat) : StepFrame s (noteRecord s n) := by
  unfold noteRecord
  split <;> rfl

/-- Where no permit stands and no frame is in progress, there is none to take back. -/
theorem dropPermits_eq {s : State} (hpermits : s.core.permits = []) (hwork : s.work = none) :
    updInter s (fun x => { x with permits := [] }) = s := by
  have hcore : { s.core with permits := [] } = s.core := by rw [← hpermits]
  have hmap : s.work.map (fun x => { x with permits := [] }) = s.work := by rw [hwork]; rfl
  show ({ s with core := { s.core with permits := [] }, work := s.work.map _ } : State) = s
  rw [hcore, hmap]

theorem noteRecord_faults (s : State) (n : Nat) : (noteRecord s n).faults = s.faults := by
  unfold noteRecord
  split <;> rfl

/-- A fence of Praline where no permit stands and no frame is in progress (R146, R149). -/
theorem prlFence_step {s : State} (hpermits : s.core.permits = []) (hwork : s.work = none) : StepFrame s (prlFence s) := by
  unfold prlFence
  split
  · rfl
  · rw [dropPermits_eq (s := { s with prl := { s.prl with fenced := true } }) hpermits hwork]
    exact StepFrame.trans (t := armGuards { s with prl := { s.prl with fenced := true } }) rfl (prlSwitch_step _)

theorem raise_prl_step {s : State} (n : Nat) (hpermits : s.core.permits = []) (hwork : s.work = none)
    (hsev : sevOf s.cfg .prl n ≠ .safeStop) : StepFrame s (raise s .prl n) := by
  obtain h | ⟨u, hu, h⟩ := raise_cases s .prl n
  · rw [h]
    rfl
  · have hp : u.core.permits = [] := by rw [hu]; exact hpermits
    have hw : u.work = none := by rw [hu]; exact hwork
    rw [h]
    cases hs : sevOf s.cfg .prl n
    case safeStop => exact absurd hs hsev
    case fence => exact (StepFrame.of_note hu).trans (prlFence_step hp hw)
    all_goals exact .of_note hu

theorem setLive_prl_step {s : State} (n : Nat) (on : Bool) (hpermits : s.core.permits = []) (hwork : s.work = none)
    (hsev : on = false ∨ sevOf s.cfg .prl n ≠ .safeStop) : StepFrame s (setLive s .prl n on) := by
  cases on
  · rfl
  · exact raise_prl_step n hpermits hwork (hsev.resolve_left (by decide))

theorem upd_step (s : State) (u : UpdBlk) : StepFrame s { s with upd := u } := rfl

theorem openWindow_step {s : State} (part : Part) (withPrt : Bool) (hsev : sevOf s.cfg .upd uCONFIRM_PENDING ≠ .safeStop) :
    StepFrame s (openWindow s part withPrt) := by
  unfold openWindow
  refine (upd_step s _).trans (.of_note (raise_noteFrame _ rfl ?_))
  exact hsev

theorem continueWindow_step {s : State} (since : Option Nat) (hsev : sevOf s.cfg .upd uCONFIRM_PENDING ≠ .safeStop) :
    StepFrame s (continueWindow s since) := by
  unfold continueWindow
  split
  · rfl
  · split
    · rfl
    · refine (upd_step s _).trans (openWindow_step _ _ ?_)
      exact hsev

theorem continueWindow_keeps_live {s : State} (since : Option Nat) {b : Blk} {n : Nat} (h : isLive s b n = true) :
    isLive (continueWindow s since) b n = true := by
  unfold continueWindow
  split
  · exact h
  · split
    · exact h
    · exact raise_keeps_live h

/-! ## The ports -/

theorem portToRun_frame (s : State) (c : Cluster) : PortsFrame s (portToRun s c) := by
  unfold portToRun
  split
  · rfl
  · cases c <;> rfl

theorem portToRun_runs {s : State} {c : Cluster} (hstate : (frnOf s c).state ≠ .off) (hfence : (frnOf s c).fenced = false) :
    (frnOf (portToRun s c) c).goRun = true ∧ (frnOf (portToRun s c) c).muteDue = false := by
  cases c <;> simp_all [portToRun, keepDelays, frnOf, setFrn]

theorem portToRun_other (s : State) {c d : Cluster} (h : d ≠ c) : frnOf (portToRun s c) d = frnOf s d := by
  unfold portToRun
  split
  · rfl
  · cases c <;> cases d <;> first | rfl | exact absurd rfl h

theorem rootPort_frame (s : State) (c : Cluster) : PortsFrame s (rootPort s c) := by
  unfold rootPort startPort
  cases c <;> split <;> rfl

/-- Both ports of a takeover are due to run, where they are on and not fenced (R230, R354). -/
theorem portsToRun_run {s : State} {c : Cluster} (hstate : (frnOf s c).state ≠ .off) (hfence : (frnOf s c).fenced = false) :
    (frnOf (portToRun (portToRun s .c0) .c1) c).goRun = true ∧ (frnOf (portToRun (portToRun s .c0) .c1) c).muteDue = false := by
  cases c
  case c0 =>
    rw [portToRun_other _ (by decide)]
    exact portToRun_runs hstate hfence
  case c1 =>
    have hother := portToRun_other s (c := .c0) (d := .c1) (by decide)
    exact portToRun_runs (by rwa [hother]) (by rwa [hother])

/-! ## The takeover (R354) -/

/-- The duplex unit of a module that takes over. -/
def takenDpx (s : State) (gepoch : Nat) : DpxBlk :=
  { s.dpx with
    role := .active, granted := true, gepoch := gepoch, asking := none, relinquished := false, formerActive := false, miss := 0
    held := none, gapFrom := s.dpx.heldAt, takeAt := some s.now, takeCycles := 0, takeGood := 0, takeNodes := admittedNodes s
    leaseAt := some s.now, ackAt := none, formed := none, sawTakeover := true, followed := none
    taken := satAdd 65535 1 s.dpx.taken
    planned := if s.dpx.asking = some 3 then satAdd 65535 1 s.dpx.planned else s.dpx.planned }

/-- The module in its new role, before TAKEOVER is raised. -/
def inRole (s : State) (gepoch : Nat) : State :=
  { s with dpx := takenDpx s gepoch, cmd := { s.cmd with stored := [], pend := [] }, upd := { s.upd with exchange := none }
           vot := dropPreloads s.vot }

/-- The module with TAKEOVER raised. -/
def announced (s : State) (gepoch : Nat) : State := raise (inRole s gepoch) .dpx dTAKEOVER

/-- The wafer's state as the module takes it on. -/
def takenInter (s : State) (w : Wafer) : Inter :=
  { resumeWaits s.now (waferInter s w) with counter := (w.frame + 256) % 2 ^ 48 }

/-- The wafer's configuration and state loaded, before the check codes are looked at (R140, R315, R354). -/
def load (u : State) (w : Wafer) (x : Inter) : State :=
  let v := takeConfig u w
  armGuards { v with
    core := { x with permits := [], shadow := x.crumbs
                     prlObjs := x.prlObjs.map fun q => { q with settle := ((objOf? x q.idx).map (·.settle)).getD q.settle } }
    work := none
    prl := { v.prl with store := x.crumbs, free := freeCrumbs x.crumbs, guards := w.guards.zipIdx.map (takeGuard v.prl.guards)
                        press := (v.prt.map fun p => pressureOf p (freeCrumbs x.crumbs)).getD .normal } }

/-- The module as its lanes find it: loaded, every check code of the lock store verified, the counter noted. -/
def beforeVote (s : State) (gepoch : Nat) (w : Wafer) : State :=
  noteRecord (setLive (load (announced s gepoch) w (takenInter s w)) .prl pCRUMB_CORRUPT
    ((takenInter s w).crumbs.any crumbBad)) ((w.frame + 256) % 2 ^ 48)

/-- The module as its ports find it. -/
def afterVote (s : State) (gepoch : Nat) (w : Wafer) : State :=
  continueWindow (prlSwitch (lanesVote (beforeVote s gepoch w))) s.dpx.followed

theorem takeover_eq (s : State) (gepoch : Nat) (w : Wafer) :
    takeover s gepoch w = sendStatus (portToRun (portToRun (afterVote s gepoch w) .c0) .c1) := rfl

theorem load_note {u v : State} (h : NoteFrame u v) (w : Wafer) (x : Inter) : NoteFrame (load u w x) (load v w x) := by
  unfold NoteFrame at h
  rw [h]
  rfl

theorem waferInter_crumbs (s : State) (w : Wafer) : (waferInter s w).crumbs = w.inter.crumbs := by
  unfold waferInter
  split <;> rfl

theorem takenInter_crumbs (s : State) (w : Wafer) : (takenInter s w).crumbs = w.inter.crumbs := waferInter_crumbs s w

theorem waferInter_same {s : State} {w : Wafer} {st : Station} (hst : s.mzp = some st) (hlayout : w.layout = st.imgId) :
    waferInter s w = w.inter := by
  have hfit : waferFit s w = .same ∨ waferFit s w = .bad := by
    simp only [waferFit, hst, hlayout, if_true]
    split <;> simp
  unfold waferInter
  rcases hfit with h | h <;> simp [hst, h]

theorem sevOf_waferCfg (s : State) (w : Wafer) (b : Blk) (n : Nat) : sevOf (waferCfg s w) b n = sevOf w.cfg b n := by
  cases b <;> rfl

section Takeover

variable {s : State} {gepoch : Nat} {w : Wafer} (htake : sevOf s.cfg .dpx dTAKEOVER ≠ .safeStop)
  (hwindow : sevOf w.cfg .upd uCONFIRM_PENDING ≠ .safeStop)
  (hstore : w.inter.crumbs.any crumbBad = false ∨ sevOf w.cfg .prl pCRUMB_CORRUPT ≠ .safeStop)

include htake hstore

theorem beforeVote_step : StepFrame (load (inRole s gepoch) w (takenInter s w)) (beforeVote s gepoch w) := by
  have hnote : NoteFrame (inRole s gepoch) (announced s gepoch) := raise_noteFrame _ rfl htake
  refine (StepFrame.of_note (load_note hnote w _)).trans (StepFrame.trans ?_ (noteRecord_step _ _))
  refine setLive_prl_step _ _ rfl rfl ?_
  rw [takenInter_crumbs]
  exact hstore.imp_right fun h => (sevOf_waferCfg _ _ _ _).trans_ne h

theorem fit_beforeVote {l : Lane} (h : Fit s l) : Fit (beforeVote s gepoch w) l := by
  unfold Fit at *
  rw [beforeVote_step htake hstore]
  cases l <;> exact h

theorem beforeVote_cfg : (beforeVote s gepoch w).cfg = waferCfg s w := by
  rw [beforeVote_step htake hstore]
  rfl

theorem beforeVote_frn (c : Cluster) : frnOf (beforeVote s gepoch w) c = frnOf s c := by
  rw [beforeVote_step htake hstore]
  cases c <;> rfl

include hwindow

theorem afterVote_step : StepFrame (lanesVote (beforeVote s gepoch w)) (afterVote s gepoch w) := by
  refine (prlSwitch_step _).trans (continueWindow_step _ ?_)
  have hcfg : (prlSwitch (lanesVote (beforeVote s gepoch w))).cfg = waferCfg s w := by
    rw [prlSwitch_cfg, lanesVote_frame, ← beforeVote_cfg htake hstore]
  rwa [hcfg, sevOf_waferCfg]

/-- What a takeover leaves of the module in its new role with the wafer loaded. -/
theorem takeover_frame : TakenFrame (load (inRole s gepoch) w (takenInter s w)) (takeover s gepoch w) := by
  rw [takeover_eq]
  exact (beforeVote_step htake hstore).taken.trans ((lanesVote_frame _).taken.trans
    ((afterVote_step htake hwindow hstore).taken.trans ((portToRun_frame _ .c0).taken.trans
      ((portToRun_frame _ .c1).taken.trans (.of_witness (sendStatus_frame _))))))

theorem takeover_state :
    let t := takeover s gepoch w
    t.dpx = { takenDpx s gepoch with wanted := t.dpx.wanted, statusDue := t.dpx.statusDue } ∧ t.sys = s.sys
      ∧ t.core = { takenInter s w with
          permits := [], shadow := (takenInter s w).crumbs
          prlObjs := (takenInter s w).prlObjs.map fun q =>
            { q with settle := ((objOf? (takenInter s w) q.idx).map (·.settle)).getD q.settle } }
      ∧ t.work = none ∧ t.cfg = waferCfg s w ∧ t.cmd.partners = w.partners ∧ t.staged = [] ∧ t.stagedPartners = []
      ∧ t.prl.store = (takenInter s w).crumbs ∧ t.prl.digest = s.prl.digest ∧ t.frm.nextTick = s.frm.nextTick
      ∧ t.evr.ring = s.evr.ring ∧ t.sec = s.sec ∧ t.lio = s.lio := by
  intro t
  have ht : TakenFrame _ t := takeover_frame htake hwindow hstore
  rw [ht]
  exact ⟨rfl, rfl, rfl, rfl, rfl, rfl, rfl, rfl, rfl, rfl, rfl, rfl, rfl, rfl⟩

theorem takeover_voting {l : Lane} (h : Fit s l) : (laneOf (takeover s gepoch w).vot l).state = .voting := by
  have hvot : (takeover s gepoch w).vot = (lanesVote (beforeVote s gepoch w)).vot := by
    rw [takeover_eq, (sendStatus_frame _).2, portToRun_frame, portToRun_frame _ .c0, afterVote_step htake hwindow hstore]
  rw [hvot]
  exact lanesVote_voting (fit_beforeVote htake hstore h)

theorem takeover_runs {c : Cluster} (hstate : (frnOf s c).state ≠ .off) (hfence : (frnOf s c).fenced = false) :
    (frnOf (takeover s gepoch w) c).goRun = true ∧ (frnOf (takeover s gepoch w) c).muteDue = false := by
  have hports : frnOf (takeover s gepoch w) c = frnOf (portToRun (portToRun (afterVote s gepoch w) .c0) .c1) c := by
    rw [takeover_eq, (sendStatus_frame _).2]
    cases c <;> rfl
  have hbefore : frnOf (afterVote s gepoch w) c = frnOf s c := by
    rw [afterVote_step htake hwindow hstore, ← beforeVote_frn htake hstore, lanesVote_frame (beforeVote s gepoch w)]
    cases c <;> rfl
  rw [hports]
  exact portsToRun_run (by rwa [hbefore]) (by rwa [hbefore])

omit htake hwindow hstore in
/-- A source that is live when the lanes vote is live at the end of the takeover. -/
theorem takeover_keeps_live {b : Blk} {n : Nat} (h : isLive (beforeVote s gepoch w) b n = true) :
    isLive (takeover s gepoch w) b n = true := by
  have hvote : (prlSwitch (lanesVote (beforeVote s gepoch w))).faults = (beforeVote s gepoch w).faults := by
    rw [prlSwitch_faults, lanesVote_frame]
  have hafter : isLive (afterVote s gepoch w) b n = true :=
    continueWindow_keeps_live _ (by rwa [isLive_congr hvote])
  have hend : (takeover s gepoch w).faults = (afterVote s gepoch w).faults := by
    rw [takeover_eq, (sendStatus_frame _).2, portToRun_frame, portToRun_frame _ .c0]
  rwa [isLive_congr hend]

omit htake hwindow hstore in
theorem takeover_live : isLive (takeover s gepoch w) .dpx dTAKEOVER = true := by
  refine takeover_keeps_live ?_
  rw [beforeVote, isLive_congr (noteRecord_faults _ _)]
  exact setLive_keeps_live _ (by decide) (raise_isLive (inRole s gepoch) .dpx dTAKEOVER (by decide))

omit htake hwindow hstore in
/-- A wafer with a corrupt crumb raises CRUMB_CORRUPT (R140, R354). -/
theorem takeover_corrupt (h : w.inter.crumbs.any crumbBad = true) : isLive (takeover s gepoch w) .prl pCRUMB_CORRUPT = true := by
  refine takeover_keeps_live ?_
  rw [beforeVote, isLive_congr (noteRecord_faults _ _), setLive_isLive _ _ _ _ (by decide), takenInter_crumbs, h]

end Takeover

/-! ## The cold start of a granted module (R342, R422) -/

theorem coldCounter_gt (n : Nat) : n < coldCounter n := by
  unfold coldCounter
  omega

theorem coldStart_eq {s : State} {st : Station} (hst : s.mzp = some st) : ∃ n, s.frm.record < n ∧
    coldStart s = armGuards { s with
      core := coldInter st n, work := none, frm := { s.frm with record := n }
      prl := { s.prl with guards := s.prl.guards.map fun g => { g with armed := false, tripped := false, count := 0 }
                          store := [], free := 1024, press := .normal } } := by
  refine ⟨coldCounter (max s.frm.record (max s.dpx.peerRecord s.dpx.peerFrame)), ?_, ?_⟩
  · exact lt_of_le_of_lt (Nat.le_max_left _ _) (coldCounter_gt _)
  · simp only [coldStart, hst]

/-- The module whose REASON 2 request is granted. -/
def coldRole (s : State) (gepoch : Nat) : State :=
  { s with dpx := { s.dpx with role := .active, granted := true, gepoch := gepoch, asking := none
                               leaseAt := some s.now, held := none, miss := 0 } }

/-- The same with its state started cold and its lanes in the vote. -/
def coldVote (s : State) (gepoch : Nat) : State := prlSwitch (lanesVote (coldStart (coldRole s gepoch)))

theorem coldVote_frame (s : State) (gepoch : Nat) : TakenFrame (coldStart (coldRole s gepoch)) (coldVote s gepoch) :=
  (lanesVote_frame _).taken.trans (prlSwitch_step _).taken

theorem grantCold_frame (s : State) (gepoch : Nat) :
    TakenFrame { coldVote s gepoch with frm := { (coldVote s gepoch).frm with nextTick := some (coldVote s gepoch).now } }
      (grantCold s gepoch) :=
  (rootPort_frame _ .c0).taken.trans ((rootPort_frame _ .c1).taken.trans (.of_witness (sendStatus_frame _)))

end Sys2Proof.Proofs.Grant

/-! PROOFS. The commands of the grant and of the module that gave it up (R350 to R354, R359). -/

namespace Sys2Proof.Proofs.GrantCommands

open Sys2Proof Sys2Proof.Machine Sys2Proof.Safety Sys2Proof.Proofs.Frames Sys2Proof.Proofs.Grant

/-! ## GRANT (R354) -/

/-- What a fresh GRANT makes of a module that has noted its BEAT. -/
def grantTaken (u : State) (gepoch : Nat) : Out :=
  if u.sys.stopped then .next (sendStatus { u with dpx := { u.dpx with gepoch := gepoch, asking := none } })
  else match u.dpx.asking, u.dpx.held with
    | some 2, _ => .next (grantCold u gepoch)
    | _, none => .next (grantVoid u gepoch)
    | asked, some w =>
      if asked.isSome || 3 ≤ u.dpx.miss then .next (takeover u gepoch w)
      else .next (sendStatus { u with dpx := { u.dpx with gepoch := gepoch } })

/-- A GRANT from the witness to this module, not ACTIVE: one that is not fresh only leaves its BEAT (R348). -/
theorem exec_grant {s : State} {now n : Nat} {p : GrantIn} (hentry : (witnesses (later s now)).head? = some n)
    (hon : onWitness (later s now) = true) (hunit : p.unit = ownKind s.cfg)
    (hrole : s.dpx.role = .standby ∨ s.dpx.formerActive = true) :
    let u := noteBeat (hearFrom (later s now) n) n p.beat
    exec (.grant p now) s = if beatFresh (later s now) p.fref then grantTaken u p.gepoch else .next u := by
  have hgate : ¬ ((!onWitness (later s now)) = true ∨ p.unit ≠ ownKind (later s now).cfg
      ∨ (!((later s now).dpx.role = .standby || (later s now).dpx.formerActive)) = true) := by
    rcases hrole with h | h <;> simp [hon, hunit, h]
  simp only [exec, execGrant, hentry, if_neg hgate, grantTaken]
  cases beatFresh (later s now) p.fref
  · rfl
  · rfl

theorem grantTaken_stopped {u : State} (gepoch : Nat) (h : u.sys.stopped = true) :
    grantTaken u gepoch = .next (sendStatus { u with dpx := { u.dpx with gepoch := gepoch, asking := none } }) := by
  rw [grantTaken, if_pos h]

theorem grantTaken_cold {u : State} (gepoch : Nat) (h : u.sys.stopped = false) (hasking : u.dpx.asking = some 2) :
    grantTaken u gepoch = .next (grantCold u gepoch) := by
  simp [grantTaken, h, hasking]

theorem grantTaken_void {u : State} (gepoch : Nat) (h : u.sys.stopped = false) (hasking : u.dpx.asking ≠ some 2)
    (hheld : u.dpx.held = none) : grantTaken u gepoch = .next (grantVoid u gepoch) := by
  simp [grantTaken, h, hheld]

theorem grantTaken_unasked {u : State} (gepoch : Nat) (h : u.sys.stopped = false) (hasking : u.dpx.asking = none)
    (hmiss : u.dpx.miss < 3) (hheld : u.dpx.held ≠ none) :
    grantTaken u gepoch = .next (sendStatus { u with dpx := { u.dpx with gepoch := gepoch } }) := by
  obtain ⟨w, hw⟩ := Option.ne_none_iff_exists'.mp hheld
  simp [grantTaken, h, hasking, hw, hmiss]

theorem grantTaken_takeover {u : State} {w : Wafer} (gepoch : Nat) (h : u.sys.stopped = false) (hasking : u.dpx.asking ≠ some 2)
    (hdue : u.dpx.asking ≠ none ∨ 3 ≤ u.dpx.miss) (hheld : u.dpx.held = some w) :
    grantTaken u gepoch = .next (takeover u gepoch w) := by
  have hasked : (u.dpx.asking.isSome || decide (3 ≤ u.dpx.miss)) = true := by
    simpa [Option.isSome_iff_ne_none] using hdue
  simp [grantTaken, h, hheld, hasked]

theorem beatFresh_iff (s : State) (fref : Nat) : beatFresh s fref = true ↔ fref ≤ s.dpx.beat ∧ s.dpx.beat ≤ fref + 5 := by
  simp [beatFresh]
  omega

/-- A module without a wafer stays as it is but for the grant's number (R354). -/
theorem grantVoid_keeps (u : State) (gepoch : Nat) :
    let t := grantVoid u gepoch
    t.dpx = { u.dpx with granted := false, gepoch := gepoch, asking := none, statusDue := t.dpx.statusDue }
      ∧ t.core = u.core ∧ t.cfg = u.cfg ∧ t.prl = u.prl ∧ t.vot = u.vot ∧ t.frm = u.frm := by
  intro t
  obtain ⟨r, hr, ht⟩ : ∃ r, RecordFrame { u with free := u.free + 2, dpx := { u.dpx with
      granted := false, gepoch := gepoch, asking := none } } r ∧ t = sendStatus r := ⟨_, svcRec_recordFrame _ _ _ _, rfl⟩
  rw [ht, (sendStatus_frame r).2, hr]
  exact ⟨rfl, rfl, rfl, rfl, rfl, rfl⟩

/-- The grant of a REASON 2 request: a cold start (R342, R422). -/
theorem grantCold_starts {u : State} {st : Station} (gepoch : Nat) (hst : u.mzp = some st) :
    let t := grantCold u gepoch
    t.dpx.role = .active ∧ t.dpx.granted = true ∧ t.dpx.gepoch = gepoch ∧ t.dpx.asking = none ∧ t.dpx.leaseAt = some u.now
      ∧ t.frm.nextTick = some u.now ∧ (∃ c, t.core = { coldInter st c with lost := t.core.lost } ∧ u.frm.record < c)
      ∧ t.prl.store = [] := by
  intro t
  obtain ⟨c, hc, hcold⟩ := coldStart_eq (s := coldRole u gepoch) (st := st) hst
  have hvote := coldVote_frame u gepoch
  rw [hcold] at hvote
  have ht : TakenFrame _ t := grantCold_frame u gepoch
  rw [hvote] at ht
  rw [ht]
  exact ⟨rfl, rfl, rfl, rfl, rfl, rfl, ⟨c, rfl, hc⟩, rfl⟩

/-! ## TAKEOVER_FIRST_TICK and GRANT_REFUSE (R353, R354, R422) -/

/-- The first tick of a takeover is due (R354 step 4). -/
def firstTickDue (v : State) (t0 : Nat) : Bool :=
  if v.frn0.state = .off && v.frn1.state = .off then t0 + 1000 ≤ v.now else 2 ≤ v.dpx.takeGood || 13 ≤ v.dpx.takeCycles

theorem firstTickDue_iff (v : State) (t0 : Nat) :
    let off := v.frn0.state = .off ∧ v.frn1.state = .off
    firstTickDue v t0 = true ↔ (off ∧ t0 + 1000 ≤ v.now) ∨ (¬ off ∧ (2 ≤ v.dpx.takeGood ∨ 13 ≤ v.dpx.takeCycles)) := by
  unfold firstTickDue
  split <;> simp_all

theorem duoStart_eq (s : State) : duoStart s = { s with vot := { s.vot with duoSince := (duoStart s).vot.duoSince } } := by
  unfold duoStart
  split <;> rfl

theorem exec_takeoverFirstTick {s : State} {now t0 : Nat} (htake : (later s now).dpx.takeAt = some t0)
    (hstop : s.sys.stopped = false) (hrole : s.dpx.role = .active) :
    let v := later s now
    exec (.takeoverFirstTick now) s = if firstTickDue v t0 then .next (duoStart { v with
      dpx := { v.dpx with takeAt := none, gapDue := true }, frm := { v.frm with nextTick := some v.now } }) else .next v := by
  intro v
  have hexec : exec (.takeoverFirstTick now) s = if !firstTickDue v t0 ∨ v.sys.stopped ∨ v.dpx.role ≠ .active then .next v
      else .next (duoStart { v with
        dpx := { v.dpx with takeAt := none, gapDue := true }, frm := { v.frm with nextTick := some v.now } }) := by
    simp only [exec, execTakeoverFirstTick, htake]
    rfl
  rw [hexec]
  cases firstTickDue v t0 <;> simp [v, hstop, hrole]

theorem exec_grantRefuse_ends {s : State} {why now r : Nat} (hon : onWitness (later s now) = true) (hasking : s.dpx.asking = some r)
    (hwhy : why = 2 ∨ (why = 1 ∧ r = 2)) : exec (.grantRefuse why now) s = .next { later s now with
      dpx := { s.dpx with asking := none, why2 := if r = 1 then true else s.dpx.why2 } } := by
  simp only [exec, execGrantRefuse, hon, hasking, later_dpx, Bool.not_true, Bool.false_eq_true, if_false]
  rcases hwhy with rfl | ⟨rfl, rfl⟩
  · by_cases hr : r = 1
    · subst hr
      rfl
    · split <;> simp_all
  · rfl

theorem exec_grantRefuse_stands {s : State} {why now : Nat} (hon : onWitness (later s now) = true)
    (hwhy : why = 3 ∨ (why = 1 ∧ s.dpx.asking ≠ some 2)) : exec (.grantRefuse why now) s = .next (later s now) := by
  simp only [exec, execGrantRefuse, hon, later_dpx, Bool.not_true, Bool.false_eq_true, if_false]
  rcases hwhy with rfl | ⟨rfl, hasking⟩
  · split <;> simp_all
  · split <;> simp_all

end Sys2Proof.Proofs.GrantCommands

/-! PROOFS. The return of the old ACTIVE module (R230, R341, R359, R384), and the statement on the grant. -/

namespace Sys2Proof.Proofs.OldActive

open Sys2Proof Sys2Proof.Machine Sys2Proof.Safety Sys2Proof.Proofs.Frames Sys2Proof.Proofs.Grant
open Sys2Proof.Proofs.GrantCommands

/-! ## The lanes are idle -/

/-- What a lane that becomes idle changes: the lanes, their tests, and the record. -/
def IdleFrame (s t : State) : Prop := t = { s with evr := { t.evr with ring := s.evr.ring }, xbr := t.xbr, vot := t.vot, bst := t.bst }

theorem IdleFrame.trans {s t u : State} (h : IdleFrame s t) (g : IdleFrame t u) : IdleFrame s u := by
  unfold IdleFrame at *
  rw [g, h]

theorem IdleFrame.of_lanes {s t : State} (h : LanesFrame s t) : IdleFrame s t := by
  unfold LanesFrame at h
  unfold IdleFrame
  rw [h]

/-- A lane whose test has passed loses its mark, and its next test is due INTV from now (R199). -/
def restTest (s : State) (l : Lane) : State := if (laneOf s.vot l).passed then setDue (unmark s l) l s.now else s

theorem idleLane_eq (s : State) (l : Lane) : idleLane s l =
    if (laneOf s.vot l).state = .proving ∧ (laneOf s.vot l).passed = false then s
    else { laneTo (restTest s l) l .fenced with vot := setLane (laneTo (restTest s l) l .fenced).vot l fun b =>
      { b with why := .none, wantIn := false, wantOut := false, wantHalt := false, passed := false, pub := none } } := by
  simp only [idleLane, restTest, Bool.not_eq_true']

theorem restTest_frame (s : State) (l : Lane) : IdleFrame s (restTest s l) := by
  unfold restTest
  split <;> rfl

theorem idleLane_frame (s : State) (l : Lane) : IdleFrame s (idleLane s l) := by
  rw [idleLane_eq]
  split
  · rfl
  · exact (restTest_frame s l).trans (.of_lanes ((laneTo_lanesFrame _ l .fenced).trans (vot_lanesFrame _ _)))

theorem restTest_other (s : State) {l k : Lane} (hk : k ≠ l) : laneOf (restTest s l).vot k = laneOf s.vot k := by
  unfold restTest
  split
  · exact setLane_other _ _ _ _ hk
  · rfl

theorem idleLane_other (s : State) {l k : Lane} (hk : k ≠ l) : laneOf (idleLane s l).vot k = laneOf s.vot k := by
  rw [idleLane_eq]
  split
  · rfl
  · rw [setLane_other _ _ _ _ hk, laneTo_other _ _ hk, restTest_other s hk]

/-- Whether a lane's test, if any, is over. -/
def Rests (s : State) (l : Lane) : Prop := (laneOf s.vot l).state ≠ .proving ∨ (laneOf s.vot l).passed = true

theorem idleLane_fenced {s : State} {l : Lane} (h : Rests s l) : (laneOf (idleLane s l).vot l).state = .fenced := by
  have hover : ¬ ((laneOf s.vot l).state = .proving ∧ (laneOf s.vot l).passed = false) := by
    rintro ⟨hproving, hpassed⟩
    exact h.elim (· hproving) (by simp [hpassed])
  rw [idleLane_eq, if_neg hover, setLane_same]
  exact laneTo_state _ _ _

theorem rests_idleLane {s : State} {l k : Lane} (hk : k ≠ l) (h : Rests s k) : Rests (idleLane s l) k := by
  unfold Rests at *
  rwa [idleLane_other s hk]

/-- Every lane becomes idle. -/
def idleLanes (s : State) : State := Lane.all.foldl idleLane s

theorem idleLanes_frame (s : State) : IdleFrame s (idleLanes s) :=
  (idleLane_frame s .l1).trans ((idleLane_frame _ .l2).trans (idleLane_frame _ .l3))

theorem idleLanes_fenced {s : State} {l : Lane} (h : Rests s l) : (laneOf (idleLanes s).vot l).state = .fenced := by
  show (laneOf (idleLane (idleLane (idleLane s .l1) .l2) .l3).vot l).state = .fenced
  cases l
  case l1 => rw [idleLane_other _ (by decide), idleLane_other _ (by decide), idleLane_fenced h]
  case l2 => rw [idleLane_other _ (by decide), idleLane_fenced (rests_idleLane (by decide) h)]
  case l3 => exact idleLane_fenced (rests_idleLane (by decide) (rests_idleLane (by decide) h))

/-! ## The return to STANDBY -/

/-- What the return changes beside the role: the fault sub-blocks, the records, the lanes and their tests, the ports, and what
a fallback that waited loads. -/
def ReturnFrame (s t : State) : Prop :=
  t = { s with faults := t.faults, evr := { t.evr with ring := s.evr.ring }, xbr := t.xbr, vot := t.vot, bst := t.bst
               upd := t.upd, mzp := t.mzp, prt := t.prt, free := t.free, frn0 := t.frn0, frn1 := t.frn1 }

theorem ReturnFrame.trans {s t u : State} (h : ReturnFrame s t) (g : ReturnFrame t u) : ReturnFrame s u := by
  unfold ReturnFrame at *
  rw [g, h]

theorem ReturnFrame.of_idle {s t : State} (h : IdleFrame s t) : ReturnFrame s t := by
  unfold IdleFrame at h
  unfold ReturnFrame
  rw [h]

theorem ReturnFrame.of_ports {s t : State} (h : PortsFrame s t) : ReturnFrame s t := by
  unfold PortsFrame at h
  unfold ReturnFrame
  rw [h]

theorem loadIdle_returns (s : State) : ReturnFrame s (loadIdle s) := by
  unfold loadIdle
  dsimp only
  split <;> repeat' split
  all_goals rfl

theorem standbyFallBack_returns (s : State) : ReturnFrame s (standbyFallBack s) := by
  unfold standbyFallBack
  split
  · rfl
  · refine ReturnFrame.trans ?_ (loadIdle_returns _)
    split <;> rfl

theorem standbyFallBack_none {s : State} (h : s.upd.fbkTo = []) : standbyFallBack s = s := by
  simp [standbyFallBack, h]

theorem followPort_frame (s : State) (c : Cluster) : PortsFrame s (followPort s c) := by
  unfold followPort startPort
  cases c <;> split <;> rfl

theorem followPort_other (s : State) {c d : Cluster} (h : d ≠ c) : frnOf (followPort s c) d = frnOf s d := by
  unfold followPort startPort
  cases c <;> cases d
  case c0.c0 | c1.c1 => exact absurd rfl h
  all_goals split <;> rfl

theorem followPort_follows {s : State} {c : Cluster} (hon : chanOn s c .a = true ∨ chanOn s c .b = true)
    (hfence : (frnOf s c).fenced = false) : (frnOf (followPort s c) c).state = .follow ∧ (frnOf (followPort s c) c).mute = false := by
  have hstart : (chanOn s c .a || chanOn s c .b) && !(frnOf s c).fenced := by simpa [hfence] using hon
  simp [followPort, startPort, hstart]

/-- The old ACTIVE module in its new role. -/
def stoodDown (v : State) : State :=
  lower { v with
    dpx := { v.dpx with role := .standby, relinquished := false, formerActive := false, granted := false, handDue := false
                        wanted := false, commanded := false, planned := satAdd 65535 1 v.dpx.planned }
    frm := { v.frm with nextTick := none, phase := .idle }
    work := none } .dpx dPARTNER_NOT_READY

/-- The same with its lanes idle. -/
def lanesDown (v : State) : State := idleLanes (duoReset (stoodDown v))

/-- The module after its return. -/
def returned (v : State) : State := followPort (followPort (standbyFallBack (lanesDown v)) .c0) .c1

theorem exec_oldActiveToStandby {s : State} {now : Nat} (hgone : s.dpx.relinquished = true) (hrole : s.dpx.role = .active)
    (hstop : s.sys.stopped = false) (hholder : s.dpx.holder = 2 - ownKind s.cfg) :
    let v := later s now
    exec (.oldActiveToStandby now) s
      = if v.now < v.dpx.lastRelease + toffeeUs v.cfg then .next v else .next (returned v) := by
  intro v
  have hexec : exec (.oldActiveToStandby now) s = if !v.dpx.relinquished ∨ v.dpx.role ≠ .active ∨ v.sys.stopped
      ∨ v.dpx.holder ≠ partnerHolder v ∨ v.now < v.dpx.lastRelease + toffeeUs v.cfg then .next v else .next (returned v) := rfl
  have hpartner : v.dpx.holder = partnerHolder v := hholder
  have hgone : v.dpx.relinquished = true := hgone
  have hrole : v.dpx.role = .active := hrole
  have hstop : v.sys.stopped = false := hstop
  rw [hexec]
  simp only [hgone, hrole, hstop, hpartner]
  simp

theorem lanesDown_frame (v : State) : IdleFrame (duoReset (stoodDown v)) (lanesDown v) := idleLanes_frame _

theorem returned_frame (v : State) : ReturnFrame (stoodDown v) (returned v) := by
  have hduo : ReturnFrame (stoodDown v) (duoReset (stoodDown v)) := rfl
  exact hduo.trans ((ReturnFrame.of_idle (lanesDown_frame v)).trans ((standbyFallBack_returns _).trans
    ((ReturnFrame.of_ports (followPort_frame _ .c0)).trans (.of_ports (followPort_frame _ .c1)))))

theorem returned_state (v : State) :
    let t := returned v
    t.dpx = { v.dpx with role := .standby, relinquished := false, formerActive := false, granted := false, handDue := false
                         wanted := false, commanded := false, planned := satAdd 65535 1 v.dpx.planned }
      ∧ t.frm.nextTick = none ∧ t.work = none ∧ t.cfg = v.cfg ∧ t.core.objs = v.core.objs ∧ t.core.crumbs = v.core.crumbs
      ∧ t.prl = v.prl := by
  intro t
  have ht : ReturnFrame (stoodDown v) t := returned_frame v
  rw [ht]
  exact ⟨rfl, rfl, rfl, rfl, rfl, rfl, rfl⟩

section NoFallback

variable {v : State} (hnone : v.upd.fbkTo = [])

include hnone

theorem returned_eq : returned v = followPort (followPort (lanesDown v) .c0) .c1 := by
  have hupd : (lanesDown v).upd.fbkTo = [] := by
    rw [lanesDown_frame]
    exact hnone
  rw [returned, standbyFallBack_none hupd]

theorem returned_fenced {l : Lane} (h : Rests v l) : (laneOf (returned v).vot l).state = .fenced := by
  have hrests : Rests (duoReset (stoodDown v)) l := by
    unfold Rests at *
    cases l <;> exact h
  rw [returned_eq hnone, followPort_frame, followPort_frame _ .c0]
  exact idleLanes_fenced hrests

theorem returned_follows {c : Cluster} (hon : chanOn v c .a = true ∨ chanOn v c .b = true) (hfence : (frnOf v c).fenced = false) :
    (frnOf (returned v) c).state = .follow ∧ (frnOf (returned v) c).mute = false := by
  have hport : frnOf (lanesDown v) c = frnOf v c := by
    rw [lanesDown_frame]
    cases c <;> rfl
  have hcfg : (lanesDown v).cfg = v.cfg := by
    rw [lanesDown_frame]
    rfl
  have hchan : ∀ ch, chanOn (lanesDown v) c ch = chanOn v c ch := by
    intro ch
    unfold chanOn
    rw [hcfg]
  rw [returned_eq hnone]
  cases c
  case c0 =>
    rw [followPort_other _ (by decide)]
    exact followPort_follows (by simpa only [hchan] using hon) (by rwa [hport])
  case c1 =>
    have hcfg0 : (followPort (lanesDown v) .c0).cfg = (lanesDown v).cfg := by rw [followPort_frame]
    refine followPort_follows ?_ (by rwa [followPort_other _ (by decide), hport])
    simpa only [chanOn, hcfg0, hcfg] using hon

end NoFallback

/-! ## The statement -/

/-- A module that takes over with a wafer (R64, R140, R315, R354). -/
theorem takeover_takes {u : State} {gepoch : Nat} {w : Wafer} (htake : sevOf u.cfg .dpx dTAKEOVER ≠ .safeStop)
    (hwindow : sevOf w.cfg .upd uCONFIRM_PENDING ≠ .safeStop)
    (hstore : w.inter.crumbs.any crumbBad = false ∨ sevOf w.cfg .prl pCRUMB_CORRUPT ≠ .safeStop) (hstop : u.sys.stopped = false) :
    let t := takeover u gepoch w
    t.dpx.role = .active ∧ t.dpx.granted = true ∧ t.dpx.gepoch = gepoch ∧ t.dpx.asking = none ∧ t.dpx.held = none
      ∧ t.dpx.relinquished = false ∧ t.dpx.formerActive = false ∧ t.dpx.takeAt = some u.now ∧ t.dpx.ackAt = none
      ∧ t.dpx.leaseAt = some u.now ∧ isLive t .dpx dTAKEOVER = true ∧ t.sys.stopped = false
      ∧ t.core.counter = (w.frame + 256) % 2 ^ 48 ∧ t.core.permits = [] ∧ t.work = none
      ∧ (∀ st, u.mzp = some st → w.layout = st.imgId →
          t.core = { resumeWaits u.now w.inter with
            counter := t.core.counter, permits := [], shadow := w.inter.crumbs, lost := t.core.lost
            prlObjs := w.inter.prlObjs.map fun q => { q with settle := ((objOf? w.inter q.idx).map (·.settle)).getD q.settle } }
          ∧ t.prl.store = w.inter.crumbs ∧ t.prl.digest = u.prl.digest
          ∧ (w.inter.crumbs.any crumbBad = true → isLive t .prl pCRUMB_CORRUPT = true))
      ∧ t.cfg = waferCfg u w ∧ t.cmd.partners = w.partners ∧ t.staged = [] ∧ t.stagedPartners = []
      ∧ (∀ l, (laneOf u.vot l).hwFault = false → (laneOf u.vot l).limited = false → (testOf u.bst l).hold = false →
          u.bst.under ≠ some l → (laneOf t.vot l).state = .voting)
      ∧ (∀ c, (frnOf u c).state ≠ .off → (frnOf u c).fenced = false → (frnOf t c).goRun = true ∧ (frnOf t c).muteDue = false)
      ∧ t.frm.nextTick = u.frm.nextTick ∧ t.evr.ring = u.evr.ring ∧ t.sec.blobs = u.sec.blobs ∧ t.lio = u.lio := by
  intro t
  obtain ⟨hdpx, hsys, hcore, hwork, hcfg, hpartners, hstaged, hstagedP, hkept, hdigest, htick, hring, hsec, hlio⟩ :=
    takeover_state (s := u) (gepoch := gepoch) htake hwindow hstore
  have hdpx : t.dpx = { takenDpx u gepoch with wanted := t.dpx.wanted, statusDue := t.dpx.statusDue } := hdpx
  have hwafer : ∀ st, u.mzp = some st → w.layout = st.imgId → takenInter u w
      = { resumeWaits u.now w.inter with counter := (w.frame + 256) % 2 ^ 48 } := fun st hst hlayout => by
    rw [takenInter, waferInter_same hst hlayout]
  refine ⟨by rw [hdpx]; rfl, by rw [hdpx]; rfl, by rw [hdpx]; rfl, by rw [hdpx]; rfl, by rw [hdpx]; rfl, by rw [hdpx]; rfl,
    by rw [hdpx]; rfl, by rw [hdpx]; rfl, by rw [hdpx]; rfl, by rw [hdpx]; rfl, takeover_live, hsys ▸ hstop,
    by rw [hcore]; rfl, by rw [hcore], hwork, fun st hst hlayout => ⟨?_, ?_, hdigest, takeover_corrupt⟩, hcfg, hpartners, hstaged,
    hstagedP, fun l hfault hlimit hhold hunder => takeover_voting htake hwindow hstore ⟨hfault, hlimit, hhold, hunder⟩,
    fun c => takeover_runs htake hwindow hstore, htick, hring, by rw [hsec], hlio⟩
  · rw [hcore, hwafer st hst hlayout]
    rfl
  · rw [hkept, takenInter_crumbs]

/-- Settles O50: the cases of a GRANT by freshness, by the stop, by what was asked and by the wafer held; the first tick; the
refusals; and the return of the old ACTIVE module. -/
theorem theGrantMakesTheModuleActive : Obligations.TheGrantMakesTheModuleActive := by
  intro s now v d
  refine ⟨fun p n hentry hon hunit hrole => ?_, fun t0 htake hstop hrole => ?_, fun r why hon hasking hwhy => ?_,
    fun why hon hwhy => ?_, fun hgone hrole hstop hholder => ?_⟩
  · intro u fresh
    have hgrant := exec_grant hentry hon hunit hrole
    have hfresh : fresh → exec (.grant p now) s = grantTaken u p.gepoch := fun h => by
      rw [hgrant, if_pos ((beatFresh_iff v p.fref).mpr h)]
    refine ⟨fun h => ?_, fun h hstop => ?_, fun h hstop hasking st hst => ?_, fun h hstop hasking hheld => ?_,
      fun h hstop hasking hmiss hheld => ?_, fun h hstop hasking hdue htake w hheld hwindow hstore => ?_⟩
    · rw [hgrant, if_neg fun hf => h ((beatFresh_iff v p.fref).mp hf)]
    · exact ⟨_, (hfresh h).trans (grantTaken_stopped p.gepoch hstop), sendStatus_frame _⟩
    · exact ⟨_, (hfresh h).trans (grantTaken_cold p.gepoch hstop hasking), grantCold_starts p.gepoch hst⟩
    · refine ⟨_, (hfresh h).trans (grantTaken_void p.gepoch hstop hasking hheld), ?_⟩
      obtain ⟨hdpx, helse⟩ := grantVoid_keeps u p.gepoch
      refine ⟨?_, helse⟩
      rw [hdpx]
      rfl
    · exact ⟨_, (hfresh h).trans (grantTaken_unasked p.gepoch hstop hasking hmiss hheld), sendStatus_frame _⟩
    · refine ⟨_, (hfresh h).trans (grantTaken_takeover p.gepoch hstop hasking hdue hheld), ?_⟩
      exact takeover_takes (u := u) htake hwindow hstore hstop
  · have hexec := exec_takeoverFirstTick (s := s) (now := now) htake hstop hrole
    refine ⟨fun h => ?_, fun h => ?_⟩
    · rw [hexec, if_neg fun hd => h ((firstTickDue_iff v t0).mp hd)]
    · rw [hexec, if_pos ((firstTickDue_iff v t0).mpr h)]
      exact ⟨_, rfl, duoStart_eq _⟩
  · exact exec_grantRefuse_ends hon hasking hwhy
  · exact exec_grantRefuse_stands hon hwhy
  · have hexec := exec_oldActiveToStandby (s := s) (now := now) hgone hrole hstop hholder
    refine ⟨fun h => by rw [hexec, if_pos h], fun h => ⟨returned v, by rw [hexec, if_neg (Nat.not_lt.mpr h)], ?_⟩⟩
    obtain ⟨hdpx, htick, hwork, helse⟩ := returned_state v
    refine ⟨by rw [hdpx], by rw [hdpx], htick, hwork, fun hnone => ⟨hdpx, fun l => returned_fenced hnone,
      fun c => returned_follows hnone, helse⟩⟩

end Sys2Proof.Proofs.OldActive

/-! PROOFS. The field ports: what a raising of a cluster leaves of its port (R177, R240, R334), what a transmission adds
(R223, R225, R233), and the table of nodes. -/

namespace Sys2Proof.Proofs.FieldPorts

open Sys2Proof Sys2Proof.Machine Sys2Proof.Safety Sys2Proof.Proofs.Frames

/-! ## Lists of nodes -/

theorem find?_updFirst_same {α : Type} {p : α → Bool} {g : α → α} {l : List α} {a : α} (hg : ∀ a, p (g a) = p a)
    (h : l.find? p = some a) : (updFirst p g l).find? p = some (g a) := by
  induction l with
  | nil => cases h
  | cons x l ih =>
    cases hx : p x
    · rw [List.find?_cons_of_neg (by simp [hx])] at h
      simpa [updFirst, hx] using ih h
    · rw [List.find?_cons_of_pos hx] at h
      cases h
      simp [updFirst, hx, hg]

theorem find?_updFirst_other {α : Type} {p q : α → Bool} {g : α → α} (l : List α) (hq : ∀ a, p a = true → q a = false)
    (hg : ∀ a, p a = true → q (g a) = false) : (updFirst p g l).find? q = l.find? q := by
  induction l with
  | nil => rfl
  | cons x l ih =>
    cases hx : p x
    · simp [updFirst, hx, List.find?_cons, ih]
    · simp [updFirst, hx, hq x hx, hg x hx]

/-- What is blind to `g` sees the list as it was. -/
theorem map_updFirst {α β : Type} (p : α → Bool) {g : α → α} {f : α → β} (hf : ∀ a, f (g a) = f a) (l : List α) :
    (updFirst p g l).map f = l.map f := by
  induction l with
  | nil => rfl
  | cons x l ih =>
    cases hx : p x
    · simp [updFirst, hx, ih]
    · simp [updFirst, hx, hf]

theorem exists_of_map_eq {α β : Type} {f : α → β} {l m : List α} (h : l.map f = m.map f) {a : α} (ha : a ∈ m) :
    ∃ b ∈ l, f b = f a := by
  have hmem : f a ∈ l.map f := h ▸ List.mem_map_of_mem ha
  obtain ⟨b, hb, hfb⟩ := List.mem_map.mp hmem
  exact ⟨b, hb, hfb⟩

theorem any_of_map_eq {α β : Type} {f : α → β} {l m : List α} (h : l.map f = m.map f) (p : β → Bool) :
    (l.any fun a => p (f a)) = m.any fun a => p (f a) := by
  rw [show (fun a => p (f a)) = p ∘ f from rfl, ← List.any_map, h, List.any_map]

theorem any_updFirst {α : Type} (p : α → Bool) {g : α → α} {f : α → Bool} (hf : ∀ a, f (g a) = f a) (l : List α) :
    (updFirst p g l).any f = l.any f :=
  any_of_map_eq (map_updFirst p hf l) id

/-! ## A port and its nodes -/

theorem setNode_same (s : State) (c : Cluster) (n : Nat) (g : NodeBlk → NodeBlk) :
    frnOf (setNode s c n g) c = { frnOf s c with nodes := updFirst (·.node == n) g (frnOf s c).nodes } :=
  setFrn_same _ _ _

theorem setNode_faults (s : State) (c : Cluster) (n : Nat) (g : NodeBlk → NodeBlk) : (setNode s c n g).faults = s.faults :=
  setFrn_faults _ _ _

theorem nodeOf?_setNode_same {s : State} {c : Cluster} {n : Nat} {b : NodeBlk} {g : NodeBlk → NodeBlk}
    (hg : ∀ b, (g b).node = b.node) (h : nodeOf? s c n = some b) : nodeOf? (setNode s c n g) c n = some (g b) := by
  rw [nodeOf?, setNode_same]
  exact find?_updFirst_same (fun b => by rw [hg]) h

theorem nodeOf?_setNode_other (s : State) (c : Cluster) {n m : Nat} {g : NodeBlk → NodeBlk} (hg : ∀ b, (g b).node = b.node)
    (hm : m ≠ n) : nodeOf? (setNode s c n g) c m = nodeOf? s c m := by
  rw [nodeOf?, setNode_same]
  have hother : ∀ b : NodeBlk, (b.node == n) = true → (b.node == m) = false := by
    intro b hb
    rw [beq_iff_eq] at hb
    rw [hb, beq_eq_false_iff_ne]
    exact hm.symm
  exact find?_updFirst_other _ hother fun b hb => hother (g b) (by rwa [hg])

theorem nodeOf?_congr {s t : State} {c : Cluster} (h : (frnOf t c).nodes = (frnOf s c).nodes) (n : Nat) :
    nodeOf? t c n = nodeOf? s c n := by
  rw [nodeOf?, nodeOf?, h]

/-! ## Raisings of a cluster's sources -/

theorem frnOf_of_raiseFrame {s t : State} (h : RaiseFrame s t) (c : Cluster) : frnOf t c =
    { frnOf s c with fenced := (frnOf t c).fenced, back := (frnOf t c).back, stopPending := (frnOf t c).stopPending } := by
  unfold RaiseFrame at h
  cases c <;> exact h ▸ rfl

/-- `t` follows `s` by raisings and lowerings: a fence of the cluster, the stop, the grant given up and the removal of the
downlink entries stand once they are there, and the last follows only from the first two (R177, R240, R334, R337). -/
structure StopsOnly (c : Cluster) (s t : State) : Prop where
  fenced : (frnOf s c).fenced = true → (frnOf t c).fenced = true
  stopped : s.sys.stopped = true → t.sys.stopped = true
  gone : s.dpx.relinquished = true → t.dpx.relinquished = true
  pending : (frnOf s c).stopPending = true → (frnOf t c).stopPending = true
  cause : (frnOf t c).stopPending = true → (frnOf s c).stopPending = true ∨ (frnOf t c).fenced ≠ (frnOf s c).fenced
    ∨ t.sys.stopped ≠ s.sys.stopped

/-- What only comes and is the same at the end was the same between. -/
theorem between_of_eq {x y z : Bool} (h : x = true → y = true) (g : y = true → z = true) (e : z = x) : y = x := by
  subst e
  cases z
  · exact Bool.eq_false_iff.mpr fun hy => absurd (g hy) Bool.false_ne_true
  · exact h rfl

theorem StopsOnly.trans {c : Cluster} {s t u : State} (h : StopsOnly c s t) (g : StopsOnly c t u) : StopsOnly c s u where
  fenced := g.fenced ∘ h.fenced
  stopped := g.stopped ∘ h.stopped
  gone := g.gone ∘ h.gone
  pending := g.pending ∘ h.pending
  cause := by
    intro hu
    obtain ht | ht | ht := g.cause hu
    · obtain h1 | h1 | h1 := h.cause ht
      · exact .inl h1
      · exact .inr (.inl fun e => h1 (between_of_eq h.fenced g.fenced e))
      · exact .inr (.inr fun e => h1 (between_of_eq h.stopped g.stopped e))
    · exact .inr (.inl fun e => ht (e.trans (between_of_eq h.fenced g.fenced e).symm))
    · exact .inr (.inr fun e => ht (e.trans (between_of_eq h.stopped g.stopped e).symm))

/-- Where the fence, the removal, the stop and the grant are as they were, nothing has stopped. -/
theorem StopsOnly.of_eq {c : Cluster} {s t : State} (hfenced : (frnOf t c).fenced = (frnOf s c).fenced)
    (hpending : (frnOf t c).stopPending = (frnOf s c).stopPending) (hsys : t.sys.stopped = s.sys.stopped)
    (hdpx : t.dpx.relinquished = s.dpx.relinquished) : StopsOnly c s t where
  fenced := by rw [hfenced]; exact id
  stopped := by rw [hsys]; exact id
  gone := by rw [hdpx]; exact id
  pending := by rw [hpending]; exact id
  cause := by rw [hpending]; exact .inl

theorem StopsOnly.of_same {c : Cluster} {s t : State} (hfrn : frnOf t c = frnOf s c) (hsys : t.sys = s.sys)
    (hdpx : t.dpx = s.dpx) : StopsOnly c s t :=
  .of_eq (by rw [hfrn]) (by rw [hfrn]) (by rw [hsys]) (by rw [hdpx])

theorem StopsOnly.refl (c : Cluster) (s : State) : StopsOnly c s s := .of_same rfl rfl rfl

theorem frnFence_stopsOnly (c d : Cluster) (s : State) : StopsOnly c s (frnFence s d) := by
  unfold frnFence
  split
  · exact .refl c s
  next h =>
    constructor
    all_goals dsimp only; split <;> cases c <;> cases d <;> simp_all [setFrn, frnOf]

theorem stopFrames_stopsOnly (c : Cluster) (s : State) (h : s.sys.stopped = false) : StopsOnly c s (stopFrames s) := by
  constructor
  all_goals cases c <;> simp_all [stopFrames, frnOf]

theorem startFlush_stopsOnly (c : Cluster) (s : State) : StopsOnly c s (startFlush s) := by
  have h := startFlush_frame s
  unfold SvcFrame at h
  exact .of_same (by rw [h]; cases c <;> rfl) (by rw [h]) (by rw [h])

theorem relinquish_stopsOnly (c : Cluster) (s : State) : StopsOnly c s (relinquish s) := by
  constructor
  all_goals cases c <;> simp_all [relinquish, frnOf]

theorem safeStop_stopsOnly (c : Cluster) (s : State) : StopsOnly c s (safeStop s) := by
  unfold safeStop
  split
  · exact .refl c s
  next h =>
    exact (stopFrames_stopsOnly c s (by simpa using h)).trans ((startFlush_stopsOnly c _).trans (relinquish_stopsOnly c _))

theorem noteFrame_stopsOnly (c : Cluster) {s t : State} (h : NoteFrame s t) : StopsOnly c s t := by
  unfold NoteFrame at h
  exact .of_same (by rw [h]; cases c <;> rfl) (by rw [h]) (by rw [h])

theorem raise_stopsOnly (c : Cluster) (s : State) (n : Nat) : StopsOnly c s (raise s .frn n) := by
  obtain h | ⟨u, hu, h⟩ := raise_cases s .frn n
  · rw [h]
    exact .refl c s
  · rw [h]
    refine (noteFrame_stopsOnly c hu).trans ?_
    cases sevOf s.cfg .frn n
    case record => exact .refl c u
    case warn => exact .refl c u
    case fence => exact frnFence_stopsOnly c _ u
    case safeStop => exact (frnFence_stopsOnly c _ u).trans (safeStop_stopsOnly c _)

theorem setLive_stopsOnly (c : Cluster) (s : State) (n : Nat) (on : Bool) : StopsOnly c s (setLive s .frn n on) := by
  cases on
  · exact .of_same (by cases c <;> rfl) rfl rfl
  · exact raise_stopsOnly c s n

end Sys2Proof.Proofs.FieldPorts

/-! PROOFS. The single steps of a field cycle: offset correction (R227), the partner's sync frame (R223), dropout and return
(R232), guardians (R225). -/

namespace Sys2Proof.Proofs.FieldSteps

open Sys2Proof Sys2Proof.Machine Sys2Proof.Safety Sys2Proof.Proofs.Frames Sys2Proof.Proofs.FieldPorts

/-- The bit of a cluster's source is one of the block's sixteen (R240). -/
theorem nAt_lt (c : Cluster) {n : Nat} (h : n < 8) : nAt c n < 16 := by
  cases c
  · exact Nat.lt_of_lt_of_le h (by decide)
  · exact Nat.add_lt_add_right h 8

/-! ## Offset correction -/

theorem offsetCorrection_idle {s : State} {c : Cluster} {now : Nat}
    (h : (frnOf (later s now) c).state = .off ∨ (frnOf (later s now) c).cycle % 2 = 0) :
    exec (.offsetCorrection c now) s = .next (later s now) := by
  simp only [exec, execOffsetCorrection]
  exact if_pos (h.imp_right .inr)

/-- The deviations that an offset correction takes, without the module's own 0. -/
def deviations (v : State) (c : Cluster) : List Int :=
  ((frnOf v c).nodes.filter fun b => b.state = .admitted && b.heard && isSyncNode v c b.node).filterMap (·.dev)
    ++ (frnOf v c).partnerSync.toList

theorem clampTo_bounds {lim v : Int} (h : 0 ≤ lim) : -lim ≤ clampTo lim v ∧ clampTo lim v ≤ lim := by
  unfold clampTo
  omega

theorem offsetCorrection_odd {s : State} {c : Cluster} {now : Nat} (hon : (frnOf (later s now) c).state ≠ .off)
    (hbegun : (frnOf (later s now) c).begun = true) (hodd : (frnOf (later s now) c).cycle % 2 = 1) :
    ∃ rate prec, exec (.offsetCorrection c now) s = .next (setLive (setFrn (later s now) c fun f =>
        { f with offs := clampTo 40 (ftAverage (0 :: deviations (later s now) c)), rate := clampTo 8 rate, prec := prec
                 nsync := (deviations (later s now) c).length + 1 }) .frn (nAt c nSYNC_LOSS)
      (ftAverage (0 :: deviations (later s now) c) ≠ clampTo 40 (ftAverage (0 :: deviations (later s now) c))
        || (deviations (later s now) c).length + 1 < 3)) := by
  simp only [exec, execOffsetCorrection]
  rw [if_neg (by simp [hon, hbegun, hodd])]
  cases c <;> exact ⟨_, _, rfl⟩

theorem offsetCorrection_corrects {s : State} {c : Cluster} {now : Nat} (hon : (frnOf (later s now) c).state ≠ .off)
    (hbegun : (frnOf (later s now) c).begun = true) (hodd : (frnOf (later s now) c).cycle % 2 = 1) :
    ∃ t, exec (.offsetCorrection c now) s = .next t
      ∧ (frnOf t c).offs = max (-40) (min 40 (ftAverage (0 :: deviations (later s now) c)))
      ∧ -8 ≤ (frnOf t c).rate ∧ (frnOf t c).rate ≤ 8 ∧ (frnOf t c).nsync = (deviations (later s now) c).length + 1
      ∧ (isLive t .frn (nAt c nSYNC_LOSS) = true ↔ (frnOf t c).offs ≠ ftAverage (0 :: deviations (later s now) c)
          ∨ (deviations (later s now) c).length < 2)
      ∧ RaiseFrame (setFrn (later s now) c fun f => { f with
          offs := (frnOf t c).offs, rate := (frnOf t c).rate, prec := (frnOf t c).prec, nsync := (frnOf t c).nsync }) t := by
  obtain ⟨rate, prec, hexec⟩ := offsetCorrection_odd hon hbegun hodd
  refine ⟨_, hexec, ?_⟩
  clear hexec
  generalize ftAverage (0 :: deviations (later s now) c) = raw
  generalize (deviations (later s now) c).length = n
  generalize hF : (fun f : FrnBlk => { f with offs := clampTo 40 raw, rate := clampTo 8 rate, prec := prec, nsync := n + 1 }) = F
  have hframe := setLive_frame (setFrn (later s now) c F) .frn (nAt c nSYNC_LOSS) (raw ≠ clampTo 40 raw || n + 1 < 3)
  have hlive := setLive_isLive (setFrn (later s now) c F) .frn (nAt c nSYNC_LOSS) (raw ≠ clampTo 40 raw || n + 1 < 3)
    (nAt_lt c (by decide))
  generalize setLive (setFrn (later s now) c F) .frn (nAt c nSYNC_LOSS) (raw ≠ clampTo 40 raw || n + 1 < 3) = t at *
  have ht := frnOf_of_raiseFrame hframe c
  rw [setFrn_same] at ht
  have hoffs : (frnOf t c).offs = clampTo 40 raw := by rw [ht, ← hF]
  have hrate : (frnOf t c).rate = clampTo 8 rate := by rw [ht, ← hF]
  have hprec : (frnOf t c).prec = prec := by rw [ht, ← hF]
  have hnsync : (frnOf t c).nsync = n + 1 := by rw [ht, ← hF]
  obtain ⟨hlow, hhigh⟩ := clampTo_bounds (lim := 8) (v := rate) (by decide)
  rw [hoffs, hrate, hprec, hnsync, hlive]
  refine ⟨rfl, hlow, hhigh, rfl, ?_, hF ▸ hframe⟩
  rw [Bool.or_eq_true, decide_eq_true_iff, decide_eq_true_iff, ne_comm, Nat.succ_lt_succ_iff]

/-! ## The fault-tolerant average of two and of three values -/

theorem ftAverage_pair (x y : Int) : ftAverage [x, y] = 0 := rfl

/-- Of three values the middle one counts. -/
theorem ftAverage_of_sorted {vs : List Int} {x y z : Int} (h : vs.mergeSort (· ≤ ·) = [x, y, z]) : ftAverage vs = y := by
  have hlen : vs.length = 3 := by rw [← List.length_mergeSort (le := (· ≤ ·)) vs, h]; rfl
  simp [ftAverage, hlen, h]

theorem mergeSort_of_perm {vs ws : List Int} (hperm : vs.Perm ws) (hsorted : ws.Pairwise (· ≤ ·)) :
    vs.mergeSort (· ≤ ·) = ws := by
  refine List.Perm.eq_of_pairwise (le := (· ≤ ·)) (fun a b _ _ hab hba => Int.le_antisymm hab hba) ?_ hsorted
    ((List.mergeSort_perm vs _).trans hperm)
  have h := List.pairwise_mergeSort (le := fun a b : Int => decide (a ≤ b)) (by simpa using fun a b c => Int.le_trans)
    (by simpa using Int.le_total) vs
  simpa using h

theorem ftAverage_middle {x y z : Int} (hxy : x ≤ y) (hyz : y ≤ z) : ftAverage [x, y, z] = y ∧ ftAverage [z, x, y] = y := by
  have hsorted : [x, y, z].Pairwise (· ≤ ·) := by
    simp [hxy, hyz, Int.le_trans hxy hyz]
  refine ⟨ftAverage_of_sorted (mergeSort_of_perm (.refl _) hsorted), ftAverage_of_sorted (mergeSort_of_perm ?_ hsorted)⟩
  exact (List.perm_append_comm (l₁ := [z]) (l₂ := [x, y]) :)

/-! ## The partner's sync frame -/

/-- A sync frame of slot 255 of the own cluster (R223). -/
def goodSync (c : Cluster) (arr : Arrival) : Prop :=
  ∃ h, unCrc? arr.data = some h ∧ h.length = 12 ∧ fieldAt h 0 1 = 0xA2 ∧ fieldAt h 1 1 = 0xFF ∧ fieldAt h 8 2 = 0
    ∧ fieldAt h 10 1 = c.num

theorem syncFrame_step (s : State) (c : Cluster) (arr : Arrival) (now : Nat) :
    ((frnOf (later s now) c).isRoot = true → goodSync c arr → exec (.syncFrame c arr now) s
        = .next (setFrn (later s now) c fun f => { f with partnerSync := some arr.dev }))
      ∧ ((frnOf (later s now) c).isRoot = false ∨ ¬ goodSync c arr → exec (.syncFrame c arr now) s = .next (later s now)) := by
  simp only [exec, execSyncFrame]
  constructor
  · rintro hroot ⟨h, hdata, hlen, h0, h1, h8, h10⟩
    simp [hroot, hdata, hlen, h0, h1, h8, h10]
  · intro h
    rw [if_neg]
    intro hok
    rw [Bool.and_eq_true] at hok
    obtain ⟨hroot, hok⟩ := hok
    obtain h | h := h
    · simp [h] at hroot
    · split at hok
      next body hdata =>
        refine h ⟨body, hdata, ?_⟩
        simpa [and_assoc] using hok
      next => cases hok

/-! ## Dropout and return -/

theorem dropout_idle {s : State} {c : Cluster} {node : Nat} {b : NodeBlk} (hb : nodeOf? s c node = some b)
    (h : ¬ ((frnOf s c).state ≠ .off ∧ b.state = .admitted ∧ dropLimit s c ≤ missingNow (frnOf s c) b)) :
    exec (.dropout c node) s = .next s := by
  simp only [exec, execDropout, hb]
  exact if_neg h

theorem dropout_drops {s : State} {c : Cluster} {node : Nat} {b : NodeBlk} (hb : nodeOf? s c node = some b)
    (h : (frnOf s c).state ≠ .off ∧ b.state = .admitted ∧ dropLimit s c ≤ missingNow (frnOf s c) b) :
    ∃ t, exec (.dropout c node) s = .next t ∧ isLive t .frn (nAt c nDROPOUT) = true
      ∧ RaiseFrame (setFrn s c fun f => { f with
          nodes := updFirst (·.node == node) (fun b =>
            { b with state := .dropped, wasDropped := true, withdrawDue := true, onlyRestr := true }) f.nodes
          svc := f.svc.filter (·.node != node) }) t := by
  refine ⟨raise (setFrn s c fun f => { f with
    nodes := updFirst (·.node == node) (fun b =>
      { b with state := .dropped, wasDropped := true, withdrawDue := true, onlyRestr := true }) f.nodes
    svc := f.svc.filter (·.node != node) }) .frn (nAt c nDROPOUT), ?_, raise_isLive _ _ _ (nAt_lt c (by decide)), raise_frame _ _ _⟩
  simp only [exec, execDropout, hb]
  rw [if_pos h]
  cases c <;> rfl

/-- The last valid uplink of a node is 64 cycles back, or there is none (R232). -/
theorem stale_iff (b : NodeBlk) (cycle : Nat) : (match b.lastValid with
      | some k => decide (64 ≤ cyclesSince k cycle)
      | none => true) = true ↔ ∀ j, b.lastValid = some j → 64 ≤ (cycle + 2 ^ 32 - j) % 2 ^ 32 := by
  cases b.lastValid with
  | none => simp
  | some k =>
    simp only [Option.some.injEq, forall_eq']
    exact decide_eq_true_iff

theorem returnToAbsent_step {s : State} {c : Cluster} {node : Nat} {b : NodeBlk} (hb : nodeOf? s c node = some b) :
    (b.state = .dropped → (∀ j, b.lastValid = some j → 64 ≤ ((frnOf s c).cycle + 2 ^ 32 - j) % 2 ^ 32) →
      exec (.returnToAbsent c node) s
        = .next (setNode s c node fun b => { b with state := .absent, dlyA := none, dlyB := none, wasDropped := false }))
    ∧ (b.state ≠ .dropped ∨ ¬ (∀ j, b.lastValid = some j → 64 ≤ ((frnOf s c).cycle + 2 ^ 32 - j) % 2 ^ 32) →
      exec (.returnToAbsent c node) s = .next s) := by
  rw [← stale_iff]
  simp only [exec, execReturnToAbsent, hb]
  constructor
  · intro hdropped hstale
    exact if_pos (by rw [Bool.and_eq_true, decide_eq_true_iff]; exact ⟨hdropped, hstale⟩)
  · intro h
    refine if_neg ?_
    rw [Bool.and_eq_true, decide_eq_true_iff, not_and_or]
    exact h

/-! ## Guardians -/

theorem guardOf_setGuard (f : FrnBlk) (ch : Chan) (g : GuardianBlk → GuardianBlk) :
    guardOf (setGuard f ch g) ch = g (guardOf f ch) := by
  cases ch <;> rfl

theorem guardOf_congr {f k : FrnBlk} (ha : k.guardA = f.guardA) (hb : k.guardB = f.guardB) (ch : Chan) :
    guardOf k ch = guardOf f ch := by
  cases ch
  · exact ha
  · exact hb

theorem guardOf_of_raiseFrame {s t : State} (h : RaiseFrame s t) (c : Cluster) (ch : Chan) :
    guardOf (frnOf t c) ch = guardOf (frnOf s c) ch := by
  refine guardOf_congr ?_ ?_ ch
  all_goals rw [frnOf_of_raiseFrame h c]

theorem guardianViolation_idle {s : State} {c : Cluster} {ch : Chan} {now : Nat}
    (h : (guardOf (frnOf (later s now) c) ch).state ≠ .run) : exec (.guardianViolation c ch now) s = .next (later s now) := by
  simp only [exec, execGuardianViolation]
  exact if_pos h

/-- The violations of the last 1,000 cycles, with that of a cycle. -/
def violationsWith (g : GuardianBlk) (cycle : Nat) : List Nat :=
  cycle :: g.violations.filter fun k => (cycle + 2 ^ 32 - k) % 2 ^ 32 < 1000

/-- A guardian after a violation (R225). -/
def cutGuardian (g : GuardianBlk) (cycle now : Nat) : GuardianBlk :=
  if (violationsWith g cycle).length ≥ 3 then
    { g with state := .blocked, violations := [], blockedAt := some cycle, cut := true
             blockedTimes := now :: g.blockedTimes, forever := g.blockedTimes.any fun t => now < t + 3600000000 }
  else { g with violations := violationsWith g cycle, cut := true }

theorem cutGuardian_cut (g : GuardianBlk) (cycle now : Nat) : (cutGuardian g cycle now).cut = true := by
  unfold cutGuardian
  split <;> rfl

theorem guardianViolation_cuts {s : State} {c : Cluster} {ch : Chan} {now : Nat}
    (h : (guardOf (frnOf (later s now) c) ch).state = .run) : exec (.guardianViolation c ch now) s
      = .next (raise (setFrn (later s now) c fun f => setGuard f ch fun _ => cutGuardian (guardOf (frnOf (later s now) c) ch)
          (frnOf (later s now) c).cycle (later s now).now) .frn (nAt c nGUARDIAN)) := by
  exact if_neg (not_not.mpr h)

theorem guardianViolation_step {s : State} {c : Cluster} {ch : Chan} {now : Nat}
    (h : (guardOf (frnOf (later s now) c) ch).state = .run) :
    ∃ t, exec (.guardianViolation c ch now) s = .next t ∧ isLive t .frn (nAt c nGUARDIAN) = true
      ∧ (guardOf (frnOf t c) ch).cut = true
      ∧ RaiseFrame (setFrn (later s now) c fun f => setGuard f ch fun _ => guardOf (frnOf t c) ch) t
      ∧ ((violationsWith (guardOf (frnOf (later s now) c) ch) (frnOf (later s now) c).cycle).length < 3 →
          (guardOf (frnOf t c) ch).state = .run ∧ (guardOf (frnOf t c) ch).violations
            = violationsWith (guardOf (frnOf (later s now) c) ch) (frnOf (later s now) c).cycle)
      ∧ (3 ≤ (violationsWith (guardOf (frnOf (later s now) c) ch) (frnOf (later s now) c).cycle).length →
          (guardOf (frnOf t c) ch).state = .blocked ∧ (guardOf (frnOf t c) ch).blockedAt = some (frnOf (later s now) c).cycle
          ∧ ((guardOf (frnOf t c) ch).forever = true ↔
              ∃ a ∈ (guardOf (frnOf (later s now) c) ch).blockedTimes, (later s now).now < a + 3600000000)) := by
  refine ⟨_, guardianViolation_cuts h, raise_isLive _ _ _ (nAt_lt c (by decide)), ?_⟩
  rw [guardOf_of_raiseFrame (raise_frame _ _ _), setFrn_same, guardOf_setGuard]
  refine ⟨cutGuardian_cut _ _ _, raise_frame _ _ _, fun hfew => ?_, fun hmany => ?_⟩
  · rw [cutGuardian, if_neg (by omega)]
    exact ⟨h, rfl⟩
  · rw [cutGuardian, if_pos hmany]
    exact ⟨rfl, rfl, by simp⟩

theorem guardianBlockedExpiry_step (s : State) (c : Cluster) (ch : Chan) :
    (¬ ((guardOf (frnOf s c) ch).state = .blocked ∧ (guardOf (frnOf s c) ch).forever = false
        ∧ ∃ j, (guardOf (frnOf s c) ch).blockedAt = some j ∧ 10000 ≤ ((frnOf s c).cycle + 2 ^ 32 - j) % 2 ^ 32) →
      exec (.guardianBlockedExpiry c ch) s = .next s)
    ∧ ((guardOf (frnOf s c) ch).state = .blocked ∧ (guardOf (frnOf s c) ch).forever = false
        ∧ (∃ j, (guardOf (frnOf s c) ch).blockedAt = some j ∧ 10000 ≤ ((frnOf s c).cycle + 2 ^ 32 - j) % 2 ^ 32) →
      exec (.guardianBlockedExpiry c ch) s = .next (setFrn s c fun f => setGuard f ch fun g =>
        { g with state := .listen, blockedAt := none, good := 0 })) := by
  simp only [exec, execGuardianBlockedExpiry]
  generalize guardOf (frnOf s c) ch = g
  constructor
  · intro h
    refine if_neg fun hdone => h ?_
    simp only [Bool.and_eq_true, decide_eq_true_eq, Bool.not_eq_true'] at hdone
    obtain ⟨⟨hstate, hover⟩, hever⟩ := hdone
    refine ⟨hstate, hever, ?_⟩
    split at hover
    next k hk => exact ⟨k, hk, of_decide_eq_true hover⟩
    next => cases hover
  · rintro ⟨hstate, hever, j, hj, hlong⟩
    rw [hstate, hever, hj]
    exact if_pos (Bool.and_eq_true_iff.mpr ⟨Bool.and_eq_true_iff.mpr ⟨decide_eq_true rfl, decide_eq_true hlong⟩, rfl⟩)

end Sys2Proof.Proofs.FieldSteps

/-! PROOFS. The uplinks of a cycle: which copy counts (R221, R233), the buffer that it goes to (R54, R234), the admission that it
brings (R98, R232). -/

namespace Sys2Proof.Proofs.Uplinks

open Sys2Proof Sys2Proof.Machine Sys2Proof.Safety Sys2Proof.Proofs.Frames Sys2Proof.Proofs.FieldPorts Sys2Proof.Proofs.FieldSteps

/-! ## The copies -/

/-- Whether the copy that a channel brings is valid. -/
def validCopy (s : State) (c : Cluster) (ch : Chan) (d : NodeDef) (copy : Option Arrival) : Bool :=
  linkOn s c ch && (copy.map (uplinkOk s c d)).getD false

theorem validCopy_iff {s : State} {c : Cluster} {ch : Chan} {d : NodeDef} {copy : Option Arrival} :
    validCopy s c ch d copy = true ↔ linkOn s c ch = true ∧ ∃ a, copy = some a ∧ uplinkOk s c d a = true := by
  cases copy <;> simp [validCopy]

/-- No copy counts where none is valid, or where two valid ones differ. -/
theorem takeCopy_none {okA okB : Bool} {a b : Option Arrival}
    (h : ¬ okA = true ∧ ¬ okB = true ∨ okA = true ∧ okB = true ∧ ¬ a.map (·.data) = b.map (·.data)) :
    (takeCopy okA okB a b).1 = none := by
  obtain ⟨hA, hB⟩ | ⟨hA, hB, hdiffer⟩ := h
  · rw [Bool.eq_false_iff.mpr hA, Bool.eq_false_iff.mpr hB]
    rfl
  · subst hA hB
    simp [takeCopy, hdiffer]

theorem takeCopy_differ {a b : Option Arrival} (h : ¬ a.map (·.data) = b.map (·.data)) :
    takeCopy true true a b = (none, 1, 1) := if_neg h

/-- The copy on A counts where it is valid and no other one contradicts it, else the valid one on B. -/
theorem takeCopy_some {okA okB : Bool} {copyA copyB : Option Arrival} {a : Arrival}
    (h : (okA = true ∧ copyA = some a ∧ (¬ okB = true ∨ copyA.map (·.data) = copyB.map (·.data)))
      ∨ (¬ okA = true ∧ okB = true ∧ copyB = some a)) : ∃ ch, (takeCopy okA okB copyA copyB).1 = some (a, ch) := by
  obtain ⟨hA, hcopy, hB | hsame⟩ | ⟨hA, hB, hcopy⟩ := h
  · rw [hA, Bool.eq_false_iff.mpr hB, hcopy]
    exact ⟨true, rfl⟩
  · subst hA
    cases okB
    · rw [hcopy]
      exact ⟨true, rfl⟩
    · refine ⟨true, ?_⟩
      simp only [takeCopy, if_pos hsame]
      rw [hcopy]
      rfl
  · rw [Bool.eq_false_iff.mpr hA, hB, hcopy]
    exact ⟨false, rfl⟩

/-! ## The node -/

/-- A node that has an uplink taken: written, admitted by its turn, heard. -/
def heardNode (b : NodeBlk) (u : Uplink) (cyc : Nat) (dev : Int) : NodeBlk :=
  { admitStep (writeMailbox b { u with admitted := b.state = .admitted }) with
    heard := true, lastValid := some cyc, dev := some dev }

/-- The states that an uplink leaves as they are (R231, R232). -/
def settled (st : NodeState) : Prop := st = .admitted ∨ st = .refused ∨ st = .notConfigured

theorem admitStep_settled {b : NodeBlk} (h : settled b.state) : admitStep b = b := by
  unfold admitStep
  obtain h | h | h := h
  all_goals rw [h]

theorem admitStep_admits {b : NodeBlk} (h : ¬ settled b.state) (hclean : 1 ≤ b.clean) :
    admitStep b = { beforeAdmission b with state := .admitted, wasDropped := false, altCfg := none
                                           cfgId := if b.altCfg.isSome then b.ranCfg else b.cfgId } := by
  unfold admitStep
  split
  next hs => exact absurd (.inl hs) h
  next hs => exact absurd (.inr (.inl hs)) h
  next hs => exact absurd (.inr (.inr hs)) h
  · exact if_pos hclean

theorem admitStep_first {b : NodeBlk} (h : ¬ settled b.state) (hclean : b.clean = 0) :
    admitStep b = { b with state := .oneClean, wasDropped := b.wasDropped || b.state = .dropped } := by
  unfold admitStep
  split
  next hs => exact absurd (.inl hs) h
  next hs => exact absurd (.inr (.inl hs)) h
  next hs => exact absurd (.inr (.inr hs)) h
  · exact if_neg (by omega)

/-- Buffer that the most recent uplink stands in. -/
def latestBuf (b : NodeBlk) : Option Uplink := if b.latest = 0 then b.buf0 else b.buf1

/-- The uplink goes to the buffer that is not frozen; the frozen one stays (R54). -/
theorem writeMailbox_buffers (b : NodeBlk) (u : Uplink) : (writeMailbox b u).latest ≠ (writeMailbox b u).frozen
    ∧ latestBuf (writeMailbox b u) = some u ∧ frozenBuf (writeMailbox b u) = frozenBuf b := by
  unfold writeMailbox
  by_cases h : b.frozen = 0
  · rw [if_pos h]
    simp [latestBuf, frozenBuf, h]
  · rw [if_neg h]
    simp [latestBuf, frozenBuf, h]
    exact fun e => h e.symm

/-- What no uplink changes beyond its buffer: the account of the cycle and the frozen pointer. -/
theorem writeMailbox_keeps (b : NodeBlk) (u : Uplink) : (writeMailbox b u).frozen = b.frozen
    ∧ (writeMailbox b u).nowA = b.nowA ∧ (writeMailbox b u).nowB = b.nowB
    ∧ (writeMailbox b u).state = b.state ∧ (writeMailbox b u).clean = b.clean ∧ (writeMailbox b u).node = b.node := by
  unfold writeMailbox
  split <;> exact ⟨rfl, rfl, rfl, rfl, rfl, rfl⟩

theorem admitStep_keeps (b : NodeBlk) : (admitStep b).frozen = b.frozen ∧ (admitStep b).latest = b.latest
    ∧ (admitStep b).nowA = b.nowA ∧ (admitStep b).nowB = b.nowB ∧ (admitStep b).node = b.node := by
  by_cases hs : settled b.state
  · rw [admitStep_settled hs]
    exact ⟨rfl, rfl, rfl, rfl, rfl⟩
  · obtain hclean | hclean := Nat.eq_zero_or_pos b.clean
    · rw [admitStep_first hs hclean]
      exact ⟨rfl, rfl, rfl, rfl, rfl⟩
    · rw [admitStep_admits hs hclean]
      exact ⟨rfl, rfl, rfl, rfl, rfl⟩

/-- An uplink received before the admission (R98). -/
def asBefore (u : Uplink) : Uplink := { u with admitted := false }

theorem beforeAdmission_buffers (b : NodeBlk) :
    frozenBuf (beforeAdmission b) = (frozenBuf b).map asBefore ∧ latestBuf (beforeAdmission b) = (latestBuf b).map asBefore := by
  unfold frozenBuf latestBuf
  exact ⟨(apply_ite (Option.map asBefore) (b.frozen = 0) b.buf0 b.buf1).symm,
    (apply_ite (Option.map asBefore) (b.latest = 0) b.buf0 b.buf1).symm⟩

/-- The admission turns both buffers into uplinks from before it, and no other step touches them (R98). -/
theorem admitStep_buffers (b : NodeBlk) :
    (frozenBuf (admitStep b) = if (admitStep b).state = b.state ∨ (admitStep b).state ≠ .admitted then frozenBuf b
      else (frozenBuf b).map asBefore)
    ∧ (latestBuf (admitStep b) = latestBuf b ∨ (¬ settled b.state ∧ latestBuf (admitStep b) = (latestBuf b).map asBefore)) := by
  by_cases hs : settled b.state
  · rw [admitStep_settled hs]
    simp
  · obtain hclean | hclean := Nat.eq_zero_or_pos b.clean
    · rw [admitStep_first hs hclean, if_pos (.inr nofun)]
      exact ⟨rfl, .inl rfl⟩
    · have hfresh : ¬ (NodeState.admitted = b.state ∨ NodeState.admitted ≠ .admitted) := by
        simpa using fun h => hs (.inl h.symm)
      obtain ⟨hfrozen, hlatest⟩ := beforeAdmission_buffers b
      rw [admitStep_admits hs hclean, if_neg hfresh]
      exact ⟨hfrozen, .inr ⟨hs, hlatest⟩⟩

/-- What becomes of a node that has an uplink taken (R54, R98, R232, R234). -/
theorem heardNode_spec (b : NodeBlk) (u : Uplink) (cyc : Nat) (dev : Int) :
    (heardNode b u cyc dev).heard = true ∧ (heardNode b u cyc dev).nowA = b.nowA ∧ (heardNode b u cyc dev).nowB = b.nowB
    ∧ (heardNode b u cyc dev).lastValid = some cyc ∧ (heardNode b u cyc dev).dev = some dev
    ∧ (heardNode b u cyc dev).frozen = b.frozen ∧ (heardNode b u cyc dev).latest ≠ (heardNode b u cyc dev).frozen
    ∧ (frozenBuf (heardNode b u cyc dev)
        = if (heardNode b u cyc dev).state = b.state ∨ (heardNode b u cyc dev).state ≠ .admitted then frozenBuf b
          else (frozenBuf b).map asBefore)
    ∧ (∃ w, latestBuf (heardNode b u cyc dev) = some w ∧ w.cycle = u.cycle ∧ w.nstat = u.nstat ∧ w.lastF = u.lastF
        ∧ w.reports = u.reports ∧ (w.admitted = true ↔ b.state = .admitted))
    ∧ (settled b.state → (heardNode b u cyc dev).state = b.state)
    ∧ (¬ settled b.state →
        (1 ≤ b.clean → (heardNode b u cyc dev).state = .admitted ∧ (heardNode b u cyc dev).wasDropped = false)
        ∧ (b.clean = 0 → (heardNode b u cyc dev).state = .oneClean)) := by
  generalize hw : writeMailbox b { u with admitted := b.state = .admitted } = w
  obtain ⟨hapart, hlatest, hfrozen⟩ := writeMailbox_buffers b { u with admitted := b.state = .admitted }
  obtain ⟨kfrozen, knowA, knowB, kstate, kclean, -⟩ := writeMailbox_keeps b { u with admitted := b.state = .admitted }
  rw [hw] at hapart hlatest hfrozen kfrozen knowA knowB kstate kclean
  obtain ⟨afrozen, alatest, anowA, anowB, -⟩ := admitStep_keeps w
  obtain ⟨afrozenBuf, alatestBuf⟩ := admitStep_buffers w
  have hnode : heardNode b u cyc dev = { admitStep w with heard := true, lastValid := some cyc, dev := some dev } := by
    rw [heardNode, hw]
  rw [hnode]
  refine ⟨rfl, anowA.trans knowA, anowB.trans knowB, rfl, rfl, afrozen.trans kfrozen, ?_, ?_, ?_, ?_, ?_⟩
  · exact fun e => hapart (alatest ▸ afrozen ▸ e)
  · rw [← kstate, ← hfrozen]
    exact afrozenBuf
  · obtain h | ⟨hs, h⟩ := alatestBuf
    · exact ⟨_, h.trans hlatest, rfl, rfl, rfl, rfl, by simp⟩
    · refine ⟨_, h.trans (congrArg _ hlatest), rfl, rfl, rfl, rfl, ?_⟩
      exact ⟨fun e => absurd e Bool.false_ne_true, fun e => absurd (.inl (kstate.trans e)) hs⟩
  · intro hs
    rw [← kstate] at hs
    rw [admitStep_settled hs]
    exact kstate
  · intro hs
    rw [← kstate] at hs
    rw [← kclean]
    refine ⟨fun hclean => ?_, fun hclean => ?_⟩
    · rw [admitStep_admits hs hclean]
      exact ⟨rfl, rfl⟩
    · rw [admitStep_first hs hclean]

/-! ## The command -/

/-- The port once the copies have been judged: what is valid on each channel, and the errors. -/
def judged (v : State) (c : Cluster) (node : Nat) (okA okB : Bool) (eA eB : Nat) : State :=
  setFrn (setNode v c node fun b => { b with nowA := okA, nowB := okB }) c fun f =>
    { f with errA := if chanOn v c .a && chanOn v c .b then satAdd 65535 eA f.errA else f.errA
             errB := if chanOn v c .a && chanOn v c .b then satAdd 65535 eB f.errB else f.errB }

/-- The cycle that an uplink counts for (R355). -/
def uplinkCycle (f : FrnBlk) (a : Arrival) : Nat :=
  if f.state = .follow ∨ f.state = .followNoSync then fieldAt a.data 2 4 else f.cycle

/-- The port between the judgement and the mailbox: it has the uplink's cycle, and its mailboxes have been compared. -/
def compared (v : State) (c : Cluster) (node : Nat) (okA okB : Bool) (eA eB cyc : Nat) : State :=
  checkMailboxes (setFrn (judged v c node okA okB eA eB) c (numberCycle cyc)) c fun b => b.node == node

/-- What a mailbox takes of an uplink (R220). -/
def uplinkOf (d : NodeDef) (cyc : Nat) (a : Arrival) : Uplink :=
  { cycle := cyc, nstat := fieldAt a.data 6 2, lastF := fieldAt a.data 8 6, reports := reportsOf d.nel a.data }

/-- The port once an uplink has been taken. -/
def taken (v : State) (c : Cluster) (node : Nat) (d : NodeDef) (okA okB : Bool) (eA eB cyc : Nat) (a : Arrival) : State :=
  setNode (compared v c node okA okB eA eB cyc) c node fun b => heardNode b (uplinkOf d cyc a) cyc a.dev

section Command

variable {s : State} {c : Cluster} {node now : Nat} {b : NodeBlk} {d : NodeDef} {copyA copyB : Option Arrival} {okA okB : Bool}
variable {eA eB : Nat}
variable (hb : nodeOf? (later s now) c node = some b) (hd : ((later s now).mzp.bind fun st => stNode? st c node) = some d)
variable (hon : (frnOf (later s now) c).state ≠ .off)
variable (hA : validCopy (later s now) c .a d copyA = okA) (hB : validCopy (later s now) c .b d copyB = okB)

include hb hd hon hA hB

theorem uplink_none (h : takeCopy okA okB copyA copyB = (none, eA, eB)) :
    exec (.uplink c node copyA copyB now) s = .next (judged (later s now) c node okA okB eA eB) := by
  rw [validCopy] at hA hB
  simp only [exec, execUplink, hb, hd, if_neg hon, hA, hB, h]
  rfl

theorem uplink_some {a : Arrival} {ch : Bool} (h : takeCopy okA okB copyA copyB = (some (a, ch), eA, eB)) :
    exec (.uplink c node copyA copyB now) s = .next (taken (later s now) c node d okA okB eA eB (uplinkCycle (frnOf (later s now) c) a) a) := by
  rw [validCopy] at hA hB
  simp only [exec, execUplink, hb, hd, if_neg hon, hA, hB, h]
  rw [taken, uplinkCycle]
  simp only [Bool.or_eq_true, decide_eq_true_eq]
  rfl

end Command

/-- What an uplink may change of its port. -/
def portWith (k f : FrnBlk) : FrnBlk :=
  { f with errA := k.errA, errB := k.errB, cycle := k.cycle, nodes := k.nodes, guardA := k.guardA, guardB := k.guardB }

theorem setFrn_congr {v : State} {c : Cluster} {F G : FrnBlk → FrnBlk} (h : F (frnOf v c) = G (frnOf v c)) :
    setFrn v c F = setFrn v c G := by
  cases c with
  | c0 => exact congrArg (fun k => { v with frn0 := k }) h
  | c1 => exact congrArg (fun k => { v with frn1 := k }) h

theorem raiseFrame_portWith {v t : State} {c : Cluster} {k : FrnBlk}
    (h : RaiseFrame (setFrn v c (portWith k)) t) : RaiseFrame (setFrn v c (portWith (frnOf t c))) t := by
  rwa [setFrn_congr (G := portWith k)]
  rw [frnOf_of_raiseFrame h c, setFrn_same]
  rfl

theorem raiseFrame_setNode {v t : State} {c : Cluster} {k : FrnBlk} (h : RaiseFrame (setFrn v c (portWith k)) t) (n : Nat)
    (g : NodeBlk → NodeBlk) : RaiseFrame (setFrn v c (portWith (frnOf (setNode t c n g) c))) (setNode t c n g) := by
  refine raiseFrame_portWith (k := { k with nodes := updFirst (·.node == n) g k.nodes }) ?_
  unfold RaiseFrame at *
  cases c
  all_goals
    rw [h]
    rfl

theorem judged_eq (v : State) (c : Cluster) (node : Nat) (okA okB : Bool) (eA eB : Nat) :
    judged v c node okA okB eA eB = setFrn v c (portWith (frnOf (judged v c node okA okB eA eB) c)) := by
  cases c <;> rfl

theorem numbered_eq (v : State) (c : Cluster) (node : Nat) (okA okB : Bool) (eA eB n : Nat) :
    setFrn (judged v c node okA okB eA eB) c (numberCycle n)
      = setFrn v c (portWith (frnOf (setFrn (judged v c node okA okB eA eB) c (numberCycle n)) c)) := by
  cases c <;> rfl

theorem checkMailboxes_frame (s : State) (c : Cluster) (p : NodeBlk → Bool) : RaiseFrame s (checkMailboxes s c p) := by
  unfold checkMailboxes
  split
  · exact raise_frame _ _ _
  · exact RaiseFrame.refl s

/-- The source MAILBOX after an access: live before, or a mailbox of the access whose pointers' copies differ (R240). -/
theorem checkMailboxes_isLive (s : State) (c : Cluster) (p : NodeBlk → Bool) :
    isLive (checkMailboxes s c p) .frn (nAt c nMAILBOX) = true ↔
      isLive s .frn (nAt c nMAILBOX) = true ∨ ((frnOf s c).nodes.any fun b => p b && !mailboxAgrees b) = true := by
  unfold checkMailboxes
  split
  next h =>
    rw [show 8 * c.num + nMAILBOX = nAt c nMAILBOX from Nat.add_comm _ _, raise_isLive _ _ _ (nAt_lt c (by decide))]
    exact ⟨fun _ => .inr h, fun _ => rfl⟩
  next h =>
    rw [or_iff_left h]

theorem nodeOf?_judged_same {v : State} {c : Cluster} {node : Nat} {b : NodeBlk} (okA okB : Bool) (eA eB : Nat)
    (hb : nodeOf? v c node = some b) :
    nodeOf? (judged v c node okA okB eA eB) c node = some { b with nowA := okA, nowB := okB } := by
  rw [judged, nodeOf?, setFrn_same]
  exact nodeOf?_setNode_same (g := fun b => { b with nowA := okA, nowB := okB }) (fun _ => rfl) hb

theorem nodeOf?_judged_other (v : State) (c : Cluster) {node m : Nat} (okA okB : Bool) (eA eB : Nat) (hm : m ≠ node) :
    nodeOf? (judged v c node okA okB eA eB) c m = nodeOf? v c m := by
  rw [judged, nodeOf?, setFrn_same]
  exact nodeOf?_setNode_other (g := fun b => { b with nowA := okA, nowB := okB }) v c (fun _ => rfl) hm

theorem heardNode_node (b : NodeBlk) (u : Uplink) (cyc : Nat) (dev : Int) : (heardNode b u cyc dev).node = b.node := by
  obtain ⟨-, -, -, -, hnode⟩ := admitStep_keeps (writeMailbox b { u with admitted := b.state = .admitted })
  obtain ⟨-, -, -, -, -, hwrite⟩ := writeMailbox_keeps b { u with admitted := b.state = .admitted }
  exact hnode.trans hwrite

section Compared

variable (v : State) (c : Cluster) (node : Nat) (okA okB : Bool) (eA eB cyc : Nat)

theorem compared_frame : RaiseFrame (setFrn v c (portWith (frnOf (setFrn (judged v c node okA okB eA eB) c (numberCycle cyc)) c)))
    (compared v c node okA okB eA eB cyc) := by
  rw [← numbered_eq]
  exact checkMailboxes_frame _ _ _

theorem compared_cycle : (frnOf (compared v c node okA okB eA eB cyc) c).cycle = cyc := by
  rw [frnOf_of_raiseFrame (compared_frame v c node okA okB eA eB cyc) c, setFrn_same, setFrn_same]
  rfl

theorem compared_nodes (m : Nat) :
    nodeOf? (compared v c node okA okB eA eB cyc) c m = nodeOf? (judged v c node okA okB eA eB) c m := by
  refine nodeOf?_congr ?_ m
  rw [frnOf_of_raiseFrame (compared_frame v c node okA okB eA eB cyc) c, setFrn_same, setFrn_same]
  rfl

theorem compared_isLive : isLive (compared v c node okA okB eA eB cyc) .frn (nAt c nMAILBOX) = true ↔
    isLive v .frn (nAt c nMAILBOX) = true ∨ ∃ b ∈ (frnOf v c).nodes, b.node = node ∧ mailboxAgrees b = false := by
  rw [compared, checkMailboxes_isLive, isLive_congr (s := v) (by simp [judged, setNode])]
  refine or_congr_right ?_
  rw [show (frnOf (setFrn (judged v c node okA okB eA eB) c (numberCycle cyc)) c).nodes
    = updFirst (·.node == node) (fun b => { b with nowA := okA, nowB := okB }) (frnOf v c).nodes by cases c <;> rfl]
  rw [any_updFirst]
  · simp
  · exact fun _ => rfl

end Compared

/-! ## The outcome -/

/-- What the statement of the field cycles says of an uplink: `okA`, `okB` for the copies' validity, `same` for their bytes. -/
def UplinkOutcome (v t : State) (c : Cluster) (node : Nat) (b : NodeBlk) (d : NodeDef) (copyA copyB : Option Arrival)
    (okA okB same : Prop) : Prop :=
  (¬ okA ∧ ¬ okB ∨ (okA ∧ okB ∧ ¬ same) → (frnOf t c).cycle = (frnOf v c).cycle ∧ t.faults = v.faults
      ∧ ∃ k, nodeOf? t c node = some k ∧ (k.nowA = true ↔ okA) ∧ (k.nowB = true ↔ okB)
        ∧ k = { b with nowA := k.nowA, nowB := k.nowB })
  ∧ (okA → okB → ¬ same → chanOn v c .a = true → chanOn v c .b = true →
      (frnOf t c).errA = satAdd 65535 1 (frnOf v c).errA ∧ (frnOf t c).errB = satAdd 65535 1 (frnOf v c).errB)
  ∧ (∀ a : Arrival, (okA ∧ copyA = some a ∧ (¬ okB ∨ same)) ∨ (¬ okA ∧ okB ∧ copyB = some a) →
      ∃ k cyc, nodeOf? t c node = some k ∧ (frnOf t c).cycle = cyc
      ∧ cyc = (if (frnOf v c).state = .follow ∨ (frnOf v c).state = .followNoSync then fieldAt a.data 2 4 else (frnOf v c).cycle)
      ∧ (isLive v .frn (nAt c nMAILBOX) = true ∨ (∃ b ∈ (frnOf v c).nodes, b.node = node ∧ mailboxAgrees b = false) ↔
          isLive t .frn (nAt c nMAILBOX) = true)
      ∧ k.heard = true ∧ (k.nowA = true ↔ okA) ∧ (k.nowB = true ↔ okB) ∧ k.lastValid = some cyc ∧ k.dev = some a.dev
      ∧ k.frozen = b.frozen ∧ k.latest ≠ k.frozen
      ∧ frozenBuf k = (if k.state = b.state ∨ k.state ≠ .admitted then frozenBuf b
          else (frozenBuf b).map fun u => { u with admitted := false })
      ∧ (∃ u, (if k.latest = 0 then k.buf0 else k.buf1) = some u ∧ u.cycle = cyc ∧ u.nstat = fieldAt a.data 6 2
          ∧ u.lastF = fieldAt a.data 8 6 ∧ u.reports = reportsOf d.nel a.data
          ∧ (u.admitted = true ↔ b.state = .admitted))
      ∧ (b.state = .admitted ∨ b.state = .refused ∨ b.state = .notConfigured → k.state = b.state)
      ∧ (b.state ≠ .admitted → b.state ≠ .refused → b.state ≠ .notConfigured →
          (1 ≤ b.clean → k.state = .admitted ∧ k.wasDropped = false) ∧ (b.clean = 0 → k.state = .oneClean)))
  ∧ (∀ m, m ≠ node → nodeOf? t c m = nodeOf? v c m)
  ∧ RaiseFrame (setFrn v c fun f =>
      { f with errA := (frnOf t c).errA, errB := (frnOf t c).errB, cycle := (frnOf t c).cycle, nodes := (frnOf t c).nodes
               guardA := (frnOf t c).guardA, guardB := (frnOf t c).guardB }) t

theorem judged_outcome {v : State} {c : Cluster} {node : Nat} {b : NodeBlk} (d : NodeDef) {copyA copyB : Option Arrival}
    {okA okB : Bool} {eA eB : Nat} (hb : nodeOf? v c node = some b) (h : takeCopy okA okB copyA copyB = (none, eA, eB)) :
    UplinkOutcome v (judged v c node okA okB eA eB) c node b d copyA copyB (okA = true) (okB = true)
      (copyA.map (·.data) = copyB.map (·.data)) := by
  refine ⟨fun _ => ⟨?_, ?_, _, nodeOf?_judged_same okA okB eA eB hb, Iff.rfl, Iff.rfl, rfl⟩, ?_, ?_, ?_, ?_⟩
  · rw [judged_eq, setFrn_same]
    cases c <;> rfl
  · simp [judged, setNode]
  · intro hA hB hdiffer honA honB
    subst hA hB
    rw [takeCopy_differ hdiffer] at h
    cases h
    rw [judged, setFrn_same]
    simp only [honA, honB]
    cases c <;> exact ⟨rfl, rfl⟩
  · intro a ha
    obtain ⟨ch, hsome⟩ := takeCopy_some ha
    rw [h] at hsome
    cases hsome
  · exact fun m hm => nodeOf?_judged_other v c okA okB eA eB hm
  · exact (congrArg (RaiseFrame · _) (judged_eq v c node okA okB eA eB)).mp (RaiseFrame.refl _)

theorem taken_outcome {v : State} {c : Cluster} {node : Nat} {b : NodeBlk} (d : NodeDef) {copyA copyB : Option Arrival}
    {okA okB : Bool} {eA eB : Nat} {a : Arrival} {ch : Bool} (hb : nodeOf? v c node = some b)
    (h : takeCopy okA okB copyA copyB = (some (a, ch), eA, eB)) {cyc : Nat} (hcyc : cyc = uplinkCycle (frnOf v c) a) :
    UplinkOutcome v (taken v c node d okA okB eA eB cyc a) c node b d copyA copyB (okA = true) (okB = true)
      (copyA.map (·.data) = copyB.map (·.data)) := by
  have hsome : (takeCopy okA okB copyA copyB).1 = some (a, ch) := by rw [h]
  have hnode := nodeOf?_setNode_same (fun b => heardNode_node b (uplinkOf d cyc a) cyc a.dev)
    ((compared_nodes v c node okA okB eA eB cyc node).trans (nodeOf?_judged_same okA okB eA eB hb))
  obtain ⟨hheard, hnowA, hnowB, hvalid, hdev, hfrozen, hapart, hfrozenBuf, hlatest, hsettled, hadmit⟩ :=
    heardNode_spec { b with nowA := okA, nowB := okB } (uplinkOf d cyc a) cyc a.dev
  refine ⟨fun hnone => ?_, fun hA hB hdiffer => ?_, fun a' ha' => ?_, fun m hm => ?_, ?_⟩
  · rw [takeCopy_none hnone] at hsome
    cases hsome
  · subst hA hB
    rw [takeCopy_differ hdiffer] at h
    cases h
  · obtain ⟨ch', hsome'⟩ := takeCopy_some ha'
    rw [hsome] at hsome'
    cases hsome'
    refine ⟨_, cyc, hnode, ?_, hcyc, ?_, hheard, hnowA ▸ Iff.rfl, hnowB ▸ Iff.rfl, hvalid, hdev, hfrozen, hapart, hfrozenBuf,
      hlatest, hsettled, ?_⟩
    · rw [taken, setNode_same]
      exact compared_cycle v c node okA okB eA eB cyc
    · rw [taken, isLive_congr (setNode_faults (compared v c node okA okB eA eB cyc) c node _)]
      exact (compared_isLive v c node okA okB eA eB cyc).symm
    · exact fun h1 h2 h3 => hadmit fun hs => hs.elim h1 fun hs => hs.elim h2 h3
  · exact (nodeOf?_setNode_other _ c (fun b => heardNode_node b (uplinkOf d cyc a) cyc a.dev) hm).trans
      ((compared_nodes v c node okA okB eA eB cyc m).trans (nodeOf?_judged_other v c okA okB eA eB hm))
  · exact raiseFrame_setNode (compared_frame v c node okA okB eA eB cyc) node _

/-- UPLINK on a port that is not off. -/
theorem uplink_outcome {s : State} {c : Cluster} {node now : Nat} {b : NodeBlk} {d : NodeDef} (copyA copyB : Option Arrival)
    (hb : nodeOf? (later s now) c node = some b) (hd : ((later s now).mzp.bind fun st => stNode? st c node) = some d)
    (hon : (frnOf (later s now) c).state ≠ .off) : ∃ t, exec (.uplink c node copyA copyB now) s = .next t
      ∧ UplinkOutcome (later s now) t c node b d copyA copyB
        (linkOn (later s now) c .a = true ∧ ∃ a, copyA = some a ∧ uplinkOk (later s now) c d a = true)
        (linkOn (later s now) c .b = true ∧ ∃ a, copyB = some a ∧ uplinkOk (later s now) c d a = true)
        (copyA.map (·.data) = copyB.map (·.data)) := by
  rw [← validCopy_iff, ← validCopy_iff]
  generalize hA : validCopy (later s now) c .a d copyA = okA
  generalize hB : validCopy (later s now) c .b d copyB = okB
  rcases hcopy : takeCopy okA okB copyA copyB with ⟨copy, eA, eB⟩
  cases copy with
  | none => exact ⟨_, uplink_none hb hd hon hA hB hcopy, judged_outcome d hb hcopy⟩
  | some p => exact ⟨_, uplink_some hb hd hon hA hB hcopy, taken_outcome d hb hcopy rfl⟩

end Sys2Proof.Proofs.Uplinks

/-! PROOFS. What a port transmits at a cycle start (R215 to R219, R223, R225, R231, R233). -/

namespace Sys2Proof.Proofs.FieldTransmissions

open Sys2Proof Sys2Proof.Machine Sys2Proof.Safety Sys2Proof.Proofs.Frames Sys2Proof.Proofs.FieldPorts Sys2Proof.Proofs.FieldSteps
open Sys2Proof.Proofs.Uplinks

/-- A node but for its state. -/
def stateless (b : NodeBlk) : NodeBlk := { b with state := .absent }

/-- `t` follows `s` by transmissions of a cluster's port and by the steps of its ranging: what has left stays, a silent port
sends nothing, and of the port only the ranging and its nodes' states change. -/
structure Speaks (c : Cluster) (s t : State) : Prop where
  sent : s.sent <+: t.sent
  silent : (frnOf s c).mute = true → t.sent = s.sent
  port : frnOf t c = { frnOf s c with
    askA := (frnOf t c).askA, askB := (frnOf t c).askB, rangedA := (frnOf t c).rangedA, rangedB := (frnOf t c).rangedB
    sweepA := (frnOf t c).sweepA, sweepB := (frnOf t c).sweepB, nodes := (frnOf t c).nodes }
  nodes : (frnOf t c).nodes.map stateless = (frnOf s c).nodes.map stateless
  rest : t = { s with frn0 := t.frn0, frn1 := t.frn1, sent := t.sent, free := t.free
                      dpx := { s.dpx with takeCycles := t.dpx.takeCycles } }

theorem Speaks.mute {c : Cluster} {s t : State} (h : Speaks c s t) : (frnOf t c).mute = (frnOf s c).mute := by
  rw [h.port]

theorem Speaks.trans {c : Cluster} {s t u : State} (h : Speaks c s t) (g : Speaks c t u) : Speaks c s u where
  sent := h.sent.trans g.sent
  silent hm := (g.silent (h.mute.trans hm)).trans (h.silent hm)
  port := by
    rw [g.port, h.port]
  nodes := g.nodes.trans h.nodes
  rest := by
    rw [g.rest, h.rest]

/-- What leaves the port and the queue of what was sent as they were. -/
theorem Speaks.of_same {c : Cluster} {s t : State} (hsent : t.sent = s.sent) (hport : frnOf t c = frnOf s c)
    (hrest : t = { s with frn0 := t.frn0, frn1 := t.frn1, sent := t.sent, free := t.free
                          dpx := { s.dpx with takeCycles := t.dpx.takeCycles } }) : Speaks c s t where
  sent := ⟨[], by rw [hsent, List.append_nil]⟩
  silent _ := hsent
  port := by rw [hport]
  nodes := by rw [hport]
  rest := hrest

theorem Speaks.refl (c : Cluster) (s : State) : Speaks c s s := .of_same rfl rfl rfl

/-- A step of the ranging. -/
theorem speaks_setFrn {c : Cluster} {s : State} {F : FrnBlk → FrnBlk} (hport : F (frnOf s c) = { frnOf s c with
    askA := (F (frnOf s c)).askA, askB := (F (frnOf s c)).askB, rangedA := (F (frnOf s c)).rangedA
    rangedB := (F (frnOf s c)).rangedB, sweepA := (F (frnOf s c)).sweepA, sweepB := (F (frnOf s c)).sweepB
    nodes := (F (frnOf s c)).nodes })
    (hnodes : (F (frnOf s c)).nodes.map stateless = (frnOf s c).nodes.map stateless) : Speaks c s (setFrn s c F) where
  sent := ⟨[], by rw [setFrn_sent, List.append_nil]⟩
  silent _ := setFrn_sent s c F
  port := by
    rw [setFrn_same]
    exact hport
  nodes := by rwa [setFrn_same]
  rest := by cases c <;> rfl

theorem sendOn_speaks (s : State) (c : Cluster) (ch : Chan) (data : Bytes) : Speaks c s (sendOn s c ch data) := by
  unfold sendOn
  dsimp only
  split
  · exact .refl c s
  next h =>
    simp only [not_or] at h
    obtain ⟨-, hmute, -⟩ := h
    exact ⟨⟨_, rfl⟩, fun hm => absurd hm hmute, by cases c <;> rfl, by cases c <;> rfl, rfl⟩

theorem sendBoth_speaks (s : State) (c : Cluster) (data : Chan → Bytes) : Speaks c s (sendBoth s c data) :=
  (sendOn_speaks s c .a _).trans (sendOn_speaks _ c .b _)

theorem foldl_speaks {α : Type} {c : Cluster} {f : State → α → State} (hf : ∀ s a, Speaks c s (f s a)) (l : List α) (s : State) :
    Speaks c s (l.foldl f s) := by
  induction l generalizing s with
  | nil => exact .refl c s
  | cons a l ih => exact (hf s a).trans (ih _)

theorem sendDownlink_speaks (s : State) (c : Cluster) : Speaks c s (sendDownlink s c) := by
  have hfree : Speaks c s { s with free := s.free + 2 } := .of_same rfl (by cases c <;> rfl) rfl
  unfold sendDownlink
  dsimp only
  split
  · exact hfree.trans (foldl_speaks (fun s m => sendBoth_speaks s c _) _ _)
  · exact foldl_speaks (fun s m => sendBoth_speaks s c _) _ _

theorem sendCycle_speaks (s : State) (c : Cluster) : Speaks c s (sendCycle s c) := by
  unfold sendCycle
  split
  · exact .refl c s
  · exact sendDownlink_speaks s c
  all_goals exact sendBoth_speaks s c _

theorem sendRanged_speaks (s : State) (c : Cluster) (ch : Chan) : Speaks c s (sendRanged s c ch) := by
  unfold sendRanged
  dsimp only
  split
  · exact .refl c s
  · refine (sendOn_speaks s c ch _).trans (speaks_setFrn ?_ ?_)
    all_goals cases ch <;> rfl

theorem setState_speaks (s : State) (c : Cluster) (n : Nat) (g : NodeBlk → NodeState) :
    Speaks c s (setNode s c n fun b => { b with state := g b }) :=
  speaks_setFrn rfl (map_updFirst (g := fun b : NodeBlk => { b with state := g b }) _ (fun _ => rfl) _)

/-- The port once a party has been asked on a channel (R231). -/
def asked (ch : Chan) (p : Party) (cyc : Nat) (f : FrnBlk) : FrnBlk :=
  match ch with
  | .a => { f with askA := some (p, cyc), sweepA := some p }
  | .b => { f with askB := some (p, cyc), sweepB := some p }

theorem asked_speaks (s : State) (c : Cluster) (ch : Chan) (p : Party) (cyc : Nat) : Speaks c s (setFrn s c (asked ch p cyc)) := by
  refine speaks_setFrn ?_ ?_
  all_goals cases ch <;> rfl

theorem askRange_speaks (s : State) (c : Cluster) (ch : Chan) : Speaks c s (askRange s c ch) := by
  unfold askRange
  dsimp only
  split
  · exact .refl c s
  · split
    · exact .refl c s
    next p _ =>
      have hsent := (sendOn_speaks s c ch (dynamicBytes s c 0xC3 p ch [])).trans (asked_speaks _ c ch p (frnOf s c).cycle)
      split
      · exact hsent
      · exact hsent.trans (setState_speaks _ c _ fun b => if b.state = .absent then .ranging else b.state)

/-! ## What the frames show -/

theorem Speaks.cycle {c : Cluster} {s t : State} (h : Speaks c s t) : (frnOf t c).cycle = (frnOf s c).cycle := by
  rw [h.port]

theorem Speaks.msw {c : Cluster} {s t : State} (h : Speaks c s t) : msw t = msw s := by
  rw [h.rest]
  rfl

theorem Speaks.cfg {c : Cluster} {s t : State} (h : Speaks c s t) : t.cfg = s.cfg := by
  rw [h.rest]

theorem Speaks.header {c : Cluster} {s t : State} (h : Speaks c s t) (ty slot mlen : Nat) :
    transportHeader t c ty slot mlen = transportHeader s c ty slot mlen := by
  rw [transportHeader, transportHeader, h.cycle, h.msw]

theorem Speaks.syncBytes {c : Cluster} {s t : State} (h : Speaks c s t) (slot : Nat) : syncBytes t c slot = syncBytes s c slot := by
  rw [Machine.syncBytes, Machine.syncBytes, h.header]

/-- The withdrawal map does not show the nodes' states (R219). -/
theorem Speaks.wmap {c : Cluster} {s t : State} (h : Speaks c s t) : wmapBytes (frnOf t c) = wmapBytes (frnOf s c) := by
  have hmap := congrArg (List.map fun b : NodeBlk =>
    if b.withdrawn ∧ 16 ≤ b.node ∧ b.node ≤ 255 then 2 ^ (255 - b.node) else 0) h.nodes
  rw [List.map_map, List.map_map] at hmap
  exact congrArg (fun l : List Nat => be 30 (l.foldl (· + ·) 0)) hmap

theorem Speaks.downlinkBytes {c : Cluster} {s t : State} (h : Speaks c s t) (m : DlMsg) :
    downlinkBytes t c m = downlinkBytes s c m := by
  rw [Machine.downlinkBytes, Machine.downlinkBytes, h.cfg, h.wmap, h.header]

/-! ## What leaves -/

/-- A channel that carries what its port sends. -/
structure Open (c : Cluster) (ch : Chan) (s : State) : Prop where
  link : linkOn s c ch = true
  guardian : (guardOf (frnOf s c) ch).state = .run
  loud : (frnOf s c).mute = false

theorem Open.speaks {c : Cluster} {ch : Chan} {s t : State} (h : Open c ch s) (g : Speaks c s t) : Open c ch t where
  link := by
    rw [g.rest]
    exact h.link
  guardian := by
    rw [guardOf_congr (f := frnOf s c) (by rw [g.port]) (by rw [g.port])]
    exact h.guardian
  loud := g.mute.trans h.loud

/-- What a port may send in a state: nothing while off, its sync frame only while it follows (R223). -/
def sends (st : PortSt) (data : Bytes) : Prop :=
  st ≠ .off ∧ (st = .follow ∨ st = .followNoSync → fieldAt data 0 1 = 0xA2)

theorem sendOn_mem {c : Cluster} {ch : Chan} {s : State} {data : Bytes} (h : Open c ch s) (hst : sends (frnOf s c).state data) :
    .field c ch data ∈ (sendOn s c ch data).sent := by
  obtain ⟨hlink, hguard, hloud⟩ := h
  obtain ⟨hon, hsync⟩ := hst
  have hopen : ¬ ((frnOf s c).state = .off ∨ (frnOf s c).mute = true
      ∨ (((frnOf s c).state = .follow || (frnOf s c).state = .followNoSync) && fieldAt data 0 1 != 0xA2) = true
      ∨ (!linkOn s c ch) = true ∨ (guardOf (frnOf s c) ch).state ≠ .run) := by
    simpa [hon, hloud, hlink, hguard] using hsync
  unfold sendOn
  dsimp only
  rw [if_neg hopen]
  exact List.mem_append_right _ (List.mem_singleton_self _)

theorem sendBoth_mem {c : Cluster} {ch : Chan} {s : State} {data : Chan → Bytes} (h : Open c ch s)
    (hst : sends (frnOf s c).state (data ch)) : .field c ch (data ch) ∈ (sendBoth s c data).sent := by
  cases ch with
  | a => exact (sendOn_speaks _ c .b _).sent.subset (sendOn_mem h hst)
  | b =>
    have hfirst := sendOn_speaks s c .a (data .a)
    refine sendOn_mem (h.speaks hfirst) ?_
    rwa [hfirst.port]

theorem foldl_downlink_mem {c : Cluster} {ch : Chan} {s : State} {m : DlMsg} {ms : List DlMsg} (h : Open c ch s)
    (hrun : (frnOf s c).state = .run) (hm : m ∈ ms) : .field c ch (downlinkBytes s c m)
      ∈ (ms.foldl (fun s m => sendBoth s c fun _ => downlinkBytes s c m) s).sent := by
  induction ms generalizing s with
  | nil => cases hm
  | cons x ms ih =>
    have hfirst := sendBoth_speaks s c fun _ => downlinkBytes s c x
    rw [List.foldl_cons]
    obtain rfl | hm := List.mem_cons.mp hm
    · refine (foldl_speaks (fun s m => sendBoth_speaks s c _) ms _).sent.subset (sendBoth_mem h ?_)
      rw [hrun]
      exact ⟨nofun, fun hfollow => hfollow.elim nofun nofun⟩
    · have hlater := ih (h.speaks hfirst) (by rwa [hfirst.port]) hm
      rwa [hfirst.downlinkBytes m] at hlater

theorem sendCycle_run_mem {c : Cluster} {ch : Chan} {s : State} {m : DlMsg} (h : Open c ch s) (hrun : (frnOf s c).state = .run)
    (hm : m ∈ (frnOf s c).current) : .field c ch (downlinkBytes s c m) ∈ (sendCycle s c).sent := by
  have hsome : (frnOf s c).current.isEmpty = false := by
    rw [List.isEmpty_eq_false_iff]
    exact List.ne_nil_of_mem hm
  simp only [sendCycle, hrun, sendDownlink, hsome]
  exact foldl_downlink_mem h hrun hm

/-- The slot of the sync frames that a state sends (R223, R230). -/
theorem sendCycle_sync {c : Cluster} {s : State} :
    ((frnOf s c).state = .syncOnly → sendCycle s c = sendBoth s c fun _ => syncBytes s c 0)
    ∧ ((frnOf s c).state = .follow ∨ (frnOf s c).state = .followNoSync → sendCycle s c = sendBoth s c fun _ => syncBytes s c 0xFF) := by
  refine ⟨fun h => ?_, fun h => ?_⟩
  · rw [sendCycle, h]
  · obtain h | h := h
    all_goals rw [sendCycle, h]

theorem syncBytes_kind (s : State) (c : Cluster) (slot : Nat) : fieldAt (syncBytes s c slot) 0 1 = 0xA2 := rfl

end Sys2Proof.Proofs.FieldTransmissions

/-! PROOFS. The start of a field cycle (R177, R209, R211, R219, R225, R230 to R233, R240, R352, R355). -/

namespace Sys2Proof.Proofs.FieldCycles

open Sys2Proof Sys2Proof.Machine Sys2Proof.Safety Sys2Proof.Proofs.Frames Sys2Proof.Proofs.FieldPorts Sys2Proof.Proofs.FieldSteps
open Sys2Proof.Proofs.Uplinks Sys2Proof.Proofs.FieldTransmissions

/-! ## Mailboxes -/

/-- A node but for the pointers of its mailbox. -/
def pointerless (b : NodeBlk) : NodeBlk := { b with frozen := 0, frozenN := 0, latest := 0, latestN := 0 }

theorem upsetMailboxes_nodes (env : CycleEnv) (c : Cluster) (s : State) :
    ∃ ns, ns.map pointerless = (frnOf s c).nodes.map pointerless
      ∧ upsetMailboxes env c s = setFrn s c fun f => { f with nodes := ns } := by
  unfold upsetMailboxes
  induction env.mailbox generalizing s with
  | nil => exact ⟨_, rfl, by cases c <;> rfl⟩
  | cons e es ih =>
    rw [List.foldl_cons]
    generalize hg : (fun b : NodeBlk => match e.2 with
      | (true, true) => { b with frozenN := 1 - b.frozenN }
      | (true, false) => { b with frozen := 1 - b.frozen }
      | (false, true) => { b with latestN := 1 - b.latestN }
      | (false, false) => { b with latest := 1 - b.latest }) = g
    have hblind : ∀ b, pointerless (g b) = pointerless b := by
      intro b
      rw [← hg]
      dsimp only
      split <;> rfl
    obtain ⟨ns, hns, heq⟩ := ih (setNode s c e.1 g)
    rw [setNode_same] at hns
    refine ⟨ns, hns.trans (map_updFirst _ hblind _), heq.trans ?_⟩
    cases c <;> rfl

theorem silenceSpared_congr {f : FrnBlk} {ns : List NodeBlk} (h : ns.map pointerless = f.nodes.map pointerless) :
    silenceSpared { f with nodes := ns } = silenceSpared f := by
  have hheard : admittedHeard { f with nodes := ns } = admittedHeard f :=
    any_of_map_eq h fun b => b.state = .admitted && b.heard
  rw [silenceSpared, silenceSpared, hheard]

/-! ## The end of the cycle before -/

/-- The port at the end of a cycle, before its sources are evaluated. -/
def closedPort (env : CycleEnv) (one silent : Nat) (spared : Bool) (f : FrnBlk) : FrnBlk :=
  { f with oneChan := one, silent := silent, nodes := f.nodes.map (closeNode spared)
           partnerPrev := f.partnerSync, partnerSync := none
           guardA := guardCycle (env.tableBad.contains .a) (!f.mute) f.guardA
           guardB := guardCycle (env.tableBad.contains .b) (!f.mute) f.guardB }

/-- Sources of a cluster evaluated, one after another. -/
structure Evaluates (c : Cluster) (s t : State) : Prop where
  frame : RaiseFrame s t
  stops : StopsOnly c s t

theorem Evaluates.trans {c : Cluster} {s t u : State} (h : Evaluates c s t) (g : Evaluates c t u) : Evaluates c s u :=
  ⟨h.frame.trans g.frame, h.stops.trans g.stops⟩

theorem Evaluates.refl (c : Cluster) (s : State) : Evaluates c s s := ⟨RaiseFrame.refl s, .refl c s⟩

theorem Evaluates.live {c : Cluster} {s t : State} (h : Evaluates c s t) (n : Nat) (on : Bool) :
    Evaluates c s (setLive t .frn n on) :=
  h.trans ⟨setLive_frame t .frn n on, setLive_stopsOnly c t n on⟩

/-- A source keeps its live bit when another one of its block is evaluated. -/
theorem setLive_keeps_other {s : State} {b : Blk} {n k : Nat} (on : Bool) (hk : k < 16) (hne : n ≠ k)
    (h : isLive s b k = true) : isLive (setLive s b n on) b k = true := by
  cases on
  · rw [isLive] at h
    have hbit : (srcBit n)[k] = false := by
      rw [← BitVec.getLsbD_eq_getElem hk, srcBit_get _ _ hk]
      exact decide_eq_false hne
    simp [setLive, isLive, lower, h, hbit, hk]
  · exact raise_keeps_live h

theorem takeGood_ite (s : State) (p : Prop) [Decidable p] (n : Nat) :
    (if p then { s with dpx := { s.dpx with takeGood := n } } else s)
      = { s with dpx := { s.dpx with takeGood := if p then n else s.dpx.takeGood } } := by
  split <;> rfl

/-- The sources of a cluster that every cycle evaluates (R233, R240, R326). -/
def evaluated (env : CycleEnv) (c : Cluster) (f : FrnBlk) (one silent : Nat) (s1 : State) : State :=
  let s2 := setLive s1 .frn (nAt c nCHANNEL) (3 ≤ one)
  let s3 := setLive s2 .frn (nAt c nCLUSTER_DOWN) (3 ≤ silent)
  let s4 := setLive s3 .frn (nAt c nDROPOUT) ((frnOf s3 c).nodes.any (·.state = .dropped))
  let s5 := setLive (setLive s4 .frn (nAt c nGUARDIAN) (f.guardA.cut || f.guardB.cut)) .frn (nAt c nSCHEDULE) env.scheduleBad
  if f.cycle % 16 = 15 then setLive s5 .frn (nAt c nADMIT_FAIL) (f.refusedAt = some f.cycle) else s5

theorem closeCycle_eq (env : CycleEnv) (s : State) (c : Cluster) : ∃ one silent good,
    closeCycle env s c = evaluated env c (frnOf s c) one silent (setFrn { s with dpx := { s.dpx with takeGood := good } } c
      (closedPort env one silent (silenceSpared (frnOf s c)))) := by
  unfold closeCycle
  dsimp only
  rw [takeGood_ite]
  exact ⟨_, _, _, rfl⟩

theorem evaluated_evaluates (env : CycleEnv) (c : Cluster) (f : FrnBlk) (one silent : Nat) (s : State) :
    Evaluates c s (evaluated env c f one silent s) := by
  unfold evaluated
  dsimp only
  split
  · exact ((((((Evaluates.refl c s).live _ _).live _ _).live _ _).live _ _).live _ _).live _ _
  · exact (((((Evaluates.refl c s).live _ _).live _ _).live _ _).live _ _).live _ _

theorem evaluated_schedule {env : CycleEnv} (h : env.scheduleBad = true) (c : Cluster) (f : FrnBlk) (one silent : Nat) (s : State) :
    isLive (evaluated env c f one silent s) .frn (nAt c nSCHEDULE) = true := by
  have hbit := nAt_lt c (n := nSCHEDULE) (by decide)
  have hne : nAt c nADMIT_FAIL ≠ nAt c nSCHEDULE := by cases c <;> decide
  unfold evaluated
  dsimp only
  rw [h]
  split
  · exact setLive_keeps_other _ hbit hne (setLive_isLive _ _ _ _ hbit)
  · exact setLive_isLive _ _ _ _ hbit

/-- The state after the cycle before has been closed. -/
structure Closed (env : CycleEnv) (c : Cluster) (s t : State) : Prop where
  port : ∃ one silent ns, ns.map pointerless = (frnOf s c).nodes.map pointerless
    ∧ frnOf t c = { closedPort env one silent (silenceSpared (frnOf s c)) { frnOf s c with nodes := ns } with
        fenced := (frnOf t c).fenced, back := (frnOf t c).back, stopPending := (frnOf t c).stopPending }
  stops : StopsOnly c s t
  schedule : env.scheduleBad = true → isLive t .frn (nAt c nSCHEDULE) = true
  now : t.now = s.now
  sent : t.sent = s.sent
  drainEnd : t.frm.drainEnd = s.frm.drainEnd
  link : ∀ ch, linkOn t c ch = linkOn s c ch

theorem closeCycle_closed (env : CycleEnv) (c : Cluster) (s : State) :
    Closed env c s (closeCycle env (upsetMailboxes env c s) c) := by
  obtain ⟨ns, hns, hupset⟩ := upsetMailboxes_nodes env c s
  obtain ⟨one, silent, good, hclose⟩ := closeCycle_eq env (upsetMailboxes env c s) c
  rw [hclose, hupset, setFrn_same, silenceSpared_congr hns]
  generalize hw : setFrn { setFrn s c (fun f => { f with nodes := ns }) with
    dpx := { (setFrn s c fun f => { f with nodes := ns }).dpx with takeGood := good } } c
      (closedPort env one silent (silenceSpared (frnOf s c))) = w
  obtain ⟨hframe, hstops⟩ := evaluated_evaluates env c { frnOf s c with nodes := ns } one silent w
  have hport : frnOf w c = closedPort env one silent (silenceSpared (frnOf s c)) { frnOf s c with nodes := ns } := by
    rw [← hw]
    cases c <;> rfl
  have hw0 : StopsOnly c s w := by
    refine .of_eq ?_ ?_ ?_ ?_
    all_goals
      rw [← hw]
      cases c <;> rfl
  have hschedule := fun h => evaluated_schedule (env := env) h c { frnOf s c with nodes := ns } one silent w
  generalize evaluated env c { frnOf s c with nodes := ns } one silent w = t at *
  refine ⟨⟨one, silent, ns, hns, ?_⟩, hw0.trans hstops, hschedule, ?_, ?_, ?_, ?_⟩
  · rw [← hport]
    exact frnOf_of_raiseFrame hframe c
  all_goals
    unfold RaiseFrame at hframe
    rw [hframe, ← hw]
    cases c <;> intros <;> rfl

end Sys2Proof.Proofs.FieldCycles

/-! PROOFS. The field cycle that starts: its port's state, what it sends, its guardians and its nodes' accounts; and the statement
about field cycles as a whole. -/

namespace Sys2Proof.Proofs.FieldCycles

open Sys2Proof Sys2Proof.Machine Sys2Proof.Safety Sys2Proof.Proofs.Frames Sys2Proof.Proofs.FieldPorts Sys2Proof.Proofs.FieldSteps
open Sys2Proof.Proofs.Uplinks Sys2Proof.Proofs.FieldTransmissions

/-! ## The port's turn -/

theorem portCycle_always {f : FrnBlk} (hbegun : f.begun = true) (gone : Bool) :
    (portCycle f gone).cycle = (f.cycle + 1) % 2 ^ 32 ∧ (portCycle f gone).goRun = false
      ∧ (portCycle f gone).stopPending = false ∧ (portCycle f gone).muteDue = false
      ∧ (portCycle f gone).mute = (!f.goRun && (f.mute || f.muteDue)) ∧ (portCycle f gone).fenced = f.fenced
      ∧ (portCycle f gone).guardA = f.guardA ∧ (portCycle f gone).guardB = f.guardB
      ∧ (portCycle f gone).nodes = f.nodes.map fun b =>
          { b with withdrawn := b.withdrawn || b.withdrawDue, withdrawDue := false } := by
  dsimp only [portCycle]
  rw [if_pos hbegun]
  exact ⟨rfl, rfl, rfl, rfl, rfl, rfl, rfl, rfl, rfl⟩

theorem portCycle_goRun {f : FrnBlk} (h : f.goRun = true) (gone : Bool) :
    (portCycle f gone).state = .run ∧ (portCycle f gone).runCycles = some 1 := by
  simp only [portCycle, h]
  exact ⟨rfl, rfl⟩

theorem portCycle_stops {f : FrnBlk} {gone : Bool} (hgo : f.goRun = false)
    (h : f.stopPending = true ∨ (gone = true ∧ f.isRoot = true)) :
    (portCycle f gone).state = .syncOnly ∧ (portCycle f gone).current = [] := by
  have hstop : (f.stopPending || (gone && f.isRoot)) = true := by simpa using h
  simp only [portCycle, hgo, hstop, if_true, Bool.false_eq_true, if_false]
  simp

theorem portCycle_follows {f : FrnBlk} (gone : Bool) (hstate : f.state = .follow ∨ f.state = .followNoSync)
    (hgo : f.goRun = false) (hstop : f.stopPending = false) :
    (portCycle f gone).state = .follow ∨ (portCycle f gone).state = .followNoSync := by
  have hroot : f.isRoot = false := by
    obtain h | h := hstate
    all_goals rw [FrnBlk.isRoot, h]; rfl
  have hgoes : (f.stopPending || (gone && f.isRoot)) = false := by rw [hstop, hroot, Bool.and_false]; rfl
  simp only [portCycle, hgo, hgoes, Bool.false_eq_true, if_false]
  obtain h | h := hstate
  all_goals
    rw [h]
    dsimp only
    split
    · exact .inl rfl
    · exact .inr rfl

theorem portCycle_runs {f : FrnBlk} (hstate : f.state = .run) (hstop : f.stopPending = false) :
    (portCycle f false).state = .run ∧ ((portCycle f false).current = f.current) := by
  simp only [portCycle, hstate, hstop]
  cases f.goRun <;> cases f.begun <;> exact ⟨rfl, rfl⟩

/-! ## The command -/

/-- The state once the port has taken its turn. -/
def turned (s : State) (c : Cluster) : State :=
  setFrn s c fun f => { portCycle f (gaveUp s) with cycleAt := s.now }

/-- A cycle start of a port that has begun: from `v` the cycle before is closed (`s1`), the port takes its turn and counts
(`s3`), it sends, and the ranging goes on (`t`). -/
structure CycleStart (env : CycleEnv) (c : Cluster) (v s1 s3 t : State) : Prop where
  closed : Closed env c v s1
  begun : (frnOf v c).begun = true
  turn : Speaks c (turned s1 c) s3
  ranging : Speaks c (sendCycle s3 c) t

theorem fieldCycleStart_off {s : State} {c : Cluster} {env : CycleEnv} (h : (frnOf (later s env.now) c).state = .off) :
    exec (.fieldCycleStart c env) s = .next (upsetMailboxes env c (later s env.now)) := by
  obtain ⟨ns, -, hupset⟩ := upsetMailboxes_nodes env c (later s env.now)
  simp only [exec, execFieldCycleStart]
  refine if_pos ?_
  rw [hupset, setFrn_same]
  exact h

/-- The cycles of a takeover that its port has run (R354). -/
def counted (s : State) (c : Cluster) : State :=
  if s.dpx.takeAt.isSome && (frnOf s c).state = .run && (c = .c0 || s.frn0.state = .off) then
    { s with dpx := { s.dpx with takeCycles := s.dpx.takeCycles + 1 } }
  else s

theorem counted_speaks (c : Cluster) (s : State) : Speaks c s (counted s c) := by
  unfold counted
  split
  · exact .of_same rfl (by cases c <;> rfl) rfl
  · exact .refl c s

/-- The ranging of a cycle start (R231). -/
theorem exists_ranging (c : Cluster) (s : State) (asks : Bool) (q : State → Prop) [∀ u, Decidable (q u)] :
    ∃ t, (if asks then
        if q (sendRanged (sendRanged s c .a) c .b) then
          .next (askRange (askRange (sendRanged (sendRanged s c .a) c .b) c .a) c .b)
        else .next (sendRanged (sendRanged s c .a) c .b)
      else .next s : Out) = .next t ∧ Speaks c s t := by
  have hranged := (sendRanged_speaks s c .a).trans (sendRanged_speaks _ c .b)
  split
  · split
    · exact ⟨_, rfl, hranged.trans ((askRange_speaks _ c .a).trans (askRange_speaks _ c .b))⟩
    · exact ⟨_, rfl, hranged⟩
  · exact ⟨s, rfl, .refl c s⟩

theorem fieldCycleStart_begun {s : State} {c : Cluster} {env : CycleEnv} (hon : (frnOf (later s env.now) c).state ≠ .off)
    (hbegun : (frnOf (later s env.now) c).begun = true) :
    ∃ s1 s3 t, exec (.fieldCycleStart c env) s = .next t ∧ CycleStart env c (later s env.now) s1 s3 t := by
  obtain ⟨ns, -, hupset⟩ := upsetMailboxes_nodes env c (later s env.now)
  have hclosed := closeCycle_closed env c (later s env.now)
  have hstate : ¬ (frnOf (upsetMailboxes env c (later s env.now)) c).state = .off := by
    rw [hupset, setFrn_same]
    exact hon
  have hstarted : (frnOf (upsetMailboxes env c (later s env.now)) c).begun = true := by
    rw [hupset, setFrn_same]
    exact hbegun
  dsimp only [exec, execFieldCycleStart]
  rw [if_neg hstate, if_pos hstarted]
  generalize closeCycle env (upsetMailboxes env c (later s env.now)) c = s1 at *
  obtain ⟨t, ht, hspeaks⟩ := exists_ranging c (sendCycle (counted (turned s1 c) c) c)
    ((frnOf (turned s1 c) c).state = .run || (frnOf (sendCycle (counted (turned s1 c) c) c) c).state = .cold)
    fun u => (frnOf u c).cycle % 16 = 15
  exact ⟨s1, _, t, ht, hclosed, hbegun, counted_speaks c _, hspeaks⟩

/-! ## What the cycle before leaves -/

theorem Closed.kept {env : CycleEnv} {c : Cluster} {s t : State} (h : Closed env c s t) :
    (frnOf t c).state = (frnOf s c).state ∧ (frnOf t c).goRun = (frnOf s c).goRun ∧ (frnOf t c).begun = (frnOf s c).begun
      ∧ (frnOf t c).mute = (frnOf s c).mute ∧ (frnOf t c).muteDue = (frnOf s c).muteDue
      ∧ (frnOf t c).cycle = (frnOf s c).cycle ∧ (frnOf t c).current = (frnOf s c).current := by
  obtain ⟨one, silent, ns, -, hport⟩ := h.port
  rw [hport]
  exact ⟨rfl, rfl, rfl, rfl, rfl, rfl, rfl⟩

theorem Closed.guard {env : CycleEnv} {c : Cluster} {s t : State} (h : Closed env c s t) (ch : Chan) :
    guardOf (frnOf t c) ch = guardCycle (env.tableBad.contains ch) (!(frnOf s c).mute) (guardOf (frnOf s c) ch) := by
  obtain ⟨one, silent, ns, -, hport⟩ := h.port
  rw [hport]
  cases ch <;> rfl

theorem Closed.gaveUp {env : CycleEnv} {c : Cluster} {s t : State} (h : Closed env c s t) (hgone : gaveUp s = true) :
    gaveUp t = true := by
  simp only [Machine.gaveUp, Bool.and_eq_true, Bool.or_eq_true, decide_eq_true_eq] at hgone ⊢
  obtain ⟨hrel, hover⟩ := hgone
  rw [h.now, h.drainEnd]
  exact ⟨h.stops.gone hrel, hover.imp_left h.stops.stopped⟩

/-! ## What the cycle start leaves -/

section Started

variable {env : CycleEnv} {c : Cluster} {v s1 s3 t : State} (h : CycleStart env c v s1 s3 t)

include h

theorem CycleStart.speaks : Speaks c (turned s1 c) t := h.turn.trans ((sendCycle_speaks s3 c).trans h.ranging)

theorem CycleStart.sends : Speaks c s3 t := (sendCycle_speaks s3 c).trans h.ranging

theorem CycleStart.sent : (sendCycle s3 c).sent ⊆ t.sent := h.ranging.sent.subset

/-- Of the port that took its turn only the ranging has changed. -/
theorem CycleStart.port : frnOf t c = { portCycle (frnOf s1 c) (gaveUp s1) with
    cycleAt := s1.now, nodes := (frnOf t c).nodes
    askA := (frnOf t c).askA, askB := (frnOf t c).askB, rangedA := (frnOf t c).rangedA, rangedB := (frnOf t c).rangedB
    sweepA := (frnOf t c).sweepA, sweepB := (frnOf t c).sweepB } := by
  have hport := h.speaks.port
  rwa [turned, setFrn_same] at hport

theorem CycleStart.state : (frnOf s3 c).state = (portCycle (frnOf s1 c) (gaveUp s1)).state
    ∧ (frnOf s3 c).current = (portCycle (frnOf s1 c) (gaveUp s1)).current := by
  rw [h.turn.port, turned, setFrn_same]
  exact ⟨rfl, rfl⟩

theorem CycleStart.always : (frnOf t c).cycle = ((frnOf v c).cycle + 1) % 2 ^ 32 ∧ (frnOf t c).cycleAt = v.now
    ∧ (frnOf t c).goRun = false ∧ (frnOf t c).stopPending = false ∧ (frnOf t c).muteDue = false := by
  obtain ⟨-, -, hbegun, -, -, hcycle, -⟩ := h.closed.kept
  obtain ⟨pcycle, pgo, pstop, pdue, -⟩ := portCycle_always (hbegun.trans h.begun) (gaveUp s1)
  rw [h.port]
  exact ⟨hcycle ▸ pcycle, h.closed.now, pgo, pstop, pdue⟩

theorem CycleStart.mute : (frnOf t c).mute = (!(frnOf v c).goRun && ((frnOf v c).mute || (frnOf v c).muteDue)) := by
  obtain ⟨-, hgo, hbegun, hmute, hdue, -⟩ := h.closed.kept
  obtain ⟨-, -, -, -, pmute, -⟩ := portCycle_always (hbegun.trans h.begun) (gaveUp s1)
  rw [hgo, hmute, hdue] at pmute
  rw [h.port]
  exact pmute

theorem CycleStart.runs (hgo : (frnOf v c).goRun = true) :
    (frnOf t c).state = .run ∧ (frnOf t c).mute = false ∧ (frnOf t c).runCycles = some 1 := by
  obtain ⟨-, kgo, -⟩ := h.closed.kept
  obtain ⟨pstate, pcycles⟩ := portCycle_goRun (kgo.trans hgo) (gaveUp s1)
  rw [h.mute, hgo, h.port]
  exact ⟨pstate, rfl, pcycles⟩

theorem CycleStart.silent (hgo : (frnOf v c).goRun = false) (hmute : (frnOf v c).muteDue = true ∨ (frnOf v c).mute = true) :
    (frnOf t c).mute = true ∧ t.sent = v.sent := by
  have htrue : (frnOf t c).mute = true := by
    rw [h.mute, hgo]
    simpa using hmute.symm
  refine ⟨htrue, ?_⟩
  rw [h.speaks.silent (h.speaks.mute ▸ htrue), turned, setFrn_sent, h.closed.sent]

/-- A channel that carries, of a port that is and stays loud, with a guardian in RUN whose table holds, carries the sendings of
the cycle. -/
theorem CycleStart.opened {ch : Chan} (hlink : linkOn v c ch = true) (hguard : (guardOf (frnOf v c) ch).state = .run)
    (hmute : (frnOf v c).mute = false) (htable : ch ∉ env.tableBad) (hdue : (frnOf v c).muteDue = false) : Open c ch s3 := by
  have hopen : Open c ch t := by
    refine ⟨?_, ?_, ?_⟩
    · rw [h.speaks.rest]
      have hlink1 := (h.closed.link ch).trans hlink
      cases c <;> exact hlink1
    · obtain ⟨-, -, hbegun, -⟩ := h.closed.kept
      obtain ⟨-, -, -, -, -, -, pA, pB, -⟩ := portCycle_always (hbegun.trans h.begun) (gaveUp s1)
      rw [guardOf_congr (f := frnOf s1 c) (by rw [h.port]; exact pA) (by rw [h.port]; exact pB), h.closed.guard, hmute]
      simp [guardCycle, htable, hguard]
    · rw [h.mute, hmute, hdue]
      simp
  refine ⟨?_, ?_, ?_⟩
  · have hlink3 := hopen.link
    rw [h.sends.rest] at hlink3
    exact hlink3
  · have hguard3 := hopen.guardian
    rwa [guardOf_congr (f := frnOf s3 c) (by rw [h.sends.port]) (by rw [h.sends.port])] at hguard3
  · exact h.sends.mute ▸ hopen.loud

theorem CycleStart.sync_mem {ch : Chan} (hopen : Open c ch s3) {slot : Nat}
    (hsend : sendCycle s3 c = sendBoth s3 c fun _ => syncBytes s3 c slot) (hon : (frnOf s3 c).state ≠ .off) :
    .field c ch (syncBytes t c slot) ∈ t.sent := by
  rw [h.sends.syncBytes]
  refine h.sent ?_
  rw [hsend]
  exact sendBoth_mem (data := fun _ => syncBytes s3 c slot) hopen ⟨hon, fun _ => syncBytes_kind s3 c slot⟩

theorem CycleStart.stops (hgo : (frnOf v c).goRun = false)
    (hstop : (frnOf v c).stopPending = true ∨ (gaveUp v = true ∧ (frnOf v c).isRoot = true)) :
    (frnOf t c).state = .syncOnly ∧ (frnOf t c).current = []
      ∧ ∀ ch, Open c ch s3 → .field c ch (syncBytes t c 0) ∈ t.sent := by
  obtain ⟨kstate, kgo, -⟩ := h.closed.kept
  have hroot : (frnOf s1 c).isRoot = (frnOf v c).isRoot := by rw [FrnBlk.isRoot, FrnBlk.isRoot, kstate]
  obtain ⟨pstate, pcurrent⟩ := portCycle_stops (f := frnOf s1 c) (gone := gaveUp s1) (kgo.trans hgo)
    (hstop.imp h.closed.stops.pending fun ⟨hgone, hr⟩ => ⟨h.closed.gaveUp hgone, hroot.trans hr⟩)
  have hstate := h.state.1.trans pstate
  refine ⟨by rw [h.port]; exact pstate, by rw [h.port]; exact pcurrent, fun ch hopen => ?_⟩
  exact h.sync_mem hopen (sendCycle_sync.1 hstate) (by rw [hstate]; nofun)

/-- Where no fence and no stop has come, the downlink entries stay. -/
theorem CycleStart.unstopped (hstop : (frnOf v c).stopPending = false) (hfenced : (frnOf t c).fenced = (frnOf v c).fenced)
    (hsys : t.sys.stopped = v.sys.stopped) : (frnOf s1 c).stopPending = false := by
  obtain ⟨-, -, hbegun, -⟩ := h.closed.kept
  obtain ⟨-, -, -, -, -, pfenced, -⟩ := portCycle_always (hbegun.trans h.begun) (gaveUp s1)
  have hfenced1 : (frnOf t c).fenced = (frnOf s1 c).fenced := by
    rw [h.port]
    exact pfenced
  have hsys1 : t.sys.stopped = s1.sys.stopped := by
    rw [h.speaks.rest]
    cases c <;> rfl
  refine Bool.eq_false_iff.mpr fun hpending => ?_
  obtain hwas | hnew | hnew := h.closed.stops.cause hpending
  · rw [hstop] at hwas
    cases hwas
  · exact hnew (hfenced1.symm.trans hfenced)
  · exact hnew (hsys1.symm.trans hsys)

theorem CycleStart.follows (hstate : (frnOf v c).state = .follow ∨ (frnOf v c).state = .followNoSync)
    (hgo : (frnOf v c).goRun = false) (hstop : (frnOf s1 c).stopPending = false) :
    ((frnOf t c).state = .follow ∨ (frnOf t c).state = .followNoSync)
      ∧ ∀ ch, Open c ch s3 → .field c ch (syncBytes t c 0xFF) ∈ t.sent := by
  obtain ⟨kstate, kgo, -⟩ := h.closed.kept
  rw [← kstate] at hstate
  have pstate := portCycle_follows (gaveUp s1) hstate (kgo.trans hgo) hstop
  refine ⟨by rw [h.port]; exact pstate, fun ch hopen => ?_⟩
  rw [← h.state.1] at pstate
  refine h.sync_mem hopen (sendCycle_sync.2 pstate) ?_
  obtain hs | hs := pstate
  all_goals
    rw [hs]
    nofun

theorem CycleStart.downlinks (hstate : (frnOf v c).state = .run) (hstop : (frnOf s1 c).stopPending = false)
    (hrel : t.dpx.relinquished = false) :
    (frnOf t c).state = .run ∧ (frnOf t c).current = (frnOf v c).current
      ∧ ∀ ch, Open c ch s3 → ∀ m ∈ (frnOf v c).current, .field c ch (downlinkBytes t c m) ∈ t.sent := by
  obtain ⟨kstate, -, -, -, -, -, kcurrent⟩ := h.closed.kept
  have hgone : gaveUp s1 = false := by
    have hrel1 : t.dpx.relinquished = s1.dpx.relinquished := by
      rw [h.speaks.rest]
      cases c <;> rfl
    rw [Machine.gaveUp, ← hrel1, hrel]
    rfl
  have hrun := portCycle_runs (kstate.trans hstate) hstop
  rw [← hgone] at hrun
  obtain ⟨pstate, pcurrent⟩ := hrun
  obtain ⟨hstate3, hcurrent3⟩ := h.state
  refine ⟨by rw [h.port]; exact pstate, by rw [h.port]; exact pcurrent.trans kcurrent, fun ch hopen m hm => ?_⟩
  rw [h.sends.downlinkBytes]
  refine h.sent (sendCycle_run_mem hopen (hstate3.trans pstate) ?_)
  rwa [hcurrent3, pcurrent, kcurrent]

theorem CycleStart.guardian {ch : Chan} (hbad : ch ∈ env.tableBad) : (guardOf (frnOf t c) ch).state = .closed := by
  obtain ⟨-, -, hbegun, -⟩ := h.closed.kept
  obtain ⟨-, -, -, -, -, -, pA, pB, -⟩ := portCycle_always (hbegun.trans h.begun) (gaveUp s1)
  rw [guardOf_congr (f := frnOf s1 c) (by rw [h.port]; exact pA) (by rw [h.port]; exact pB), h.closed.guard]
  have hcontains : env.tableBad.contains ch = true := by simpa using hbad
  rw [guardCycle, hcontains]
  rfl

theorem CycleStart.schedule (hbad : env.scheduleBad = true) : isLive t .frn (nAt c nSCHEDULE) = true := by
  rw [isLive_congr (s := s1)]
  · exact h.closed.schedule hbad
  · rw [h.speaks.rest]
    cases c <;> rfl

end Started

/-! ## The nodes' accounts -/

theorem closeNode_account (spared : Bool) (b : NodeBlk) : (closeNode spared b).node = b.node
    ∧ (closeNode spared b).heard = false ∧ (closeNode spared b).va = b.nowA ∧ (closeNode spared b).vb = b.nowB
    ∧ (closeNode spared b).withdrawn = b.withdrawn ∧ (closeNode spared b).withdrawDue = b.withdrawDue
    ∧ (b.heard = true → (closeNode spared b).missing = 0)
    ∧ (b.heard = false → b.state ≠ .admitted ∨ spared = false → (closeNode spared b).missing = b.missing + 1) := by
  unfold closeNode
  dsimp only
  split
  next hheard => exact ⟨rfl, rfl, rfl, rfl, rfl, rfl, fun _ => rfl, fun hnot => absurd (hnot ▸ hheard) Bool.false_ne_true⟩
  next hnot =>
    refine ⟨rfl, Bool.eq_false_iff.mpr hnot, rfl, rfl, rfl, rfl, fun hheard => absurd hheard hnot, fun _ hcounts => if_neg ?_⟩
    rw [Bool.and_eq_true, decide_eq_true_iff, not_and_or, Bool.not_eq_true]
    exact hcounts.symm

/-- What a node's account at a cycle start shows of the cycle before (R219, R232, R239, R355). -/
theorem CycleStart.account {env : CycleEnv} {c : Cluster} {v s1 s3 t : State} (h : CycleStart env c v s1 s3 t) {b : NodeBlk}
    (hb : b ∈ (frnOf v c).nodes) : ∃ k ∈ (frnOf t c).nodes, k.node = b.node ∧ k.heard = false ∧ k.va = b.nowA ∧ k.vb = b.nowB
      ∧ k.withdrawn = (b.withdrawn || b.withdrawDue) ∧ (b.heard = true → k.missing = 0)
      ∧ (b.heard = false → b.state ≠ .admitted ∨ silenceSpared (frnOf v c) = false → k.missing = b.missing + 1) := by
  obtain ⟨one, silent, ns, hns, hport⟩ := h.closed.port
  obtain ⟨b1, hb1, hsame⟩ := exists_of_map_eq hns hb
  obtain ⟨-, -, hbegun, -⟩ := h.closed.kept
  obtain ⟨-, -, -, -, -, -, -, -, pnodes⟩ := portCycle_always (hbegun.trans h.begun) (gaveUp s1)
  have hclosed : closeNode (silenceSpared (frnOf v c)) b1 ∈ (frnOf s1 c).nodes := by
    rw [hport]
    exact List.mem_map_of_mem hb1
  have hturned := List.mem_map_of_mem (f := fun b : NodeBlk =>
    { b with withdrawn := b.withdrawn || b.withdrawDue, withdrawDue := false }) hclosed
  rw [← pnodes] at hturned
  have hmap := h.speaks.nodes
  rw [turned, setFrn_same] at hmap
  obtain ⟨k, hk, hkeeps⟩ := exists_of_map_eq hmap hturned
  obtain ⟨anode, aheard, ava, avb, awith, adue, amissing, acounts⟩ := closeNode_account (silenceSpared (frnOf v c)) b1
  refine ⟨k, hk, ?_, ?_, ?_, ?_, ?_, ?_, ?_⟩
  · exact ((congrArg NodeBlk.node hkeeps :).trans anode).trans (congrArg NodeBlk.node hsame :)
  · exact (congrArg NodeBlk.heard hkeeps :).trans aheard
  · exact ((congrArg NodeBlk.va hkeeps :).trans ava).trans (congrArg NodeBlk.nowA hsame :)
  · exact ((congrArg NodeBlk.vb hkeeps :).trans avb).trans (congrArg NodeBlk.nowB hsame :)
  · refine (congrArg NodeBlk.withdrawn hkeeps :).trans ?_
    rw [awith, adue]
    exact (congrArg (fun b : NodeBlk => b.withdrawn || b.withdrawDue) hsame :)
  · intro hheard
    exact (congrArg NodeBlk.missing hkeeps :).trans (amissing ((congrArg NodeBlk.heard hsame :).trans hheard))
  · intro hheard hcounts
    have hheard1 : b1.heard = false := (congrArg NodeBlk.heard hsame :).trans hheard
    have hstate1 : b1.state = b.state := (congrArg NodeBlk.state hsame :)
    rw [← hstate1] at hcounts
    exact ((congrArg NodeBlk.missing hkeeps :).trans (acounts hheard1 hcounts)).trans
      (congrArg (fun b : NodeBlk => b.missing + 1) hsame :)

end Sys2Proof.Proofs.FieldCycles

/-! PROOFS. The statement about field cycles, from its parts. -/

namespace Sys2Proof.Proofs.FieldCycles

open Sys2Proof Sys2Proof.Machine Sys2Proof.Safety Sys2Proof.Proofs.Frames Sys2Proof.Proofs.FieldPorts Sys2Proof.Proofs.FieldSteps
open Sys2Proof.Proofs.Uplinks Sys2Proof.Proofs.FieldTransmissions

/-- Settles O55, command by command: a cycle start is the end of the cycle before, the turn of the port's state, what is sent and
the ranging; each part has its frame. -/
theorem fieldCyclesSendTakeAndJudge : Obligations.FieldCyclesSendTakeAndJudge := by
  unfold Obligations.FieldCyclesSendTakeAndJudge
  intro s c env
  refine ⟨fun hoff => ⟨fieldCycleStart_off hoff, offsetCorrection_idle (.inl hoff)⟩, fun hon hbegun => ?_, fun hon hbegun =>
    ⟨fun heven => offsetCorrection_idle (.inr heven), fun hodd => offsetCorrection_corrects hon hbegun hodd⟩,
    fun x y => ⟨ftAverage_pair x y, fun z => ftAverage_middle⟩, fun node b d copyA copyB hb hd hon => uplink_outcome copyA copyB hb hd hon,
    fun arr => syncFrame_step s c arr env.now, fun node b hb => ?_, fun ch => ?_⟩
  · obtain ⟨s1, s3, t, hexec, h⟩ := fieldCycleStart_begun hon hbegun
    obtain ⟨hcycle, hat, hgo, hstop, hdue⟩ := h.always
    refine ⟨t, hexec, hcycle, hat, hgo, hstop, hdue, h.runs, h.silent, ?_, ?_, ?_, fun ch => h.guardian, h.schedule,
      fun b hb => h.account hb⟩
    · intro hgo hstop
      obtain ⟨hstate, hcurrent, hsent⟩ := h.stops hgo hstop
      exact ⟨hstate, hcurrent, fun ch ⟨hlink, hguard, hmute, htable⟩ hdue =>
        hsent ch (h.opened hlink hguard hmute htable hdue)⟩
    · intro hstate hgo hstop hdue hfenced hsys
      obtain ⟨hfollow, hsent⟩ := h.follows hstate hgo (h.unstopped hstop hfenced hsys)
      exact ⟨hfollow, fun ch ⟨hlink, hguard, hmute, htable⟩ => hsent ch (h.opened hlink hguard hmute htable hdue)⟩
    · intro hstate hstop _ hdue hfenced hsys hrel
      obtain ⟨hrun, hcurrent, hsent⟩ := h.downlinks hstate (h.unstopped hstop hfenced hsys) hrel
      exact ⟨hrun, hcurrent, fun ch ⟨hlink, hguard, hmute, htable⟩ => hsent ch (h.opened hlink hguard hmute htable hdue)⟩
  · obtain ⟨habsent, hkept⟩ := returnToAbsent_step hb
    exact ⟨dropout_idle hb, dropout_drops hb, habsent, hkept⟩
  · obtain ⟨hidle, hexpires⟩ := guardianBlockedExpiry_step s c ch
    exact ⟨guardianViolation_idle, guardianViolation_step, hidle, hexpires⟩

end Sys2Proof.Proofs.FieldCycles

/-! PROOFS. Timers and latches (R87, R88): what one frame makes of a timer and of a latch. -/

namespace Sys2Proof.Proofs.TimersAndLatches

open Sys2Proof Sys2Proof.Machine

/-! ## Timers -/

theorem tickTimer_held (fin : FrameIn) (afresh : Bool) (t : TimerInst) :
    tickTimer fin false afresh t = { t with run := false, remain := t.preset, q := false } := rfl

theorem tickTimer_started (fin : FrameIn) (afresh : Bool) {t : TimerInst} (h : t.run = false) :
    tickTimer fin true afresh t = { t with run := true, remain := t.preset, q := false } := by
  simp [tickTimer, h]

theorem tickTimer_counting (fin : FrameIn) {t : TimerInst} (h : t.run = true) :
    tickTimer fin true false t
      = { t with run := true, remain := t.remain - countMs fin t.kind, q := t.remain - countMs fin t.kind == 0 } := by
  cases t
  cases h
  rfl

theorem countMs_release {fin : FrameIn} (h : fin.takeover = none) : countMs fin .release = fin.elapsed / 1000 := by
  simp only [countMs, h]

theorem countMs_watch {fin : FrameIn} (h : fin.takeover = none) : countMs fin .watch = (fin.elapsed + 999) / 1000 := by
  simp only [countMs, h]

/-- What the tick leaves of REMAIN, as the rule says it (R88). -/
theorem sub_eq_ite (r e : Nat) : r - e = if r > e then r - e else 0 := by
  split <;> omega

/-- Settles O8: the three cases of RUN now and in the frame before; a count rounds down for RELEASE and up for WATCH. -/
theorem timerCountsInItsFrame : Obligations.TimerCountsInItsFrame := by
  unfold Obligations.TimerCountsInItsFrame
  intro fin run t htake
  cases run with
  | false => simp [tickTimer_held]
  | true =>
    cases hrun : t.run with
    | false => simp [tickTimer_started fin false hrun]
    | true =>
      rw [tickTimer_counting fin hrun]
      cases t.kind with
      | release =>
        rw [countMs_release htake]
        refine ⟨rfl, rfl, rfl, rfl, nofun, nofun, fun _ _ => ⟨sub_eq_ite _ _, beq_iff_eq⟩, fun _ _ _ => ?_, nofun⟩
        show 1000 * t.remain ≤ 1000 * (t.remain - fin.elapsed / 1000) + fin.elapsed
        omega
      | watch =>
        rw [countMs_watch htake]
        refine ⟨rfl, rfl, rfl, rfl, nofun, nofun, fun _ _ => ⟨sub_eq_ite _ _, beq_iff_eq⟩, nofun, fun _ _ _ hleft => ?_⟩
        have hleft : t.remain - (fin.elapsed + 999) / 1000 ≠ 0 := hleft
        show 1000 * (t.remain - (fin.elapsed + 999) / 1000) + fin.elapsed ≤ 1000 * t.remain
        omega

/-! ## Latches -/

/-- Settles O9, by the four values of the two inputs. -/
theorem latchTakesItsRestrictiveSideOnBoth : Obligations.LatchTakesItsRestrictiveSideOnBoth := by
  unfold Obligations.LatchTakesItsRestrictiveSideOnBoth
  refine ⟨fun set reset restr l => ?_, fun d => ⟨rfl, rfl⟩⟩
  cases set <;> cases reset <;> simp [tickLatch]

end Sys2Proof.Proofs.TimersAndLatches

/-! PROOFS. The parts of the interlocking state: what a change of one shows of it and of the others. -/

namespace Sys2Proof.Proofs.InterlockParts

open Sys2Proof Sys2Proof.Machine Sys2Proof.Proofs.FieldPorts

/-- The first element that `p` holds of is the one that is replaced, where its replacement keeps `p`. -/
theorem find?_updFirst_found {α : Type} {p : α → Bool} {g : α → α} {l : List α} {a : α} (h : l.find? p = some a) (hg : p (g a) = true) :
    (updFirst p g l).find? p = some (g a) := by
  induction l with
  | nil => cases h
  | cons b l ih =>
    cases hb : p b
    · rw [List.find?_cons_of_neg (by simp [hb])] at h
      simpa [updFirst, hb] using ih h
    · rw [List.find?_cons_of_pos hb] at h
      cases h
      simp [updFirst, hb, hg]

/-- The first element with another key is the one that it was, where the change keeps the key. -/
theorem find?_updFirst_key {α : Type} {key : α → Nat} {g : α → α} {i k : Nat} (l : List α) (hg : ∀ a, key (g a) = key a) (hk : k ≠ i) :
    (updFirst (key · == i) g l).find? (key · == k) = l.find? (key · == k) := by
  refine find?_updFirst_other l (fun a ha => ?_) fun a ha => ?_
  · rw [beq_iff_eq] at ha
    simp [ha, hk.symm]
  · rw [beq_iff_eq] at ha
    simp [hg, ha, hk.symm]

/-! ## Objects -/

theorem objOf?_idx {x : Inter} {i : Nat} {o : ObjInst} (h : objOf? x i = some o) : o.idx = i := by
  simpa using List.find?_some h

theorem objOf?_setObj_same {x : Inter} {i : Nat} {f : ObjInst → ObjInst} {o : ObjInst} (ho : objOf? x i = some o)
    (hf : (f o).idx = o.idx) : objOf? (setObj x i f) i = some (f o) :=
  find?_updFirst_found ho (by simp [hf, objOf?_idx ho])

theorem objOf?_setObj_other {x : Inter} {i k : Nat} {f : ObjInst → ObjInst} (hf : ∀ o, (f o).idx = o.idx) (hk : k ≠ i) :
    objOf? (setObj x i f) k = objOf? x k :=
  find?_updFirst_key x.objs hf hk

/-- A change of Praline's own reading of one object. -/
def setPrl (x : Inter) (i : Nat) (f : PrlObj → PrlObj) : Inter :=
  { x with prlObjs := updFirst (fun q => q.idx == i) f x.prlObjs }

theorem prlOf?_setPrl_same {x : Inter} {i : Nat} {f : PrlObj → PrlObj} {q : PrlObj} (hq : prlOf? x i = some q)
    (hf : (f q).idx = q.idx) : prlOf? (setPrl x i f) i = some (f q) :=
  find?_updFirst_found hq (by simpa [hf] using List.find?_some hq)

theorem prlOf?_setPrl_other {x : Inter} {i k : Nat} {f : PrlObj → PrlObj} (hf : ∀ q, (f q).idx = q.idx) (hk : k ≠ i) :
    prlOf? (setPrl x i f) k = prlOf? x k :=
  find?_updFirst_key x.prlObjs hf hk

/-! ## Timers -/

theorem timerOf?_setTimer_same {x : Inter} {n : Nat} {f : TimerInst → TimerInst} {t : TimerInst} (ht : timerOf? x n = some t)
    (hf : (f t).num = t.num) : timerOf? (setTimer x n f) n = some (f t) :=
  find?_updFirst_found ht (by simpa [hf] using List.find?_some ht)

theorem timerOf?_setTimer_other {x : Inter} {n m : Nat} {f : TimerInst → TimerInst} (hf : ∀ t, (f t).num = t.num) (hm : m ≠ n) :
    timerOf? (setTimer x n f) m = timerOf? x m :=
  find?_updFirst_key x.timers hf hm

/-! ## Transactions -/

theorem txnOfRoute?_route {x : Inter} {r : Nat} {t : Txn} (h : txnOfRoute? x r = some t) : t.route = r := by
  simpa using List.find?_some h

theorem txnOfSlot?_slot {x : Inter} {k : Nat} {t : Txn} (h : txnOfSlot? x k = some t) : t.slot = k := by
  simpa using List.find?_some h

theorem txnOfSlot?_setTxn_same {x : Inter} {k : Nat} {f : Txn → Txn} {t : Txn} (ht : txnOfSlot? x k = some t)
    (hf : (f t).slot = t.slot) : txnOfSlot? (setTxn x k f) k = some (f t) :=
  find?_updFirst_found ht (by simp [hf, txnOfSlot?_slot ht])

theorem txnOfSlot?_setTxn_other {x : Inter} {k m : Nat} {f : Txn → Txn} (hf : ∀ t, (f t).slot = t.slot) (hm : m ≠ k) :
    txnOfSlot? (setTxn x k f) m = txnOfSlot? x m :=
  find?_updFirst_key x.txns hf hm

end Sys2Proof.Proofs.InterlockParts

/-! PROOFS. The tick that has come (R88, R91, R96, R443): what each of the interlocking's clocks makes of the state before the
frame of that tick. -/

namespace Sys2Proof.Proofs.TickClocks

open Sys2Proof Sys2Proof.Machine Sys2Proof.Proofs.TimersAndLatches Sys2Proof.Proofs.InterlockParts

/-! ## The tick -/

/-- A module that runs frames stands between two of them and the next tick has come. -/
structure TickHasCome (v : State) (st : Station) (p : Prt) : Prop where
  station : v.mzp = some st
  table : v.prt = some p
  idle : v.work = none
  runs : framesRun v = true
  noGap : v.dpx.gapDue = false
  due : ∃ t0, v.frm.nextTick = some t0 ∧ t0 ≤ v.now

theorem atTick_before {v : State} {t0 : Nat} (f : Station → Prt → FrameIn → Inter → Inter) (hnext : v.frm.nextTick = some t0)
    (hearly : v.now < t0) : atTick v f = v := by
  unfold atTick
  split
  next _ _ _ _ hsome =>
    cases hnext.symm.trans hsome
    exact if_neg (by simp [Nat.not_le.mpr hearly])
  next => rfl

theorem TickHasCome.atTick_eq {v : State} {st : Station} {p : Prt} (h : TickHasCome v st p)
    (f : Station → Prt → FrameIn → Inter → Inter) : atTick v f = { v with core := f st p (dueFrame v) v.core } := by
  obtain ⟨t0, hnext, hdue⟩ := h.due
  simp [atTick, h.station, h.idle, hnext, h.runs, hdue, prtOf, h.table]

theorem TickHasCome.noTakeover {v : State} {st : Station} {p : Prt} (h : TickHasCome v st p) : (dueFrame v).takeover = none := by
  simp [dueFrame, h.noGap]

theorem runsOut_iff {fin : FrameIn} {t : TimerInst} :
    runsOut fin t = true ↔ t.run = true ∧ t.remain ≠ 0 ∧ t.remain ≤ countMs fin t.kind := by
  simp [runsOut, and_assoc]

/-! ## A timer ends (R88) -/

theorem timerOf?_timerDone_same {x : Inter} {n : Nat} {t : TimerInst} (ht : timerOf? x n = some t) :
    timerOf? (timerDone x n) n = some { t with remain := 0, q := true } :=
  timerOf?_setTimer_same ht rfl

theorem timerOf?_timerDone_other {x : Inter} {n m : Nat} (hm : m ≠ n) : timerOf? (timerDone x n) m = timerOf? x m :=
  timerOf?_setTimer_other (fun _ => rfl) hm

/-- A timer that no object uses is the station logic's. -/
theorem timerEnds_logic {st : Station} {fin : FrameIn} {n : Nat} {x : Inter} {t : TimerInst}
    (hfree : ∀ d ∈ st.objects, d.timer ≠ some n) (ht : timerOf? x n = some t) :
    timerEnds st fin n x = if runsOut fin t then timerDone x n else x := by
  have hnone : (st.objects.find? fun d => d.timer == some n) = none := by simpa using hfree
  simp only [timerEnds, hnone, ht]

theorem timerEnds_object {st : Station} {fin : FrameIn} {n : Nat} {x : Inter} {d : ObjDesc}
    (h : (st.objects.find? fun k => k.timer == some n) = some d) : timerEnds st fin n x = objTimerEnds fin d.ty d.idx n x := by
  simp only [timerEnds, h]

theorem watchEnds_timer {st : Station} {fin : FrameIn} {ty : ObjTy} {i n : Nat} {x : Inter} {d : ObjDesc}
    (hd : stObj? st i = some d) (hn : d.timer = some n) : watchEnds ty i st fin x = objTimerEnds fin ty i n x := by
  simp only [watchEnds, hd, Option.bind_some, hn]

/-! ## A movement or closing timer ends (R443) -/

theorem objTimerRun_point {o : ObjInst} (hty : o.ty = .point) :
    objTimerRun o = true ↔ o.cmd ≠ ptcNone ∧ ¬ (o.valid = true ∧ o.rep = posRep (o.cmd - 1)) := by
  simp [objTimerRun, hty, imp_iff_not_or]

theorem objTimerRun_crossing {o : ObjInst} (hty : o.ty = .crossing) :
    objTimerRun o = true ↔ o.cmd = lxClose ∧ ¬ (o.valid = true ∧ o.rep = lxSecured) := by
  simp [objTimerRun, hty, imp_iff_not_or]

theorem objTimerEnds_idle {fin : FrameIn} {ty : ObjTy} {i n : Nat} {x : Inter} {o : ObjInst} {t : TimerInst}
    (ho : objOf? x i = some o) (ht : timerOf? x n = some t)
    (h : runsOut fin t ≠ true ∨ ¬ (o.ty = ty ∧ objTimerRun o = true)) : objTimerEnds fin ty i n x = x := by
  simp only [objTimerEnds, ho, ht]
  refine if_neg fun hend => ?_
  simp only [Bool.and_eq_true, decide_eq_true_eq] at hend
  obtain ⟨⟨hty, hout⟩, hrun⟩ := hend
  exact h.elim (· hout) (· ⟨hty, hrun⟩)

/-- FAILS of a point is counted on; nothing else of an object changes. -/
def countFail (o : ObjInst) : ObjInst := if o.ty = .point then { o with fails := satAdd 255 1 o.fails } else o

theorem countFail_idx (o : ObjInst) : (countFail o).idx = o.idx := by
  unfold countFail
  split <;> rfl

theorem countFail_point {o : ObjInst} (h : o.ty = .point) : countFail o = { o with fails := satAdd 255 1 o.fails } := if_pos h

theorem countFail_crossing {o : ObjInst} (h : o.ty = .crossing) : countFail o = o := if_neg (by simp [h])

/-- The timer shows its end, the object its failed movement, and the record is written. -/
theorem objTimerEnds_spent {fin : FrameIn} {i n : Nat} {x : Inter} {o : ObjInst} {t : TimerInst}
    (ho : objOf? x i = some o) (ht : timerOf? x n = some t) (hout : runsOut fin t = true) (hrun : objTimerRun o = true) :
    ∃ y, objTimerEnds fin o.ty i n x = y ∧ objOf? y i = some (countFail o) ∧ (∀ k, k ≠ i → objOf? y k = objOf? x k)
      ∧ timerOf? y n = some { t with remain := 0, q := true }
      ∧ y = { x with objs := y.objs, timers := y.timers
                     recs := x.recs ++ [{ ty := 0x03, sev := 0, body := be 6 x.counter ++ be 2 i ++ be 1 3 ++ be 1 0 }] } := by
  have heq : objTimerEnds fin o.ty i n x = addRec (setObj (timerDone x n) i countFail) (objRec i 3 0) := by
    simp only [objTimerEnds, ho, ht, hout, hrun, decide_true, Bool.and_self, if_true]
    rfl
  refine ⟨_, heq, ?_, fun k hk => ?_, timerOf?_timerDone_same ht, ?_⟩
  · exact objOf?_setObj_same (x := timerDone x n) ho (countFail_idx o)
  · exact objOf?_setObj_other (x := timerDone x n) countFail_idx hk
  · simp only [addRec, setObj, timerDone, setTimer, objRec, List.append_assoc]

/-! ## A settle period ends (R96) -/

def settledObj (o : ObjInst) : ObjInst := if o.settle = 1 then { o with settle := 0 } else o
def settledPrl (q : PrlObj) : PrlObj := if q.settle = 1 then { q with settle := 0 } else q

theorem settledObj_eq (o : ObjInst) : settledObj o = { o with settle := if o.settle = 1 then 0 else o.settle } := by
  unfold settledObj
  split <;> rfl

theorem settledPrl_eq (q : PrlObj) : settledPrl q = { q with settle := if q.settle = 1 then 0 else q.settle } := by
  unfold settledPrl
  split <;> rfl

theorem settledObj_idx (o : ObjInst) : (settledObj o).idx = o.idx := by rw [settledObj_eq]

theorem settledPrl_idx (q : PrlObj) : (settledPrl q).idx = q.idx := by rw [settledPrl_eq]

theorem settleEnds_eq (i : Nat) (x : Inter) : settleEnds i x = setPrl (setObj x i settledObj) i settledPrl := rfl

theorem objOf?_settleEnds_same {i : Nat} {x : Inter} {o : ObjInst} (ho : objOf? x i = some o) :
    objOf? (settleEnds i x) i = some { o with settle := if o.settle = 1 then 0 else o.settle } := by
  rw [settleEnds_eq, ← settledObj_eq]
  exact objOf?_setObj_same ho (settledObj_idx o)

theorem prlOf?_settleEnds_same {i : Nat} {x : Inter} {q : PrlObj} (hq : prlOf? x i = some q) :
    prlOf? (settleEnds i x) i = some { q with settle := if q.settle = 1 then 0 else q.settle } := by
  rw [settleEnds_eq, ← settledPrl_eq]
  exact prlOf?_setPrl_same (x := setObj x i settledObj) hq (settledPrl_idx q)

theorem settleEnds_other {i k : Nat} {x : Inter} (hk : k ≠ i) :
    objOf? (settleEnds i x) k = objOf? x k ∧ prlOf? (settleEnds i x) k = prlOf? x k :=
  ⟨objOf?_setObj_other settledObj_idx hk, prlOf?_setPrl_other (x := setObj x i settledObj) settledPrl_idx hk⟩

theorem settleEnds_frame (i : Nat) (x : Inter) :
    settleEnds i x = { x with objs := (settleEnds i x).objs, prlObjs := (settleEnds i x).prlObjs } := rfl

/-! ## A boundary object's age (R91, R92, R94) -/

/-- A boundary object without a state that it may use: its substitute, and one fault more. -/
def agedObj (o : ObjInst) : ObjInst :=
  { o with valid := false, settle := 0, rep := bdWithheld, border := bdOccupied, faultCnt := satAdd 65535 1 o.faultCnt }

/-- The lanes' part of the boundary age limit. -/
def boundaryLanes (st : Station) (i : Nat) (o : ObjInst) (x : Inter) : Inter :=
  if o.valid && !withinBage st x o then addRec (setObj x i agedObj) (objRec i 2 6) else x

/-- Praline's part: its own age of the object, where no tag was verified since. -/
def agedPrl (p : Prt) (x : Inter) (i : Nat) (q : PrlObj) : PrlObj :=
  if !x.freshTag.contains i && p.bage < satAdd 255 1 q.age then { q with valid := false, settle := 0, rep := bdWithheld } else q

theorem agedPrl_idx (p : Prt) (x : Inter) (i : Nat) (q : PrlObj) : (agedPrl p x i q).idx = q.idx := by
  unfold agedPrl
  split <;> rfl

theorem boundaryEnds_eq {st : Station} {p : Prt} {i : Nat} {x : Inter} {o : ObjInst} (ho : objOf? x i = some o)
    (hty : o.ty = .boundary) : boundaryEnds st p i x = setPrl (boundaryLanes st i o x) i (agedPrl p x i) := by
  simp only [boundaryEnds, ho, hty, ne_eq, not_true_eq_false, if_false]
  rfl

theorem withinBage_iff {st : Station} {x : Inter} {i : Nat} {o : ObjInst} (hi : o.idx = i) :
    withinBage st x o = true ↔ (if i ∈ x.fresh then 0 else satAdd 255 1 o.age) ≤ st.bage := by
  simp [withinBage, nextAge, hi]

section
variable {st : Station} {i : Nat} {x : Inter} {o : ObjInst}

theorem boundaryLanes_late (hvalid : o.valid = true) (hlate : withinBage st x o = false) :
    boundaryLanes st i o x = addRec (setObj x i agedObj) (objRec i 2 6) := by
  simp [boundaryLanes, hvalid, hlate]

theorem boundaryLanes_within (h : withinBage st x o = true) : boundaryLanes st i o x = x := by
  simp [boundaryLanes, h]

theorem boundaryLanes_frame : boundaryLanes st i o x
    = { x with objs := (boundaryLanes st i o x).objs, recs := (boundaryLanes st i o x).recs } := by
  unfold boundaryLanes
  split <;> rfl

theorem boundaryLanes_prlObjs : (boundaryLanes st i o x).prlObjs = x.prlObjs := by
  rw [boundaryLanes_frame]

theorem boundaryLanes_other {k : Nat} (hk : k ≠ i) : objOf? (boundaryLanes st i o x) k = objOf? x k := by
  unfold boundaryLanes
  split
  · exact objOf?_setObj_other (fun _ => rfl) hk
  · rfl

end

/-- Praline's part reads and changes its own readings only. -/
theorem prlOf?_boundaryEnds_same {st : Station} {p : Prt} {i : Nat} {x : Inter} {o : ObjInst} {q : PrlObj}
    (hq : prlOf? x i = some q) : prlOf? (setPrl (boundaryLanes st i o x) i (agedPrl p x i)) i = some (agedPrl p x i q) := by
  refine prlOf?_setPrl_same ?_ (agedPrl_idx p x i q)
  rw [prlOf?, boundaryLanes_prlObjs]
  exact hq

theorem agedPrl_late {p : Prt} {x : Inter} {i : Nat} {q : PrlObj} (hfresh : i ∉ x.freshTag) (hlate : p.bage < satAdd 255 1 q.age) :
    agedPrl p x i q = { q with valid := false, settle := 0, rep := bdWithheld } := by
  simp [agedPrl, hfresh, hlate]

theorem agedPrl_within {p : Prt} {x : Inter} {i : Nat} {q : PrlObj} (h : satAdd 255 1 q.age ≤ p.bage) : agedPrl p x i q = q := by
  simp [agedPrl, Nat.not_lt.mpr h]

theorem setPrl_boundaryLanes_other {st : Station} {p : Prt} {i k : Nat} {x : Inter} {o : ObjInst} (hk : k ≠ i) :
    objOf? (setPrl (boundaryLanes st i o x) i (agedPrl p x i)) k = objOf? x k
      ∧ prlOf? (setPrl (boundaryLanes st i o x) i (agedPrl p x i)) k = prlOf? x k := by
  refine ⟨boundaryLanes_other (st := st) (o := o) hk, ?_⟩
  rw [prlOf?_setPrl_other (agedPrl_idx p x i) hk, prlOf?, boundaryLanes_prlObjs]
  rfl

theorem setPrl_boundaryLanes_frame {st : Station} {p : Prt} {i : Nat} {x : Inter} {o : ObjInst} :
    setPrl (boundaryLanes st i o x) i (agedPrl p x i) =
      { x with objs := (setPrl (boundaryLanes st i o x) i (agedPrl p x i)).objs
               prlObjs := (setPrl (boundaryLanes st i o x) i (agedPrl p x i)).prlObjs
               recs := (setPrl (boundaryLanes st i o x) i (agedPrl p x i)).recs } := by
  unfold boundaryLanes
  split <;> rfl

end Sys2Proof.Proofs.TickClocks

/-! PROOFS. The wait limit of a request (R113): how its claim fails at last, and what is left of it. -/

namespace Sys2Proof.Proofs.WaitLimit

open Sys2Proof Sys2Proof.Machine Sys2Proof.Proofs.InterlockParts

/-- The frame whose tick has come, as its PROVE leaves the interlocking state. -/
def nextWork (v : State) : Option Inter :=
  let e := v.frm.T + v.frm.late
  (runFrame { m1 := e, m2 := e, m3 := e } v).work

/-- The route's transaction is REFUSED in a frame. -/
def RefusedIn (r : Nat) (w : Option Inter) : Prop := ∃ z u, w = some z ∧ txnOfRoute? z r = some u ∧ u.state = .refused

/-- How the claim failed, for a request that is REFUSED in a frame. -/
def failureIn (r : Nat) (w : Option Inter) : Option ClaimRes :=
  match w with
  | none => none
  | some y =>
    if ((txnOfRoute? y r).map fun t => decide (t.state = .refused)).getD false then
      some (if y.shorts.contains r then .short else .conflict)
    else none

theorem failsAtLast_eq {r : Nat} {v : State} {w : Option Inter} (h : nextWork v = w) : failsAtLast r v = failureIn r w := by
  delta nextWork at h
  dsimp only at h
  delta failsAtLast
  dsimp only
  rw [h]
  cases w <;> rfl

theorem failureIn_refused {r : Nat} {w : Option Inter} (h : RefusedIn r w) : ∃ c, c ≠ .claimed ∧ failureIn r w = some c := by
  obtain ⟨z, u, rfl, htxn, hstate⟩ := h
  refine ⟨if z.shorts.contains r then .short else .conflict, by split <;> exact nofun, ?_⟩
  simp [failureIn, htxn, hstate]

theorem failureIn_none {r : Nat} {w : Option Inter} (h : ¬ RefusedIn r w) : failureIn r w = none := by
  cases w with
  | none => rfl
  | some z =>
    cases htxn : txnOfRoute? z r with
    | none => simp [failureIn, htxn]
    | some u =>
      have hstate : u.state ≠ .refused := fun hstate => h ⟨z, u, rfl, htxn, hstate⟩
      simp [failureIn, htxn, hstate]

theorem waitEnds_idle {st : Station} {fin : FrameIn} {r : Nat} {c : Option ClaimRes} {x : Inter} {t : Txn}
    (ht : txnOfRoute? x r = some t) (h : ¬ (t.state = .requested ∧ t.byCancel = false) ∨ c = none) : waitEnds st fin r c x = x := by
  cases c with
  | none => simp only [waitEnds, ht]
  | some c =>
    have hnot : ¬ (t.state = .requested ∧ (!t.byCancel) = true) := by simpa using h
    simp only [waitEnds, ht, if_neg hnot]

/-- A claim that has failed is counted, by shortage or by conflict (R111). -/
def countFailure (c : ClaimRes) (t : Txn) (x : Inter) : Inter :=
  if c = .short then { x with claimShort := satAdd 0xFFFFFFFF 1 x.claimShort, shorts := t.route :: x.shorts }
  else { x with claimConf := satAdd 0xFFFFFFFF 1 x.claimConf }

theorem countFailure_txns (c : ClaimRes) (t : Txn) (x : Inter) : (countFailure c t x).txns = x.txns := by
  unfold countFailure
  split <;> rfl

def refuse (t : Txn) : Txn := { t with state := .refused }

/-- A failure over the wait limit refuses the request, with its record (R108 transition 4). -/
theorem applyResult_over_limit {st : Station} {fin : FrameIn} {x : Inter} {t : Txn} {c : ClaimRes} (ht : txnOfSlot? x t.slot = some t)
    (hc : c ≠ .claimed) (hover : t.admittedAt + t.waitMs * 1000 ≤ fin.tick) :
    applyResult st fin x (t.slot, c) = addRec (setTxn (countFailure c t x) t.slot refuse) (routeRec t 1 9) := by
  cases c with
  | claimed => exact absurd rfl hc
  | conflict | short =>
    simp only [applyResult, ht, hover, if_true]
    rfl

theorem waitEnds_refuses {st : Station} {fin : FrameIn} {r : Nat} {c : ClaimRes} {x : Inter} {t : Txn}
    (ht : txnOfRoute? x r = some t) (hslot : txnOfSlot? x t.slot = some t) (hc : c ≠ .claimed)
    (hwaits : t.state = .requested ∧ t.byCancel = false) (hover : t.admittedAt + t.waitMs * 1000 ≤ fin.tick) :
    ∃ y, waitEnds st fin r (some c) x = y ∧ txnOfSlot? y t.slot = some { t with state := .refused }
      ∧ (∀ k, k ≠ t.slot → txnOfSlot? y k = txnOfSlot? x k)
      ∧ y = { x with txns := y.txns, claimConf := y.claimConf, claimShort := y.claimShort, shorts := y.shorts, recs := y.recs } := by
  have hcond : t.state = .requested ∧ (!t.byCancel) = true := by simpa using hwaits
  have heq : waitEnds st fin r (some c) x = addRec (setTxn (countFailure c t x) t.slot refuse) (routeRec t 1 9) := by
    simp only [waitEnds, ht, if_pos hcond]
    exact applyResult_over_limit hslot hc hover
  have hkept : ∀ k, txnOfSlot? (countFailure c t x) k = txnOfSlot? x k := fun k => by rw [txnOfSlot?, countFailure_txns, txnOfSlot?]
  refine ⟨_, heq, txnOfSlot?_setTxn_same ((hkept _).trans hslot) rfl,
    fun k hk => (txnOfSlot?_setTxn_other (f := refuse) (fun _ => rfl) hk).trans (hkept k), ?_⟩
  unfold countFailure
  split <;> rfl

end Sys2Proof.Proofs.WaitLimit

/-! PROOFS. The end of a timed release (R114 to R119): which crumbs are gone and what is left of the transaction. -/

namespace Sys2Proof.Proofs.TimedReleases

open Sys2Proof Sys2Proof.Machine Sys2Proof.Proofs.FieldPorts Sys2Proof.Proofs.InterlockParts

/-! ## Who holds an object alone -/

/-- The object's exclusive entry belongs to the transaction in the slot. -/
def HoldsAlone (cs : List Crumb) (slot i : Nat) : Prop := ∃ c ∈ cs, c.obj = i ∧ c.shr = false ∧ c.owner = slot

/-- What of an entry says who holds which object. -/
def crumbKey (c : Crumb) : Nat × Bool × Nat := (c.obj, c.shr, c.owner)

theorem holdsAlone_iff_key {cs : List Crumb} {slot i : Nat} : HoldsAlone cs slot i ↔ (i, false, slot) ∈ cs.map crumbKey := by
  simp [HoldsAlone, crumbKey]

theorem map_updAll {α β : Type} (q : α → Bool) {g : α → α} {f : α → β} (hf : ∀ a, f (g a) = f a) (l : List α) :
    (updAll q g l).map f = l.map f := by
  rw [updAll, List.map_map]
  refine List.map_congr_left fun a _ => ?_
  rw [Function.comp_apply]
  split
  · exact hf a
  · rfl

/-- Freeing gives no entry to anyone. -/
theorem holdsAlone_of_freeOne {slot slot' i j : Nat} {shared : Bool} {cs : List Crumb} (h : HoldsAlone (freeOne slot' shared cs j) slot i) :
    HoldsAlone cs slot i := by
  have hfilter : ∀ {q : Crumb → Bool}, HoldsAlone (cs.filter q) slot i → HoldsAlone cs slot i :=
    fun ⟨c, hc, hkey⟩ => ⟨c, (List.mem_filter.mp hc).1, hkey⟩
  unfold freeOne at h
  split at h
  · split at h
    · exact h
    · split at h
      · exact hfilter h
      · rw [holdsAlone_iff_key, map_updFirst] at h
        · exact holdsAlone_iff_key.mpr h
        · exact fun _ => rfl
  · exact hfilter h

theorem not_holdsAlone_freeOne (slot i : Nat) (cs : List Crumb) : ¬ HoldsAlone (freeOne slot false cs i) slot i := by
  rintro ⟨c, hc, hobj, hshr, howner⟩
  simp [freeOne, hobj, hshr, howner] at hc

theorem holdsAlone_of_freeAll {slot slot' i : Nat} {fp : List FpEntry} {os : List Nat} {cs : List Crumb}
    (h : HoldsAlone (freeAll slot' fp cs os) slot i) : HoldsAlone cs slot i := by
  induction os generalizing cs with
  | nil => exact h
  | cons j os ih => exact holdsAlone_of_freeOne (ih h)

/-- An object that the footprint does not hold shared is held by the slot no longer. -/
theorem not_holdsAlone_freeAll {slot i : Nat} {fp : List FpEntry} {os : List Nat} {cs : List Crumb} (hi : i ∈ os)
    (hsole : holdsShared fp i = false) : ¬ HoldsAlone (freeAll slot fp cs os) slot i := by
  induction os generalizing cs with
  | nil => cases hi
  | cons j os ih =>
    rcases List.mem_cons.mp hi with rfl | hrest
    · intro h
      have hone : HoldsAlone (freeOne slot (holdsShared fp i) cs i) slot i := holdsAlone_of_freeAll (os := os) h
      rw [hsole] at hone
      exact not_holdsAlone_freeOne slot i cs hone
    · exact ih hrest

/-! ## The release -/

theorem tickRel_keeps (fin : FrameIn) (t : Txn) : (tickRel fin t) =
    { t with relNew := (tickRel fin t).relNew, relRemain := (tickRel fin t).relRemain, relQ := (tickRel fin t).relQ } := by
  unfold tickRel
  split
  · rfl
  · split <;> rfl

@[simp] theorem tickRel_slot (fin : FrameIn) (t : Txn) : (tickRel fin t).slot = t.slot := by rw [tickRel_keeps]
@[simp] theorem tickRel_route (fin : FrameIn) (t : Txn) : (tickRel fin t).route = t.route := by rw [tickRel_keeps]
@[simp] theorem tickRel_state (fin : FrameIn) (t : Txn) : (tickRel fin t).state = t.state := by rw [tickRel_keeps]
@[simp] theorem tickRel_held (fin : FrameIn) (t : Txn) : (tickRel fin t).held = t.held := by rw [tickRel_keeps]
@[simp] theorem tickRel_byCancel (fin : FrameIn) (t : Txn) : (tickRel fin t).byCancel = t.byCancel := by rw [tickRel_keeps]
@[simp] theorem tickRel_relUse (fin : FrameIn) (t : Txn) : (tickRel fin t).relUse = t.relUse := by rw [tickRel_keeps]
@[simp] theorem tickRel_ended (fin : FrameIn) (t : Txn) : (tickRel fin t).ended = t.ended := by rw [tickRel_keeps]

/-- In the frame that starts the time, and while it is not covered, the timing does not end. -/
theorem tickRel_running {fin : FrameIn} {t : Txn} (hq : t.relQ = false) (h : t.relNew = true ∨ countMs fin .release < t.relRemain) :
    (tickRel fin t).relQ = false := by
  unfold tickRel
  split
  · exact hq
  · split
    · exact hq
    · next hnew =>
      have hleft : t.relRemain - countMs fin .release ≠ 0 := by
        have := h.resolve_left hnew
        omega
      simpa using hleft

theorem tickRel_over {fin : FrameIn} {t : Txn} (huse : t.relUse ≠ .nothing) (hnew : t.relNew = false)
    (hcovered : t.relRemain ≤ countMs fin .release) : (tickRel fin t).relQ = true := by
  unfold tickRel
  split
  · next h => exact absurd h huse
  · simpa [hnew, Nat.sub_eq_zero_iff_le] using hcovered

/-- Praline's proof reads its own table, store and count under the transaction's route and slot. -/
theorem prlProves_congr {p : Prt} {x : Inter} {t u : Txn} (hroute : u.route = t.route) (hslot : u.slot = t.slot) (r : Release) :
    prlProves p x u r = prlProves p x t r := by
  simp only [prlProves, prlReads, hroute, hslot]

/-- A release that Praline proves: the transaction as the release leaves it, and its crumbs freed. -/
theorem doRelease_proved {st : Station} {p : Prt} {x : Inter} {r : Release} {t : Txn} (ht : txnOfSlot? x r.slot = some t)
    (hproved : prlProves p x t r = true) :
    txnOfSlot? (doRelease st p x r) r.slot = some (afterRelease r.why r.objs t)
      ∧ (doRelease st p x r).crumbs = freeAll r.slot (((prtRoute? p t.route).map (·.footprint)).getD []) x.crumbs r.objs := by
  have hset := txnOfSlot?_setTxn_same (f := afterRelease r.why r.objs) ht (by cases r.why <;> rfl)
  simp only [doRelease, ht, hproved, if_true]
  split <;> exact ⟨hset, rfl⟩

/-- The one release that the end of a timing calls for is done. -/
theorem releaseNow_one {st : Station} {p : Prt} {rd : RouteDef} {x : Inter} {t : Txn} {r : Release} (hdue : timedDue x rd t = [r])
    (hproved : prlProves p x t r = true) : releaseNow st p false rd t x = doRelease st p x r := by
  simp only [releaseNow, hdue, List.foldl_cons, List.foldl_nil, hproved, Bool.false_eq_true, if_true, if_false]

theorem provesStop_objs {x y : Inter} (h : y.objs = x.objs) (i : Nat) : provesStop y i = provesStop x i := by
  simp only [provesStop, seenObj, objOf?, h]

/-! ## After the release (R108) -/

theorem stepOverlap_keeps (st : Station) (fin : FrameIn) (x : Inter) (rd : RouteDef) (t : Txn) :
    (stepOverlap st fin x rd t).slot = t.slot ∧ (stepOverlap st fin x rd t).held = t.held
      ∧ (stepOverlap st fin x rd t).ended = t.ended := by
  have htick : (tickRel fin t).slot = t.slot ∧ (tickRel fin t).held = t.held ∧ (tickRel fin t).ended = t.ended := by simp
  unfold stepOverlap
  split
  · split
    · exact ⟨rfl, rfl, rfl⟩
    · exact htick
  · split <;> exact ⟨rfl, rfl, rfl⟩
  · exact htick

/-- What the transaction in a slot holds, and whether it has ended. -/
def holdOf (x : Inter) (slot : Nat) : Option (List Nat × Bool) := (txnOfSlot? x slot).map fun t => (t.held, t.ended)

/-- Whose crumbs are whose stays, and so does the hold of the transaction in the slot. -/
structure HoldKept (x y : Inter) (slot : Nat) : Prop where
  keys : y.crumbs.map crumbKey = x.crumbs.map crumbKey
  hold : holdOf y slot = holdOf x slot

theorem HoldKept.refl (x : Inter) (slot : Nat) : HoldKept x x slot := ⟨rfl, rfl⟩

theorem HoldKept.trans {x y z : Inter} {slot : Nat} (hxy : HoldKept x y slot) (hyz : HoldKept y z slot) : HoldKept x z slot :=
  ⟨hyz.keys.trans hxy.keys, hyz.hold.trans hxy.hold⟩

theorem holdKept_setTxn {x : Inter} {slot : Nat} {t : Txn} {f : Txn → Txn} (ht : txnOfSlot? x slot = some t)
    (hf : (f t).slot = t.slot ∧ (f t).held = t.held ∧ (f t).ended = t.ended) : HoldKept x (setTxn x slot f) slot := by
  obtain ⟨hslot, hheld, hended⟩ := hf
  refine ⟨rfl, ?_⟩
  rw [holdOf, holdOf, txnOfSlot?_setTxn_same ht hslot, ht, Option.map_some, Option.map_some, hheld, hended]

theorem HoldKept.addRec {x y : Inter} {slot : Nat} (h : HoldKept x y slot) (r : Rec) : HoldKept x (addRec y r) slot :=
  ⟨h.keys, h.hold⟩

theorem HoldKept.setObj {x y : Inter} {slot : Nat} (h : HoldKept x y slot) (i : Nat) (f : ObjInst → ObjInst) :
    HoldKept x (setObj y i f) slot :=
  ⟨h.keys, h.hold⟩

theorem HoldKept.ite {x y z : Inter} {slot : Nat} {c : Prop} [Decidable c] (hy : HoldKept x y slot) (hz : HoldKept x z slot) :
    HoldKept x (if c then y else z) slot := by
  split
  · exact hy
  · exact hz

theorem holdKept_goTo {x : Inter} {t u : Txn} (hu : txnOfSlot? x t.slot = some u) (s : RouteSt) : HoldKept x (goTo t s x) t.slot :=
  (holdKept_setTxn (f := fun u => { u with state := s }) hu ⟨rfl, rfl, rfl⟩).addRec _

theorem goTo_txn {x : Inter} {t : Txn} (ht : txnOfSlot? x t.slot = some t) (s : RouteSt) :
    txnOfSlot? (goTo t s x) t.slot = some { t with state := s } :=
  txnOfSlot?_setTxn_same (f := fun u => { u with state := s }) ht rfl

theorem holdKept_markCrumb (x : Inter) (slot k i : Nat) (appr tmg : Bool) : HoldKept x (markCrumb x k i appr tmg) slot :=
  ⟨by rw [markCrumb, map_updFirst]; exact fun _ => rfl, rfl⟩

theorem holdKept_markOverlap (x : Inter) (slot k : Nat) (tmg : Bool) : HoldKept x (markOverlap x k tmg) slot :=
  ⟨by rw [markOverlap, map_updAll]; exact fun _ => rfl, rfl⟩

/-- The transitions after PROVE leave the hold of a transaction that has ended. -/
theorem finishTxn_ended {st : Station} {fin : FrameIn} {x : Inter} {k : Nat} {t : Txn} (ht : txnOfSlot? x k = some t)
    (hended : t.ended = true) : HoldKept x (finishTxn st fin x k) k := by
  obtain rfl := txnOfSlot?_slot ht
  cases hrd : stRoute? st t.route with
  | none =>
    simp only [finishTxn, ht, hrd]
    exact .refl _ _
  | some rd =>
    cases hs : t.state with
    | proved =>
      have hlock := txnOfSlot?_setTxn_same (f := fun u => { u with approach := .locked }) ht rfl
      have hset := holdKept_setTxn (f := fun u => { u with approach := .locked }) ht ⟨rfl, rfl, rfl⟩
      simp only [finishTxn, ht, hrd, hs]
      exact .ite (((hset.trans (holdKept_goTo hlock .cleared)).setObj _ _).trans (holdKept_markCrumb ..)) (.refl _ _)
    | cleared =>
      simp only [finishTxn, ht, hrd, hs]
      exact .ite (.refl _ _) (holdKept_goTo ht .setting)
    | inUse =>
      have hstep := (holdKept_goTo ht .releasing).trans (holdKept_setTxn
        (f := fun _ => stepOverlap st fin (goTo t .releasing x) rd { t with state := .releasing }) (goTo_txn ht .releasing)
        (stepOverlap_keeps st fin _ rd _))
      simp only [finishTxn, ht, hrd, hs, goTo_txn ht .releasing]
      exact .ite (.ite (hstep.trans (holdKept_markOverlap ..)) hstep) (.refl _ _)
    | releasing =>
      simp only [finishTxn, ht, hrd, hs, hended, Bool.not_true, Bool.and_false, Bool.false_eq_true, if_false]
      exact .refl _ _
    | idle | requested | claimed | setting | cancelled | refused =>
      simp only [finishTxn, ht, hrd, hs]
      exact .refl _ _

/-- A cancelled transaction has no transition after PROVE. -/
theorem finishTxn_cancelled {st : Station} {fin : FrameIn} {x : Inter} {k : Nat} {t : Txn} (ht : txnOfSlot? x k = some t)
    (hs : t.state = .cancelled) : finishTxn st fin x k = x := by
  simp only [finishTxn, ht, hs]
  split <;> rfl

/-- In RELEASING a transaction that holds nothing more and was not cancelled ends (R108 transition 16). -/
theorem finishTxn_releasing {st : Station} {fin : FrameIn} {x : Inter} {k : Nat} {t : Txn} {rd : RouteDef} (ht : txnOfSlot? x k = some t)
    (hrd : stRoute? st t.route = some rd) (hs : t.state = .releasing) :
    ∃ e, txnOfSlot? (finishTxn st fin x k) k = some { t with ended := e }
      ∧ (t.held = [] → t.byCancel = false → e = true) ∧ (finishTxn st fin x k).crumbs = x.crumbs := by
  have heq : finishTxn st fin x k = if t.held.isEmpty && !t.byCancel && !t.ended then
      addRec (setTxn x k fun u => { u with ended := true }) (routeRec t 7 10) else x := by
    simp only [finishTxn, ht, hrd, hs]
  rw [heq]
  split
  · exact ⟨true, txnOfSlot?_setTxn_same (f := fun u => { u with ended := true }) ht rfl, fun _ _ => rfl, rfl⟩
  · next hgoes => exact ⟨t.ended, ht, fun hheld hcancel => by simpa [hheld, hcancel] using hgoes, rfl⟩

/-! ## The end of a timing -/

/-- A transaction of a route whose release time is under way. -/
structure Timing (st : Station) (x : Inter) (r : Nat) (t : Txn) (rd : RouteDef) : Prop where
  route : txnOfRoute? x r = some t
  slot : txnOfSlot? x t.slot = some t
  table : stRoute? st r = some rd
  going : t.ended = false
  running : t.relQ = false

/-- The state in which Praline proves the release: the lanes' count and its own are stepped (R119). -/
def stepped (p : Prt) (fin : FrameIn) (x : Inter) (t : Txn) : Inter :=
  trackNow p fin t (setTxn x t.slot fun _ => tickRel fin t)

theorem stepped_txn {p : Prt} {fin : FrameIn} {x : Inter} {t : Txn} (ht : txnOfSlot? x t.slot = some t) :
    txnOfSlot? (stepped p fin x t) t.slot = some (tickRel fin t) :=
  txnOfSlot?_setTxn_same (f := fun _ => tickRel fin t) ht (tickRel_slot fin t)

section
variable {st : Station} {p : Prt} {fin : FrameIn} {x : Inter} {r : Nat} {t : Txn} {rd : RouteDef}

/-- In the frame that starts the time, and before the time, no timing ends. -/
theorem timingEnds_early (h : Timing st x r t rd) (hearly : t.relNew = true ∨ countMs fin .release < t.relRemain) (fenced : Bool)
    (use : RelUse) : timingEnds st p fenced fin use r x = x := by
  simp only [timingEnds, h.route, h.table, tickRel_running h.running hearly]
  simp

/-- The time is covered and its release proved: the transaction as the release leaves it, its crumbs freed, and the
transitions after PROVE. -/
theorem timingEnds_released (h : Timing st x r t rd) {use : RelUse} {rel : Release} (hnew : t.relNew = false)
    (hcovered : t.relRemain ≤ countMs fin .release) (huse : t.relUse = use) (hnone : use ≠ .nothing)
    (hstands : use ≠ .overlap ∨ t.overlap ≠ .timing ∨ overlapClear st x rd = true) (hslot : rel.slot = t.slot)
    (hdue : timedDue (stepped p fin x t) rd (tickRel fin t) = [rel]) (hproved : prlProves p (stepped p fin x t) t rel = true) :
    ∃ w, timingEnds st p false fin use r x = finishTxn st fin w t.slot
      ∧ txnOfSlot? w t.slot = some (afterRelease rel.why rel.objs (tickRel fin t))
      ∧ ∀ i ∈ rel.objs, holdsShared (((prtRoute? p t.route).map (·.footprint)).getD []) i = false → ¬ HoldsAlone w.crumbs t.slot i := by
  have hover : (tickRel fin t).relQ = true := tickRel_over (huse ▸ hnone) hnew hcovered
  have hproved' : prlProves p (stepped p fin x t) (tickRel fin t) rel = true := by
    rwa [prlProves_congr (tickRel_route fin t) (tickRel_slot fin t)]
  have htxn : txnOfSlot? (stepped p fin x t) rel.slot = some (tickRel fin t) := hslot ▸ stepped_txn h.slot
  obtain ⟨hafter, hcrumbs⟩ := doRelease_proved (st := st) htxn hproved'
  rw [hslot] at hafter
  refine ⟨doRelease st p (stepped p fin x t) rel, ?_, hafter, fun i hi hsole => ?_⟩
  · have hgoes : ¬ (t.relUse ≠ use ∨ t.relQ = true ∨ t.ended = true ∨ (!(tickRel fin t).relQ) = true
        ∨ ¬ (use ≠ .overlap ∨ t.overlap ≠ .timing ∨ overlapClear st x rd = true)) := by
      simp only [huse, h.running, h.going, hover, hstands]
      simp
    simp only [timingEnds, h.route, h.table, if_neg hgoes]
    exact congrArg (finishTxn st fin · t.slot) (releaseNow_one hdue hproved')
  · rw [hcrumbs, hslot, tickRel_route]
    exact not_holdsAlone_freeAll hi hsole

/-- Of a hold that is freed but for one object, that object is left. -/
theorem filter_not_contains_others (l : List Nat) (e : Nat) :
    (l.filter fun i => !(l.filter (· != e)).contains i) = l.filter (· == e) := by
  refine List.filter_congr fun i hi => ?_
  by_cases h : i = e <;> simp [h, hi]

theorem stepped_provesStop (hstop : provesStop x rd.entry = true) : provesStop (stepped p fin x t) rd.entry = true :=
  (provesStop_objs rfl rd.entry).trans hstop

section
variable (h : Timing st x r t rd) (hnew : t.relNew = false) (hcovered : t.relRemain ≤ countMs fin .release)
include h hnew hcovered

/-- The timed approach lock ends with the signal at STOP (R114). -/
theorem timingEnds_approach (huse : t.relUse = .approach) (hstop : provesStop x rd.entry = true)
    (hproved : prlProves p (stepped p fin x t) t { slot := t.slot, objs := t.held, why := .approachEnd } = true) :
    ∃ u, txnOfSlot? (timingEnds st p false fin .approach r x) t.slot = some u ∧ u.state = .cancelled
      ∧ u.approach = .free ∧ u.overlap = .free ∧ u.held = [] ∧ u.relUse = .nothing
      ∧ ∀ i ∈ t.held, holdsShared (((prtRoute? p t.route).map (·.footprint)).getD []) i = false →
        ¬ HoldsAlone (timingEnds st p false fin .approach r x).crumbs t.slot i := by
  have hover := tickRel_over (fin := fin) (t := t) (by rw [huse]; exact nofun) hnew hcovered
  have hdue : timedDue (stepped p fin x t) rd (tickRel fin t) = [{ slot := t.slot, objs := t.held, why := .approachEnd }] := by
    simp [timedDue, huse, hover, stepped_provesStop hstop, releaseAll]
  obtain ⟨w, heq, hafter, hfreed⟩ := timingEnds_released h hnew hcovered huse nofun (.inl nofun) rfl hdue hproved
  rw [heq, finishTxn_cancelled hafter rfl]
  refine ⟨_, hafter, rfl, rfl, rfl, ?_, rfl, hfreed⟩
  simp [afterRelease]

/-- The emergency release ends the transaction with the entry signal at STOP (R118). -/
theorem timingEnds_emergency (huse : t.relUse = .emergency) (hstop : provesStop x rd.entry = true)
    (hproved : prlProves p (stepped p fin x t) t { slot := t.slot, objs := t.held, why := .emergency } = true) :
    ∃ u, txnOfSlot? (timingEnds st p false fin .emergency r x) t.slot = some u ∧ u.ended = true ∧ u.held = []
      ∧ ∀ i ∈ t.held, holdsShared (((prtRoute? p t.route).map (·.footprint)).getD []) i = false →
        ¬ HoldsAlone (timingEnds st p false fin .emergency r x).crumbs t.slot i := by
  have hover := tickRel_over (fin := fin) (t := t) (by rw [huse]; exact nofun) hnew hcovered
  have hdue : timedDue (stepped p fin x t) rd (tickRel fin t) = [{ slot := t.slot, objs := t.held, why := .emergency }] := by
    simp [timedDue, huse, hover, stepped_provesStop hstop, releaseAll]
  obtain ⟨w, heq, hafter, hfreed⟩ := timingEnds_released h hnew hcovered huse nofun (.inl nofun) rfl hdue hproved
  obtain ⟨hkeys, hhold⟩ := finishTxn_ended (st := st) (fin := fin) hafter rfl
  rw [heq]
  rw [holdOf, holdOf, hafter, Option.map_some, Option.map_eq_some_iff] at hhold
  obtain ⟨u, hu, hsame⟩ := hhold
  obtain ⟨hheld, hended⟩ := Prod.mk.inj hsame
  refine ⟨u, hu, hended, hheld.trans ?_, fun i hi hsole hholds => hfreed i hi hsole ?_⟩
  · simp [afterRelease]
  · rwa [holdsAlone_iff_key, hkeys, ← holdsAlone_iff_key] at hholds

/-- The overlap's time ends: its crumbs, the berth's and the boundary's are freed (R116). -/
theorem timingEnds_overlap (huse : t.relUse = .overlap) (hstate : t.state = .releasing)
    (hclear : t.overlap ≠ .timing ∨ overlapClear st x rd = true)
    (hproved : prlProves p (stepped p fin x t) t
      { slot := t.slot, objs := t.held.filter (· != rd.entry), why := .overlapEnd } = true) :
    ∃ u, txnOfSlot? (timingEnds st p false fin .overlap r x) t.slot = some u ∧ u.overlap = .free
      ∧ u.held = t.held.filter (· == rd.entry)
      ∧ (∀ i ∈ t.held.filter (· != rd.entry), holdsShared (((prtRoute? p t.route).map (·.footprint)).getD []) i = false →
        ¬ HoldsAlone (timingEnds st p false fin .overlap r x).crumbs t.slot i)
      ∧ (rd.entry ∉ t.held → t.byCancel = false → u.ended = true) := by
  have hover := tickRel_over (fin := fin) (t := t) (by rw [huse]; exact nofun) hnew hcovered
  have hdue : timedDue (stepped p fin x t) rd (tickRel fin t)
      = [{ slot := t.slot, objs := t.held.filter (· != rd.entry), why := .overlapEnd }] := by
    simp [timedDue, huse, hover]
  obtain ⟨w, heq, hafter, hfreed⟩ := timingEnds_released h hnew hcovered huse nofun (.inr hclear) rfl hdue hproved
  have hheld : (afterRelease .overlapEnd (t.held.filter (· != rd.entry)) (tickRel fin t)).held = t.held.filter (· == rd.entry) := by
    simp only [afterRelease, tickRel_held, filter_not_contains_others]
  have htable : stRoute? st (tickRel fin t).route = some rd := by
    rw [tickRel_route, txnOfRoute?_route h.route, h.table]
  obtain ⟨e, htxn, hends, hcrumbs⟩ := finishTxn_releasing (fin := fin) hafter htable ((tickRel_state fin t).trans hstate)
  rw [heq, hcrumbs]
  refine ⟨_, htxn, rfl, hheld, hfreed, fun hentry hcancel => hends ?_ ((tickRel_byCancel fin t).trans hcancel)⟩
  rw [hheld]
  exact List.filter_eq_nil_iff.mpr fun i hi he => hentry (beq_iff_eq.mp he ▸ hi)

end

end

end Sys2Proof.Proofs.TimedReleases

/-! PROOFS. The commands of the interlocking's own clocks, and the statement on them. -/

namespace Sys2Proof.Proofs.InterlockClocks

open Sys2Proof Sys2Proof.Machine Sys2Proof.Proofs.TimersAndLatches Sys2Proof.Proofs.InterlockParts Sys2Proof.Proofs.TickClocks
open Sys2Proof.Proofs.WaitLimit Sys2Proof.Proofs.TimedReleases

/-! ## The commands before the tick and at it -/

theorem exec_before_tick {s : State} {now t0 : Nat} (hnext : (later s now).frm.nextTick = some t0)
    (hearly : (later s now).now < t0) (n : Nat) :
    exec (.timerExpiry n now) s = .next (later s now) ∧ exec (.settlePeriodEnd n now) s = .next (later s now)
      ∧ exec (.waitLimitExpiry n now) s = .next (later s now) ∧ exec (.approachLockExpiry n now) s = .next (later s now) :=
  ⟨congrArg Host.Outcome.next (atTick_before _ hnext hearly), congrArg Host.Outcome.next (atTick_before _ hnext hearly),
    congrArg Host.Outcome.next (atTick_before _ hnext hearly), congrArg Host.Outcome.next (atTick_before _ hnext hearly)⟩

section
variable {s : State} {now : Nat} {st : Station} {p : Prt} (h : TickHasCome (later s now) st p)
include h

theorem exec_timerExpiry (n : Nat) : exec (.timerExpiry n now) s
    = .next { later s now with core := timerEnds st (dueFrame (later s now)) n (later s now).core } :=
  congrArg Host.Outcome.next (h.atTick_eq _)

theorem exec_moveTimerExpiry (i : Nat) : exec (.moveTimerExpiry i now) s
    = .next { later s now with core := watchEnds .point i st (dueFrame (later s now)) (later s now).core } :=
  congrArg Host.Outcome.next (h.atTick_eq _)

theorem exec_closeTimerExpiry (i : Nat) : exec (.closeTimerExpiry i now) s
    = .next { later s now with core := watchEnds .crossing i st (dueFrame (later s now)) (later s now).core } :=
  congrArg Host.Outcome.next (h.atTick_eq _)

theorem exec_settlePeriodEnd (i : Nat) : exec (.settlePeriodEnd i now) s
    = .next { later s now with core := settleEnds i (later s now).core } :=
  congrArg Host.Outcome.next (h.atTick_eq _)

theorem exec_boundaryAgeLimit (i : Nat) : exec (.boundaryAgeLimit i now) s
    = .next { later s now with core := boundaryEnds st p i (later s now).core } :=
  congrArg Host.Outcome.next (h.atTick_eq _)

theorem exec_waitLimitExpiry (r : Nat) : exec (.waitLimitExpiry r now) s = .next { later s now with
    core := waitEnds st (dueFrame (later s now)) r (failureIn r (nextWork (later s now))) (later s now).core } := by
  rw [← failsAtLast_eq rfl]
  exact congrArg Host.Outcome.next (h.atTick_eq _)

theorem exec_approachLockExpiry (r : Nat) : exec (.approachLockExpiry r now) s = .next { later s now with
    core := timingEnds st p (later s now).prl.fenced (dueFrame (later s now)) .approach r (later s now).core } :=
  congrArg Host.Outcome.next (h.atTick_eq _)

theorem exec_overlapExpiry (r : Nat) : exec (.overlapExpiry r now) s = .next { later s now with
    core := timingEnds st p (later s now).prl.fenced (dueFrame (later s now)) .overlap r (later s now).core } :=
  congrArg Host.Outcome.next (h.atTick_eq _)

theorem exec_emergencyReleaseExpiry (r : Nat) : exec (.emergencyReleaseExpiry r now) s = .next { later s now with
    core := timingEnds st p (later s now).prl.fenced (dueFrame (later s now)) .emergency r (later s now).core } :=
  congrArg Host.Outcome.next (h.atTick_eq _)

end

/-! ## The statement -/

/-- A command that leaves the committed state as it was. -/
theorem next_of_core_eq {c : Instr} {s v : State} {y : Inter} (h : exec c s = .next { v with core := y }) (hy : y = v.core) :
    exec c s = .next v := by
  rw [h, hy]

/-- Settles O53, clock by clock: at a tick that has come each command is the change of the committed state that its clock calls
for (`exec_…`), and the lemma on that change says what is shown; where the time is not covered the change is none. -/
theorem interlockTimersEndAtTheTick : Obligations.InterlockTimersEndAtTheTick := by
  unfold Obligations.InterlockTimersEndAtTheTick
  intro s now st p v x e ms covered ends objEvent hst hp hidle hruns hgap t0 hnext
  refine ⟨fun hearly => exec_before_tick hnext hearly, fun hdue => ?_⟩
  have h : TickHasCome v st p := ⟨hst, hp, hidle, hruns, hgap, t0, hnext, hdue⟩
  have hms : ∀ k, ms k = countMs (dueFrame v) k := fun k => by
    cases k
    · exact (countMs_release h.noTakeover).symm
    · exact (countMs_watch h.noTakeover).symm
  have hcovered : ∀ t, covered t ↔ runsOut (dueFrame v) t = true := fun t => by
    rw [runsOut_iff, ← hms]
  refine ⟨fun n t ht hfree => ?_, fun i n d o t hd hi hn ho ht => ?_, fun i o ho => ?_, fun i o ho hty => ?_, fun r t ht hslot => ?_,
    fun r t rd ht hslot hrd hended hq => ?_⟩
  · have hexec := exec_timerExpiry h n
    rw [timerEnds_logic hfree ht] at hexec
    refine ⟨fun hnot => next_of_core_eq hexec (if_neg (mt (hcovered t).mpr hnot)), fun hcov => ?_⟩
    rw [if_pos ((hcovered t).mp hcov)] at hexec
    exact ⟨_, hexec, timerOf?_timerDone_same ht, fun m hm => timerOf?_timerDone_other hm, rfl⟩
  · intro moving closing spent
    have hmoving : moving ↔ o.ty = .point ∧ objTimerRun o = true := and_congr_right fun hty => (objTimerRun_point hty).symm
    have hclosing : closing ↔ o.ty = .crossing ∧ objTimerRun o = true := and_congr_right fun hty => (objTimerRun_crossing hty).symm
    have hmove := exec_moveTimerExpiry h i
    have hclose := exec_closeTimerExpiry h i
    rw [watchEnds_timer hd hn] at hmove hclose
    have hspent : ∀ c, covered t → objTimerRun o = true →
        exec c s = .next { v with core := objTimerEnds (dueFrame v) o.ty i n x } → spent c (countFail o) := fun c hcov hrun hexec => by
      obtain ⟨y, hy, hrest⟩ := objTimerEnds_spent ho ht ((hcovered t).mp hcov) hrun
      exact ⟨y, hy ▸ hexec, hrest⟩
    refine ⟨fun hnot => ?_, fun hcov hm => ?_, fun hnot => ?_, fun hcov hc => ?_, fun hfind hty hcov hm => ?_⟩
    · exact next_of_core_eq hmove (objTimerEnds_idle ho ht (hnot.imp (mt (hcovered t).mpr) (mt hmoving.mpr)))
    · obtain ⟨hpoint, hrun⟩ := hmoving.mp hm
      rw [← countFail_point hpoint]
      exact hspent _ hcov hrun (hpoint ▸ hmove)
    · exact next_of_core_eq hclose (objTimerEnds_idle ho ht (hnot.imp (mt (hcovered t).mpr) (mt hclosing.mpr)))
    · obtain ⟨hcrossing, hrun⟩ := hclosing.mp hc
      have hsame := hspent (.closeTimerExpiry i now) hcov hrun (hcrossing ▸ hclose)
      rwa [countFail_crossing hcrossing] at hsame
    · obtain ⟨hpoint, hrun⟩ := hmoving.mp hm
      have hexec := exec_timerExpiry h n
      rw [timerEnds_object hfind, hi, hty] at hexec
      rw [← countFail_point hpoint]
      exact hspent _ hcov hrun hexec
  · exact ⟨_, exec_settlePeriodEnd h i, objOf?_settleEnds_same ho, fun q hq => prlOf?_settleEnds_same hq,
      fun k hk => settleEnds_other hk, settleEnds_frame i _⟩
  · intro age
    have hexec := exec_boundaryAgeLimit h i
    rw [boundaryEnds_eq ho hty] at hexec
    have hwithin : withinBage st x o = true ↔ age ≤ st.bage := withinBage_iff (objOf?_idx ho)
    refine ⟨_, hexec, fun hvalid hlate => ?_, fun hage => ?_, fun q hq hfresh => ⟨fun hlate => ?_, fun hage => ?_⟩,
      fun k hk => setPrl_boundaryLanes_other hk, setPrl_boundaryLanes_frame⟩
    · have hout : withinBage st x o = false := by
        rw [← Bool.not_eq_true, hwithin]
        exact Nat.not_le.mpr hlate
      rw [boundaryLanes_late hvalid hout]
      refine ⟨objOf?_setObj_same ho rfl, ?_⟩
      simp only [setPrl, addRec, setObj, objRec, objEvent, List.append_assoc]
    · rw [boundaryLanes_within (hwithin.mpr hage)]
      exact ⟨rfl, rfl⟩
    · rw [prlOf?_boundaryEnds_same hq, agedPrl_late hfresh hlate]
    · rw [prlOf?_boundaryEnds_same hq, agedPrl_within hage]
  · intro i refused waits
    have hexec := exec_waitLimitExpiry h r
    refine ⟨fun hnot => next_of_core_eq hexec (waitEnds_idle ht (hnot.imp_right failureIn_none)), fun hwaits hover hrefused => ?_⟩
    obtain ⟨c, hc, hfails⟩ := failureIn_refused (w := nextWork v) hrefused
    obtain ⟨y, hy, hrest⟩ := waitEnds_refuses (st := st) (fin := dueFrame v) ht hslot hc hwaits hover
    rw [hfails] at hexec
    exact ⟨y, hy ▸ hexec, hrest⟩
  · intro early sole freed z proved
    have htiming : Timing st x r t rd := ⟨ht, hslot, hrd, hended, hq⟩
    have happroach := exec_approachLockExpiry h r
    have hoverlap := exec_overlapExpiry h r
    have hemergency := exec_emergencyReleaseExpiry h r
    have hover : ¬ early → t.relRemain ≤ countMs (dueFrame v) .release := fun hnot => hms .release ▸ Nat.not_lt.mp hnot
    refine ⟨fun hrunning => ?_, fun hnew hnot huse hstop ⟨hfenced, hproved⟩ => ?_, fun hnew hnot huse hstop ⟨hfenced, hproved⟩ => ?_,
      fun hnew hnot huse hstate hclear ⟨hfenced, hproved⟩ => ?_⟩
    · have hearly : t.relNew = true ∨ countMs (dueFrame v) .release < t.relRemain := hms .release ▸ hrunning
      have hsame := timingEnds_early (p := p) htiming hearly v.prl.fenced
      exact ⟨next_of_core_eq happroach (hsame _), next_of_core_eq hoverlap (hsame _), next_of_core_eq hemergency (hsame _)⟩
    · rw [hfenced] at happroach
      obtain ⟨u, hu, hrest⟩ := timingEnds_approach htiming hnew (hover hnot) huse hstop hproved
      exact ⟨_, u, happroach, hu, hrest⟩
    · rw [hfenced] at hemergency
      obtain ⟨u, hu, hrest⟩ := timingEnds_emergency htiming hnew (hover hnot) huse hstop hproved
      exact ⟨_, u, hemergency, hu, hrest⟩
    · rw [hfenced] at hoverlap
      obtain ⟨u, hu, hrest⟩ := timingEnds_overlap htiming hnew (hover hnot) huse hstate hclear hproved
      exact ⟨_, u, hoverlap, hu, hrest⟩

end Sys2Proof.Proofs.InterlockClocks

/-! PROOFS. A vital request that reaches the lanes between two frames (R282, R286): what its command makes of the state. -/

namespace Sys2Proof.Proofs.VitalRequests

open Sys2Proof Sys2Proof.Machine Sys2Proof.Safety

/-- The partner has been heard, and the lanes have made of the committed state what the request asks for. -/
def handed (s : State) (src : Src) (x : Inter) : State := { hearFrom s src.entry with core := x }

/-- The frame on whose inputs a request of the source is taken. -/
def requestFrame (s : State) (src : Src) : FrameIn := betweenFrames (hearFrom s src.entry)

/-- INPUT has room for a request, if it is a ROUTE_SET for that too (R286). -/
theorem inputFull_hearFrom {s : State} {src : Src} {st : Station} {p : Prt} (h : TakesFrom s src st p) {r : VReq}
    (hroom : isRouteSet r = true → (s.core.asks.filter (·.opc == 0x10)).length < 8) :
    inputFull (hearFrom s src.entry) r = false := by
  obtain ⟨-, -, -, -, -, -, -, -, -, -, -, hinbox, hasks⟩ := h
  have hinbox' : (hearFrom s src.entry).cmd.inbox = [] := hinbox
  have hcore : (hearFrom s src.entry).core = s.core := rfl
  cases hset : isRouteSet r with
  | false => simp [inputFull, hinbox', hcore, hset, hasks]
  | true =>
    have hsets := hroom hset
    simp [inputFull, hinbox', hcore, hset, hasks, hsets]

/-- Between two frames, and with room, a request is carried out at once (R286). -/
theorem putRequest_now {s : State} {st : Station} {r : VReq} (hmzp : s.mzp = some st) (hwork : s.work = none)
    (hfull : inputFull s r = false) :
    putRequest s r = { s with core := takeVital st (prtOf s) (betweenFrames s) s.core r } := by
  unfold putRequest
  split
  · next st' hst =>
    obtain rfl : st' = st := Option.some.inj (hst.symm.trans hmzp)
    rw [if_pos (by simp [hwork, hfull])]
  · next hnone => exact nomatch hnone.symm.trans hmzp

/-- A request with its parameters in range is carried out on the committed state (R282 steps 8, 12 and 17). -/
theorem vitalRow_takes {s : State} {src : Src} {st : Station} {p : Prt} (h : TakesFrom s src st p) (hown : OwnSide s src)
    (opc : Nat) {r : VReq} (hroom : isRouteSet r = true → (s.core.asks.filter (·.opc == 0x10)).length < 8) :
    vitalRow s src opc (some r) = handed s src (takeVital st p (requestFrame s src) s.core r) := by
  have hfull := inputFull_hearFrom h hroom
  obtain ⟨haddr, hclass, hfactory, hretired, hbridge, hsvc, htakes, hfenced, hmzp, hprt, hwork, -, -⟩ := h
  have hkind : ¬ (partnerAt s src.entry).addr / 256 % 8 ≤ 3 := Nat.not_le.mpr hown
  have hprt' : prtOf (hearFrom s src.entry) = p := congrArg (·.getD emptyPrt) hprt
  calc vitalRow s src opc (some r)
      = putRequest (hearFrom s src.entry) r := by
        simp [vitalRow, haddr, hclass, hfactory, hretired, hbridge, hsvc, htakes, hfenced, hkind]
    _ = handed s src (takeVital st (prtOf (hearFrom s src.entry)) (requestFrame s src) s.core r) :=
        putRequest_now hmzp hwork hfull
    _ = handed s src (takeVital st p (requestFrame s src) s.core r) := by rw [hprt']

/-- A request that the lanes answer has been taken, and the committed state is otherwise what they make of it. -/
theorem taken_of_core_eq {s : State} {src : Src} {opc : Nat} {b : AskBody} {x y : Inter} (h : y = ask src opc b x) :
    Taken s (handed s src y) src opc b x := by
  rw [h]
  rfl

end Sys2Proof.Proofs.VitalRequests

/-! PROOFS. ROUTE_SET, ROUTE_CANCEL and EMERGENCY_RELEASE as INPUT takes them (R106, R108, R117, R118): each case of the checks
and what the lanes make of it. -/

namespace Sys2Proof.Proofs.RouteRequests

open Sys2Proof Sys2Proof.Machine

/-! ## The tables -/

theorem txnOfRoute?_isSome_iff {x : Inter} {r : Nat} : (txnOfRoute? x r).isSome = true ↔ ∃ u ∈ x.txns, u.route = r := by
  simp [txnOfRoute?]

theorem txnOfRoute?_isSome_eq_false {x : Inter} {r : Nat} (h : ∀ u ∈ x.txns, u.route ≠ r) : (txnOfRoute? x r).isSome = false :=
  Bool.eq_false_iff.mpr fun hsome =>
    have ⟨u, hu, hroute⟩ := txnOfRoute?_isSome_iff.mp hsome
    h u hu hroute

theorem txnOfSlot?_isNone_iff {x : Inter} {k : Nat} : (txnOfSlot? x k).isNone = true ↔ ∀ u ∈ x.txns, u.slot ≠ k := by
  simp [txnOfSlot?]

theorem freeSlot?_none {x : Inter} (h : ∀ n < 128, ∃ u ∈ x.txns, u.slot = n) : freeSlot? x = none := by
  refine List.find?_eq_none.mpr fun n hn hfree => ?_
  obtain ⟨u, hu, hslot⟩ := h n (List.mem_range.mp hn)
  exact txnOfSlot?_isNone_iff.mp hfree u hu hslot

/-- The lowest free slot (R106). -/
theorem freeSlot?_lowest {x : Inter} {n : Nat} (hn : n < 128) (hfree : ∀ u ∈ x.txns, u.slot ≠ n)
    (hlow : ∀ m < n, ∃ u ∈ x.txns, u.slot = m) : freeSlot? x = some n := by
  refine List.find?_range_eq_some.mpr ⟨txnOfSlot?_isNone_iff.mpr hfree, List.mem_range.mpr hn, fun m hm => ?_⟩
  obtain ⟨u, hu, hslot⟩ := hlow m hm
  rw [Bool.not_eq_true', Bool.eq_false_iff]
  exact fun hnone => txnOfSlot?_isNone_iff.mp hnone u hu hslot

/-! ## ROUTE_SET (R106) -/

section RouteSet
variable {st : Station} {x : Inter} {route : Nat} {rd : RouteDef}

theorem admitCheck_undefined (h : stRoute? st route = none) : admitCheck st x route = .error .badState := by
  simp only [admitCheck, h]

theorem admitCheck_inFlight (h : stRoute? st route = some rd) (hin : ∃ u ∈ x.txns, u.route = route) :
    admitCheck st x route = .error .badState := by
  simp only [admitCheck, h, txnOfRoute?_isSome_iff.mpr hin, if_true]

section
variable (h : stRoute? st route = some rd) (hidle : ∀ u ∈ x.txns, u.route ≠ route)
include h hidle

theorem admitCheck_refused (hbar : holdsExpr st x x rd.inhibit = true ∨ routeBlocked st x rd = true) :
    admitCheck st x route = .error .refused := by
  simp only [admitCheck, h, txnOfRoute?_isSome_eq_false hidle, Bool.or_eq_true_iff.mpr hbar, Bool.false_eq_true, if_false, if_true]

variable (hinhibit : holdsExpr st x x rd.inhibit = false) (hblock : routeBlocked st x rd = false)
include hinhibit hblock

theorem admitCheck_busy (hfull : freeSlot? x = none) : admitCheck st x route = .error .busy := by
  simp only [admitCheck, h, txnOfRoute?_isSome_eq_false hidle, hinhibit, hblock, hfull, Bool.or_false, Bool.false_eq_true, if_false]

theorem admitCheck_ok {n : Nat} (hslot : freeSlot? x = some n) : admitCheck st x route = .ok (rd, n) := by
  simp only [admitCheck, h, txnOfRoute?_isSome_eq_false hidle, hinhibit, hblock, hslot, Bool.or_false, Bool.false_eq_true, if_false]

end

/-- The transaction of an admitted request (R106). -/
def admitted (fin : FrameIn) (x : Inter) (route waitS n : Nat) : Txn :=
  { slot := n, route := route, age := x.counter, order := x.txns.length, admittedAt := fin.tick, waitMs := waitS * 1000
    state := .requested }

theorem doRouteSet_error {e : Status} (h : admitCheck st x route = .error e) (fin : FrameIn) (src : Src) (waitS : Nat) :
    doRouteSet st fin src route waitS x = ask src 0x10 (.fixed e) x := by
  simp only [doRouteSet, h]

theorem doRouteSet_admits {n : Nat} (h : admitCheck st x route = .ok (rd, n)) (fin : FrameIn) (src : Src) (waitS : Nat) :
    doRouteSet st fin src route waitS x = ask src 0x10 (.claim route)
      (addRec { x with txns := x.txns ++ [admitted fin x route waitS n] } (routeRec (admitted fin x route waitS n) 0 1)) := by
  simp only [doRouteSet, h]
  rfl

end RouteSet

/-! ## ROUTE_CANCEL (R108, R117, R120) -/

section RouteCancel
variable {st : Station} {x : Inter} {route : Nat} {rd : RouteDef} {u : Txn} (src : Src)

theorem doRouteCancel_missing (h : stRoute? st route = none ∨ txnOfRoute? x route = none) :
    doRouteCancel st src route x = ask src 0x11 (.fixed .badState) x := by
  rcases h with h | h
  · simp only [doRouteCancel, h]
  · cases hrd : stRoute? st route <;> simp only [doRouteCancel, h, hrd]

section
variable (hrd : stRoute? st route = some rd) (hu : txnOfRoute? x route = some u)
include hrd hu

/-- Once cancelled or ended, and where the train has the route, there is nothing to cancel. -/
theorem doRouteCancel_over (h : u.byCancel = true ∨ u.ended = true ∨ u.wantCancel = true ∨ u.state = .inUse ∨ u.state = .releasing
      ∨ u.state = .cancelled ∨ u.state = .refused) :
    doRouteCancel st src route x = ask src 0x11 (.fixed .badState) x := by
  simp only [doRouteCancel, hrd, hu]
  split
  · rfl
  · next hgoing =>
    rcases h with h | h | h | h | h | h | h
    · simp [h] at hgoing
    · simp [h] at hgoing
    · simp [h] at hgoing
    all_goals simp only [h]

variable (hcancel : u.byCancel = false) (hended : u.ended = false) (hwant : u.wantCancel = false)
include hcancel hended hwant

theorem doRouteCancel_requested (hs : u.state = .requested) :
    doRouteCancel st src route x = ask src 0x11 (.txnState route)
      (addRec (setTxn x u.slot fun v => { v with state := .cancelled, byCancel := true }) (routeRec u 1 8)) := by
  simp only [doRouteCancel, hrd, hu, hcancel, hended, hwant, hs]
  rfl

theorem doRouteCancel_holding (hs : u.state = .claimed ∨ u.state = .setting ∨ u.state = .proved) :
    doRouteCancel st src route x = ask src 0x11 (.txnState route)
      { setTxn x u.slot (fun v => { v with byCancel := true }) with plan := x.plan ++ [releaseAll u .cancel] } := by
  rcases hs with hs | hs | hs <;> simp only [doRouteCancel, hrd, hu, hcancel, hended, hwant, hs] <;> rfl

theorem doRouteCancel_cleared (hs : u.state = .cleared) :
    doRouteCancel st src route x = ask src 0x11 (.cancelled route) (setTxn x u.slot fun v => { v with wantCancel := true }) := by
  simp only [doRouteCancel, hrd, hu, hcancel, hended, hwant, hs]
  rfl

end

end RouteCancel

/-! ## EMERGENCY_RELEASE (R118) -/

section Emergency
variable {st : Station} {x : Inter} {route : Nat} {rd : RouteDef} {u : Txn} (src : Src)

/-- A transaction as EMERGENCY_RELEASE leaves it (R108 transition 18). -/
def emergencyTxn (rd : RouteDef) (v : Txn) : Txn :=
  { v with state := .releasing, relUse := .emergency, relRemain := rd.approachMs, relQ := false, relNew := true
           overlap := if v.overlap = .timing then .locked else v.overlap }

/-- An intact overlap entry of the slot, its time no longer running. -/
def untimed (slot : Nat) (c : Crumb) : Crumb :=
  if c.kind = .overlap ∧ c.owner = slot ∧ crumbBad c = false then { c with tmg := false, flip := 0 } else c

theorem markOverlap_off (x : Inter) (slot : Nat) :
    markOverlap x slot false = { x with crumbs := x.crumbs.map (untimed slot), shadow := x.shadow.map (untimed slot) } := by
  have huntimed : (fun c : Crumb => if (c.kind = .overlap && c.owner == slot && !crumbBad c) = true then
      { c with tmg := false, flip := 0 } else c) = untimed slot := by
    funext c
    simp [untimed, and_assoc]
  simp only [markOverlap, updAll, huntimed]

theorem emergencyOut_eq_false (hended : u.ended = false) (hs : u.state = .inUse ∨ u.state = .releasing) :
    (u.ended || !(u.state = .inUse || u.state = .releasing)) = false := by
  rcases hs with hs | hs <;> simp [hended, hs]

theorem doEmergency_missing (h : stRoute? st route = none ∨ txnOfRoute? x route = none) :
    doEmergency st src route x = ask src 0x12 (.fixed .badState) x := by
  rcases h with h | h
  · simp only [doEmergency, h]
  · cases hrd : stRoute? st route <;> simp only [doEmergency, h, hrd]

section
variable (hrd : stRoute? st route = some rd) (hu : txnOfRoute? x route = some u)
include hrd hu

theorem doEmergency_elsewhere (h : u.ended = true ∨ (u.state ≠ .inUse ∧ u.state ≠ .releasing)) :
    doEmergency st src route x = ask src 0x12 (.fixed .badState) x := by
  have hbad : (u.ended || !(u.state = .inUse || u.state = .releasing)) = true := by
    rcases h with h | ⟨hin, hrel⟩
    · simp [h]
    · simp [hin, hrel]
  simp only [doEmergency, hrd, hu, if_pos hbad]

variable (hended : u.ended = false) (hs : u.state = .inUse ∨ u.state = .releasing)
include hended hs

theorem doEmergency_again (huse : u.relUse = .emergency) :
    doEmergency st src route x = ask src 0x12 (.txnState route) x := by
  simp only [doEmergency, hrd, hu, emergencyOut_eq_false hended hs, Bool.false_eq_true, if_false, if_pos huse]

/-- The emergency release starts its time; a record shows that the train's use has ended. -/
theorem doEmergency_starts (huse : u.relUse ≠ .emergency) :
    ∃ recs, doEmergency st src route x = ask src 0x12 (.txnState route)
      { setTxn x u.slot (emergencyTxn rd) with
          crumbs := x.crumbs.map (untimed u.slot), shadow := x.shadow.map (untimed u.slot), recs := recs } := by
  simp only [doEmergency, hrd, hu, emergencyOut_eq_false hended hs, Bool.false_eq_true, if_false, if_neg huse, markOverlap_off]
  split <;> exact ⟨_, rfl⟩

end

end Emergency

end Sys2Proof.Proofs.RouteRequests

/-! PROOFS. What EVALUATE makes of a cancellation that stands for a transaction in CLEARED (R108 transitions 11, 15 and 17,
R114, R117, R120). -/

namespace Sys2Proof.Proofs.RouteCancellation

open Sys2Proof Sys2Proof.Machine Sys2Proof.Proofs.InterlockParts Sys2Proof.Proofs.TimedReleases

/-! ## The plan of releases -/

theorem planMore_cons (x : Inter) (r : Release) (rs : List Release) :
    ∃ os, planMore x (r :: rs) = planMore { x with plan := x.plan ++ [{ r with objs := os }] } rs := ⟨_, rfl⟩

theorem planMore_txns (x : Inter) (rs : List Release) : (planMore x rs).txns = x.txns := by
  induction rs generalizing x with
  | nil => rfl
  | cons r rs ih =>
    obtain ⟨os, h⟩ := planMore_cons x r rs
    rw [h, ih]

theorem mem_planMore_of_mem {x : Inter} {q : Release} (h : q ∈ x.plan) (rs : List Release) : q ∈ (planMore x rs).plan := by
  induction rs generalizing x with
  | nil => exact h
  | cons r rs ih =>
    obtain ⟨os, hcons⟩ := planMore_cons x r rs
    rw [hcons]
    exact ih (List.mem_append_left _ h)

/-- Each release that is called for enters the plan, for what has not been called for before. -/
theorem planMore_calls {r : Release} {rs : List Release} (h : r ∈ rs) (x : Inter) :
    ∃ q ∈ (planMore x rs).plan, q.slot = r.slot ∧ q.why = r.why := by
  induction rs generalizing x with
  | nil => cases h
  | cons r' rs ih =>
    obtain ⟨os, hcons⟩ := planMore_cons x r' rs
    rw [hcons]
    rcases List.mem_cons.mp h with rfl | hrest
    · exact ⟨_, mem_planMore_of_mem (q := { r with objs := os }) (List.mem_append_right _ (List.mem_singleton.mpr rfl)) rs, rfl, rfl⟩
    · exact ih hrest _

/-! ## A transaction in IN USE or RELEASING -/

/-- The transaction as its held step leaves it: what it saw, and its timing. -/
def heldNext (st : Station) (fin : FrameIn) (x : Inter) (rd : RouteDef) (t : Txn) : Txn :=
  if t.state = .inUse then watchPath st x rd t
  else if t.byCancel then tickRel fin (watchPath st x rd t)
  else stepOverlap st fin x rd (watchPath st x rd t)

section
variable {st : Station} {fin : FrameIn} {x : Inter} {rd : RouteDef} {t : Txn}

theorem heldNext_slot : (heldNext st fin x rd t).slot = t.slot := by
  unfold heldNext
  split
  · rfl
  · split
    · exact tickRel_slot fin _
    · exact (stepOverlap_keeps st fin x rd _).1

theorem heldNext_inUse (hs : t.state = .inUse) : heldNext st fin x rd t = watchPath st x rd t := if_pos hs

theorem heldNext_cancelled (hs : t.state = .releasing) (hc : t.byCancel = true) :
    heldNext st fin x rd t = tickRel fin (watchPath st x rd t) := by
  simp [heldNext, hs, hc]

/-- What a held step makes of the marks of the overlap's entries, where its timing starts or stops (R116). -/
def overlapMarked (t u : Txn) (x : Inter) : Inter :=
  if u.overlap = .timing ∧ t.overlap ≠ .timing then markOverlap x u.slot true
  else if t.overlap = .timing ∧ u.overlap ≠ .timing then markOverlap x u.slot false
  else x

theorem overlapMarked_txns (t u : Txn) (x : Inter) : (overlapMarked t u x).txns = x.txns := by
  unfold overlapMarked
  split
  · rfl
  · split <;> rfl

/-- A held step puts the transaction in its place, marks its overlap's entries, and calls for releases, among them those at the
end of a timing. -/
theorem stepHeld_eq (st : Station) (fin : FrameIn) (rd : RouteDef) (t : Txn) (x : Inter) :
    ∃ (y : Inter) (passing : List Release), y.txns = (setTxn x t.slot fun _ => heldNext st fin x rd t).txns
      ∧ stepHeld st fin rd t x = planMore y (passing ++ timedDue x rd (heldNext st fin x rd t)) := by
  refine ⟨overlapMarked t (heldNext st fin x rd t) (setTxn x (heldNext st fin x rd t).slot fun _ => heldNext st fin x rd t), _, ?_, rfl⟩
  rw [overlapMarked_txns, heldNext_slot]

theorem txnOfSlot?_stepHeld {u : Txn} (hu : txnOfSlot? x t.slot = some u) :
    txnOfSlot? (stepHeld st fin rd t x) t.slot = some (heldNext st fin x rd t) := by
  obtain ⟨y, passing, htxns, heq⟩ := stepHeld_eq st fin rd t x
  have hset := txnOfSlot?_setTxn_same (f := fun _ => heldNext st fin x rd t) hu (heldNext_slot.trans (txnOfSlot?_slot hu).symm)
  rw [txnOfSlot?, heq, planMore_txns, htxns]
  exact hset

theorem stepHeld_calls {r : Release} (h : r ∈ timedDue x rd (heldNext st fin x rd t)) :
    ∃ q ∈ (stepHeld st fin rd t x).plan, q.slot = r.slot ∧ q.why = r.why := by
  obtain ⟨y, passing, -, heq⟩ := stepHeld_eq st fin rd t x
  rw [heq]
  exact planMore_calls (List.mem_append_right _ h) y

end

/-! ## The cancellation -/

/-- The transaction whose first path section the train has entered (R108 transition 11). -/
def entered (t : Txn) : Txn := { t with state := .inUse, wantCancel := false }

/-- The cancelled transaction of an approach that is clear (R114). -/
def cancelledClear (t : Txn) : Txn :=
  { t with byCancel := true, wantCancel := false, state := .releasing, relUse := .approach, relRemain := 0, relQ := true }

/-- The cancelled transaction whose approach lock is timed from now on (R114). -/
def cancelledTimed (rd : RouteDef) (t : Txn) : Txn :=
  { t with byCancel := true, wantCancel := false, state := .releasing, approach := .timing, relUse := .approach
           relRemain := rd.approachMs, relQ := false, relNew := true }

/-- At the end of a timed approach lock with the signal at STOP the release of everything is due (R114). -/
theorem timedDue_approach {x : Inter} {rd : RouteDef} {t : Txn} (huse : t.relUse = .approach) (hq : t.relQ = true)
    (hstop : provesStop x rd.entry = true) : timedDue x rd t = [releaseAll t .approachEnd] := by
  simp only [timedDue, huse, hq, hstop, Bool.and_true, if_true]

/-- A timing at its end stays there. -/
theorem tickRel_stays_over {fin : FrameIn} {t : Txn} (hq : t.relQ = true) (hremain : t.relRemain = 0) :
    (tickRel fin t).relQ = true := by
  unfold tickRel
  split
  · exact hq
  · split
    · exact hq
    · simp [hremain]

/-- In the frame that starts it a timing does not count (R88). -/
theorem tickRel_new {fin : FrameIn} {t : Txn} (hnew : t.relNew = true) :
    tickRel fin t = if t.relUse = .nothing then t else { t with relNew := false } := by
  cases h : t.relUse <;> simp [tickRel, h, hnew]

section
variable {st : Station} {p : Prt} {fin : FrameIn} {x : Inter} {slot : Nat} {u : Txn} {rd : RouteDef}
  (hu : txnOfSlot? x slot = some u) (hrd : stRoute? st u.route = some rd)

include hu in
theorem txnOfSlot?_cancelLocked_clear (hclear : approachIsClear x rd.entry = true) :
    txnOfSlot? (cancelLocked rd u x) slot = some (cancelledClear u) := by
  obtain rfl := txnOfSlot?_slot hu
  simp only [cancelLocked, hclear, if_true]
  exact txnOfSlot?_setTxn_same (f := cancelledClear) hu rfl

include hu in
theorem txnOfSlot?_cancelLocked_timed (hclear : approachIsClear x rd.entry = false) :
    txnOfSlot? (cancelLocked rd u x) slot = some (cancelledTimed rd u) := by
  obtain rfl := txnOfSlot?_slot hu
  simp only [cancelLocked, hclear, Bool.false_eq_true, if_false]
  exact txnOfSlot?_setTxn_same (f := cancelledTimed rd) hu rfl

theorem cancelLocked_objs (rd : RouteDef) (u : Txn) (x : Inter) : (cancelLocked rd u x).objs = x.objs := by
  unfold cancelLocked
  split <;> rfl

include hu hrd

/-- The train has entered: the route is in use (R108 transition 11). -/
theorem stepTxn_enters (hs : u.state = .cleared) (hended : u.ended = false) (hin : trainEntered st x rd = true) :
    ∃ v, txnOfSlot? (stepTxn st p fin x slot) slot = some v ∧ v.state = .inUse ∧ v.byCancel = u.byCancel := by
  obtain rfl := txnOfSlot?_slot hu
  have hstep : stepTxn st p fin x u.slot
      = stepHeld st fin rd (entered u) (goTo u .inUse x) := by
    simp [stepTxn, hu, hrd, hs, hended, hin, entered]
  have hv := txnOfSlot?_stepHeld (st := st) (fin := fin) (rd := rd) (t := entered u) (goTo_txn hu .inUse)
  rw [heldNext_inUse rfl] at hv
  rw [hstep]
  exact ⟨_, hv, rfl, rfl⟩

/-- No train has entered: the transaction is cancelled and takes its held step at once. -/
theorem stepTxn_cancels {c : Txn} (hs : u.state = .cleared) (hended : u.ended = false) (hwant : u.wantCancel = true)
    (hout : trainEntered st x rd = false) (hc : txnOfSlot? (cancelLocked rd u x) slot = some c) (hcs : c.state = .releasing)
    (hcc : c.byCancel = true) :
    txnOfSlot? (stepTxn st p fin x slot) slot = some (tickRel fin (watchPath st (cancelLocked rd u x) rd c))
      ∧ stepTxn st p fin x slot = stepHeld st fin rd c (cancelLocked rd u x) := by
  have hstep : stepTxn st p fin x slot = stepHeld st fin rd c (cancelLocked rd u x) := by
    simp [stepTxn, hu, hrd, hs, hended, hout, hwant, hc]
  obtain rfl := txnOfSlot?_slot hc
  rw [← heldNext_cancelled hcs hcc, hstep]
  exact ⟨txnOfSlot?_stepHeld hc, rfl⟩

/-- The approach is not clear: its release time runs from now (R114). -/
theorem stepTxn_cancelsTimed (hs : u.state = .cleared) (hended : u.ended = false) (hwant : u.wantCancel = true)
    (hout : trainEntered st x rd = false) (hclear : approachIsClear x rd.entry = false) :
    ∃ v, txnOfSlot? (stepTxn st p fin x slot) slot = some v ∧ v.state = .releasing ∧ v.byCancel = true ∧ v.relUse = .approach
      ∧ v.approach = .timing ∧ v.relRemain = rd.approachMs ∧ v.relQ = false := by
  have hc := txnOfSlot?_cancelLocked_timed hu hclear
  obtain ⟨hv, -⟩ := stepTxn_cancels (p := p) (fin := fin) hu hrd hs hended hwant hout hc rfl rfl
  rw [tickRel_new rfl] at hv
  exact ⟨_, hv, rfl, rfl, rfl, rfl, rfl, rfl⟩

/-- The approach is clear: the release of all that the transaction holds is called for (R114). -/
theorem stepTxn_cancelsClear (hs : u.state = .cleared) (hended : u.ended = false) (hwant : u.wantCancel = true)
    (hout : trainEntered st x rd = false) (hclear : approachIsClear x rd.entry = true) :
    ∃ v, txnOfSlot? (stepTxn st p fin x slot) slot = some v ∧ v.state = .releasing ∧ v.byCancel = true ∧ v.relUse = .approach
      ∧ ∃ r ∈ (stepTxn st p fin x slot).plan, r.slot = slot ∧ r.why = .approachEnd ∧ v.relQ = true := by
  have hc := txnOfSlot?_cancelLocked_clear hu hclear
  obtain ⟨hv, hstep⟩ := stepTxn_cancels (p := p) (fin := fin) hu hrd hs hended hwant hout hc rfl rfl
  have hover : (tickRel fin (watchPath st (cancelLocked rd u x) rd (cancelledClear u))).relQ = true := tickRel_stays_over rfl rfl
  have hstop : provesStop (cancelLocked rd u x) rd.entry = true :=
    (provesStop_objs (cancelLocked_objs rd u x) rd.entry).trans (Bool.and_eq_true_iff.mp hclear).2
  have huse : (tickRel fin (watchPath st (cancelLocked rd u x) rd (cancelledClear u))).relUse = .approach := tickRel_relUse fin _
  have hdue : releaseAll (tickRel fin (watchPath st (cancelLocked rd u x) rd (cancelledClear u))) .approachEnd
      ∈ timedDue (cancelLocked rd u x) rd (heldNext st fin (cancelLocked rd u x) rd (cancelledClear u)) := by
    rw [heldNext_cancelled rfl rfl]
    rw [timedDue_approach huse hover hstop]
    exact List.mem_singleton.mpr rfl
  obtain ⟨r, hr, hslot, hwhy⟩ := stepHeld_calls hdue
  rw [← hstep] at hr
  exact ⟨_, hv, tickRel_state fin _, tickRel_byCancel fin _, huse, r, hr, hslot.trans (txnOfSlot?_slot hv), hwhy, hover⟩

end

end Sys2Proof.Proofs.RouteCancellation

/-! PROOFS. The route commands, and the statement on them. -/

namespace Sys2Proof.Proofs.RouteCommands

open Sys2Proof Sys2Proof.Machine Sys2Proof.Safety Sys2Proof.Proofs.VitalRequests Sys2Proof.Proofs.RouteRequests
open Sys2Proof.Proofs.RouteCancellation

section
variable {s : State} {src : Src} {st : Station} {p : Prt} (h : TakesFrom s src st p) (hown : OwnSide s src)
include h hown

theorem exec_routeSet {wait : Nat} (hwait : wait ≤ 600) (hroom : (s.core.asks.filter (·.opc == 0x10)).length < 8) (route : Nat) :
    exec (.routeSet src route wait) s
      = .next (handed s src (doRouteSet st (requestFrame s src) src route wait s.core)) := by
  show Host.Outcome.next (vitalRow s src 0x10 (if wait ≤ 600 then some (.routeSet src route wait) else none)) = _
  rw [if_pos hwait, vitalRow_takes h hown 0x10 fun _ => hroom]
  rfl

theorem exec_routeCancel (route : Nat) :
    exec (.routeCancel src route) s = .next (handed s src (doRouteCancel st src route s.core)) :=
  congrArg Host.Outcome.next (vitalRow_takes h hown 0x11 (r := .routeCancel src route) nofun)

theorem exec_emergencyRelease (route : Nat) :
    exec (.emergencyRelease src route) s = .next (handed s src (doEmergency st src route s.core)) :=
  congrArg Host.Outcome.next (vitalRow_takes h hown 0x12 (r := .emergency src route) nofun)

end

/-- Settles O33, command by command: each check of ROUTE_SET in its order, each state that a cancellation or an emergency release
finds, and EVALUATE's decision on a cancellation in CLEARED by the train and the approach. -/
theorem routeCommandsAreTakenByTheirRules : Obligations.RouteCommandsAreTakenByTheirRules := by
  unfold Obligations.RouteCommandsAreTakenByTheirRules
  intro s src st p h hown
  refine ⟨fun route wait hwait hroom => ⟨_, exec_routeSet h hown hwait hroom route, fun hnone => ?_, fun rd hrd => ⟨fun hin => ?_,
    fun hidle => ⟨fun hbar => ?_, fun hinhibit hblock => ⟨fun hfull => ?_, fun n hn hfree hlow => ?_⟩⟩⟩⟩, ?_, ?_, ?_⟩
  · exact taken_of_core_eq (doRouteSet_error (admitCheck_undefined hnone) ..)
  · exact taken_of_core_eq (doRouteSet_error (admitCheck_inFlight hrd hin) ..)
  · exact taken_of_core_eq (doRouteSet_error (admitCheck_refused hrd hidle hbar) ..)
  · exact taken_of_core_eq (doRouteSet_error (admitCheck_busy hrd hidle hinhibit hblock (freeSlot?_none hfull)) ..)
  · rw [doRouteSet_admits (admitCheck_ok hrd hidle hinhibit hblock (freeSlot?_lowest hn hfree hlow))]
    exact taken_of_core_eq rfl
  · refine fun route => ⟨_, exec_routeCancel h hown route, fun hnone => taken_of_core_eq (doRouteCancel_missing src hnone),
      fun rd u hrd hu => ⟨fun hover => taken_of_core_eq (doRouteCancel_over src hrd hu hover), fun hc he hw =>
        ⟨fun hs => ?_, fun hs => ?_, fun hs => ?_⟩⟩⟩
    · rw [doRouteCancel_requested src hrd hu hc he hw hs]
      exact taken_of_core_eq rfl
    · exact taken_of_core_eq (doRouteCancel_holding src hrd hu hc he hw hs)
    · exact taken_of_core_eq (doRouteCancel_cleared src hrd hu hc he hw hs)
  · intro fin x slot u rd hu hrd hs he hw
    cases hin : trainEntered st x rd with
    | true =>
      obtain ⟨v, hv, hrest⟩ := stepTxn_enters (p := p) (fin := fin) hu hrd hs he hin
      exact ⟨v, hv, fun _ => hrest, nofun⟩
    | false =>
      cases hclear : approachIsClear x rd.entry with
      | false =>
        obtain ⟨v, hv, hstate, hcancel, huse, hrest⟩ := stepTxn_cancelsTimed (p := p) (fin := fin) hu hrd hs he hw hin hclear
        exact ⟨v, hv, nofun, fun _ => ⟨hstate, hcancel, huse, fun _ => hrest, nofun⟩⟩
      | true =>
        obtain ⟨v, hv, hstate, hcancel, huse, hrest⟩ := stepTxn_cancelsClear (p := p) (fin := fin) hu hrd hs he hw hin hclear
        exact ⟨v, hv, nofun, fun _ => ⟨hstate, hcancel, huse, nofun, fun _ => hrest⟩⟩
  · refine fun route => ⟨_, exec_emergencyRelease h hown route, fun hnone => taken_of_core_eq (doEmergency_missing src hnone),
      fun rd u hrd hu => ⟨fun hbad => taken_of_core_eq (doEmergency_elsewhere src hrd hu hbad), fun he hs => ⟨fun huse => ?_,
        fun huse => ?_⟩⟩⟩
    · exact taken_of_core_eq (doEmergency_again src hrd hu he hs huse)
    · obtain ⟨recs, hstarts⟩ := doEmergency_starts src hrd hu he hs huse
      rw [hstarts]
      exact taken_of_core_eq rfl

end Sys2Proof.Proofs.RouteCommands

/-! PROOFS. Lanes and instances that leave and return (R145, R147, R154, R167, R169, R172 to R175, R184): what a fence makes of a
lane, what a failing table page makes of one of the instances, and the limits of the time with two of them. -/

namespace Sys2Proof.Proofs.LanesAndInstances

open Sys2Proof Sys2Proof.Machine Sys2Proof.Safety Sys2Proof.Proofs.Measurements Sys2Proof.Proofs.Frames Sys2Proof.Proofs.Grant

/-! ## The lanes under a raising -/

theorem vot_of_note {s t : State} (h : NoteFrame s t) : t.vot = s.vot := by rw [h]

theorem now_of_note {s t : State} (h : NoteFrame s t) : t.now = s.now := by rw [h]

theorem now_of_raiseFrame {s t : State} (h : RaiseFrame s t) : t.now = s.now := by rw [h]

theorem startFlush_vot (s : State) : (startFlush s).vot = s.vot := by
  have h := startFlush_frame s
  unfold SvcFrame at h
  rw [h]

theorem safeStop_vot (s : State) : (safeStop s).vot = s.vot := by
  unfold safeStop
  split
  · rfl
  · exact startFlush_vot (stopFrames s)

/-- A raising that names a lane is its record, and then the reaction of its severity on that lane's state (R333, R337). -/
theorem raiseAt_cases (s : State) (b : Blk) (n : Nat) (lane : Option Lane) :
    raiseAt s b n lane = s ∨ ∃ u, NoteFrame s u ∧ raiseAt s b n lane = react u b n (sevOf s.cfg b n) lane := by
  unfold raiseAt
  by_cases h : isLive s b n = true
  · exact .inl (if_pos h)
  · rw [if_neg h]
    exact .inr ⟨_, (faults_noteFrame s _).trans (faultRec_noteFrame _ b n _), rfl⟩

/-- A source of the vote that names no lane fences none (R337). -/
theorem raise_vot (s : State) (n : Nat) : (raise s .vot n).vot = s.vot := by
  obtain h | ⟨u, hu, h⟩ := raise_cases s .vot n
  · rw [h]
  · rw [h, ← vot_of_note hu]
    cases sevOf s.cfg .vot n
    case safeStop => exact safeStop_vot u
    all_goals rfl

/-! ## A lane that is fenced by a fault (R166, R170) -/

/-- A lane after a fault fences it: one that neither votes nor resynchronises stays as it is. -/
def fencedLane (now : Nat) (b : LaneBlk) : LaneBlk :=
  if b.state = .voting ∨ b.state = .resync then
    { b with state := .fenced, shadow := 0, why := .fault, fences := now :: b.fences }
  else b

theorem fencedLane_in {now : Nat} {b : LaneBlk} (h : b.state = .voting ∨ b.state = .resync) :
    fencedLane now b = { b with state := .fenced, shadow := 0, why := .fault, fences := now :: b.fences } := if_pos h

theorem fencedLane_out {now : Nat} {b : LaneBlk} (h : ¬ (b.state = .voting ∨ b.state = .resync)) : fencedLane now b = b := if_neg h

theorem fencedLane_hwFault (now : Nat) (b : LaneBlk) : (fencedLane now b).hwFault = b.hwFault := by
  unfold fencedLane
  split <;> rfl

theorem fencedLane_twice (now : Nat) (b : LaneBlk) : fencedLane now (fencedLane now b) = fencedLane now b := by
  by_cases h : b.state = .voting ∨ b.state = .resync
  · rw [fencedLane_in h, fencedLane_out (by simp)]
  · rw [fencedLane_out h, fencedLane_out h]

theorem duoStart_lane (s : State) (k : Lane) : laneOf (duoStart s).vot k = laneOf s.vot k := by
  unfold duoStart
  split
  · cases k <;> rfl
  · rfl

theorem laneFence_same (s : State) (l : Lane) : laneOf (laneFence s l).vot l = fencedLane s.now (laneOf s.vot l) := by
  by_cases h : (laneOf s.vot l).state = .voting ∨ (laneOf s.vot l).state = .resync
  · have hstate : (laneOf s.vot l).state ≠ .fenced := by
      obtain h | h := h <;> simp [h]
    unfold laneFence
    dsimp only
    rw [if_pos h, fencedLane_in h, duoStart_lane, setLane_same, laneTo_vot s l .fenced hstate, setLane_same,
      now_of_raiseFrame (laneTo_frame s l .fenced)]
  · rw [laneFence, if_neg h, fencedLane_out h]

theorem laneFence_other (s : State) {l k : Lane} (hk : k ≠ l) : laneOf (laneFence s l).vot k = laneOf s.vot k := by
  unfold laneFence
  dsimp only
  split
  · rw [duoStart_lane, setLane_other _ _ _ _ hk, laneTo_other s .fenced hk]
  · rfl

/-- A source of the vote that names a lane fences that lane or leaves it. -/
theorem raiseAt_lane (s : State) (n : Nat) (l : Lane) :
    laneOf (raiseAt s .vot n (some l)).vot l = laneOf s.vot l
      ∨ laneOf (raiseAt s .vot n (some l)).vot l = fencedLane s.now (laneOf s.vot l) := by
  obtain h | ⟨u, hu, h⟩ := raiseAt_cases s .vot n (some l)
  · exact .inl (by rw [h])
  · rw [h, ← vot_of_note hu, ← now_of_note hu]
    cases sevOf s.cfg .vot n
    case record => exact .inl rfl
    case warn => exact .inl rfl
    case fence => exact .inr (laneFence_same u l)
    case safeStop => exact .inr ((congrArg (laneOf · l) (safeStop_vot _)).trans (laneFence_same u l))

theorem raiseAt_lane_other (s : State) (n : Nat) {l k : Lane} (hk : k ≠ l) :
    laneOf (raiseAt s .vot n (some l)).vot k = laneOf s.vot k := by
  obtain h | ⟨u, hu, h⟩ := raiseAt_cases s .vot n (some l)
  · rw [h]
  · rw [h, ← vot_of_note hu]
    cases sevOf s.cfg .vot n
    case record => rfl
    case warn => rfl
    case fence => exact laneFence_other u hk
    case safeStop => exact (congrArg (laneOf · k) (safeStop_vot _)).trans (laneFence_other u hk)

/-! ## The return of a lane (R169) and its hardware fault (R184) -/

theorem shadowFramesMatched_early {s : State} {l : Lane} (h : ¬ ((laneOf s.vot l).state = .resync ∧ 3 ≤ (laneOf s.vot l).shadow)) :
    exec (.shadowFramesMatched l) s = .next s := if_neg h

theorem shadowFramesMatched_votes {s : State} {l : Lane} (hstate : (laneOf s.vot l).state = .resync)
    (hshadow : 3 ≤ (laneOf s.vot l).shadow) : ∃ t, exec (.shadowFramesMatched l) s = .next t
      ∧ laneOf t.vot l = { laneOf s.vot l with state := .voting, shadow := 0, tries := 0, why := .none, debugged := false }
      ∧ (∀ k, k ≠ l → laneOf t.vot k = laneOf s.vot k) ∧ RaiseFrame s t := by
  refine ⟨_, if_pos ⟨hstate, hshadow⟩, ?_, fun k hk => ?_, (laneTo_frame s l .voting).trans (vot_frame _ _)⟩
  · rw [setLane_same, laneTo_vot s l .voting (by simp [hstate]), setLane_same]
  · rw [setLane_other _ _ _ _ hk, laneTo_other s .voting hk]

/-- A module in which a lane's own hardware fault is present or not, before any reaction. -/
def faultNoted (v : State) (l : Lane) (present : Bool) : State :=
  { v with vot := setLane v.vot l fun b => { b with
      hwFault := present, why := if present ∧ b.why = .none then .fault else b.why } }

theorem faultNoted_same (v : State) (l : Lane) (present : Bool) : laneOf (faultNoted v l present).vot l =
    { laneOf v.vot l with
      hwFault := present, why := if present ∧ (laneOf v.vot l).why = .none then .fault else (laneOf v.vot l).why } :=
  setLane_same _ _ _

theorem faultNoted_state (v : State) (l : Lane) (present : Bool) :
    (laneOf (faultNoted v l present).vot l).state = (laneOf v.vot l).state := by rw [faultNoted_same]

theorem faultNoted_other (v : State) {l k : Lane} (present : Bool) (hk : k ≠ l) :
    laneOf (faultNoted v l present).vot k = laneOf v.vot k := setLane_other _ _ _ _ hk

theorem exec_laneFault_comes (s : State) (l : Lane) (now : Nat) : exec (.laneFault l true now) s =
    .next (laneFence (raiseAt (faultNoted (later s now) l true) .vot vLANE_FAULT (some l)) l) := rfl

theorem exec_laneFault_goes (s : State) (l : Lane) (now : Nat) : exec (.laneFault l false now) s =
    if (Lane.all.any fun k => (laneOf (faultNoted (later s now) l false).vot k).hwFault) = true
    then .next (faultNoted (later s now) l false)
    else .next (lower (faultNoted (later s now) l false) .vot vLANE_FAULT) := rfl

theorem lane_mem_all (l : Lane) : l ∈ Lane.all := by cases l <;> decide

/-- The lane whose fault has come, after the raising and the fence. -/
theorem faultComes_same (v : State) (l : Lane) :
    laneOf (laneFence (raiseAt (faultNoted v l true) .vot vLANE_FAULT (some l)) l).vot l
      = fencedLane v.now (laneOf (faultNoted v l true).vot l) := by
  rw [laneFence_same, now_of_raiseFrame (raiseAt_frame _ _ _ _)]
  obtain h | h := raiseAt_lane (faultNoted v l true) vLANE_FAULT l
  · rw [h]
    rfl
  · rw [h]
    exact fencedLane_twice v.now _

theorem faultComes_other (v : State) {l k : Lane} (hk : k ≠ l) :
    laneOf (laneFence (raiseAt (faultNoted v l true) .vot vLANE_FAULT (some l)) l).vot k = laneOf v.vot k := by
  rw [laneFence_other _ hk, raiseAt_lane_other _ _ hk, faultNoted_other v true hk]

theorem laneFault_comes (s : State) (l : Lane) (now : Nat) : let b := laneOf (later s now).vot l
    ∃ t, exec (.laneFault l true now) s = .next t
      ∧ (laneOf t.vot l).hwFault = true ∧ (∀ k, k ≠ l → laneOf t.vot k = laneOf (later s now).vot k)
      ∧ isLive t .vot vLANE_FAULT = true
      ∧ (b.state = .voting ∨ b.state = .resync → (laneOf t.vot l).state = .fenced ∧ (laneOf t.vot l).why = .fault)
      ∧ (b.state ≠ .voting → b.state ≠ .resync → (laneOf t.vot l).why = if b.why = .none then .fault else b.why)
      ∧ RaiseFrame (later s now) t := by
  refine ⟨_, exec_laneFault_comes s l now, ?_, fun k hk => faultComes_other _ hk, ?_, fun hin => ?_, fun hv hr => ?_,
    (vot_frame _ _).trans ((raiseAt_frame _ _ _ _).trans (laneFence_frame _ _))⟩
  · rw [faultComes_same, fencedLane_hwFault, faultNoted_same]
  · rw [isLive_congr (laneFence_faults _ _)]
    exact raiseAt_isLive _ _ _ _ (by decide)
  · rw [← faultNoted_state (later s now) l true] at hin
    rw [faultComes_same, fencedLane_in hin]
    exact ⟨rfl, rfl⟩
  · rw [← faultNoted_state (later s now) l true] at hv hr
    rw [faultComes_same, fencedLane_out (not_or.mpr ⟨hv, hr⟩), faultNoted_same]
    exact if_congr (by simp) rfl rfl

theorem laneFault_goes (s : State) (l : Lane) (now : Nat) :
    ∃ t, exec (.laneFault l false now) s = .next t
      ∧ laneOf t.vot l = { laneOf (later s now).vot l with hwFault := false }
      ∧ (∀ k, k ≠ l → laneOf t.vot k = laneOf (later s now).vot k)
      ∧ (isLive t .vot vLANE_FAULT = true ↔ isLive (later s now) .vot vLANE_FAULT = true ∧ ∃ k, (laneOf t.vot k).hwFault = true)
      ∧ RaiseFrame (later s now) t := by
  have hany : (Lane.all.any fun k => (laneOf (faultNoted (later s now) l false).vot k).hwFault) = true
      ↔ ∃ k, (laneOf (faultNoted (later s now) l false).vot k).hwFault = true := by
    simp [lane_mem_all]
  have hsame : laneOf (faultNoted (later s now) l false).vot l = { laneOf (later s now).vot l with hwFault := false } := by
    rw [faultNoted_same]
    simp
  rw [exec_laneFault_goes]
  split
  next h =>
    refine ⟨_, rfl, hsame, fun k hk => faultNoted_other _ false hk, ?_, vot_frame _ _⟩
    rw [and_iff_left (hany.mp h)]
    exact Iff.rfl
  next h =>
    refine ⟨_, rfl, hsame, fun k hk => faultNoted_other _ false hk, ?_, (vot_frame _ _).trans (lower_frame _ _ _)⟩
    rw [lower_isLive _ _ _ (by decide)]
    exact ⟨nofun, fun hlive => absurd hlive.2 (mt hany.mpr h)⟩

/-! ## Praline's instances (R144, R145, R154) -/

theorem inst_mem_all (i : Inst) : i ∈ Inst.all := by cases i <;> decide

theorem setInst_other (p : PrlBlk) (f : InstBlk → InstBlk) {i k : Inst} (hk : k ≠ i) : instOf (setInst p i f) k = instOf p k := by
  cases i <;> cases k
  all_goals first | rfl | exact absurd rfl hk

/-- What is shown of the instances and of the time with two of them may have changed, and nothing else. -/
def InstsFrame (s t : State) : Prop :=
  t = { s with prl := { s.prl with ix := t.prl.ix, iy := t.prl.iy, iz := t.prl.iz, duoUs := t.prl.duoUs, duoFrom := t.prl.duoFrom } }

theorem InstsFrame.refl (s : State) : InstsFrame s s := rfl

theorem InstsFrame.trans {s t u : State} (h : InstsFrame s t) (g : InstsFrame t u) : InstsFrame s u := by
  unfold InstsFrame at *
  rw [g, h]

theorem now_of_insts {s t : State} (h : InstsFrame s t) : t.now = s.now := by rw [h]

theorem setInst_insts (s : State) (i : Inst) (f : InstBlk → InstBlk) : InstsFrame s { s with prl := setInst s.prl i f } := by
  cases i <;> rfl

theorem countDuo_insts (s : State) : InstsFrame s (countDuo s) := by
  unfold countDuo
  dsimp only
  split <;> rfl

theorem countDuo_inst (s : State) (k : Inst) : instOf (countDuo s).prl k = instOf s.prl k := by
  unfold countDuo
  dsimp only
  split <;> cases k <;> rfl

/-- The instances, and with them the time with two, are not what a raising changes. -/
theorem insts_of_raiseFrame {s t : State} (h : RaiseFrame s t) : t.prl.ix = s.prl.ix ∧ t.prl.iy = s.prl.iy ∧ t.prl.iz = s.prl.iz
    ∧ t.prl.duoUs = s.prl.duoUs ∧ t.prl.duoFrom = s.prl.duoFrom := by
  rw [h]
  exact ⟨rfl, rfl, rfl, rfl, rfl⟩

theorem inst_of_raiseFrame {s t : State} (h : RaiseFrame s t) (k : Inst) : instOf t.prl k = instOf s.prl k := by
  obtain ⟨hx, hy, hz, -, -⟩ := insts_of_raiseFrame h
  cases k
  · exact hx
  · exact hy
  · exact hz

theorem instSource_frame (s : State) : RaiseFrame s (instSource s) := setLive_frame _ _ _ _

theorem instSource_isLive_iff (s : State) : isLive (instSource s) .prl pINST_OUT = true
    ↔ ∃ k, (instOf (instSource s).prl k).state = .out ∨ (instOf (instSource s).prl k).state = .reseed := by
  simp only [inst_of_raiseFrame (instSource_frame s)]
  exact setLive_isLive_iff s .prl (by decide) (by simp [inst_mem_all])

/-! ## The return of Praline's instances (R145) -/

/-- The time with two instances as it stands at an instant: it ran where exactly two are IN. -/
theorem countDuo_two {s : State} (h : (instsIn s.prl).length = 2) : countDuo s =
    { s with prl := { s.prl with duoUs := s.prl.duoUs + (s.now - s.prl.duoFrom.getD s.now), duoFrom := some s.now } } := if_pos h

theorem countDuo_notTwo {s : State} (h : (instsIn s.prl).length ≠ 2) : countDuo s = { s with prl := { s.prl with duoFrom := none } } :=
  if_neg h

/-- The module after one of the instances has come back IN, before its source follows. -/
def backIn (s : State) (i : Inst) : State :=
  countDuo { countDuo s with prl := setInst (countDuo s).prl i fun b => { b with state := .isIn, equal := 0 } }

theorem exec_instanceIn {s : State} {i : Inst} (hstate : (instOf s.prl i).state = .reseed) (hequal : 3 ≤ (instOf s.prl i).equal) :
    exec (.instanceIn i) s = .next (instSource (backIn s i)) := if_pos ⟨hstate, hequal⟩

theorem instanceIn_early {s : State} {i : Inst} (h : ¬ ((instOf s.prl i).state = .reseed ∧ 3 ≤ (instOf s.prl i).equal)) :
    exec (.instanceIn i) s = .next s := if_neg h

theorem backIn_eq (s : State) (i : Inst) : backIn s i =
    { s with prl := { setInst s.prl i (fun b => { b with state := .isIn, equal := 0 }) with
        duoUs := (backIn s i).prl.duoUs, duoFrom := (backIn s i).prl.duoFrom } } := by
  unfold backIn countDuo
  dsimp only
  split <;> split <;> cases i <;> rfl

/-- The third of the instances has come IN beside two. -/
theorem instsIn_third {p q : PrlBlk} {i : Inst} (hlen : (instsIn p).length = 2) (hout : (instOf p i).state ≠ .isIn)
    (hin : (instOf q i).state = .isIn) (hothers : ∀ k, k ≠ i → instOf q k = instOf p k) : (instsIn q).length = 3 := by
  have hq : instsIn q = Inst.all := by
    refine List.filter_eq_self.mpr fun k _ => decide_eq_true ?_
    by_cases hk : k = i
    · rw [hk, hin]
    · rw [hothers k hk]
      by_contra hkout
      have hle : (instsIn p).length ≤ 1 := by
        unfold instsIn Inst.all
        cases i <;> cases k
        all_goals simp [hout, hkout, List.filter_cons] at hk ⊢
        all_goals split <;> simp
      omega
  rw [hq]
  rfl

theorem backIn_third {s : State} {i : Inst} (hstate : (instOf s.prl i).state = .reseed) (hlen : (instsIn s.prl).length = 2) :
    (backIn s i).prl.duoFrom = none ∧ (backIn s i).prl.duoUs = s.prl.duoUs + (s.now - s.prl.duoFrom.getD s.now) := by
  have hthree : (instsIn (setInst (countDuo s).prl i fun b => { b with state := .isIn, equal := 0 })).length = 3 := by
    refine instsIn_third (i := i) hlen (by simp [hstate]) (by rw [setInst_same]) fun k hk => ?_
    rw [setInst_other _ _ hk, countDuo_inst]
  unfold backIn
  rw [countDuo_notTwo (by simp [hthree]), countDuo_two hlen]
  cases i <;> exact ⟨rfl, rfl⟩

theorem instanceIn_returns {s : State} {i : Inst} (hstate : (instOf s.prl i).state = .reseed) (hequal : 3 ≤ (instOf s.prl i).equal) :
    ∃ t, exec (.instanceIn i) s = .next t
      ∧ RaiseFrame { s with prl := { setInst s.prl i (fun b => { b with state := .isIn, equal := 0 }) with
            duoUs := t.prl.duoUs, duoFrom := t.prl.duoFrom } } t
      ∧ ((instsIn s.prl).length = 2 → t.prl.duoFrom = none
          ∧ t.prl.duoUs = s.prl.duoUs + (s.now - s.prl.duoFrom.getD s.now))
      ∧ (isLive t .prl pINST_OUT = true ↔ ∃ k, (instOf t.prl k).state = .out ∨ (instOf t.prl k).state = .reseed) := by
  obtain ⟨-, -, -, hus, hfrom⟩ := insts_of_raiseFrame (instSource_frame (backIn s i))
  refine ⟨_, exec_instanceIn hstate hequal, ?_, fun hlen => ?_, instSource_isLive_iff _⟩
  · rw [hus, hfrom, ← backIn_eq]
    exact instSource_frame _
  · rw [hus, hfrom]
    exact backIn_third hstate hlen

/-! ## The table scrub (R147) -/

/-- Whether one of the instances has been OUT within the last 24 h (R145). -/
def outBefore (now : Nat) (b : InstBlk) : Bool := b.outAt.any fun a => now < a + 86400000000

theorem outBefore_iff (now : Nat) (b : InstBlk) : outBefore now b = true ↔ ∃ a, b.outAt = some a ∧ now < a + 86400000000 := by
  simp [outBefore, Option.any_eq_true]

theorem instOut_insts (s : State) (i : Inst) : InstsFrame s (instOut s i) := by
  unfold instOut
  exact (countDuo_insts s).trans ((setInst_insts _ i _).trans (countDuo_insts _))

theorem instOut_same (s : State) (i : Inst) : instOf (instOut s i).prl i = { instOf s.prl i with
    state := if outBefore s.now (instOf s.prl i) then .absent else .out, equal := 0, outAt := some s.now } := by
  have hnow := now_of_insts (countDuo_insts s)
  unfold instOut outBefore
  dsimp only
  rw [countDuo_inst, setInst_same, countDuo_inst, hnow]
  cases (instOf s.prl i).outAt
  case none => rw [Option.any_none]
  case some a => rw [Option.any_some]

theorem instOut_other (s : State) {i k : Inst} (hk : k ≠ i) : instOf (instOut s i).prl k = instOf s.prl k := by
  unfold instOut
  dsimp only
  rw [countDuo_inst, setInst_other _ _ hk, countDuo_inst]

/-- One of the instances after a scrub that found the pages of `bad` failing. -/
def scrubbedInst (bad : List Inst) (now : Nat) (i : Inst) (b : InstBlk) : InstBlk :=
  if bad.contains i && (b.state = .isIn || b.state = .reseed) then
    { b with state := if outBefore now b then .absent else .out, equal := 0, outAt := some now, tableBad := true }
  else { b with tableBad := bad.contains i }

theorem scrubTable_insts (bad : List Inst) (s : State) (i : Inst) : InstsFrame s (scrubTable bad s i) := by
  unfold scrubTable
  dsimp only
  split
  · exact (setInst_insts s i _).trans (instOut_insts _ i)
  · exact setInst_insts s i _

theorem scrubTable_same (bad : List Inst) (s : State) (i : Inst) :
    instOf (scrubTable bad s i).prl i = scrubbedInst bad s.now i (instOf s.prl i) := by
  unfold scrubTable scrubbedInst
  simp only [setInst_same]
  split
  next h =>
    rw [instOut_same, setInst_same, (Bool.and_eq_true_iff.mp h).1]
    rfl
  next h => rw [setInst_same]

theorem scrubTable_other (bad : List Inst) (s : State) {i k : Inst} (hk : k ≠ i) :
    instOf (scrubTable bad s i).prl k = instOf s.prl k := by
  unfold scrubTable
  dsimp only
  split
  · rw [instOut_other _ hk, setInst_other _ _ hk]
  · rw [setInst_other _ _ hk]

/-- The module after the scrub of its three instances, before their source follows. -/
def scrubbed (bad : List Inst) (v : State) : State := scrubTable bad (scrubTable bad (scrubTable bad v .x) .y) .z

theorem exec_tableScrub (bad : List Inst) (now : Nat) (s : State) :
    exec (.tableScrub bad now) s = .next (instSource (scrubbed bad (later s now))) := rfl

theorem scrubbed_insts (bad : List Inst) (v : State) : InstsFrame v (scrubbed bad v) :=
  (scrubTable_insts bad v .x).trans ((scrubTable_insts bad _ .y).trans (scrubTable_insts bad _ .z))

theorem scrubbed_inst (bad : List Inst) (v : State) (i : Inst) :
    instOf (scrubbed bad v).prl i = scrubbedInst bad v.now i (instOf v.prl i) := by
  have hx := scrubTable_insts bad v .x
  unfold scrubbed
  cases i
  case x => rw [scrubTable_other _ _ (by decide), scrubTable_other _ _ (by decide), scrubTable_same]
  case y => rw [scrubTable_other _ _ (by decide), scrubTable_same, scrubTable_other _ _ (by decide), now_of_insts hx]
  case z => rw [scrubTable_same, scrubTable_other _ _ (by decide), scrubTable_other _ _ (by decide),
      now_of_insts (hx.trans (scrubTable_insts bad _ .y))]

/-- Raisings after a change of the instances. -/
theorem InstsFrame.raised {v u t : State} (h : InstsFrame v u) (g : RaiseFrame u t) :
    RaiseFrame { v with prl := { v.prl with
      ix := t.prl.ix, iy := t.prl.iy, iz := t.prl.iz, duoUs := t.prl.duoUs, duoFrom := t.prl.duoFrom } } t := by
  obtain ⟨hx, hy, hz, hus, hfrom⟩ := insts_of_raiseFrame g
  unfold InstsFrame at h
  rw [hx, hy, hz, hus, hfrom, ← h]
  exact g

theorem tableScrub_scrubs (bad : List Inst) (now : Nat) (s : State) : let v := later s now
    ∃ t, exec (.tableScrub bad now) s = .next t
      ∧ (∀ i, instOf t.prl i = scrubbedInst bad v.now i (instOf v.prl i))
      ∧ (isLive t .prl pINST_OUT = true ↔ ∃ k, (instOf t.prl k).state = .out ∨ (instOf t.prl k).state = .reseed)
      ∧ RaiseFrame { v with prl := { v.prl with
          ix := t.prl.ix, iy := t.prl.iy, iz := t.prl.iz, duoUs := t.prl.duoUs, duoFrom := t.prl.duoFrom } } t :=
  ⟨_, exec_tableScrub bad now s,
    fun i => (inst_of_raiseFrame (instSource_frame _) i).trans (scrubbed_inst bad (later s now) i),
    instSource_isLive_iff _, (scrubbed_insts bad _).raised (instSource_frame _)⟩

theorem scrubbedInst_stays {bad : List Inst} {now : Nat} {i : Inst} {b : InstBlk}
    (h : ¬ ((b.state = .isIn ∨ b.state = .reseed) ∧ i ∈ bad)) : scrubbedInst bad now i b = { b with tableBad := bad.contains i } :=
  if_neg fun hc => h (by simpa [and_comm] using hc)

theorem scrubbedInst_leaves {bad : List Inst} {now : Nat} {i : Inst} {b : InstBlk} (hstate : b.state = .isIn ∨ b.state = .reseed)
    (hbad : i ∈ bad) : scrubbedInst bad now i b =
      { b with state := if outBefore now b then .absent else .out, equal := 0, outAt := some now, tableBad := true } :=
  if_pos (by simpa using And.intro hbad hstate)

/-! ## The limits of the time with two (R145, R173 to R175) -/

theorem exec_pralineDuoLimit (now : Nat) (s : State) : exec (.pralineDuoLimit now) s =
    if 3600000000 * fieldOf (countDuo (later s now)).cfg.prlCtl 0 8 ≤ (countDuo (later s now)).prl.duoUs
    then .next (raise (countDuo (later s now)) .prl pDUO_LIMIT) else .next (countDuo (later s now)) := rfl

theorem countDuo_eq (v : State) : countDuo v = { v with prl := { v.prl with
    duoUs := if (instsIn v.prl).length = 2 then v.prl.duoUs + (v.now - v.prl.duoFrom.getD v.now) else v.prl.duoUs
    duoFrom := if (instsIn v.prl).length = 2 then some v.now else none } } := by
  by_cases h : (instsIn v.prl).length = 2
  · rw [countDuo_two h, if_pos h, if_pos h]
  · rw [countDuo_notTwo h, if_neg h, if_neg h]

/-- A module whose 2oo2 clock has just reached its limit, before any reaction. -/
def limitNoted (v : State) : State := { v with vot := { v.vot with limitAt := some v.now } }

theorem limitNoted_raised (v : State) : RaiseFrame v (raise (limitNoted v) .vot vDUO_LIMIT) :=
  (vot_frame v _).trans (raise_frame _ _ _)

theorem wanted_frame (s : State) : RaiseFrame s { s with dpx := { s.dpx with wanted := true } } := rfl

theorem exec_duoLimit {s : State} {now a : Nat} (hsince : (later s now).vot.duoSince = some a) : let v := later s now
    let u := raise (limitNoted v) .vot vDUO_LIMIT
    exec (.duoLimit now) s = if v.now < a + duoLimitUs v ∨ v.vot.limitAt.isSome = true ∨ (!framesRun v) = true then .next v
      else if u.dpx.role = .active ∧ u.dpx.peerReady = true then .next { u with dpx := { u.dpx with wanted := true } }
      else .next { u with vot := { u.vot with stopAtDrain := true } } := by
  show execDuoLimit now s = _
  unfold execDuoLimit
  dsimp only
  split
  next h => exact absurd (h.symm.trans hsince) nofun
  next b hb =>
    obtain rfl := Option.some.inj (hb.symm.trans hsince)
    rfl

/-- The 2oo2 clock has reached its limit: the source, and the action that the role asks for (R175). -/
theorem duoLimit_reached {s : State} {now a : Nat} (hsince : (later s now).vot.duoSince = some a)
    (hruns : framesRun (later s now) = true) (hfirst : (later s now).vot.limitAt = none)
    (h : a + duoLimitUs (later s now) ≤ (later s now).now) : let v := later s now
    ∃ t, exec (.duoLimit now) s = .next t ∧ isLive t .vot vDUO_LIMIT = true ∧ t.vot.limitAt = some v.now ∧ RaiseFrame v t
      ∧ (v.dpx.role = .active ∧ v.dpx.peerReady = true → t.dpx.wanted = true)
      ∧ (¬ (v.dpx.role = .active ∧ v.dpx.peerReady = true) → t.vot.stopAtDrain = true) := by
  have hexec := exec_duoLimit hsince
  generalize later s now = v at *
  have hframe := limitNoted_raised v
  have hlive : isLive (raise (limitNoted v) .vot vDUO_LIMIT) .vot vDUO_LIMIT = true := raise_isLive _ .vot _ (by decide)
  have hvot : (raise (limitNoted v) .vot vDUO_LIMIT).vot = (limitNoted v).vot := raise_vot _ _
  have hrole : (raise (limitNoted v) .vot vDUO_LIMIT).dpx.role = v.dpx.role := by rw [hframe]
  have hpeer : (raise (limitNoted v) .vot vDUO_LIMIT).dpx.peerReady = v.dpx.peerReady := by rw [hframe]
  dsimp only at hexec
  rw [if_neg (by simp [hruns, hfirst, h])] at hexec
  by_cases hready : v.dpx.role = .active ∧ v.dpx.peerReady = true
  · exact ⟨_, hexec.trans (if_pos (by rwa [hrole, hpeer])), hlive, congrArg VotBlk.limitAt hvot, hframe.trans (wanted_frame _),
      fun _ => rfl, fun hn => absurd hready hn⟩
  · exact ⟨_, hexec.trans (if_neg (by rwa [hrole, hpeer])), hlive, congrArg VotBlk.limitAt hvot, hframe.trans (vot_frame _ _),
      fun hy => absurd hy hready, fun _ => rfl⟩

theorem exec_duoSwitchoverTimeout {s : State} {now a : Nat} (hlimit : (later s now).vot.limitAt = some a) :
    exec (.duoSwitchoverTimeout now) s =
      if (later s now).now < a + 3600000000 ∨ (later s now).dpx.role ≠ .active ∨ (!framesRun (later s now)) = true
      then .next (later s now) else .next { later s now with vot := { (later s now).vot with stopAtDrain := true } } := by
  show execDuoSwitchoverTimeout now s = _
  unfold execDuoSwitchoverTimeout
  dsimp only
  rw [hlimit]

/-- Settles O52, command by command: the return of a lane and that of Praline's instances, the hardware fault of a lane, the
table scrub of the instances, and the three limits. -/
theorem lanesAndInstancesLeaveAndReturn : Obligations.LanesAndInstancesLeaveAndReturn := by
  unfold Obligations.LanesAndInstancesLeaveAndReturn
  intro s now v
  refine ⟨fun l => ⟨shadowFramesMatched_early, fun hstate hshadow => ?_⟩,
    fun i => ⟨instanceIn_early, fun hstate hequal => instanceIn_returns hstate hequal⟩, ?_, fun bad => ?_, ?_,
    fun a hsince hruns hfirst => ⟨fun h => (exec_duoLimit hsince).trans (if_pos (.inl h)), duoLimit_reached hsince hruns hfirst⟩,
    fun a hlimit => ⟨fun hdue hrole hruns => ?_, fun hearly => ?_⟩⟩
  · obtain ⟨t, ht, hlane, hothers, hframe⟩ := shadowFramesMatched_votes hstate hshadow
    exact ⟨t, ht, by rw [hlane], by rw [hlane], by rw [hlane], by rw [hlane], by rw [hlane], hothers, hframe⟩
  · rintro l (_ | _)
    · obtain ⟨t, ht, hlane, hothers, hlive, hframe⟩ := laneFault_goes s l now
      exact ⟨t, ht, by rw [hlane], hothers, by simpa using hlive, nofun, nofun, fun _ => by rw [hlane], hframe⟩
    · obtain ⟨t, ht, hfault, hothers, hlive, hin, hout, hframe⟩ := laneFault_comes s l now
      exact ⟨t, ht, hfault, hothers, by simp [hlive], fun _ => hin, fun _ => hout, nofun, hframe⟩
  · obtain ⟨t, ht, hinst, hlive, hframe⟩ := tableScrub_scrubs bad now s
    refine ⟨t, ht, fun i => ⟨fun hstay => (hinst i).trans (scrubbedInst_stays hstay), fun hstate hbad => ?_⟩, hlive, hframe⟩
    rw [hinst i, scrubbedInst_leaves hstate hbad, ← outBefore_iff]
    exact ⟨rfl, rfl, fun hagain => if_pos hagain, fun hagain => if_neg hagain⟩
  · have hexec := exec_pralineDuoLimit now s
    rw [countDuo_eq] at hexec
    exact ⟨fun h => hexec.trans (if_neg (Nat.not_le.mpr h)), fun h =>
      ⟨_, hexec.trans (if_pos h), raise_isLive _ .prl pDUO_LIMIT (by decide), raise_frame _ _ _⟩⟩
  · rw [exec_duoSwitchoverTimeout hlimit]
    refine if_neg ?_
    rintro (hc | hc | hc)
    · exact absurd hdue (Nat.not_le.mpr hc)
    · exact hc hrole
    · exact absurd hruns (by simpa using hc)
  · rw [exec_duoSwitchoverTimeout hlimit]
    exact if_pos (.inl hearly)

end Sys2Proof.Proofs.LanesAndInstances

/-! PROOFS. The field side of the barrier link (R245, R247, R249, R254, R256, R260, R266): when an output or a trip channel is on,
what a downstream frame makes of the field side, and what an accepted command makes of its switches. -/

namespace Sys2Proof.Proofs.BarrierDown

open Sys2Proof Sys2Proof.Machine Sys2Proof.Safety

/-! ## What is energised (R254) -/

theorem groupsClosed_iff (f : FieldSide) : groupsClosed f = true ↔ f.hold ≠ .restart ∧ f.fence = false ∧ f.suplatch = false := by
  simp [groupsClosed, and_assoc]

theorem outOn_iff (f : FieldSide) (n : Nat) : outOn f n = true ↔ ∃ o, f.outs[n]? = some o ∧ o.app = true ∧ o.f1 = true ∧ o.f2 = true
    ∧ o.locked = false ∧ groupOk f (n / 8) = true ∧ groupsClosed f = true := by
  unfold outOn
  cases f.outs[n]? <;> simp [and_assoc]

theorem tripOn_iff (f : FieldSide) (c : Nat) : tripOn f c = true ↔ ∃ t, f.trips[c]? = some t ∧ t.app = true ∧ t.f1 = true ∧ t.f2 = true
    ∧ t.locked = false ∧ t.masked = false ∧ f.grpT = true ∧ groupsClosed f = true := by
  unfold tripOn
  cases f.trips[c]? <;> simp [and_assoc]

theorem groupsClosed_of_outOn {f : FieldSide} {n : Nat} (h : outOn f n = true) : groupsClosed f = true := by
  obtain ⟨-, -, -, -, -, -, -, hclosed⟩ := (outOn_iff f n).mp h
  exact hclosed

theorem outOn_of_open {f : FieldSide} {n : Nat} (h : ∀ o, f.outs[n]? = some o → o.app = false) : outOn f n = false := by
  refine Bool.eq_false_iff.mpr fun hon => ?_
  obtain ⟨o, ho, happ, -⟩ := (outOn_iff f n).mp hon
  exact absurd happ (by simp [h o ho])

theorem tripOn_of_open {f : FieldSide} {c : Nat} (h : ∀ t, f.trips[c]? = some t → t.app = false ∨ t.masked = true) :
    tripOn f c = false := by
  refine Bool.eq_false_iff.mpr fun hon => ?_
  obtain ⟨t, ht, happ, -, -, -, hmask, -⟩ := (tripOn_iff f c).mp hon
  obtain h | h := h t ht
  · exact absurd happ (by simp [h])
  · exact absurd h (by simp [hmask])

/-- Nothing is energised. -/
def Dark (f : FieldSide) : Prop := ∀ n, outOn f n = false ∧ tripOn f n = false

/-- In RESTART the group switches are open (R256). -/
theorem dark_of_restart {f : FieldSide} (h : f.hold = .restart) : Dark f := by
  have hopen : groupsClosed f = false := Bool.eq_false_iff.mpr fun hc => ((groupsClosed_iff f).mp hc).1 h
  intro n
  constructor
  · unfold outOn
    split <;> simp [hopen]
  · unfold tripOn
    split <;> simp [hopen]

theorem openTrips_off {f g : FieldSide} (h : g.trips = (openTrips f).trips) (c : Nat) : tripOn g c = false := by
  refine tripOn_of_open fun t ht => .inl ?_
  rw [h, openTrips, List.getElem?_map, Option.map_eq_some_iff] at ht
  obtain ⟨b, -, rfl⟩ := ht
  rfl

theorem openAll_dark {f g : FieldSide} (houts : g.outs = (openAll f).outs) (htrips : g.trips = (openAll f).trips) : Dark g := by
  refine fun n => ⟨outOn_of_open fun o ho => ?_, openTrips_off htrips n⟩
  rw [houts, openAll, List.getElem?_map, Option.map_eq_some_iff] at ho
  obtain ⟨b, -, rfl⟩ := ho
  rfl

/-! ## The switches under an accepted command (R256 step 5, R260, R262) -/

theorem zipIdx_map_getElem? {α β : Type} (l : List α) (f : α × Nat → β) (n : Nat) :
    (l.zipIdx.map f)[n]? = (l[n]?).map fun a => f (a, n) := by
  simp [List.getElem?_zipIdx, Function.comp_def]

theorem applyLoc_out (st : Station) (m : LocCmd) (f1 f2 : Bool) (f : FieldSide) (n : Nat) :
    (applyLoc st m f1 f2 f).outs[n]? = (f.outs[n]?).map (setOut f.x2Ok ((energised st m).contains n) f1 f2) :=
  zipIdx_map_getElem? _ _ _

theorem applyLoc_trip (st : Station) (m : LocCmd) (f1 f2 : Bool) (f : FieldSide) (c : Nat) :
    (applyLoc st m f1 f2 f).trips[c]? = (f.trips[c]?).map (setTrip f.x2Ok ((m.trips[c]?).getD false) f1 f2) :=
  zipIdx_map_getElem? _ _ _

theorem setTrip_masked (supply on f1 f2 : Bool) (t : TripBlk) : (setTrip supply on f1 f2 t).masked = t.masked := by
  unfold setTrip
  split <;> rfl

theorem setTrip_off (supply f1 f2 : Bool) (t : TripBlk) : setTrip supply false f1 f2 t = openTrip t := rfl

/-- Only an output that the command energises can be on after it. -/
theorem energised_of_outOn {st : Station} {m : LocCmd} {f1 f2 : Bool} {f g : FieldSide} {n : Nat}
    (h : outOn g n = true) (houts : g.outs = (applyLoc st m f1 f2 f).outs) : n ∈ energised st m := by
  obtain ⟨o, ho, happ, -⟩ := (outOn_iff g n).mp h
  rw [houts, applyLoc_out, Option.map_eq_some_iff] at ho
  obtain ⟨b, -, rfl⟩ := ho
  exact List.contains_iff_mem.mp (Bool.and_eq_true_iff.mp happ).1

/-- A trip channel that the command does not energise is open after it. -/
theorem applyLoc_trip_off {st : Station} {m : LocCmd} {f1 f2 : Bool} {f g : FieldSide} {c : Nat}
    (htrips : g.trips = (applyLoc st m f1 f2 f).trips) (h : m.trips[c]? ≠ some true) : tripOn g c = false := by
  have hoff : (m.trips[c]?).getD false = false := by
    cases hc : m.trips[c]? with
    | none => rfl
    | some b =>
      cases b
      · rfl
      · exact absurd hc h
  refine tripOn_of_open fun t ht => .inl ?_
  rw [htrips, applyLoc_trip, hoff, Option.map_eq_some_iff] at ht
  obtain ⟨b, -, rfl⟩ := ht
  rw [setTrip_off]
  rfl

/-- The field side in LIVE under a command that both checkers have just accepted. -/
def liveUnder (st : Station) (m : LocCmd) (now : Nat) (f : FieldSide) : FieldSide :=
  { applyLoc st m true true { f with lastF := m.frame, lastF2 := m.frame, cmd := some m, fdis := false } with
    hold := .live, holdFrom := some now }

/-- An output that the command energises is on, where supply, lock and group allow (R254, R260). -/
theorem outOn_liveUnder {st : Station} {m : LocCmd} {f : FieldSide} {n : Nat} {o : OutBlk} (now : Nat) (ho : f.outs[n]? = some o)
    (hn : n ∈ energised st m) (hx2 : f.x2Ok = true) (hlock : o.locked = false) (hgroup : groupOk f (n / 8) = true)
    (hsup : f.suplatch = false) (hfence : f.fence = false) : outOn (liveUnder st m now f) n = true := by
  refine (outOn_iff _ n).mpr ⟨setOut true true true true o, ?_, by simp [setOut], rfl, rfl, hlock, hgroup,
    (groupsClosed_iff _).mpr ⟨nofun, hfence, hsup⟩⟩
  show (applyLoc st m true true _).outs[n]? = _
  rw [applyLoc_out, List.contains_iff_mem.mpr hn]
  dsimp only
  rw [ho, hx2]
  rfl

/-! ## Key segments (R249) -/

/-- Nothing but the keys of the field side has changed. -/
def KeysOnly (f g : FieldSide) : Prop :=
  g = { f with keyed := g.keyed, kmsgs := g.kmsgs, kround := g.kround, kbad := g.kbad, kseg := g.kseg }

theorem takeSegment_keysOnly (d : DownIn) (round : List PlainKey) (seg : Nat) (f : FieldSide) :
    KeysOnly f (takeSegment d round seg f) := by
  unfold takeSegment
  dsimp only
  repeat' split
  all_goals rfl

/-! ## What a downstream frame does before its command (R245, R247, R249, R263, R266) -/

/-- The frame has arrived, and FENCE opens everything. -/
def arrived (v : LioVital) (drive : Bool) (f : FieldSide) : FieldSide :=
  let g := { f with lossRun := 0, barrierLost := false, downSeq := some v.downSeq, drive := drive, fence := v.fence && !v.restart }
  if g.fence then openAll g else g

/-- CTL.RESTART (R263). -/
def restarted (v : LioVital) (now : Nat) (f : FieldSide) : FieldSide :=
  if v.restart then { toRestart f with restartAt := some now } else f

/-- CTL.KZERO. -/
def zeroed (v : LioVital) (f : FieldSide) : FieldSide :=
  if v.kzero then { toRestart f with keyed := false, kmsgs := [], kbad := true } else f

/-- The key segment of the frame, where a round is being sent. -/
def segmented (v : LioVital) (d : DownIn) (f : FieldSide) : FieldSide :=
  if v.kseg < 3 * v.keys.length && !v.kzero then takeSegment d v.keys v.kseg f else f

/-- DRIVE 0, and a field side without its keys. -/
def driven (drive : Bool) (f : FieldSide) : FieldSide := if drive && f.keyed then f else toRestart f

/-- The request of a location test (R253). -/
def asked (v : LioVital) (f : FieldSide) : FieldSide :=
  if 1 ≤ v.test ∧ v.test ≤ 4 then { f with locating := some (v.test - 1) } else f

/-- The trip mask (R150, R266). -/
def maskTrips (mask : List Bool) (f : FieldSide) : FieldSide :=
  { f with trips := f.trips.zipIdx.map fun p =>
      { (if (mask[p.2]?).getD false then openTrip p.1 else p.1) with masked := (mask[p.2]?).getD false } }

theorem takeControl_field (s : State) (d : DownIn) : (takeControl s d).lio.field =
    maskTrips ((List.range 4).map (tripMask s)) (asked s.lio.vital (driven (driveBit s) (segmented s.lio.vital d
      (zeroed s.lio.vital (restarted s.lio.vital s.now (arrived s.lio.vital (driveBit s) s.lio.field)))))) := rfl

/-- `g` follows `f` within one frame, once it has arrived: what the frame has set stands, RESTART stands, and out of RESTART the
outputs are as they were. -/
structure Follows (f g : FieldSide) : Prop where
  lossRun : g.lossRun = f.lossRun
  downSeq : g.downSeq = f.downSeq
  barrierLost : g.barrierLost = f.barrierLost
  drive : g.drive = f.drive
  lastF : g.lastF = f.lastF
  lastF2 : g.lastF2 = f.lastF2
  restart : f.hold = .restart → g.hold = .restart
  outs : g.hold ≠ .restart → ∀ n, outOn g n = outOn f n

theorem Follows.refl (f : FieldSide) : Follows f f := ⟨rfl, rfl, rfl, rfl, rfl, rfl, id, fun _ _ => rfl⟩

theorem Follows.trans {f g h : FieldSide} (a : Follows f g) (b : Follows g h) : Follows f h where
  lossRun := b.lossRun.trans a.lossRun
  downSeq := b.downSeq.trans a.downSeq
  barrierLost := b.barrierLost.trans a.barrierLost
  drive := b.drive.trans a.drive
  lastF := b.lastF.trans a.lastF
  lastF2 := b.lastF2.trans a.lastF2
  restart := b.restart ∘ a.restart
  outs := fun hh n => (b.outs hh n).trans (a.outs (mt b.restart hh) n)

theorem toRestart_follows (f : FieldSide) : Follows f (toRestart f) :=
  ⟨rfl, rfl, rfl, rfl, rfl, rfl, fun _ => rfl, fun h => absurd rfl h⟩

theorem restarted_follows (v : LioVital) (now : Nat) (f : FieldSide) : Follows f (restarted v now f) := by
  unfold restarted
  split
  · exact ⟨rfl, rfl, rfl, rfl, rfl, rfl, fun _ => rfl, fun h => absurd rfl h⟩
  · exact .refl f

theorem zeroed_follows (v : LioVital) (f : FieldSide) : Follows f (zeroed v f) := by
  unfold zeroed
  split
  · exact ⟨rfl, rfl, rfl, rfl, rfl, rfl, fun _ => rfl, fun h => absurd rfl h⟩
  · exact .refl f

theorem KeysOnly.follows {f g : FieldSide} (h : KeysOnly f g) : Follows f g := by
  rw [h]
  exact ⟨rfl, rfl, rfl, rfl, rfl, rfl, id, fun _ _ => rfl⟩

theorem segmented_follows (v : LioVital) (d : DownIn) (f : FieldSide) : Follows f (segmented v d f) := by
  unfold segmented
  split
  · exact (takeSegment_keysOnly _ _ _ _).follows
  · exact .refl f

theorem driven_follows (drive : Bool) (f : FieldSide) : Follows f (driven drive f) := by
  unfold driven
  split
  · exact .refl f
  · exact toRestart_follows f

theorem asked_follows (v : LioVital) (f : FieldSide) : Follows f (asked v f) := by
  unfold asked
  split
  · exact ⟨rfl, rfl, rfl, rfl, rfl, rfl, id, fun _ _ => rfl⟩
  · exact .refl f

theorem maskTrips_follows (mask : List Bool) (f : FieldSide) : Follows f (maskTrips mask f) :=
  ⟨rfl, rfl, rfl, rfl, rfl, rfl, id, fun _ _ => rfl⟩

section
variable (s : State) (d : DownIn)

/-- From the segment on. -/
theorem takeControl_follows_zeroed : Follows (zeroed s.lio.vital (restarted s.lio.vital s.now
    (arrived s.lio.vital (driveBit s) s.lio.field))) (takeControl s d).lio.field := by
  rw [takeControl_field]
  exact (segmented_follows _ _ _).trans ((driven_follows _ _).trans ((asked_follows _ _).trans (maskTrips_follows _ _)))

theorem takeControl_follows : Follows (arrived s.lio.vital (driveBit s) s.lio.field) (takeControl s d).lio.field :=
  (restarted_follows _ _ _).trans ((zeroed_follows _ _).trans (takeControl_follows_zeroed s d))

/-- DRIVE 0, a restart and the zeroising of the keys put the field side in RESTART (R245, R256, R263). -/
theorem takeControl_restart (h : driveBit s = false ∨ s.lio.vital.restart = true ∨ s.lio.vital.kzero = true) :
    (takeControl s d).lio.field.hold = .restart := by
  obtain h | h | h := h
  · rw [takeControl_field]
    refine ((asked_follows _ _).trans (maskTrips_follows _ _)).restart ?_
    rw [driven, h]
    rfl
  · refine (takeControl_follows_zeroed s d).restart ((zeroed_follows _ _).restart ?_)
    rw [restarted, if_pos h]
    rfl
  · refine (takeControl_follows_zeroed s d).restart ?_
    rw [zeroed, if_pos h]
    rfl

/-- What the frame sets on arrival. -/
theorem arrived_sets (v : LioVital) (drive : Bool) (f : FieldSide) : let g := arrived v drive f
    g.lossRun = 0 ∧ g.downSeq = some v.downSeq ∧ g.barrierLost = false ∧ g.drive = drive ∧ g.lastF = f.lastF ∧ g.lastF2 = f.lastF2 := by
  unfold arrived
  dsimp only
  split <;> exact ⟨rfl, rfl, rfl, rfl, rfl, rfl⟩

theorem arrived_unfenced {v : LioVital} {drive : Bool} {f : FieldSide} (h : (v.fence && !v.restart) = false) : arrived v drive f =
    { f with lossRun := 0, barrierLost := false, downSeq := some v.downSeq, drive := drive, fence := false } := by
  unfold arrived
  dsimp only
  rw [h]
  exact if_neg Bool.false_ne_true

/-- An arrival brings no output on that was off but for a fence. -/
theorem outOn_arrived {v : LioVital} {drive : Bool} {f : FieldSide} {n : Nat} (h : outOn (arrived v drive f) n = true) :
    outOn { f with fence := false } n = true := by
  cases hfence : v.fence && !v.restart with
  | false =>
    rw [arrived_unfenced hfence] at h
    exact h
  | true =>
    have hset : (arrived v drive f).fence = true := by
      unfold arrived
      dsimp only
      rw [hfence]
      rfl
    obtain ⟨-, hno, -⟩ := (groupsClosed_iff _).mp (groupsClosed_of_outOn h)
    exact absurd hset (by simp [hno])

theorem outOn_takeControl {n : Nat} (h : outOn (takeControl s d).lio.field n = true) :
    outOn { s.lio.field with fence := false } n = true := by
  obtain ⟨hhold, -⟩ := (groupsClosed_iff _).mp (groupsClosed_of_outOn h)
  rw [(takeControl_follows s d).outs hhold] at h
  exact outOn_arrived h

/-- The mask bits of the trip channels stand after the frame's control (R150, R266). -/
theorem takeControl_masked {c : Nat} (hc : c < 4) (h : tripMask s c = true) {t : TripBlk}
    (ht : (takeControl s d).lio.field.trips[c]? = some t) : t.masked = true := by
  have hmask : (((List.range 4).map (tripMask s))[c]?).getD false = true := by
    simp [hc, h]
  rw [takeControl_field, maskTrips, zipIdx_map_getElem?, Option.map_eq_some_iff] at ht
  obtain ⟨b, -, rfl⟩ := ht
  exact hmask

section
variable (hdrive : driveBit s = true) (hkeyed : s.lio.field.keyed = true) (hrestart : s.lio.vital.restart = false)
  (hkzero : s.lio.vital.kzero = false) (hseg : 3 * s.lio.vital.keys.length ≤ s.lio.vital.kseg)
include hdrive hkeyed hrestart hkzero hseg

/-- A frame of a keyed field side that carries DRIVE 1, no restart, no zeroising and no key segment. -/
theorem takeControl_plain : (takeControl s d).lio.field =
    maskTrips ((List.range 4).map (tripMask s)) (asked s.lio.vital (arrived s.lio.vital true s.lio.field)) := by
  have hkeep : (arrived s.lio.vital true s.lio.field).keyed = true := by
    unfold arrived
    dsimp only
    split <;> exact hkeyed
  rw [takeControl_field, restarted, if_neg (by simp [hrestart]), zeroed, if_neg (by simp [hkzero]), segmented,
    if_neg (by simp [hseg]), hdrive, driven, if_pos (by simp [hkeep])]

theorem takeControl_plain_keeps : let g := (takeControl s d).lio.field
    g.keyed = s.lio.field.keyed ∧ g.kmsgs = s.lio.field.kmsgs ∧ g.lastF = s.lio.field.lastF ∧ g.lastF2 = s.lio.field.lastF2
      ∧ g.hold = s.lio.field.hold := by
  intro g
  rw [show g = _ from takeControl_plain s d hdrive hkeyed hrestart hkzero hseg, asked, arrived]
  dsimp only
  split <;> split <;> exact ⟨rfl, rfl, rfl, rfl, rfl⟩

theorem takeControl_plain_outs (hfence : s.lio.vital.fence = false) : let g := (takeControl s d).lio.field
    g.outs = s.lio.field.outs ∧ g.x2Ok = s.lio.field.x2Ok ∧ (∀ k, groupOk g k = groupOk s.lio.field k)
      ∧ g.suplatch = s.lio.field.suplatch ∧ g.fence = false := by
  intro g
  rw [show g = _ from takeControl_plain s d hdrive hkeyed hrestart hkzero hseg, asked, arrived_unfenced (by simp [hfence])]
  split <;> exact ⟨rfl, rfl, fun _ => rfl, rfl, rfl⟩

end

end

/-! ## The command of a downstream frame (R256) -/

/-- Only the field side has changed. -/
def FieldFrame (s t : State) : Prop := t = { s with lio := { s.lio with field := t.lio.field } }

theorem FieldFrame.refl (s : State) : FieldFrame s s := rfl

theorem FieldFrame.trans {s t u : State} (h : FieldFrame s t) (g : FieldFrame t u) : FieldFrame s u := by
  unfold FieldFrame at *
  rw [g, h]

theorem takeControl_frame (s : State) (d : DownIn) : FieldFrame s (takeControl s d) := rfl

/-- The field side after one or both of its checkers have accepted a command. -/
def accepted (st : Station) (m : LocCmd) (f1 f2 : Bool) (now : Nat) (drive : Bool) (f : FieldSide) : FieldSide :=
  let g := { f with lastF := if f1 then m.frame else f.lastF, lastF2 := if f2 then m.frame else f.lastF2, cmd := some m
                    fdis := f1 != f2 }
  if f.hold = .restart then
    if drive && (f1 && f2) then { g with succ := if m.frame = f.lastF + 1 then f.succ + 1 else 1 } else { g with succ := 0 }
  else { applyLoc st m f1 f2 g with hold := .live, holdFrom := some now }

/-- A command is accepted, by one checker at least, or leaves everything as it was. -/
theorem takeLoc_eq {s : State} {st : Station} (hst : s.mzp = some st) (d : DownIn) (m : LocCmd) :
    let f1 := !d.f1Discards && decide (s.lio.field.lastF < m.frame)
    let f2 := !d.f2Discards && decide (s.lio.field.lastF2 < m.frame)
    takeLoc s d m = if !s.lio.field.keyed || !locAccepted s m || !(f1 || f2) then s
      else updField s (accepted st m f1 f2 s.now s.lio.field.drive) := by
  unfold takeLoc
  simp only [hst]
  split
  · rfl
  · unfold updField accepted
    dsimp only
    cases s.lio.field.hold <;> rfl

theorem takeLoc_cases (s : State) (d : DownIn) (m : LocCmd) : takeLoc s d m = s
    ∨ ∃ st f1 f2, takeLoc s d m = updField s (accepted st m f1 f2 s.now s.lio.field.drive) := by
  cases hst : s.mzp with
  | none =>
    refine .inl ?_
    unfold takeLoc
    simp only [hst]
  | some st =>
    rw [takeLoc_eq hst]
    split
    · exact .inl rfl
    · exact .inr ⟨_, _, _, rfl⟩

/-- A FRAME that neither checker finds new (R256 step 1). -/
theorem takeLoc_old {s : State} {m : LocCmd} (d : DownIn) (h : m.frame ≤ s.lio.field.lastF) (h2 : m.frame ≤ s.lio.field.lastF2) :
    takeLoc s d m = s := by
  cases hst : s.mzp with
  | none =>
    unfold takeLoc
    simp only [hst]
  | some st =>
    rw [takeLoc_eq hst]
    exact if_pos (by simp [Nat.not_lt.mpr h, Nat.not_lt.mpr h2])

theorem takeLoc_accepts {s : State} {st : Station} {d : DownIn} {m : LocCmd} (hst : s.mzp = some st) (hkeyed : s.lio.field.keyed = true)
    (haccept : locAccepted s m = true) (h1 : d.f1Discards = false) (h2 : d.f2Discards = false) (hnew : s.lio.field.lastF < m.frame)
    (hnew2 : s.lio.field.lastF2 < m.frame) :
    takeLoc s d m = updField s (accepted st m true true s.now s.lio.field.drive) := by
  rw [takeLoc_eq hst]
  simp [hkeyed, haccept, h1, h2, hnew, hnew2]

theorem takeLoc_frame (s : State) (d : DownIn) (m : LocCmd) : FieldFrame s (takeLoc s d m) := by
  obtain h | ⟨st, f1, f2, h⟩ := takeLoc_cases s d m
  · rw [h]
    exact .refl s
  · rw [h]
    rfl

theorem locAccepted_congr {s t : State} (h : FieldFrame s t) (hkeys : t.lio.field.kmsgs = s.lio.field.kmsgs) (m : LocCmd) :
    locAccepted t m = locAccepted s m := by
  unfold locAccepted
  dsimp only
  rw [hkeys, h]
  rfl

/-- What a command leaves of what the frame's control has set (R256, R266). -/
structure Obeys (f g : FieldSide) : Prop where
  lossRun : g.lossRun = f.lossRun
  downSeq : g.downSeq = f.downSeq
  barrierLost : g.barrierLost = f.barrierLost
  drive : g.drive = f.drive
  restart : f.hold = .restart → g.hold = .restart
  masked : ∀ (c : Nat) (t : TripBlk), g.trips[c]? = some t → ∃ b, f.trips[c]? = some b ∧ t.masked = b.masked

theorem Obeys.refl (f : FieldSide) : Obeys f f := ⟨rfl, rfl, rfl, rfl, id, fun _ t ht => ⟨t, ht, rfl⟩⟩

theorem accepted_obeys (st : Station) (m : LocCmd) (f1 f2 : Bool) (now : Nat) (drive : Bool) (f : FieldSide) :
    Obeys f (accepted st m f1 f2 now drive f) := by
  unfold accepted
  dsimp only
  split
  · split <;> exact ⟨rfl, rfl, rfl, rfl, id, fun _ t ht => ⟨t, ht, rfl⟩⟩
  next h =>
    refine ⟨rfl, rfl, rfl, rfl, fun hr => absurd hr h, fun c t ht => ?_⟩
    rw [applyLoc_trip, Option.map_eq_some_iff] at ht
    obtain ⟨b, hb, rfl⟩ := ht
    exact ⟨b, hb, setTrip_masked _ _ _ _ b⟩

theorem takeLoc_obeys (s : State) (d : DownIn) (m : LocCmd) : Obeys s.lio.field (takeLoc s d m).lio.field := by
  obtain h | ⟨st, f1, f2, h⟩ := takeLoc_cases s d m
  · rw [h]
    exact .refl _
  · rw [h]
    exact accepted_obeys _ _ _ _ _ _ _

/-! ## BARRIER_DOWNSTREAM_FRAME -/

/-- What the field side takes from a frame that arrives. -/
def downTaken (v : State) (d : DownIn) : State :=
  match v.lio.vital.current with
  | some m => if v.lio.vital.stopped then takeControl v d else takeLoc (takeControl v d) d m
  | none => takeControl v d

theorem downTaken_command {v : State} {d : DownIn} {m : LocCmd} (hcmd : v.lio.vital.current = some m) (hrun : v.lio.vital.stopped = false) :
    downTaken v d = takeLoc (takeControl v d) d m := by
  unfold downTaken
  simp only [hcmd, hrun, Bool.false_eq_true, if_false]

theorem downTaken_cases (v : State) (d : DownIn) : downTaken v d = takeControl v d
    ∨ ∃ m, v.lio.vital.current = some m ∧ v.lio.vital.stopped = false ∧ downTaken v d = takeLoc (takeControl v d) d m := by
  cases hcmd : v.lio.vital.current with
  | none =>
    refine .inl ?_
    unfold downTaken
    simp only [hcmd]
  | some m =>
    cases hrun : v.lio.vital.stopped with
    | false => exact .inr ⟨m, rfl, rfl, downTaken_command hcmd hrun⟩
    | true =>
      refine .inl ?_
      unfold downTaken
      simp only [hcmd, hrun, if_true]

theorem downTaken_frame (v : State) (d : DownIn) : FieldFrame v (downTaken v d) := by
  obtain h | ⟨m, -, -, h⟩ := downTaken_cases v d
  · rw [h]
    exact takeControl_frame v d
  · rw [h]
    exact (takeControl_frame v d).trans (takeLoc_frame _ d m)

theorem downTaken_obeys (v : State) (d : DownIn) : Obeys (takeControl v d).lio.field (downTaken v d).lio.field := by
  obtain h | ⟨m, -, -, h⟩ := downTaken_cases v d
  · rw [h]
    exact .refl _
  · rw [h]
    exact takeLoc_obeys _ d m

/-- Without a command, from a stopped side, or with one whose FRAME neither checker finds new, only the control acts. -/
theorem downTaken_old {v : State} {d : DownIn} (h : v.lio.vital.current = none ∨ v.lio.vital.stopped = true
      ∨ ∀ m, v.lio.vital.current = some m → m.frame ≤ v.lio.field.lastF ∧ m.frame ≤ v.lio.field.lastF2) :
    downTaken v d = takeControl v d := by
  obtain heq | ⟨m, hcmd, hrun, heq⟩ := downTaken_cases v d
  · exact heq
  · obtain h | h | h := h
    · exact absurd hcmd (by simp [h])
    · exact absurd h (by simp [hrun])
    · obtain ⟨hold, hold2⟩ := h m hcmd
      obtain ⟨-, -, -, -, hlast, hlast2⟩ := arrived_sets v.lio.vital (driveBit v) v.lio.field
      have hfollow := takeControl_follows v d
      rw [heq]
      exact takeLoc_old d (by rwa [hfollow.lastF, hlast]) (by rwa [hfollow.lastF2, hlast2])

section
variable {v : State} {d : DownIn} {m : LocCmd} {st : Station} (hcmd : v.lio.vital.current = some m)
  (hrun : v.lio.vital.stopped = false) (hst : v.mzp = some st) (hhold : v.lio.field.hold ≠ .restart)
  (hkeyed : v.lio.field.keyed = true) (hdrive : driveBit v = true) (hrestart : v.lio.vital.restart = false)
  (hkzero : v.lio.vital.kzero = false) (hseg : 3 * v.lio.vital.keys.length ≤ v.lio.vital.kseg) (h1 : d.f1Discards = false)
  (h2 : d.f2Discards = false) (haccept : locAccepted v m = true) (hnew : v.lio.field.lastF < m.frame)
  (hnew2 : v.lio.field.lastF2 < m.frame)
include hcmd hrun hst hhold hkeyed hdrive hrestart hkzero hseg h1 h2 haccept hnew hnew2

/-- A command that both checkers of a keyed field side out of RESTART accept takes effect at once (R256 steps 2 to 5). -/
theorem downTaken_accepts : (downTaken v d).lio.field = liveUnder st m v.now (takeControl v d).lio.field := by
  obtain ⟨hk, hmsgs, hl, hl2, hh⟩ := takeControl_plain_keeps v d hdrive hkeyed hrestart hkzero hseg
  rw [downTaken_command hcmd hrun, takeLoc_accepts (s := takeControl v d) hst (hk.trans hkeyed)
    ((locAccepted_congr (takeControl_frame v d) hmsgs m).trans haccept) h1 h2 (by rwa [hl]) (by rwa [hl2])]
  exact if_neg (by rwa [hh])

/-- The toffee starts again, and the outputs and trip channels are as the command energises them (R254, R256, R260). -/
theorem downTaken_live : let f := v.lio.field
    let g := (downTaken v d).lio.field
    g.hold = .live ∧ g.holdFrom = some v.now ∧ g.lastF = m.frame ∧ g.lastF2 = m.frame
      ∧ (∀ n, outOn g n = true → n ∈ energised st m)
      ∧ (∀ n o, f.outs[n]? = some o → n ∈ energised st m → f.x2Ok = true → o.locked = false → groupOk f (n / 8) = true →
          f.suplatch = false → f.fence = false → v.lio.vital.fence = false → outOn g n = true)
      ∧ ∀ c, m.trips[c]? ≠ some true → tripOn g c = false := by
  have hlive := downTaken_accepts hcmd hrun hst hhold hkeyed hdrive hrestart hkzero hseg h1 h2 haccept hnew hnew2
  dsimp only
  rw [hlive]
  refine ⟨rfl, rfl, rfl, rfl, fun n hn => energised_of_outOn hn rfl, fun n o ho hn hx2 hlock hgroup hsup _ hfence => ?_,
    fun c hc => applyLoc_trip_off (st := st) rfl hc⟩
  obtain ⟨houts, hok, hgrp, hlatch, hopen⟩ := takeControl_plain_outs v d hdrive hkeyed hrestart hkzero hseg hfence
  exact outOn_liveUnder _ (by rwa [houts]) hn (hok.trans hx2) hlock ((hgrp _).trans hgroup) (hlatch.trans hsup) hopen

end

/-- What a frame that arrives sets, whatever its command (R245). -/
theorem downTaken_arrival (v : State) (d : DownIn) : let g := (downTaken v d).lio.field
    g.lossRun = 0 ∧ g.downSeq = some v.lio.vital.downSeq ∧ g.barrierLost = false ∧ g.drive = driveBit v := by
  obtain ⟨hloss, hdown, hlost, hdrive, -⟩ := arrived_sets v.lio.vital (driveBit v) v.lio.field
  have hfollow := takeControl_follows v d
  have hobey := downTaken_obeys v d
  exact ⟨hobey.lossRun.trans (hfollow.lossRun.trans hloss), hobey.downSeq.trans (hfollow.downSeq.trans hdown),
    hobey.barrierLost.trans (hfollow.barrierLost.trans hlost), hobey.drive.trans (hfollow.drive.trans hdrive)⟩

section
variable {v : State} (d : DownIn)

theorem downTaken_restart (h : driveBit v = false ∨ v.lio.vital.restart = true ∨ v.lio.vital.kzero = true) :
    (downTaken v d).lio.field.hold = .restart := (downTaken_obeys v d).restart (takeControl_restart v d h)

/-- The mask wins over the command (R266). -/
theorem downTaken_mask {c : Nat} (hc : c < 4) (h : tripMask v c = true) : tripOn (downTaken v d).lio.field c = false := by
  refine tripOn_of_open fun t ht => .inr ?_
  obtain ⟨b, hb, hmask⟩ := (downTaken_obeys v d).masked c t ht
  exact hmask.trans (takeControl_masked v d hc h hb)

end

theorem outOn_downTaken_old {v : State} {d : DownIn} {n : Nat} (h : v.lio.vital.current = none ∨ v.lio.vital.stopped = true
      ∨ ∀ m, v.lio.vital.current = some m → m.frame ≤ v.lio.field.lastF ∧ m.frame ≤ v.lio.field.lastF2)
    (hon : outOn (downTaken v d).lio.field n = true) : outOn { v.lio.field with fence := false } n = true := by
  rw [downTaken_old h] at hon
  exact outOn_takeControl v d hon

theorem exec_down_off {s : State} {now : Nat} (h : vitalOn (later s now) = false) (d : DownIn) : let v := later s now
    exec (.barrierDownstreamFrame d now) s = .next (if fieldRuns v.lio.field = true then
      { v with lio := { v.lio with field := { v.lio.field with lossRun := v.lio.field.lossRun + 1 } } } else v) := by
  show execBarrierDownstreamFrame d now s = _
  unfold execBarrierDownstreamFrame
  dsimp only
  rw [if_pos (by simp [h])]
  rfl

section
variable {s : State} {now : Nat} (hon : vitalOn (later s now) = true) (d : DownIn)
include hon

theorem exec_down_idle (h : fieldRuns (later s now).lio.field = false) :
    exec (.barrierDownstreamFrame d now) s = .next (sentDown (later s now)) := by
  show execBarrierDownstreamFrame d now s = _
  unfold execBarrierDownstreamFrame
  dsimp only
  rw [if_neg (by simp [hon]), if_pos (by rw [h]; rfl)]

theorem exec_down_lost (h : fieldRuns (later s now).lio.field = true) (hlost : d.fault ≠ .arrives) :
    exec (.barrierDownstreamFrame d now) s = .next (sentDown (countLost d.fault
      (updField (later s now) fun f => { f with lossRun := f.lossRun + 1 }))) := by
  show execBarrierDownstreamFrame d now s = _
  unfold execBarrierDownstreamFrame
  dsimp only
  rw [if_neg (by simp [hon]), if_neg (by rw [h]; decide), if_pos hlost]

theorem exec_down_arrives (h : fieldRuns (later s now).lio.field = true) (harrives : d.fault = .arrives) :
    exec (.barrierDownstreamFrame d now) s = .next (sentDown (downTaken (later s now) d)) := by
  show execBarrierDownstreamFrame d now s = _
  unfold execBarrierDownstreamFrame
  dsimp only
  rw [if_neg (by simp [hon]), if_neg (by rw [h]; decide), if_neg (by simp [harrives])]
  rfl

end

/-- What the vital side leaves behind once it has sent a frame (R245). -/
theorem sentDown_of_field {v x : State} (h : FieldFrame v x) : let t := sentDown x
    t.lio.vital.downSeq = (v.lio.vital.downSeq + 1) % 65536 ∧ t.sent = v.sent ++ [.barrierDown v.lio.vital.downSeq]
      ∧ t.lio.vital.restart = false ∧ t.lio.vital.test = 0 ∧ t = { v with sent := t.sent, lio := t.lio } := by
  rw [h]
  exact ⟨rfl, rfl, rfl, rfl, rfl⟩

/-! ## RESTART_END and TOFFEE_EXPIRY (R256) -/

theorem exec_restartEnd {s : State} {now : Nat} {m : LocCmd} {st : Station} (hcmd : (later s now).lio.field.cmd = some m)
    (hst : (later s now).mzp = some st) : let v := later s now
    exec (.restartEnd now) s = if v.lio.field.hold = .restart ∧ 3 ≤ v.lio.field.succ ∧ v.lio.field.drive = true
        ∧ v.lio.field.keyed = true ∧ v.lio.field.restartAt = none
      then .next (updField v fun f => { applyLoc st m true true f with hold := .live, holdFrom := some v.now, succ := 0 })
      else .next v := by
  show execRestartEnd now s = _
  unfold execRestartEnd
  simp only [hcmd, hst]

theorem exec_toffeeExpiry {s : State} {now a : Nat} (hhold : (later s now).lio.field.hold = .live)
    (hfrom : (later s now).lio.field.holdFrom = some a) : let v := later s now
    exec (.toffeeExpiry now) s = if a + 10000 * fieldOf v.cfg.dpxCtl 8 8 ≤ v.now
      then .next (updField v fun f => { openAll f with
        hold := .expired, holdFrom := none, openedAt := if anythingOn f then some v.now else f.openedAt })
      else .next v := by
  show execToffeeExpiry now s = _
  unfold execToffeeExpiry
  simp only [hfrom, hhold, true_and]
  rfl

end Sys2Proof.Proofs.BarrierDown

/-! PROOFS. The upstream frame (R148, R149, R246, R247, R268): the guards that it counts and the sources that follow it; and the
statement on the barrier. -/

namespace Sys2Proof.Proofs.BarrierUp

open Sys2Proof Sys2Proof.Machine Sys2Proof.Safety Sys2Proof.Proofs.Measurements Sys2Proof.Proofs.Frames
open Sys2Proof.Proofs.BarrierDown

/-! ## Sources that are not the one raised or lowered (R326) -/

theorem raise_isLive_other (s : State) {b c : Blk} {n k : Nat} (hk : k < 16) (h : c ≠ b ∨ k ≠ n) :
    isLive (raise s b n) c k = isLive s c k := by
  cases hb : isLive s b n with
  | true => rw [raise, raiseAt_live s b n none hb]
  | false =>
    rw [isLive, raise, (raiseAt_bits s b n none hb c).1]
    by_cases hc : c = b
    · have hne : n ≠ k := (h.resolve_left (not_not_intro hc)).symm
      rw [if_pos hc, hc, BitVec.getLsbD_or, srcBit_get _ _ hk, decide_eq_false hne, Bool.or_false, isLive]
    · rw [if_neg hc, isLive]

theorem lower_isLive_other_source (s : State) (b : Blk) {n k : Nat} (hk : k < 16) (h : k ≠ n) :
    isLive (lower s b n) b k = isLive s b k := by
  have hbit : (srcBit n).getLsbD k = false := by rw [srcBit_get _ _ hk, decide_eq_false h.symm]
  simp only [isLive, lower, setFault_same, BitVec.getLsbD_and, BitVec.getLsbD_not, hbit, hk, decide_true, Bool.not_false, Bool.and_true]

theorem setLive_isLive_other (s : State) (b : Blk) {n k : Nat} (on : Bool) (hk : k < 16) (h : k ≠ n) :
    isLive (setLive s b n on) b k = isLive s b k := by
  cases on
  · exact lower_isLive_other_source s b hk h
  · exact raise_isLive_other s hk (.inr h)

/-! ## A raising below FENCE -/

/-- A raising at RECORD or WARN is its record only (R333). -/
theorem raise_note {s : State} {b : Blk} {n : Nat} (h : (sevOf s.cfg b n).code < 2) : NoteFrame s (raise s b n) := by
  obtain heq | ⟨u, hu, heq⟩ := raise_cases s b n
  · rw [heq]
    rfl
  · rw [heq]
    cases hs : sevOf s.cfg b n
    case record => exact hu
    case warn => exact hu
    all_goals exact absurd h (by rw [hs]; decide)

theorem prl_of_note {s t : State} (h : NoteFrame s t) : t.prl = s.prl := by rw [h]

theorem cfg_of_note {s t : State} (h : NoteFrame s t) : t.cfg = s.cfg := by rw [h]

/-! ## The sources of the block LIO that follow an upstream frame (R268) -/

/-- Sources of the block, each with its condition, evaluated one after the other. -/
def follow (s : State) (l : List (Nat × Bool)) : State := l.foldl (fun t q => setLive t .lio q.1 q.2) s

/-- What an upstream frame says of the sources. -/
def conditions (u : UpFrame) : List (Nat × Bool) :=
  [(lFIELD_SIDE, u.fdis), (lIN_BANK, u.ibf.any id), (lIN_CHAN, u.iflt.any id), (lOUT_SHORT, u.obf.any id || u.tbf),
    (lOUT_SWITCH, u.ocode.any (· == 3)), (lSUPPLY, u.suplatch || u.x2 < 1920 || u.x2 > 3000),
    (lTRIP_DEGRADED, u.trip.any fun t => t.2.2.1), (lTRIP_LOCK, u.trip.any fun t => t.2.2.2),
    (lTOFFEE_EXP, u.hold = .expired)]

theorem lioSources_eq (s : State) : lioSources s = follow s (conditions s.lio.vital.up) := rfl

theorem follow_frame (s : State) (l : List (Nat × Bool)) : RaiseFrame s (follow s l) := by
  induction l generalizing s with
  | nil => rfl
  | cons q l ih => exact (setLive_frame s .lio q.1 q.2).trans (ih _)

theorem follow_other (s : State) {l : List (Nat × Bool)} {k : Nat} (hk : k < 16) (h : k ∉ l.map (·.1)) :
    isLive (follow s l) .lio k = isLive s .lio k := by
  induction l generalizing s with
  | nil => rfl
  | cons q l ih =>
    rw [List.map_cons, List.mem_cons, not_or] at h
    exact (ih _ h.2).trans (setLive_isLive_other s .lio q.2 hk h.1)

/-- Each source is live as its condition says, where none comes twice. -/
theorem follow_isLive (s : State) {l : List (Nat × Bool)} {n : Nat} {on : Bool} (hn : n < 16) (hl : (l.map (·.1)).Nodup)
    (h : (n, on) ∈ l) : isLive (follow s l) .lio n = on := by
  induction l generalizing s with
  | nil => cases h
  | cons q l ih =>
    rw [List.map_cons, List.nodup_cons] at hl
    obtain h | h := List.mem_cons.mp h
    · subst h
      exact (follow_other _ hn hl.1).trans (setLive_isLive s .lio n on hn)
    · exact ih _ hl.2 h

theorem conditions_nodup (u : UpFrame) : ((conditions u).map (·.1)).Nodup := by
  simp [conditions, lFIELD_SIDE, lIN_BANK, lIN_CHAN, lOUT_SHORT, lOUT_SWITCH, lSUPPLY, lTRIP_DEGRADED, lTRIP_LOCK, lTOFFEE_EXP]

theorem follow_keeps_live {s : State} (l : List (Nat × Bool)) {c : Blk} {k : Nat} (hc : c ≠ .lio) (h : isLive s c k = true) :
    isLive (follow s l) c k = true := by
  induction l generalizing s with
  | nil => exact h
  | cons q l ih => exact ih (setLive_keeps_live q.2 hc h)

theorem safeStop_prl (s : State) : (safeStop s).prl = s.prl := by
  unfold safeStop
  split
  · rfl
  · have h := startFlush_frame (stopFrames s)
    unfold SvcFrame at h
    show (startFlush (stopFrames s)).prl = s.prl
    rw [h]
    rfl

/-- A source of the block LIO fences the vital side and leaves Praline (R337). -/
theorem raise_lio_prl (s : State) (n : Nat) : (raise s .lio n).prl = s.prl := by
  obtain h | ⟨u, hu, h⟩ := raise_cases s .lio n
  · rw [h]
  · rw [h, ← prl_of_note hu]
    cases sevOf s.cfg .lio n
    case safeStop => exact safeStop_prl _
    all_goals rfl

theorem follow_prl (s : State) (l : List (Nat × Bool)) : (follow s l).prl = s.prl := by
  induction l generalizing s with
  | nil => rfl
  | cons q l ih =>
    refine (ih _).trans ?_
    show (setLive s .lio q.1 q.2).prl = s.prl
    cases q.2
    · rfl
    · exact raise_lio_prl s q.1

/-! ## Praline's guards on a refresh (R149 to R151) -/

/-- A guard's own step: its count, and that its pair has shown a sequence error. -/
def guardNoted (was up : UpFrame) (s : State) (q : GuardDef × Nat) (g : GuardBlk) : State :=
  { s with prl := { s.prl with
      guards := s.prl.guards.set q.2 (guardStep s.now was up q.1 g)
      sawSeq := s.prl.sawSeq || (was.seqe[q.1.pair / 2]?).getD 0 != (up.seqe[q.1.pair / 2]?).getD 0 } }

/-- GUARD_FAULT where the pair has a sequence error or a faulted input. -/
def guardFaulted (was up : UpFrame) (q : GuardDef × Nat) (s : State) : State :=
  if (was.seqe[q.1.pair / 2]?).getD 0 != (up.seqe[q.1.pair / 2]?).getD 0
      || ((up.iflt[q.1.pair]?).getD false || (up.iflt[q.1.pair + 1]?).getD false) then raise s .prl pGUARD_FAULT else s

/-- GUARD_TRIP and the record of a guard that has just tripped. -/
def guardTripped (q : GuardDef × Nat) (now was : GuardBlk) (s : State) : State :=
  if now.tripped && !was.tripped then frameRec (raise s .prl pGUARD_TRIP) 0x06 0 (be 2 q.2 ++ be 1 3 ++ be 1 0) else s

/-- One guard on a refresh. -/
def guardOne (was up : UpFrame) (s : State) (q : GuardDef × Nat) : State :=
  match s.prl.guards[q.2]? with
  | none => s
  | some g => guardTripped q (guardStep s.now was up q.1 g) g (guardFaulted was up q (guardNoted was up s q g))

theorem guardRefresh_none {s : State} (was : UpFrame) (h : s.prt = none) : guardRefresh was s = s := by
  unfold guardRefresh
  rw [h]

theorem guardRefresh_some {s : State} {p : Prt} (was : UpFrame) (h : s.prt = some p) :
    guardRefresh was s = p.guards.zipIdx.foldl (guardOne was s.lio.vital.up) s := by
  unfold guardRefresh
  rw [h]
  rfl

theorem guardOne_missing {was up : UpFrame} {s : State} {q : GuardDef × Nat} (h : s.prl.guards[q.2]? = none) :
    guardOne was up s q = s := by
  unfold guardOne
  simp only [h]

theorem guardOne_some {was up : UpFrame} {s : State} {q : GuardDef × Nat} {g : GuardBlk} (h : s.prl.guards[q.2]? = some g) :
    guardOne was up s q = guardTripped q (guardStep s.now was up q.1 g) g (guardFaulted was up q (guardNoted was up s q g)) := by
  unfold guardOne
  simp only [h]

/-- What a refresh may change: what a raising does, and that a sequence error was seen. -/
def RefreshFrame (s t : State) : Prop := RaiseFrame { s with prl := { s.prl with sawSeq := t.prl.sawSeq } } t

theorem RefreshFrame.refl (s : State) : RefreshFrame s s := rfl

theorem RefreshFrame.trans {s t u : State} (h : RefreshFrame s t) (g : RefreshFrame t u) : RefreshFrame s u := by
  unfold RefreshFrame RaiseFrame at *
  rw [g, h]

theorem RefreshFrame.of_raise {s t : State} (h : RaiseFrame s t) : RefreshFrame s t := by
  unfold RefreshFrame RaiseFrame at *
  rw [h]

theorem guardFaulted_frame (was up : UpFrame) (q : GuardDef × Nat) (s : State) : RaiseFrame s (guardFaulted was up q s) := by
  unfold guardFaulted
  split
  · exact raise_frame _ _ _
  · rfl

theorem guardTripped_frame (q : GuardDef × Nat) (a b : GuardBlk) (s : State) : RaiseFrame s (guardTripped q a b s) := by
  unfold guardTripped
  split
  · exact (raise_frame _ _ _).trans (frameRec_frame _ _ _ _)
  · rfl

theorem guardNoted_frame (was up : UpFrame) (s : State) (q : GuardDef × Nat) (g : GuardBlk) :
    RefreshFrame s (guardNoted was up s q g) := rfl

theorem guardOne_frame (was up : UpFrame) (s : State) (q : GuardDef × Nat) : RefreshFrame s (guardOne was up s q) := by
  cases h : s.prl.guards[q.2]? with
  | none =>
    rw [guardOne_missing h]
    exact .refl s
  | some g =>
    rw [guardOne_some h]
    exact (guardNoted_frame was up s q g).trans
      (.of_raise ((guardFaulted_frame was up q _).trans (guardTripped_frame q _ _ _)))

/-- A refresh touches no source of the block LIO. -/
theorem guardOne_lio (was up : UpFrame) (s : State) (q : GuardDef × Nat) {k : Nat} (hk : k < 16) :
    isLive (guardOne was up s q) .lio k = isLive s .lio k := by
  have hfault : ∀ u, isLive (guardFaulted was up q u) .lio k = isLive u .lio k := by
    intro u
    unfold guardFaulted
    split
    · exact raise_isLive_other u hk (.inl (by decide))
    · rfl
  have htrip : ∀ a b u, isLive (guardTripped q a b u) .lio k = isLive u .lio k := by
    intro a b u
    unfold guardTripped
    split
    · exact (isLive_congr (frameRec_faults _ _ _ _) _ _).trans (raise_isLive_other u hk (.inl (by decide)))
    · rfl
  cases h : s.prl.guards[q.2]? with
  | none => rw [guardOne_missing h]
  | some g =>
    rw [guardOne_some h, htrip, hfault]
    rfl

theorem guardFold_frame (was up : UpFrame) (l : List (GuardDef × Nat)) (s : State) : RefreshFrame s (l.foldl (guardOne was up) s) := by
  induction l generalizing s with
  | nil => exact .refl s
  | cons q l ih => exact (guardOne_frame was up s q).trans (ih _)

theorem guardFold_lio (was up : UpFrame) (l : List (GuardDef × Nat)) (s : State) {k : Nat} (hk : k < 16) :
    isLive (l.foldl (guardOne was up) s) .lio k = isLive s .lio k := by
  induction l generalizing s with
  | nil => rfl
  | cons q l ih => exact (ih _).trans (guardOne_lio was up s q hk)

theorem guardRefresh_frame (was : UpFrame) (s : State) : RefreshFrame s (guardRefresh was s) := by
  cases h : s.prt with
  | none =>
    rw [guardRefresh_none was h]
    exact .refl s
  | some p =>
    rw [guardRefresh_some was h]
    exact guardFold_frame _ _ _ s

theorem guardRefresh_lio (was : UpFrame) (s : State) {k : Nat} (hk : k < 16) :
    isLive (guardRefresh was s) .lio k = isLive s .lio k := by
  cases h : s.prt with
  | none => rw [guardRefresh_none was h]
  | some p =>
    rw [guardRefresh_some was h]
    exact guardFold_lio _ _ _ s hk

/-- The two sources of the guards fence nothing. -/
def GuardsNote (c : Cfg) : Prop := (sevOf c .prl pGUARD_TRIP).code < 2 ∧ (sevOf c .prl pGUARD_FAULT).code < 2

theorem guardFaulted_note {was up : UpFrame} {q : GuardDef × Nat} {s : State} (h : GuardsNote s.cfg) :
    NoteFrame s (guardFaulted was up q s) := by
  unfold guardFaulted
  split
  · exact raise_note h.2
  · rfl

theorem guardTripped_note {q : GuardDef × Nat} {a b : GuardBlk} {s : State} (h : GuardsNote s.cfg) :
    NoteFrame s (guardTripped q a b s) := by
  unfold guardTripped
  split
  · exact (raise_note h.1).trans (frameRec_recordFrame _ _ _ _).note
  · rfl

/-- Where its sources fence nothing, a guard's step changes that guard and no other. -/
theorem guardOne_note {was up : UpFrame} {s : State} {q : GuardDef × Nat} {g : GuardBlk} (hnote : GuardsNote s.cfg)
    (h : s.prl.guards[q.2]? = some g) : NoteFrame (guardNoted was up s q g) (guardOne was up s q) := by
  have hfault : NoteFrame (guardNoted was up s q g) (guardFaulted was up q (guardNoted was up s q g)) := guardFaulted_note hnote
  rw [guardOne_some h]
  exact hfault.trans (guardTripped_note (by rwa [cfg_of_note hfault]))

theorem cfg_of_refresh {s t : State} (h : RefreshFrame s t) : t.cfg = s.cfg := by
  unfold RefreshFrame RaiseFrame at h
  rw [h]

theorem now_of_refresh {s t : State} (h : RefreshFrame s t) : t.now = s.now := by
  unfold RefreshFrame RaiseFrame at h
  rw [h]

theorem guardOne_other {was up : UpFrame} {s : State} {q : GuardDef × Nat} {n : Nat} (hnote : GuardsNote s.cfg) (hn : q.2 ≠ n) :
    (guardOne was up s q).prl.guards[n]? = s.prl.guards[n]? := by
  cases h : s.prl.guards[q.2]? with
  | none => rw [guardOne_missing h]
  | some g =>
    rw [prl_of_note (guardOne_note hnote h)]
    exact List.getElem?_set_ne hn

theorem guardOne_keeps_live {was up : UpFrame} {s : State} {q : GuardDef × Nat} {k : Nat} (hlive : isLive s .prl k = true) :
    isLive (guardOne was up s q) .prl k = true := by
  cases h : s.prl.guards[q.2]? with
  | none => rwa [guardOne_missing h]
  | some g =>
    have hnoted : isLive (guardNoted was up s q g) .prl k = true := hlive
    have hfaulted : isLive (guardFaulted was up q (guardNoted was up s q g)) .prl k = true := by
      unfold guardFaulted
      split
      · exact raise_keeps_live hnoted
      · exact hnoted
    rw [guardOne_some h]
    unfold guardTripped
    split
    · rw [isLive_congr (frameRec_faults _ _ _ _)]
      exact raise_keeps_live hfaulted
    · exact hfaulted

/-- The guard itself after its step, and GUARD_TRIP where it has just tripped. -/
theorem guardOne_same {was up : UpFrame} {s : State} {d : GuardDef} {n : Nat} {g : GuardBlk} (hnote : GuardsNote s.cfg)
    (h : s.prl.guards[n]? = some g) :
    (guardOne was up s (d, n)).prl.guards[n]? = some (guardStep s.now was up d g)
      ∧ ((guardStep s.now was up d g).tripped = true → g.tripped = false →
          isLive (guardOne was up s (d, n)) .prl pGUARD_TRIP = true) := by
  constructor
  · rw [prl_of_note (guardOne_note (q := (d, n)) hnote h)]
    exact List.getElem?_set_self (List.getElem?_eq_some_iff.mp h).1
  · intro htrip hbefore
    rw [guardOne_some (q := (d, n)) h, guardTripped, if_pos (by simp [htrip, hbefore]), isLive_congr (frameRec_faults _ _ _ _)]
    exact raise_isLive _ _ _ (by decide)

theorem guardFold_other {was up : UpFrame} {n : Nat} {l : List (GuardDef × Nat)} {s : State} (hl : ∀ q ∈ l, q.2 ≠ n)
    (hnote : GuardsNote s.cfg) :
    (l.foldl (guardOne was up) s).prl.guards[n]? = s.prl.guards[n]? := by
  induction l generalizing s with
  | nil => rfl
  | cons q l ih =>
    rw [List.forall_mem_cons] at hl
    exact (ih hl.2 (by rwa [cfg_of_refresh (guardOne_frame was up s q)])).trans (guardOne_other hnote hl.1)

theorem guardFold_keeps_live {was up : UpFrame} {l : List (GuardDef × Nat)} {s : State} {k : Nat} (h : isLive s .prl k = true) :
    isLive (l.foldl (guardOne was up) s) .prl k = true := by
  induction l generalizing s with
  | nil => exact h
  | cons q l ih => exact ih (guardOne_keeps_live h)

/-- The place of an element among the numbered ones: every other has another number. -/
theorem zipIdx_split {α : Type} {l : List α} {n : Nat} {a : α} (h : l[n]? = some a) :
    ∃ pre post, l.zipIdx = pre ++ (a, n) :: post ∧ (∀ q ∈ pre, q.2 ≠ n) ∧ ∀ q ∈ post, q.2 ≠ n := by
  obtain ⟨pre, post, heq⟩ := List.append_of_mem (show (a, n) ∈ l.zipIdx from List.mem_zipIdx_iff_getElem?.mpr h)
  have hnodup := List.nodup_zipIdx_map_snd l
  rw [heq, List.map_append, List.map_cons, List.nodup_append, List.nodup_cons] at hnodup
  obtain ⟨-, ⟨hpost, -⟩, hpre⟩ := hnodup
  exact ⟨pre, post, heq, fun q hq => hpre _ (List.mem_map_of_mem hq) _ List.mem_cons_self,
    fun q hq he => hpost (List.mem_map.mpr ⟨q, hq, he⟩)⟩

/-- A refresh takes every guard through its own step (R149). -/
theorem guardRefresh_guard {was : UpFrame} {s : State} {p : Prt} {n : Nat} {d : GuardDef} {g : GuardBlk} (hprt : s.prt = some p)
    (hd : p.guards[n]? = some d) (hg : s.prl.guards[n]? = some g) (hnote : GuardsNote s.cfg) :
    let h := guardStep s.now was s.lio.vital.up d g
    (guardRefresh was s).prl.guards[n]? = some h
      ∧ (h.tripped = true → g.tripped = false → isLive (guardRefresh was s) .prl pGUARD_TRIP = true) := by
  obtain ⟨pre, post, heq, hpre, hpost⟩ := zipIdx_split hd
  rw [guardRefresh_some was hprt, heq, List.foldl_append, List.foldl_cons]
  generalize s.lio.vital.up = up
  have hframe := guardFold_frame was up pre s
  rw [← cfg_of_refresh hframe] at hnote
  rw [← guardFold_other (was := was) (up := up) hpre (by rwa [← cfg_of_refresh hframe])] at hg
  rw [← now_of_refresh hframe]
  obtain ⟨hstep, htrip⟩ := guardOne_same (was := was) (up := up) (d := d) hnote hg
  have hnote2 : GuardsNote (guardOne was up (pre.foldl (guardOne was up) s) (d, n)).cfg := by
    rwa [cfg_of_refresh (guardOne_frame was up _ (d, n))]
  exact ⟨(guardFold_other hpost hnote2).trans hstep, fun h h0 => guardFold_keeps_live (htrip h h0)⟩

/-- What a refresh adds to a guard's count: the axles of its direction and the sequence errors of its pair (R149). -/
def guardAdd (was up : UpFrame) (d : GuardDef) : Nat :=
  let more := fun (m : Nat) (a b : List Nat) => ((b[d.pair / 2]?).getD 0 + m - (a[d.pair / 2]?).getD 0) % m
  (if d.dir = 0 then more 65536 was.cnt0 up.cnt0 else more 65536 was.cnt1 up.cnt1) + more 256 was.seqe up.seqe

/-- A guard whose pair has shown `add` more. -/
def counted (add thr : Nat) (g : GuardBlk) : GuardBlk :=
  if !g.armed then g
  else if g.count + add ≥ thr then { g with count := g.count + add, armed := false, tripped := true }
  else { g with count := g.count + add }

theorem guardStep_eq (now : Nat) (was up : UpFrame) (d : GuardDef) (g : GuardBlk) :
    ∃ last, guardStep now was up d g = counted (guardAdd was up d) d.thr { g with lastAt := last } := by
  have hlast : ∀ (c : Prop) [Decidable c], (if c then g else { g with lastAt := some now }) =
      { g with lastAt := if c then g.lastAt else some now } := by
    intro c _
    split <;> rfl
  unfold guardStep
  dsimp only
  rw [hlast]
  exact ⟨_, rfl⟩

/-- An armed guard counts, and trips at its threshold; one that is not armed stays (R149). -/
theorem counted_spec (add thr : Nat) (g : GuardBlk) : let h := counted add thr g
    (g.armed = true → h.count = g.count + add)
      ∧ (g.armed = true → thr ≤ g.count + add → h.tripped = true ∧ h.armed = false)
      ∧ (g.armed = true → g.count + add < thr → h.tripped = g.tripped ∧ h.armed = true)
      ∧ (g.armed = false → h.count = g.count ∧ h.tripped = g.tripped ∧ h.armed = false) := by
  unfold counted
  cases harmed : g.armed with
  | false => exact ⟨nofun, nofun, nofun, fun _ => ⟨rfl, rfl, harmed⟩⟩
  | true =>
    by_cases hthr : g.count + add ≥ thr
    · rw [if_neg (by decide), if_pos hthr]
      exact ⟨fun _ => rfl, fun _ _ => ⟨rfl, rfl⟩, fun _ hlow => absurd hthr (Nat.not_le.mpr hlow), nofun⟩
    · rw [if_neg (by decide), if_neg hthr]
      exact ⟨fun _ => rfl, fun _ hhigh => absurd hhigh hthr, fun _ _ => ⟨rfl, rfl⟩, nofun⟩

theorem guardStep_spec (now : Nat) (was up : UpFrame) (d : GuardDef) (g : GuardBlk) :
    let h := guardStep now was up d g
    let sum := g.count + guardAdd was up d
    (g.armed = true → h.count = sum)
      ∧ (g.armed = true → d.thr ≤ sum → h.tripped = true ∧ h.armed = false)
      ∧ (g.armed = true → sum < d.thr → h.tripped = g.tripped ∧ h.armed = true)
      ∧ (g.armed = false → h.count = g.count ∧ h.tripped = g.tripped ∧ h.armed = false) := by
  obtain ⟨last, h⟩ := guardStep_eq now was up d g
  rw [h]
  exact counted_spec (guardAdd was up d) d.thr { g with lastAt := last }

/-! ## BARRIER_UPSTREAM_FRAME (R246) -/

/-- What the vital side holds of an upstream frame, before Praline's guards and the sources. -/
def upTaken (s : State) : State :=
  let up := formUp s
  let was := s.lio.vital.up
  let seq := s.lio.field.upSeq
  let s1 := updField s fun f => { f with upSeq := (f.upSeq + 1) % 65536 }
  let s2 := updVital s1 fun v =>
    { v with up := up, upSeq := some seq, lossRun := 0, linkUp := true, barrierLost := false
             x2min := some (min up.x2 (v.x2min.getD up.x2)), seqErr := addSeqErr was up v.seqErr
             keys := if roundDone v up then [] else v.keys }
  let s3 := lower { s2 with sent := s2.sent ++ [.barrierUp seq] } .lio lBARRIER
  if !up.keyed && s3.lio.vital.keys.isEmpty && !s3.lio.vital.kzero then startKeyRound s3 else s3

theorem exec_up_off {s : State} {now : Nat} (h : vitalOn (later s now) = false) (fault : LinkFault) :
    exec (.barrierUpstreamFrame fault now) s = .next (later s now) := by
  show execBarrierUpstreamFrame fault now s = _
  unfold execBarrierUpstreamFrame
  dsimp only
  rw [if_pos (by rw [h]; rfl)]

section
variable {s : State} {now : Nat} (hon : vitalOn (later s now) = true)
include hon

theorem exec_up_lost {fault : LinkFault} (h : fieldRuns (later s now).lio.field = false ∨ fault ≠ .arrives) :
    exec (.barrierUpstreamFrame fault now) s = .next (countLost fault (updVital (later s now) fun v =>
      { v with lossRun := v.lossRun + 1 })) := by
  show execBarrierUpstreamFrame fault now s = _
  unfold execBarrierUpstreamFrame
  dsimp only
  rw [if_neg (by rw [hon]; decide), if_pos (h.imp_left fun h => by rw [h]; rfl)]

theorem exec_up_arrives (h : fieldRuns (later s now).lio.field = true) : let v := later s now
    exec (.barrierUpstreamFrame .arrives now) s = .next (lioSources (guardRefresh v.lio.vital.up (upTaken v))) := by
  show execBarrierUpstreamFrame .arrives now s = _
  unfold execBarrierUpstreamFrame
  dsimp only
  rw [if_neg (by rw [hon]; decide), if_neg (by rw [h]; decide)]
  rfl

end

/-- What the vital side has taken of the frame; the rest is as it was. -/
structure UpTaken (v u : State) : Prop where
  up : u.lio.vital.up = formUp v
  lossRun : u.lio.vital.lossRun = 0
  barrierLost : u.lio.vital.barrierLost = false
  linkUp : u.lio.vital.linkUp = true
  field : u.lio.field = { v.lio.field with upSeq := (v.lio.field.upSeq + 1) % 65536 }
  sent : u.sent = v.sent ++ [.barrierUp v.lio.field.upSeq]
  prl : u.prl = v.prl
  prt : u.prt = v.prt
  cfg : u.cfg = v.cfg
  now : u.now = v.now

theorem upTaken_spec (v : State) : UpTaken v (upTaken v) := by
  unfold upTaken
  dsimp only
  split <;> exact ⟨rfl, rfl, rfl, rfl, rfl, rfl, rfl, rfl, rfl, rfl⟩

theorem upTaken_barrier (v : State) : isLive (upTaken v) .lio lBARRIER = false := by
  unfold upTaken
  dsimp only
  split
  · exact lower_isLive _ .lio lBARRIER (by decide)
  · exact lower_isLive _ .lio lBARRIER (by decide)

/-- What raisings and a refresh leave of the link's own state. -/
theorem link_of_refresh {s t : State} (h : RefreshFrame s t) : t.lio.field = s.lio.field ∧ t.sent = s.sent
    ∧ t.lio.vital.up = s.lio.vital.up ∧ t.lio.vital.lossRun = s.lio.vital.lossRun
    ∧ t.lio.vital.barrierLost = s.lio.vital.barrierLost ∧ t.lio.vital.linkUp = s.lio.vital.linkUp := by
  unfold RefreshFrame RaiseFrame at h
  rw [h]
  exact ⟨rfl, rfl, rfl, rfl, rfl, rfl⟩

/-- The module after an upstream frame that has arrived. -/
def upDone (v : State) : State := lioSources (guardRefresh v.lio.vital.up (upTaken v))

theorem upDone_frame (v : State) : RefreshFrame (upTaken v) (upDone v) := by
  rw [upDone, lioSources_eq]
  exact (guardRefresh_frame _ _).trans (.of_raise (follow_frame _ _))

theorem upDone_eq (v : State) : upDone v = follow (guardRefresh v.lio.vital.up (upTaken v)) (conditions (formUp v)) := by
  obtain ⟨-, -, hup, -⟩ := link_of_refresh (guardRefresh_frame v.lio.vital.up (upTaken v))
  rw [upDone, lioSources_eq, hup, (upTaken_spec v).up]

theorem upDone_link (v : State) : let t := upDone v
    t.lio.vital.up = formUp v ∧ t.lio.vital.lossRun = 0 ∧ t.lio.vital.barrierLost = false ∧ t.lio.vital.linkUp = true
      ∧ isLive t .lio lBARRIER = false ∧ t.lio.field = { v.lio.field with upSeq := (v.lio.field.upSeq + 1) % 65536 }
      ∧ t.sent = v.sent ++ [.barrierUp v.lio.field.upSeq] := by
  obtain ⟨hfield, hsent, hup, hloss, hlost, hlink⟩ := link_of_refresh (upDone_frame v)
  have h := upTaken_spec v
  refine ⟨hup.trans h.up, hloss.trans h.lossRun, hlost.trans h.barrierLost, hlink.trans h.linkUp, ?_, hfield.trans h.field,
    hsent.trans h.sent⟩
  rw [upDone_eq, follow_other _ (by decide) (by simp [conditions]; decide), guardRefresh_lio _ _ (by decide)]
  exact upTaken_barrier v

theorem upDone_supply (v : State) : isLive (upDone v) .lio lSUPPLY = true
    ↔ v.lio.field.suplatch = true ∨ v.lio.field.x2 < 1920 ∨ 3000 < v.lio.field.x2 := by
  rw [upDone_eq, follow_isLive (on := v.lio.field.suplatch || v.lio.field.x2 < 1920 || v.lio.field.x2 > 3000) _ (by decide)
    (conditions_nodup _) (by simp [conditions, formUp])]
  simp [or_assoc]

theorem upDone_toffee (v : State) : isLive (upDone v) .lio lTOFFEE_EXP = true ↔ v.lio.field.hold = .expired := by
  rw [upDone_eq, follow_isLive (on := v.lio.field.hold = .expired) _ (by decide) (conditions_nodup _) (by simp [conditions, formUp])]
  simp

theorem upDone_guard {v : State} {p : Prt} {n : Nat} {d : GuardDef} {g : GuardBlk} (hprt : v.prt = some p)
    (hd : p.guards[n]? = some d) (hg : v.prl.guards[n]? = some g) (hnote : GuardsNote v.cfg) :
    let h := guardStep v.now v.lio.vital.up (formUp v) d g
    (upDone v).prl.guards[n]? = some h
      ∧ (h.tripped = true → g.tripped = false → isLive (upDone v) .prl pGUARD_TRIP = true) := by
  have h := upTaken_spec v
  obtain ⟨hstep, htrip⟩ := guardRefresh_guard (was := v.lio.vital.up) (s := upTaken v) (h.prt.trans hprt) hd (by rwa [h.prl])
    (by rwa [h.cfg])
  rw [h.now, h.up] at hstep htrip
  rw [upDone_eq, follow_prl]
  exact ⟨hstep, fun ht h0 => follow_keeps_live _ (by decide) (htrip ht h0)⟩

/-! ## BARRIER_LOSS and KEY_ROUND_REPEAT (R247, R249) -/

theorem exec_barrierLoss_up (s : State) (now : Nat) : let v := later s now
    exec (.barrierLoss true now) s = if v.lio.vital.lossRun < 2 then .next v else
      .next (if vitalOn v = true then raise (updVital v fun w => { w with barrierLost := true }) .lio lBARRIER else v) := rfl

theorem exec_barrierLoss_down (s : State) (now : Nat) : let v := later s now
    exec (.barrierLoss false now) s = if v.lio.field.lossRun < 2 then .next v else
      if fieldRuns v.lio.field = true then .next (updField v fun f => { openTrips f with barrierLost := true }) else .next v := rfl

theorem barrierLost_of_raiseFrame {s t : State} (h : RaiseFrame s t) : t.lio.vital.barrierLost = s.lio.vital.barrierLost := by
  rw [h]

section
variable {s : State} {now : Nat}

theorem barrierLoss_up_waits (h : (later s now).lio.vital.lossRun < 2 ∨ vitalOn (later s now) = false) :
    exec (.barrierLoss true now) s = .next (later s now) := by
  rw [exec_barrierLoss_up]
  split
  · rfl
  next hmany => rw [if_neg (Bool.eq_false_iff.mp (h.resolve_left hmany))]

theorem barrierLoss_up_raises (hon : vitalOn (later s now) = true) (hmany : 2 ≤ (later s now).lio.vital.lossRun) : let v := later s now
    ∃ t, exec (.barrierLoss true now) s = .next t ∧ isLive t .lio lBARRIER = true ∧ t.lio.vital.barrierLost = true
      ∧ RaiseFrame { v with lio := { v.lio with vital := { v.lio.vital with barrierLost := true } } } t :=
  ⟨_, (exec_barrierLoss_up s now).trans ((if_neg (Nat.not_lt.mpr hmany)).trans (congrArg Host.Outcome.next (if_pos hon))),
    raise_isLive _ .lio lBARRIER (by decide), barrierLost_of_raiseFrame (raise_frame _ _ _), raise_frame _ _ _⟩

theorem barrierLoss_down_waits (h : (later s now).lio.field.lossRun < 2 ∨ fieldRuns (later s now).lio.field = false) :
    exec (.barrierLoss false now) s = .next (later s now) := by
  rw [exec_barrierLoss_down]
  split
  · rfl
  next hmany => rw [if_neg (Bool.eq_false_iff.mp (h.resolve_left hmany))]

/-- The trip channels open, and a DEGRADED one that was closed is locked (R247, R262). -/
theorem barrierLoss_down_opens (hruns : fieldRuns (later s now).lio.field = true) (hmany : 2 ≤ (later s now).lio.field.lossRun) :
    let v := later s now
    ∃ t, exec (.barrierLoss false now) s = .next t
      ∧ t = { v with lio := { v.lio with field := { v.lio.field with barrierLost := true, trips := t.lio.field.trips } } }
      ∧ (∀ c, tripOn t.lio.field c = false)
      ∧ ∀ (c : Nat) b, v.lio.field.trips[c]? = some b → b.degraded = true → b.app = true →
          ∃ k, t.lio.field.trips[c]? = some k ∧ k.locked = true := by
  intro v
  refine ⟨_, (exec_barrierLoss_down s now).trans ((if_neg (Nat.not_lt.mpr hmany)).trans (if_pos hruns)), rfl,
    openTrips_off (f := v.lio.field) rfl, fun c b hb hdeg happ => ⟨openTrip b, ?_, by simp [openTrip, hdeg, happ]⟩⟩
  show (v.lio.field.trips.map openTrip)[c]? = _
  rw [List.getElem?_map, hb]
  rfl

end

theorem roundDone_iff {w : LioVital} (hsent : 3 * w.keys.length ≤ w.kseg) :
    roundDone w w.up = true ↔ w.up.keyed = true ∧ w.up.kseg + 1 = 3 * w.keys.length := by
  simp [roundDone, hsent]

theorem exec_keyRoundRepeat {s : State} {now a : Nat} (h : (later s now).lio.vital.ksentAt = some a) : let v := later s now
    let w := v.lio.vital
    exec (.keyRoundRepeat now) s =
      if (!w.keys.isEmpty && decide (w.kseg ≥ 3 * w.keys.length) && decide (a + 2000 ≤ v.now) && !roundDone w w.up) = true
      then .next (updVital v fun w => { w with kseg := 0, ksentAt := none }) else .next v := by
  show execKeyRoundRepeat now s = _
  unfold execKeyRoundRepeat
  simp only [h]

section
variable {s : State} {now a : Nat} (hsent : (later s now).lio.vital.ksentAt = some a)
  (hkseg : 3 * (later s now).lio.vital.keys.length ≤ (later s now).lio.vital.kseg)
include hsent hkseg

theorem keyRoundRepeat_waits (h : (later s now).now < a + 2000
      ∨ ((later s now).lio.vital.up.keyed = true
        ∧ (later s now).lio.vital.up.kseg + 1 = 3 * (later s now).lio.vital.keys.length)) :
    exec (.keyRoundRepeat now) s = .next (later s now) := by
  refine (exec_keyRoundRepeat hsent).trans (if_neg ?_)
  simp only [Bool.and_eq_true, decide_eq_true_eq, Bool.not_eq_true']
  rintro ⟨⟨-, hlate⟩, hopen⟩
  obtain h | h := h
  · exact absurd hlate (Nat.not_le.mpr h)
  · exact absurd ((roundDone_iff hkseg).mpr h) (Bool.eq_false_iff.mp hopen)

theorem keyRoundRepeat_restarts (hkeys : (later s now).lio.vital.keys ≠ []) (hdue : a + 2000 ≤ (later s now).now)
    (hopen : ¬ ((later s now).lio.vital.up.keyed = true
      ∧ (later s now).lio.vital.up.kseg + 1 = 3 * (later s now).lio.vital.keys.length)) :
    exec (.keyRoundRepeat now) s = .next (updVital (later s now) fun w => { w with kseg := 0, ksentAt := none }) := by
  refine (exec_keyRoundRepeat hsent).trans (if_pos ?_)
  simp only [Bool.and_eq_true, decide_eq_true_eq, Bool.not_eq_true']
  exact ⟨⟨⟨List.isEmpty_eq_false_iff.mpr hkeys, hkseg⟩, hdue⟩, Bool.eq_false_iff.mpr (mt (roundDone_iff hkseg).mp hopen)⟩

end

/-- Settles O57: a downstream frame by what becomes of it, its control and its command; the ends of RESTART and of the toffee window;
an upstream frame by the link, the sources and the guards; the losses and the key round. -/
theorem barrierCarriesCommandsAndKeys : Obligations.BarrierCarriesCommandsAndKeys := by
  unfold Obligations.BarrierCarriesCommandsAndKeys
  intro s now v f w dark
  refine ⟨exec_down_off, fun hon d => ?_, fun m st hcmd hst => ⟨fun h => ?_, fun h => ?_⟩, fun a hhold hfrom => ⟨fun h => ?_, fun h => ?_⟩,
    exec_up_off, fun hon fault => ⟨fun h => ⟨_, exec_up_lost hon h, rfl⟩, fun hruns harrives => ?_⟩,
    barrierLoss_up_waits, barrierLoss_up_raises, barrierLoss_down_waits, barrierLoss_down_opens,
    fun a hsent hkeys hkseg => ⟨keyRoundRepeat_waits hsent hkseg, keyRoundRepeat_restarts hsent hkseg hkeys⟩⟩
  · by_cases hruns : fieldRuns f = true
    · have hnot : fieldRuns f ≠ false := by simp [hruns]
      by_cases harrives : d.fault = .arrives
      · obtain ⟨hseq, hsent, hrestart, htest, hframe⟩ := sentDown_of_field (downTaken_frame v d)
        obtain ⟨hloss, hdown, hlost, hdrive⟩ := downTaken_arrival v d
        exact ⟨_, exec_down_arrives hon d hruns harrives, hseq, hsent, hrestart, htest, hframe, fun h => absurd h hnot,
          fun _ h => absurd harrives h, fun _ _ => ⟨hloss, hdown, hlost, hdrive,
            fun h => ⟨downTaken_restart d h, dark_of_restart (downTaken_restart d h)⟩, fun c hmask hc => downTaken_mask d hc hmask,
            fun h n => outOn_downTaken_old h, fun m st => downTaken_live⟩⟩
      · exact ⟨_, exec_down_lost hon d hruns harrives, rfl, rfl, rfl, rfl, rfl, fun h => absurd h hnot, fun _ _ => ⟨rfl, rfl⟩,
          fun _ h => absurd h harrives⟩
    · exact ⟨_, exec_down_idle hon d (Bool.eq_false_iff.mpr hruns), rfl, rfl, rfl, rfl, rfl, fun _ => rfl, fun h => absurd h hruns,
        fun h => absurd h hruns⟩
  · exact (exec_restartEnd hcmd hst).trans (if_neg h)
  · exact ⟨_, (exec_restartEnd hcmd hst).trans (if_pos h), rfl, rfl, rfl, rfl, fun n hn => energised_of_outOn hn rfl⟩
  · exact (exec_toffeeExpiry hhold hfrom).trans (if_neg (Nat.not_le.mpr h))
  · exact ⟨_, (exec_toffeeExpiry hhold hfrom).trans (if_pos h), rfl, rfl, openAll_dark rfl rfl, rfl, rfl, rfl⟩
  · subst harrives
    obtain ⟨hup, hloss, hlost, hlink, hbarrier, hfield, hsent⟩ := upDone_link v
    refine ⟨_, exec_up_arrives hon hruns, hup, hloss, hlost, hlink, hbarrier, hfield, hsent, upDone_supply v, upDone_toffee v, ?_⟩
    intro p n d g hprt hd hg htrip hfault
    obtain ⟨hstep, hlive⟩ := upDone_guard hprt hd hg ⟨htrip, hfault⟩
    obtain ⟨hcount, hover, hunder, hidle⟩ := guardStep_spec v.now w.up (formUp v) d g
    exact ⟨_, hstep, hcount, fun harmed h => ⟨(hover harmed h).1, (hover harmed h).2, hlive (hover harmed h).1⟩, hunder, hidle⟩

end Sys2Proof.Proofs.BarrierUp

/-! PROOFS. Maintenance commands that the lanes carry out (R174, R178, R263, R274, R282, R291, R359, R408, R411): what one answer or one
reply changes, and the effect of each command under its condition. -/

namespace Sys2Proof.Proofs.LaneCommands

open Sys2Proof Sys2Proof.Machine Sys2Proof.Safety Sys2Proof.Proofs.Frames Sys2Proof.Proofs.LanesAndInstances

/-! ## A record and the counters of packets -/

theorem touchQueue_withCmd (s : State) (c : CmdBlk) : touchQueue { s with cmd := c } 2 = { touchQueue s 2 with cmd := c } := by
  unfold touchQueue
  dsimp only
  split <;> rfl

theorem pushRec_withCmd (s : State) (c : CmdBlk) (r : Rec) : pushRec { s with cmd := c } r = { pushRec s r with cmd := c } := by
  have hmsw : msw { s with cmd := c } = msw s := rfl
  unfold pushRec pushTo
  dsimp only
  rw [touchQueue_withCmd, hmsw]
  split <;> rfl

/-- The COMMAND record of a command depends on no count of packets. -/
theorem tellTaken_withCmd (s : State) (c : CmdBlk) (src : Src) (opc : Nat) (st : Status) :
    tellTaken { s with cmd := c } src opc st = { tellTaken s src opc st with cmd := c } := by
  have htake : lanesTake { s with cmd := c } = lanesTake s := rfl
  unfold tellTaken
  dsimp only
  rw [pushRec_withCmd, htake]
  split <;> rfl

theorem tellTaken_recordFrame (s : State) (src : Src) (opc : Nat) (st : Status) : RecordFrame s (tellTaken s src opc st) := by
  unfold tellTaken
  dsimp only
  split
  · exact pushRec_recordFrame _ _
  · rfl

/-! ## Answers of the lanes and replies of the service processor -/

/-- The answer that leaves at once, after the count that the status asks for. -/
theorem laneReply_answers (u : State) (n : Nat) (src : Src) (opc : Nat) (st : Status) (body : Bytes) :
    Answers u (laneReply (tellTaken { u with cmd := { u.cmd with rxok := n } } src opc st)
      { entry := src.entry, ver := src.ver, tag := src.tag, seq := src.seq, opc := opc, status := st, body := body } src.addr)
      src opc st body := by
  obtain ⟨e, x, h⟩ : ∃ e x, tellTaken u src opc st = { u with evr := e, xbr := x } := ⟨_, _, tellTaken_recordFrame u src opc st⟩
  unfold Answers
  rw [tellTaken_withCmd, h]
  rfl

theorem answerNow_answers (u : State) (src : Src) (opc : Nat) (st : Status) (body : Bytes) :
    Answers u (answerNow u src opc st body) src opc st body := by
  unfold answerNow
  dsimp only
  split
  · exact laneReply_answers u _ src opc st body
  · exact laneReply_answers u u.cmd.rxok src opc st body

/-- An answer of the lanes leaves at once, or waits for the COMMIT of the frame in progress (R291). -/
theorem laneAnswer_answered (u : State) (src : Src) (opc : Nat) (st : Status) (body : Bytes) :
    Answered u (laneAnswer u src opc st body) src opc st body := by
  unfold laneAnswer
  refine ⟨fun h => ?_, fun x h => ?_⟩
  · rw [h]
    exact answerNow_answers u src opc st body
  · rw [h]
    refine ⟨addRec { x with replies := x.replies ++ [{ entry := src.entry, ver := src.ver, tag := src.tag, seq := src.seq, opc := opc
                                                       status := st, body := body }] } (takenRec src opc st), ?_, rfl, rfl⟩
    dsimp only
    split <;> rfl

theorem partnerAt_withCmd {u : State} {c : CmdBlk} (h : c.partners = u.cmd.partners) (n : Nat) :
    partnerAt { u with cmd := c } n = partnerAt u n := by
  unfold partnerAt tableEntry
  rw [h]

/-- The reply that leaves, after the counts that its status asks for. -/
theorem sendPlain_replies (u : State) (ok other : Nat) (src : Src) (opc : Nat) (st : Status) (body : Bytes) :
    Replies u (sendPlain (countReply { u with cmd := { u.cmd with rxok := ok, otherErr := other } } (partnerAt u src.entry).conn)
      src.entry src.ver opc src.tag src.addr (replyPayload opc st 0 (replyMsw u) u.image.frame body)) src opc st body := by
  unfold Replies replyPacket sendPlain sendPacket countReply
  dsimp only
  rw [partnerAt_withCmd (u := u) rfl]
  rfl

theorem reply_replies (u : State) (src : Src) (opc : Nat) (st : Status) (body : Bytes) :
    Replies u (reply u src opc st body) src opc st body := by
  unfold reply
  dsimp only
  repeat' split
  · exact sendPlain_replies u _ u.cmd.otherErr src opc st body
  · exact sendPlain_replies u u.cmd.rxok _ src opc st body
  · exact sendPlain_replies u u.cmd.rxok u.cmd.otherErr src opc st body

/-! ## The rows -/

theorem gated_pass {s : State} {src : Src} {opc : Nat} (hgate : gateOf s src opc = .pass) (f : State → State) :
    gated s src opc f = f (hearFrom s src.entry) := by
  rw [gated, hgate]

section Row

variable {c : Instr} {s : State} {src : Src} {opc : Nat} {f : State → Status × State}
  (hexec : exec c s = .next (laneRow src opc f s)) (hgate : gateOf s src opc = .pass)

include hexec hgate

/-- A command that the gate passes is answered by the lanes with what its row gives, but for BAD_LEN. -/
theorem laneAnswer_of_row {v : State} {st : Status} (hrow : f (hearFrom s src.entry) = (st, v)) (hst : st ≠ .badLen) :
    LaneAnswer c s v src opc st := by
  refine ⟨_, hexec, ?_⟩
  rw [laneRow, gated_pass hgate]
  dsimp only
  rw [hrow, if_neg hst]
  exact laneAnswer_answered v src opc st []

/-- A parameter outside its range is answered by the service processor, and nothing is done (R282 step 10). -/
theorem svcReply_of_row (hrow : f (hearFrom s src.entry) = refuse (hearFrom s src.entry) .badLen) :
    SvcReply c s (hearFrom s src.entry) src opc .badLen [] := by
  refine ⟨_, hexec, ?_⟩
  rw [laneRow, gated_pass hgate]
  dsimp only
  rw [hrow]
  exact reply_replies _ src opc .badLen []

/-- A row that has its effect under one condition, and is BAD_STATE where it fails. -/
theorem row_decides {b : Bool} {ok : Prop} {v : State} {st : Status}
    (hrow : f (hearFrom s src.entry) = if b = true then (st, v) else refuse (hearFrom s src.entry) .badState)
    (hst : st ≠ .badLen) (hb : b = true ↔ ok) :
    (ok → LaneAnswer c s v src opc st) ∧ (¬ ok → LaneAnswer c s (hearFrom s src.entry) src opc .badState) :=
  ⟨fun h => laneAnswer_of_row hexec hgate (hrow.trans (if_pos (hb.mpr h))) hst,
    fun h => laneAnswer_of_row hexec hgate (hrow.trans (if_neg (mt hb.mp h))) (by decide)⟩

end Row

/-! ## Conditions -/

theorem votingLanes_three_iff (v : VotBlk) : (votingLanes v).length = 3 ↔ ∀ k, (laneOf v k).state = .voting := by
  have h := List.length_filter_eq_length_iff (p := isVoting v) (l := Lane.all)
  simpa [votingLanes, isVoting, lane_mem_all, show Lane.all.length = 3 from rfl] using h

/-- The conditions of R178 for a request that takes a lane out of the vote. -/
theorem mayLeave_iff (s : State) (l : Lane) : mayLeave s l = true ↔
    (∀ k, (laneOf s.vot k).state = .voting) ∧ s.vot.duoSince = none ∧ (∀ k, k ≠ l → (laneOf s.vot k).latent = false)
      ∧ ∀ k, (laneOf s.vot k).wantOut = false ∧ (laneOf s.vot k).wantHalt = false ∧ (laneOf s.vot k).wantBoot = false := by
  have hlatent : (∀ k, k = l ∨ (laneOf s.vot k).latent = false) ↔ ∀ k, k ≠ l → (laneOf s.vot k).latent = false :=
    forall_congr' fun k => or_iff_not_imp_left
  simp [mayLeave, canLeave, votingLanes_three_iff, lane_mem_all, hlatent, and_assoc]

theorem lioFenceLive_iff (s : State) : lioFenceLive s = true ↔ ∃ n < 12, isLive s .lio n = true ∧ sevOf s.cfg .lio n = .fence := by
  simp [lioFenceLive, sourceCount]

theorem switchReady_iff (s : State) : switchReady s = true ↔ s.dpx.role = .active ∧ s.dpx.peerReady = true
    ∧ isLive s .dpx dPEER_DOWN = false ∧ isLive s .dpx dWITNESS_DOWN = false := by
  simp [switchReady, and_assoc]

/-! ## The 2oo2 clock -/

/-- Whether the limit of the 2oo2 clock had been reached, and lies ahead of the clock again (R174). -/
def LimitAhead (s : State) : Prop := s.vot.limitAt.isSome = true ∧ ∃ t, s.vot.duoSince = some t ∧ s.now < t + duoLimitUs s

theorem limitMoved_ahead {s : State} (h : LimitAhead s) : limitMoved s =
    lower { s with vot := { s.vot with limitAt := none, stopAtDrain := false } } .vot vDUO_LIMIT := by
  obtain ⟨hlimit, t, hsince, hnow⟩ := h
  simp [limitMoved, hsince, hlimit, hnow]

theorem limitMoved_else {s : State} (h : ¬ LimitAhead s) : limitMoved s = s := by
  unfold limitMoved
  split
  next t hsince => exact if_neg fun hc => h ⟨by simp_all, t, hsince, by simp_all⟩
  next => rfl

/-! ## DEBUG -/

/-- A debug level as the next drain is to enter it, with the halt of the lane that it names. -/
def wantDebug (u : State) (d : Dbg) (l : Option Lane) : State :=
  { u with sec := { u.sec with wantDbg := some (d, l) }
           vot := match l with
             | some k => setLane u.vot k fun b => { b with wantHalt := true }
             | none => u.vot }

/-- A level with the lane that goes with it: a lane at D2, and 0 otherwise. -/
theorem exec_debug_fits {s : State} {src : Src} {level lane : Nat} {d : Dbg} (hd : Dbg.ofCode? level = some d)
    (hlane : d = .d2 ↔ (Lane.ofNat? lane).isSome = true) (hzero : Lane.ofNat? lane = none → lane = 0) :
    exec (.debug src level lane) s = .next (laneRow src 0x8D (fun u => if debugAllowed u d (Lane.ofNat? lane) = true
      then (.done, wantDebug u d (Lane.ofNat? lane)) else refuse u .badState) s) := by
  have hfits : ¬ ((d = .d2) ≠ ((Lane.ofNat? lane).isSome = true) ∨ (Lane.ofNat? lane = none ∧ lane ≠ 0)) := by
    rintro (h | ⟨hnone, h⟩)
    · exact h (propext hlane)
    · exact h (hzero hnone)
  show Host.Outcome.next (rowDebug src level lane s) = _
  unfold rowDebug
  rw [hd]
  simp only [if_neg hfits]
  refine congrArg (fun f => Host.Outcome.next (laneRow src 0x8D f s)) (funext fun u => ?_)
  cases debugAllowed u d (Lane.ofNat? lane) <;> rfl

theorem dbgOfCode_code (d : Dbg) : Dbg.ofCode? d.code = some d := by cases d <;> rfl

theorem code_of_dbgOfCode {n : Nat} {d : Dbg} (h : Dbg.ofCode? n = some d) : n = d.code := by
  match n, h with
  | 0, h | 1, h | 2, h | 3, h => cases h; rfl

theorem laneOfNat_num (l : Lane) : Lane.ofNat? l.num = some l := by cases l <;> rfl

theorem laneOfNat_none_iff (n : Nat) : Lane.ofNat? n = none ↔ n = 0 ∨ 3 < n := by
  match n with
  | 0 | 1 | 2 | 3 => decide
  | n + 4 => exact iff_of_true rfl (.inr (by omega))

/-- A level above 3, or a lane that does not go with the level. -/
theorem exec_debug_misfit {s : State} {src : Src} {level lane : Nat}
    (h : 3 < level ∨ (level = 2 ∧ (lane = 0 ∨ 3 < lane)) ∨ (level ≠ 2 ∧ lane ≠ 0)) :
    exec (.debug src level lane) s = .next (laneRow src 0x8D (fun u => refuse u .badLen) s) := by
  refine congrArg (fun f => Host.Outcome.next (laneRow src 0x8D f s)) (funext fun u => ?_)
  dsimp only
  split
  next => rfl
  next d hd =>
    have hcode : level = d.code := code_of_dbgOfCode hd
    refine if_pos ?_
    obtain h | ⟨hlevel, hlane⟩ | ⟨hlevel, hlane⟩ := h
    · cases d <;> simp [hcode, Dbg.code] at h
    · have hd2 : d = .d2 := by cases d <;> simp_all [Dbg.code]
      exact .inl (by simp [hd2, (laneOfNat_none_iff lane).mpr hlane])
    · have hd2 : d ≠ .d2 := by rintro rfl; exact hlevel hcode
      cases hl : Lane.ofNat? lane with
      | none => exact .inr ⟨rfl, hlane⟩
      | some k => exact .inl (by simp [hd2])

/-! ## LIFECYCLE -/

theorem lifeOfCode_code (t : Life) : Life.ofCode? t.code = some t := by cases t <;> rfl

theorem lifeOfCode_above {n : Nat} (h : 4 < n) : Life.ofCode? n = none := by
  obtain ⟨k, rfl⟩ := Nat.exists_eq_add_of_le' h
  rfl

/-- A target above 4. -/
theorem exec_lifecycle_above {s : State} {src : Src} {target serial : Nat} (h : 4 < target) :
    exec (.lifecycle src target serial) s = .next (laneRow src 0x8E (fun u => refuse u .badLen) s) := by
  show Host.Outcome.next (rowLifecycle src target serial s) = _
  rw [rowLifecycle, lifeOfCode_above h]

/-- A request of a transition, with the serial number that it carries. -/
theorem exec_lifecycle {s : State} {src : Src} {serial : Nat} (t : Life) :
    exec (.lifecycle src t.code serial) s = .next (laneRow src 0x8E (fun u => if serial ≠ u.sys.serial then refuse u .refused
      else if lifeAllowed u t = true then (.done, { u with sec := { u.sec with wantLife := some t } }) else refuse u .badState) s) := by
  show Host.Outcome.next (rowLifecycle src t.code serial s) = _
  rw [rowLifecycle, lifeOfCode_code]

/-! ## The commands -/

theorem laneOut_decides {s : State} {src : Src} (hgate : gateOf s src 0x88 = .pass) (l : Lane) :
    let u := hearFrom s src.entry
    let ok := framesRun s = true ∧ (∀ k, (laneOf s.vot k).state = .voting) ∧ s.vot.duoSince = none
      ∧ (∀ k, k ≠ l → (laneOf s.vot k).latent = false)
      ∧ ∀ k, (laneOf s.vot k).wantOut = false ∧ (laneOf s.vot k).wantHalt = false ∧ (laneOf s.vot k).wantBoot = false
    (ok → LaneAnswer (.laneOut src l) s { u with vot := setLane s.vot l fun b => { b with wantOut := true } } src 0x88 .done)
      ∧ (¬ ok → LaneAnswer (.laneOut src l) s u src 0x88 .badState) :=
  row_decides rfl hgate rfl (by decide) ((Bool.and_eq_true_iff).trans (and_congr_right fun _ => mayLeave_iff s l))

theorem laneIn_decides {s : State} {src : Src} (hgate : gateOf s src 0x89 = .pass) (l : Lane) :
    let u := hearFrom s src.entry
    let ok := framesRun s = true ∧ (laneOf s.vot l).state = .fenced ∧ (laneOf s.vot l).why = .command
    (ok → LaneAnswer (.laneIn src l) s { u with vot := setLane s.vot l fun b => { b with wantIn := true } } src 0x89 .done)
      ∧ (¬ ok → LaneAnswer (.laneIn src l) s u src 0x89 .badState) := by
  have hok : (framesRun s && (laneOf s.vot l).state = .fenced && (laneOf s.vot l).why = .command) = true
      ↔ framesRun s = true ∧ (laneOf s.vot l).state = .fenced ∧ (laneOf s.vot l).why = .command := by simp [and_assoc]
  exact row_decides rfl hgate rfl (by decide) hok

/-- A module in which an extension of the 2oo2 clock stands (R174). -/
def extended (u : State) (hours : Nat) : State := { u with vot := { u.vot with extUsed := true, extH := hours } }

theorem duoExtend_decides {s : State} {src : Src} (hgate : gateOf s src 0x8A = .pass) {hours : Nat} (hmin : 1 ≤ hours)
    (hmax : hours ≤ 72) : let u := hearFrom s src.entry
    let ok := s.sec.life = .maint ∧ s.vot.duoSince.isSome = true ∧ s.vot.extUsed = false
    (ok → LaneAnswer (.duoExtend src hours) s (limitMoved (extended u hours)) src 0x8A .done)
      ∧ (¬ ok → LaneAnswer (.duoExtend src hours) s u src 0x8A .badState) := by
  have hok : (s.sec.life = .maint && s.vot.duoSince.isSome && !s.vot.extUsed) = true
      ↔ s.sec.life = .maint ∧ s.vot.duoSince.isSome = true ∧ s.vot.extUsed = false := by simp [and_assoc]
  exact row_decides rfl hgate (if_neg (by omega)) (by decide) hok

/-- An extension takes back a limit that it puts beyond the clock, and no other. -/
theorem limitMoved_extended (u : State) (hours : Nat) : let w := limitMoved (extended u hours)
    (LimitAhead (extended u hours) → isLive w .vot vDUO_LIMIT = false ∧ w = { u with
        vot := { u.vot with extUsed := true, extH := hours, limitAt := none, stopAtDrain := false }, faults := w.faults })
      ∧ (¬ LimitAhead (extended u hours) → w = extended u hours) := by
  refine ⟨fun h => ?_, limitMoved_else⟩
  rw [limitMoved_ahead h]
  exact ⟨lower_isLive _ .vot vDUO_LIMIT (by decide), lower_else _ _ _⟩

theorem lioRestart_decides {s : State} {src : Src} (hgate : gateOf s src 0x8B = .pass) :
    let u := hearFrom s src.entry
    let ok := s.lio.field.x2Ok = true ∧ ∀ n < 12, isLive s .lio n = true → sevOf s.cfg .lio n ≠ .fence
    (ok → LaneAnswer (.lioRestart src) s { u with lio := { s.lio with
          vital := { s.lio.vital with restart := true, fence := false } } } src 0x8B .done)
      ∧ (¬ ok → LaneAnswer (.lioRestart src) s u src 0x8B .badState) := by
  have hrefused : (lioFenceLive s || !s.lio.field.x2Ok) = true
      ↔ ¬ (s.lio.field.x2Ok = true ∧ ∀ n < 12, isLive s .lio n = true → sevOf s.cfg .lio n ≠ .fence) := by
    rw [Bool.or_eq_true, lioFenceLive_iff]
    cases s.lio.field.x2Ok <;> simp
  exact ⟨fun h => laneAnswer_of_row rfl hgate (if_neg fun hc => hrefused.mp hc h) (by decide),
    fun h => laneAnswer_of_row rfl hgate (if_pos (hrefused.mpr h)) (by decide)⟩

theorem debug_decides {s : State} {src : Src} (hgate : gateOf s src 0x8D = .pass) {level lane : Nat} {d : Dbg}
    (hd : Dbg.ofCode? level = some d) (hlane : d = .d2 ↔ (Lane.ofNat? lane).isSome = true)
    (hzero : Lane.ofNat? lane = none → lane = 0) : let u := hearFrom s src.entry
    (debugAllowed s d (Lane.ofNat? lane) = true →
        LaneAnswer (.debug src level lane) s (wantDebug u d (Lane.ofNat? lane)) src 0x8D .done)
      ∧ (debugAllowed s d (Lane.ofNat? lane) = false → LaneAnswer (.debug src level lane) s u src 0x8D .badState) := by
  obtain ⟨hyes, hno⟩ := row_decides (exec_debug_fits hd hlane hzero) hgate rfl (by decide) Iff.rfl
  exact ⟨hyes, fun h => hno (ne_true_of_eq_false h)⟩

theorem debug_level {s : State} {src : Src} (hgate : gateOf s src 0x8D = .pass) {d : Dbg} (hd : d ≠ .d2) :
    let u := hearFrom s src.entry
    (debugAllowed s d none = true →
        LaneAnswer (.debug src d.code 0) s { u with sec := { u.sec with wantDbg := some (d, none) } } src 0x8D .done)
      ∧ (debugAllowed s d none = false → LaneAnswer (.debug src d.code 0) s u src 0x8D .badState) :=
  debug_decides (lane := 0) hgate (dbgOfCode_code d) (iff_of_false hd (by decide)) fun _ => rfl

theorem debug_halt {s : State} {src : Src} (hgate : gateOf s src 0x8D = .pass) (l : Lane) :
    let u := hearFrom s src.entry
    (debugAllowed s .d2 (some l) = true → LaneAnswer (.debug src 2 l.num) s
        { u with sec := { u.sec with wantDbg := some (.d2, some l) }
                 vot := setLane s.vot l fun b => { b with wantHalt := true } } src 0x8D .done)
      ∧ (debugAllowed s .d2 (some l) = false → LaneAnswer (.debug src 2 l.num) s u src 0x8D .badState) := by
  have h := debug_decides (lane := l.num) hgate (dbgOfCode_code .d2) (by simp [laneOfNat_num]) (by simp [laneOfNat_num])
  rw [laneOfNat_num] at h
  exact h

theorem lifecycle_decides {s : State} {src : Src} (hgate : gateOf s src 0x8E = .pass) (t : Life) :
    let u := hearFrom s src.entry
    (∀ serial, serial ≠ s.sys.serial → LaneAnswer (.lifecycle src t.code serial) s u src 0x8E .refused)
      ∧ (lifeAllowed s t = true → LaneAnswer (.lifecycle src t.code s.sys.serial) s
          { u with sec := { u.sec with wantLife := some t } } src 0x8E .done)
      ∧ (lifeAllowed s t = false → LaneAnswer (.lifecycle src t.code s.sys.serial) s u src 0x8E .badState) := by
  obtain ⟨hyes, hno⟩ := row_decides (exec_lifecycle (s := s) (serial := s.sys.serial) t) hgate (if_neg (not_not.mpr rfl))
    (by decide) Iff.rfl
  exact ⟨fun serial hserial => laneAnswer_of_row (exec_lifecycle t) hgate (if_pos hserial) (by decide), hyes,
    fun h => hno (ne_true_of_eq_false h)⟩

/-- Settles O40, command by command: each row has its effect exactly where its condition holds, a parameter outside its range is the
service processor's to answer, and the answer changes nothing else. -/
theorem laneAndLifecycleCommandsKeepTheirConditions : Obligations.LaneAndLifecycleCommandsKeepTheirConditions := by
  unfold Obligations.LaneAndLifecycleCommandsKeepTheirConditions
  intro s src u
  refine ⟨laneOut_decides, laneIn_decides, fun hgate hours => ⟨fun hout => ?_, fun hmin hmax => ?_⟩, lioRestart_decides,
    fun hgate => row_decides rfl hgate rfl (by decide) (switchReady_iff s),
    fun hgate => ⟨fun level lane hout => svcReply_of_row (exec_debug_misfit hout) hgate rfl, fun d => debug_level hgate,
      debug_halt hgate⟩,
    fun hgate => ⟨fun target serial hout => svcReply_of_row (exec_lifecycle_above hout) hgate rfl, lifecycle_decides hgate⟩⟩
  · exact svcReply_of_row rfl hgate (if_pos (by omega))
  · obtain ⟨hyes, hno⟩ := duoExtend_decides hgate hmin hmax
    exact ⟨fun hok => ⟨_, hyes hok, limitMoved_extended u hours⟩, hno⟩

end Sys2Proof.Proofs.LaneCommands

/-! PROOFS. The start-up with a settings area that lowers the severity of INJ_FAIL (R182, R329, R385, R421): step 8 of the model takes
the word of VOT_FSEV from the settings as it stands, RO fields with it, so that a failed injection test does not stop the module. -/

namespace Sys2Proof.Proofs.FailedInjection

open Sys2Proof Sys2Proof.Machine Sys2Proof.Safety

/-! ## The module and its start -/

/-- A word of VOT_FSEV that differs from the reset value only in [17:16], the RO field of INJ_FAIL, which shows RECORD for the fixed
SAFE-STOP (R184, R329). -/
def loweredVotFsev : Word := 0x609775

/-- The settings area with that word, in the format that the service firmware reads. -/
def loweredSettings : Settings := { fmt := 0, cfg := { votFsev := loweredVotFsev }, partners := [] }

/-- A bank from which a part can run. -/
def confirmedBank (c : Content) : BankPair := { a := { state := .confirmed, content := c } }

/-- The blob of a lane's key in the slot selected. -/
def laneBlob (l : Lane) : Blob := { ktype := 1, index := l.num, slot := 0, ctr := 0, gen := 0, key := 0 }

/-- A module in OFF with confirmed images, the keys of its three lanes, and those settings. -/
def offModule : State :=
  { pwr := { power := .off }
    upd := { lfw1 := confirmedBank .opaqueImage, lfw2 := confirmedBank .opaqueImage, lfw3 := confirmedBank .opaqueImage
             svc := confirmedBank .opaqueImage, prt := confirmedBank .opaqueImage, mzp := confirmedBank (.mzp emptyStation)
             copyA := some loweredSettings }
    sec := { blobs := Lane.all.map laneBlob } }

/-- A start in which the vote unit of Lane 1 errs in the first injection case. -/
def erringStart : StartEnv := { injBad := [(0, .l1)] }

/-! ## What becomes of it -/

/-- A command has its effect, and the state that it leads to passes a test. -/
def leadsTo (c : Instr) (s : State) (test : State → Bool) : Bool :=
  match exec c s with
  | .next t => test t
  | _ => false

theorem of_leadsTo {c : Instr} {s t : State} {test : State → Bool} (h : leadsTo c s test = true) (hexec : exec c s = .next t) :
    test t = true := by
  rwa [leadsTo, hexec] at h

/-- The COMMIT of step 8 puts the settings into effect, the injection test fails, and the module enters its role all the same. -/
theorem powerOn_runs_on : leadsTo (.powerOn erringStart 0) offModule (fun t =>
    t.xbr.cresult == 0 && sevOf t.cfg .vot vINJ_FAIL = .record && t.vot.inj == 3 && t.sys.ready && !t.sys.stopped) = true := by
  decide +kernel

/-- Refutes O28: the settings area may hold any word of VOT_FSEV, and the COMMIT of step 8 checks no fixed field. With INJ_FAIL at
RECORD there, a vote unit that errs in case 0 leaves VOT_INJ at 3 in a module that is not stopped and has entered its role. -/
theorem not_powerOnAndS1StartTheModule : ¬ Obligations.PowerOnAndS1StartTheModule := by
  unfold Obligations.PowerOnAndS1StartTheModule
  intro h
  obtain ⟨hpower, -⟩ := h offModule erringStart 0
  obtain ⟨t, hexec, -, ⟨-, -, -, -, hfailed, -⟩, -⟩ := hpower (.inr (.inl rfl))
  have hend := of_leadsTo powerOn_runs_on hexec
  simp only [Bool.and_eq_true, beq_iff_eq, Bool.not_eq_true'] at hend
  obtain ⟨⟨⟨-, hinj⟩, -⟩, hruns⟩ := hend
  exact absurd (hfailed hinj).1 (ne_true_of_eq_false hruns)

end Sys2Proof.Proofs.FailedInjection

/-! PROOFS. The sources of the proof test (R204, R326, R333, R337): what their evaluation changes of the lane that they name, and
what it leaves. -/

namespace Sys2Proof.Proofs.TestSources

open Sys2Proof Sys2Proof.Machine Sys2Proof.Safety Sys2Proof.Proofs.Frames Sys2Proof.Proofs.LanesAndInstances
open Sys2Proof.Proofs.BarrierUp

/-! ## What no raising changes -/

theorem bst_of_raiseFrame {s t : State} (h : RaiseFrame s t) : t.bst = s.bst := by rw [h]

theorem sec_of_raiseFrame {s t : State} (h : RaiseFrame s t) : t.sec = s.sec := by rw [h]

/-! ## Sources of the block that name a lane -/

/-- A change that a raising may make, and of the lanes at most a fence of the one that it names. -/
structure Raised (l : Lane) (s t : State) : Prop where
  frame : RaiseFrame s t
  lane : laneOf t.vot l = laneOf s.vot l ∨ laneOf t.vot l = fencedLane s.now (laneOf s.vot l)
  others : ∀ k, k ≠ l → laneOf t.vot k = laneOf s.vot k

theorem Raised.of_vot {l : Lane} {s t : State} (hframe : RaiseFrame s t) (hvot : t.vot = s.vot) : Raised l s t :=
  ⟨hframe, .inl (by rw [hvot]), fun k _ => by rw [hvot]⟩

theorem Raised.trans {l : Lane} {s t u : State} (h : Raised l s t) (g : Raised l t u) : Raised l s u := by
  refine ⟨h.frame.trans g.frame, ?_, fun k hk => (g.others k hk).trans (h.others k hk)⟩
  have hlane := g.lane
  rw [now_of_raiseFrame h.frame] at hlane
  obtain ht | ht := h.lane
  · rwa [ht] at hlane
  · rw [ht, fencedLane_twice] at hlane
    exact .inr (hlane.elim id id)

/-- The reaction to a source of the proof test that names a lane (R333, R337). -/
theorem react_raised (s : State) (n : Nat) (sev : Sev) (l : Lane) : Raised l s (react s .bst n sev (some l)) := by
  have hfence : Raised l s (laneFence s l) :=
    ⟨laneFence_frame s l, .inr (laneFence_same s l), fun k hk => laneFence_other s hk⟩
  cases sev
  case record => exact .of_vot rfl rfl
  case warn => exact .of_vot rfl rfl
  case fence => exact hfence
  case safeStop => exact hfence.trans (.of_vot (safeStop_frame _) (safeStop_vot _))

theorem raiseAt_raised (s : State) (n : Nat) (l : Lane) : Raised l s (raiseAt s .bst n (some l)) := by
  obtain h | ⟨u, hu, h⟩ := raiseAt_cases s .bst n (some l)
  · rw [h]
    exact .of_vot rfl rfl
  · have hreact := react_raised u n (sevOf s.cfg .bst n) l
    refine ⟨raiseAt_frame _ _ _ _, ?_, ?_⟩
    · rw [h, ← vot_of_note hu, ← now_of_note hu]
      exact hreact.lane
    · rw [h, ← vot_of_note hu]
      exact hreact.others

theorem setLiveAt_raised (s : State) (n : Nat) (l : Lane) (on : Bool) : Raised l s (setLiveAt s .bst n (some l) on) := by
  cases on
  · exact .of_vot (lower_frame s _ _) rfl
  · exact raiseAt_raised s n l

theorem testSources_raised (s : State) (l : Lane) : Raised l s (testSources s l) :=
  (setLiveAt_raised s _ l _).trans ((setLiveAt_raised _ _ l _).trans ((setLiveAt_raised _ _ l _).trans (setLiveAt_raised _ _ l _)))

/-- A source of the proof test that names no lane fences none (R337). -/
theorem raise_bst_vot (s : State) (n : Nat) : (raise s .bst n).vot = s.vot := by
  obtain h | ⟨u, hu, h⟩ := raise_cases s .bst n
  · rw [h]
  · rw [h, ← vot_of_note hu]
    cases sevOf s.cfg .bst n
    case safeStop => exact safeStop_vot u
    all_goals rfl

theorem setLive_bst_vot (s : State) (n : Nat) (on : Bool) : (setLive s .bst n on).vot = s.vot := by
  cases on
  · rfl
  · exact raise_bst_vot s n

/-! ## Which sources are live -/

/-- Which sources are live after one has been evaluated does not depend on the lane that it names. -/
theorem setLiveAt_isLive_eq (s : State) (b : Blk) (n : Nat) (lane : Option Lane) (on : Bool) (c : Blk) (k : Nat) :
    isLive (setLiveAt s b n lane on) c k = isLive (setLive s b n on) c k := by
  cases on
  · rfl
  · show isLive (raiseAt s b n lane) c k = isLive (raiseAt s b n none) c k
    cases h : isLive s b n
    · rw [isLive, isLive, (raiseAt_bits s b n lane h c).1, (raiseAt_bits s b n none h c).1]
    · rw [raiseAt_live s b n lane h, raiseAt_live s b n none h]

theorem setLiveAt_isLive (s : State) (b : Blk) {n : Nat} (lane : Option Lane) (on : Bool) (hn : n < 16) :
    isLive (setLiveAt s b n lane on) b n = on := by rw [setLiveAt_isLive_eq, setLive_isLive s b n on hn]

theorem setLiveAt_isLive_other (s : State) (b : Blk) {n k : Nat} (lane : Option Lane) (on : Bool) (hk : k < 16) (h : k ≠ n) :
    isLive (setLiveAt s b n lane on) b k = isLive s b k := by rw [setLiveAt_isLive_eq, setLive_isLive_other s b on hk h]

/-- The four sources of a lane's last test are live exactly while one of the lanes' tests says so (R204). -/
theorem testSources_isLive (s : State) (l : Lane) : let u := testSources s l
    let ts := [s.bst.t1, s.bst.t2, s.bst.t3]
    isLive u .bst bPT_FAIL = ts.any (·.failed) ∧ isLive u .bst bRESTORE_FAIL = ts.any (·.restoreFail)
      ∧ isLive u .bst bKEYZ_FAIL = ts.any (·.keyzFail) ∧ isLive u .bst bPT_HOLD = ts.any (·.hold) := by
  unfold testSources
  dsimp only
  refine ⟨?_, ?_, ?_, setLiveAt_isLive _ _ _ _ (by decide)⟩
  · rw [setLiveAt_isLive_other _ _ _ _ (by decide) (by decide), setLiveAt_isLive_other _ _ _ _ (by decide) (by decide),
      setLiveAt_isLive_other _ _ _ _ (by decide) (by decide), setLiveAt_isLive _ _ _ _ (by decide)]
  · rw [setLiveAt_isLive_other _ _ _ _ (by decide) (by decide), setLiveAt_isLive_other _ _ _ _ (by decide) (by decide),
      setLiveAt_isLive _ _ _ _ (by decide)]
  · rw [setLiveAt_isLive_other _ _ _ _ (by decide) (by decide), setLiveAt_isLive _ _ _ _ (by decide)]

theorem any_test {b : BstBlk} {p : LaneTest → Bool} (l : Lane) (h : p (testOf b l) = true) : [b.t1, b.t2, b.t3].any p = true := by
  refine List.any_eq_true.mpr ⟨testOf b l, ?_, h⟩
  cases l <;> simp [testOf]

end Sys2Proof.Proofs.TestSources

/-! PROOFS. The start of a proof test (R185, R186, R188, R189, R199): what a test may change, and which one an idle module starts. -/

namespace Sys2Proof.Proofs.TestStart

open Sys2Proof Sys2Proof.Machine Sys2Proof.Safety Sys2Proof.Proofs.Grant
open Sys2Proof.Proofs.LanesAndInstances Sys2Proof.Proofs.BarrierUp Sys2Proof.Proofs.TestSources

/-! ## What a lane's test may change -/

/-- What a lane's test may change and nothing else: the proof test block but for the other lanes' tests, the keys, that lane,
and what raisings do. -/
structure TestFrame (l : Lane) (s t : State) : Prop where
  frame : RaiseFrame { s with bst := t.bst, sec := { s.sec with
    plain := t.sec.plain, blobs := t.sec.blobs, counters := t.sec.counters } } t
  lanes : ∀ k, k ≠ l → laneOf t.vot k = laneOf s.vot k
  tests : ∀ k, k ≠ l → testOf t.bst k = testOf s.bst k

theorem TestFrame.trans {l : Lane} {s t u : State} (h : TestFrame l s t) (g : TestFrame l t u) : TestFrame l s u := by
  refine ⟨?_, fun k hk => (g.lanes k hk).trans (h.lanes k hk), fun k hk => (g.tests k hk).trans (h.tests k hk)⟩
  have hframe := h.frame
  have gframe := g.frame
  unfold RaiseFrame at *
  rw [gframe, hframe]

theorem TestFrame.of_raise {l : Lane} {s t : State} (hframe : RaiseFrame s t) (hlanes : ∀ k, k ≠ l → laneOf t.vot k = laneOf s.vot k) :
    TestFrame l s t := by
  refine ⟨?_, hlanes, fun k _ => by rw [bst_of_raiseFrame hframe]⟩
  unfold RaiseFrame at *
  rw [hframe]

theorem TestFrame.of_raised {l : Lane} {s t : State} (h : Raised l s t) : TestFrame l s t := .of_raise h.frame h.others

theorem testFrame_setLane (s : State) (l : Lane) (f : LaneBlk → LaneBlk) : TestFrame l s { s with vot := setLane s.vot l f } :=
  ⟨rfl, fun _ hk => setLane_other _ _ _ _ hk, fun _ _ => rfl⟩

theorem testFrame_bst {l : Lane} {s : State} {b : BstBlk} (h : ∀ k, k ≠ l → testOf b k = testOf s.bst k) :
    TestFrame l s { s with bst := b } := ⟨rfl, fun _ _ => rfl, h⟩

theorem testFrame_laneTo (s : State) (l : Lane) (st : LaneSt) : TestFrame l s (laneTo s l st) :=
  .of_raise (laneTo_frame s l st) fun _ hk => laneTo_other s st hk

theorem TestFrame.now {l : Lane} {s t : State} (h : TestFrame l s t) : t.now = s.now := by rw [h.frame]

theorem TestFrame.idleRole {l : Lane} {s t : State} (h : TestFrame l s t) : idleRole t = idleRole s := by
  rw [Machine.idleRole, Machine.idleRole, h.frame]

theorem TestFrame.cfg {l : Lane} {s t : State} (h : TestFrame l s t) : t.cfg = s.cfg := by rw [h.frame]

/-- A test that leaves the keys as they are. -/
theorem TestFrame.keyless {l : Lane} {s t : State} (h : TestFrame l s t) (hsec : t.sec = s.sec) :
    RaiseFrame { s with bst := t.bst } t := by
  have hframe := h.frame
  rwa [hsec] at hframe

/-! ## The proof test block -/

@[simp] theorem setTest_under (b : BstBlk) (l : Lane) (f : LaneTest → LaneTest) : (setTest b l f).under = b.under := by
  cases l <;> rfl
@[simp] theorem setTest_journal (b : BstBlk) (l : Lane) (f : LaneTest → LaneTest) : (setTest b l f).journal = b.journal := by
  cases l <;> rfl
@[simp] theorem setTest_fail (b : BstBlk) (l : Lane) (f : LaneTest → LaneTest) : (setTest b l f).fail = b.fail := by
  cases l <;> rfl
@[simp] theorem setTest_sigF (b : BstBlk) (l : Lane) (f : LaneTest → LaneTest) : (setTest b l f).sigF = b.sigF := by
  cases l <;> rfl

/-- A lane's test is no part of what the block shows of the test in progress and of its journal. -/
@[simp] theorem testOf_progress (b : BstBlk) (u : Option Lane) (a : Nat) (g : Bool) (j : List LastTest) (l : Lane) :
    testOf { b with under := u, startedAt := a, again := g, journal := j } l = testOf b l := by
  cases l <;> rfl

/-! ## A test starts -/

/-- The module in which a lane's test has started, before PT_LATE follows. -/
def begun (s : State) (l : Lane) (again : Bool) (at_ : Nat) : State :=
  { s with
    vot := setLane s.vot l fun b => { b with upsets := [], shadowOff := [] }
    bst := { setTest s.bst l (fun t => { t with due := none, isDue := false, late := false }) with
      under := some l, startedAt := at_, again := again
      journal := s.bst.journal.set (l.num - 1) { result := 3, again := again } } }

/-- Whether a test is late beside that of a lane whose test starts. -/
def otherLate (b : BstBlk) (l : Lane) : Bool :=
  let c := setTest b l fun t => { t with due := none, isDue := false, late := false }
  [c.t1, c.t2, c.t3].any (·.late)

theorem startTest_eq (s : State) (l : Lane) (again : Bool) (at_ : Nat) :
    startTest s l again at_ = setLive (begun s l again at_) .bst bPT_LATE (otherLate s.bst l) := by
  cases l <;> rfl

theorem startTest_bst (s : State) (l : Lane) (again : Bool) (at_ : Nat) :
    (startTest s l again at_).bst = (begun s l again at_).bst := by
  rw [startTest_eq]
  exact bst_of_raiseFrame (setLive_frame _ _ _ _)

theorem startTest_vot (s : State) (l : Lane) (again : Bool) (at_ : Nat) :
    (startTest s l again at_).vot = setLane s.vot l fun b => { b with upsets := [], shadowOff := [] } := by
  rw [startTest_eq]
  exact setLive_bst_vot _ _ _

theorem startTest_sec (s : State) (l : Lane) (again : Bool) (at_ : Nat) : (startTest s l again at_).sec = s.sec := by
  rw [startTest_eq]
  exact sec_of_raiseFrame (s := begun s l again at_) (setLive_frame _ _ _ _)

theorem startTest_lane (s : State) (l : Lane) (again : Bool) (at_ : Nat) :
    laneOf (startTest s l again at_).vot l = { laneOf s.vot l with upsets := [], shadowOff := [] } := by
  rw [startTest_vot, setLane_same]

theorem startTest_test (s : State) (l : Lane) (again : Bool) (at_ : Nat) :
    testOf (startTest s l again at_).bst l = { testOf s.bst l with due := none, isDue := false, late := false } := by
  rw [startTest_bst, begun, testOf_progress, setTest_same]

theorem begun_frame (s : State) (l : Lane) (again : Bool) (at_ : Nat) : TestFrame l s (begun s l again at_) :=
  ⟨rfl, fun _ hk => setLane_other _ _ _ _ hk, fun k hk => (testOf_progress _ _ _ _ _ k).trans (setTest_other _ _ _ _ hk)⟩

theorem startTest_frame (s : State) (l : Lane) (again : Bool) (at_ : Nat) : TestFrame l s (startTest s l again at_) := by
  rw [startTest_eq]
  exact (begun_frame s l again at_).trans (.of_raise (setLive_frame _ _ _ _) fun k _ => by rw [setLive_bst_vot])

theorem startTest_isLive (s : State) (l : Lane) (again : Bool) (at_ : Nat) {n : Nat} (hn : n < 16) (h : n ≠ bPT_LATE) :
    isLive (startTest s l again at_) .bst n = isLive s .bst n := by
  rw [startTest_eq, setLive_isLive_other _ _ _ hn h]
  rfl

/-! ## Sorting -/

theorem length_insertBy {α : Type} (key : α → Nat) (x : α) (xs : List α) : (insertBy key x xs).length = xs.length + 1 := by
  induction xs with
  | nil => rfl
  | cons y ys ih =>
    rw [insertBy]
    split
    · rfl
    · simp [ih]

theorem length_sortBy {α : Type} (key : α → Nat) (xs : List α) : (sortBy key xs).length = xs.length := by
  suffices h : ∀ acc : List α, (xs.foldl (fun acc x => insertBy key x acc) acc).length = acc.length + xs.length by
    simpa [sortBy] using h []
  induction xs with
  | nil => exact fun acc => rfl
  | cons x xs ih =>
    intro acc
    rw [List.foldl_cons, ih, length_insertBy, List.length_cons]
    omega

theorem head_sortBy_none_iff {α : Type} (key : α → Nat) (xs : List α) : (sortBy key xs).head? = none ↔ xs = [] := by
  rw [List.head?_eq_none_iff, ← List.length_eq_zero_iff, length_sortBy, List.length_eq_zero_iff]

/-! ## Which test an idle module starts (R186, R187, R199) -/

/-- The lanes that a test may start on. -/
def testable (s : State) : List Lane := Lane.all.filter fun l => !(testOf s.bst l).hold && !(laneOf s.vot l).booting

/-- Those of them whose test is due. -/
def dueLanes (s : State) : List Lane := (testable s).filter fun l => dueNow s (testOf s.bst l)

/-- The one that comes first: a lane with a latent mark, else the one that fell due first. -/
def firstDue (s : State) : Option Lane :=
  ((dueLanes s).find? fun l => (laneOf s.vot l).latent).or (sortBy (fun l => ((testOf s.bst l).due).getD 0) (dueLanes s)).head?

/-- A lane that the retry limit holds and that a test may start on. -/
def limitedLane (s : State) : Option Lane := (testable s).find? fun l => (laneOf s.vot l).limited

/-- A module that can start a test of its own: in an idle role, after its start, with no lane under test. -/
def Idles (s : State) : Prop := idleRole s = true ∧ s.sys.ready = true ∧ s.bst.under = none

theorem busy_iff (s : State) : (!(idleRole s && s.sys.ready && s.bst.under.isNone)) = true ↔ ¬ Idles s := by
  simp only [Idles, Bool.not_eq_true', ← Bool.not_eq_true, Bool.and_eq_true, Option.isNone_iff_eq_none, and_assoc]

theorem idleTest_busy {s : State} (h : ¬ Idles s) : idleTest s = s := if_pos ((busy_iff s).mpr h)

theorem idleTest_idles {s : State} (h : Idles s) : idleTest s = match limitedLane s, firstDue s with
    | some l, _ => startTest s l true s.now
    | none, some l => startTest (laneTo s l .proving) l false s.now
    | none, none => s := by
  rw [idleTest, if_neg (mt (busy_iff s).mp (not_not_intro h))]
  rfl

theorem idleTest_limited {s : State} {l : Lane} (h : Idles s) (hlimited : limitedLane s = some l) :
    idleTest s = startTest s l true s.now := by
  rw [idleTest_idles h, hlimited]

theorem idleTest_first {s : State} {l : Lane} (h : Idles s) (hlimited : limitedLane s = none) (hfirst : firstDue s = some l) :
    idleTest s = startTest (laneTo s l .proving) l false s.now := by
  rw [idleTest_idles h, hlimited, hfirst]

theorem idleTest_none {s : State} (hlimited : limitedLane s = none) (hfirst : firstDue s = none) : idleTest s = s := by
  by_cases h : Idles s
  · rw [idleTest_idles h, hlimited, hfirst]
  · exact idleTest_busy h

theorem mem_testable (s : State) (l : Lane) :
    l ∈ testable s ↔ (testOf s.bst l).hold = false ∧ (laneOf s.vot l).booting = false := by
  simp [testable, lane_mem_all]

theorem mem_dueLanes (s : State) (l : Lane) : l ∈ dueLanes s ↔ l ∈ testable s ∧ dueNow s (testOf s.bst l) = true := by
  simp [dueLanes]

theorem limitedLane_none {s : State} (h : ∀ l ∈ testable s, (laneOf s.vot l).limited = false) : limitedLane s = none :=
  List.find?_eq_none.mpr fun l hl => by simp [h l hl]

theorem firstDue_none_iff (s : State) : firstDue s = none ↔ dueLanes s = [] := by
  rw [firstDue, Option.or_eq_none_iff, head_sortBy_none_iff]
  exact ⟨And.right, fun h => ⟨by rw [h]; rfl, h⟩⟩

theorem firstDue_mem {s : State} {l : Lane} (h : dueLanes s = [l]) : firstDue s = some l := by
  rw [firstDue, h]
  cases hlatent : (laneOf s.vot l).latent <;> simp [hlatent, sortBy, insertBy]

/-- In a module that can start one, some test starts where one is due. -/
theorem idleTest_under {s : State} {l : Lane} (h : Idles s) (hl : l ∈ dueLanes s) : (idleTest s).bst.under ≠ none := by
  have hunder : ∀ (u : State) (k : Lane) (again : Bool), (startTest u k again s.now).bst.under ≠ none := fun u k again => by
    rw [startTest_bst]
    exact Option.some_ne_none k
  cases hlimited : limitedLane s with
  | some k =>
    rw [idleTest_limited h hlimited]
    exact hunder _ _ _
  | none =>
    obtain ⟨k, hk⟩ : ∃ k, firstDue s = some k :=
      Option.ne_none_iff_exists'.mp fun hnone => by simp [(firstDue_none_iff s).mp hnone] at hl
    rw [idleTest_first h hlimited hk]
    exact hunder _ _ _

/-! ## A lane that no test starts on -/

/-- A lane whose test is not due, and that the retry limit does not hold. -/
def NotDue (s : State) (k : Lane) : Prop :=
  (laneOf s.vot k).limited = false ∧ (testOf s.bst k).isDue = false ∧ ∀ a, (testOf s.bst k).due = some a → s.now < a

theorem NotDue.dueNow {s : State} {k : Lane} (h : NotDue s k) : dueNow s (testOf s.bst k) = false := by
  obtain ⟨-, hmark, hdue⟩ := h
  unfold Machine.dueNow
  rw [hmark, Bool.false_or]
  split
  next a ha => exact decide_eq_false (Nat.not_le.mpr (hdue a ha))
  next => rfl

theorem NotDue.kept {l k : Lane} {s t : State} (h : NotDue s k) (g : TestFrame l s t) (hk : k ≠ l) : NotDue t k := by
  unfold NotDue
  rwa [g.lanes k hk, g.tests k hk, g.now]

/-- No test starts where each lane is either held or not due. -/
theorem idleTest_stays {s : State} (h : ∀ k, (testOf s.bst k).hold = true ∨ NotDue s k) : idleTest s = s := by
  have hfree : ∀ k ∈ testable s, NotDue s k := fun k hk =>
    (h k).resolve_left (by simp [((mem_testable s k).mp hk).1])
  refine idleTest_none (limitedLane_none fun k hk => (hfree k hk).1) ((firstDue_none_iff s).mpr ?_)
  refine List.eq_nil_iff_forall_not_mem.mpr fun k hk => ?_
  obtain ⟨htestable, hdue⟩ := (mem_dueLanes s k).mp hk
  simp [(hfree k htestable).dueNow] at hdue

/-- The only lane whose test is due is the one that starts. -/
theorem idleTest_only {s : State} {l : Lane} (h : Idles s) (htestable : l ∈ testable s) (hdue : (testOf s.bst l).isDue = true)
    (hlimited : (laneOf s.vot l).limited = false) (hothers : ∀ k, k ≠ l → NotDue s k) :
    idleTest s = startTest (laneTo s l .proving) l false s.now := by
  refine idleTest_first h (limitedLane_none fun k _ => ?_) (firstDue_mem ?_)
  · by_cases hk : k = l
    · rwa [hk]
    · exact (hothers k hk).1
  · have hmem : ∀ k, k ∈ dueLanes s ↔ k = l := fun k => by
      rw [mem_dueLanes]
      refine ⟨fun hk => ?_, fun hk => ?_⟩
      · by_contra hne
        simp [(hothers k hne).dueNow] at hk
      · subst hk
        exact ⟨htestable, by simp [dueNow, hdue]⟩
    have hsub : dueLanes s = Lane.all.filter (· = l) := by
      rw [dueLanes, testable, List.filter_filter]
      refine List.filter_congr fun k _ => ?_
      have hk := hmem k
      simp only [dueLanes, testable, List.mem_filter, lane_mem_all, true_and] at hk
      rw [Bool.eq_iff_iff, decide_eq_true_iff, ← hk, Bool.and_eq_true, and_comm]
    rw [hsub]
    cases l <;> rfl

end Sys2Proof.Proofs.TestStart

/-! PROOFS. PROOF_TEST_DUE and PT_LATE (R185, R186, R188, R199). -/

namespace Sys2Proof.Proofs.TestDue

open Sys2Proof Sys2Proof.Machine Sys2Proof.Proofs.Grant
open Sys2Proof.Proofs.TestSources Sys2Proof.Proofs.TestStart

/-- A module that has noted that a lane's test is due. -/
def markedDue (v : State) (l : Lane) : State := { v with bst := setTest v.bst l fun t => { t with isDue := true } }

section
variable {s : State} {l : Lane} {now : Nat}

theorem proofTestDue_none (h : (testOf (later s now).bst l).due = none) : exec (.proofTestDue l now) s = .next (later s now) := by
  show execProofTestDue l now s = _
  rw [execProofTestDue]
  rw [h]

theorem proofTestDue_some {k : Nat} (h : (testOf (later s now).bst l).due = some k) : exec (.proofTestDue l now) s =
    if (later s now).now < k then .next (later s now) else .next (idleTest (markedDue (later s now) l)) := by
  show execProofTestDue l now s = _
  rw [execProofTestDue]
  rw [h]
  rfl

theorem ptLate_none (h : (testOf (later s now).bst l).due = none) : exec (.ptLate l now) s = .next (later s now) := by
  show execPtLate l now s = _
  rw [execPtLate]
  rw [h]

theorem ptLate_some {k : Nat} (h : (testOf (later s now).bst l).due = some k) : let v := later s now
    exec (.ptLate l now) s = if v.now < k + 60000000 * fieldOf v.cfg.bstCtl 8 8 then .next v
      else .next (raiseAt { v with bst := setTest v.bst l fun t => { t with late := true } } .bst bPT_LATE (some l)) := by
  show execPtLate l now s = _
  rw [execPtLate]
  rw [h]

end

section
variable {v : State} {l : Lane}

theorem markedDue_test : testOf (markedDue v l).bst l = { testOf v.bst l with isDue := true } := setTest_same _ _ _

theorem markedDue_frame : TestFrame l v (markedDue v l) := testFrame_bst fun _ hk => setTest_other _ _ _ _ hk

theorem markedDue_idles_iff : Idles (markedDue v l) ↔ Idles v := by
  simp only [Idles, markedDue, setTest_under]
  rfl

theorem markedDue_testable (hhold : (testOf v.bst l).hold = false) (hbooting : (laneOf v.vot l).booting = false) :
    l ∈ testable (markedDue v l) := by
  rw [mem_testable, markedDue_test]
  exact ⟨hhold, hbooting⟩

theorem markedDue_due (hhold : (testOf v.bst l).hold = false) (hbooting : (laneOf v.vot l).booting = false) :
    l ∈ dueLanes (markedDue v l) := by
  rw [mem_dueLanes, markedDue_test]
  exact ⟨markedDue_testable hhold hbooting, by simp [dueNow]⟩

/-- The module after a test that has come due started at once, in an idle role. -/
def provingNow (v : State) (l : Lane) : State := startTest (laneTo (markedDue v l) l .proving) l false v.now

theorem provingNow_frame : TestFrame l v (provingNow v l) :=
  markedDue_frame.trans ((testFrame_laneTo _ l _).trans (startTest_frame _ l _ _))

theorem provingNow_sec : (provingNow v l).sec = v.sec :=
  (startTest_sec _ l _ _).trans (sec_of_raiseFrame (s := markedDue v l) (laneTo_frame _ l .proving))

theorem provingNow_bst : (provingNow v l).bst = (begun (markedDue v l) l false v.now).bst := by
  rw [provingNow, startTest_bst, begun, bst_of_raiseFrame (laneTo_frame _ _ _)]
  rfl

theorem provingNow_journal : (provingNow v l).bst.journal = v.bst.journal.set (l.num - 1) { result := 3 } := by
  rw [provingNow_bst]
  show (setTest v.bst l _).journal.set (l.num - 1) { result := 3 } = _
  rw [setTest_journal]

theorem provingNow_state : (laneOf (provingNow v l).vot l).state = .proving := by
  rw [provingNow, startTest_lane]
  exact laneTo_state _ _ _

theorem provingNow_test :
    testOf (provingNow v l).bst l = { testOf v.bst l with due := none, isDue := false, late := false } := by
  rw [provingNow, startTest_test, bst_of_raiseFrame (laneTo_frame _ _ _), markedDue_test]

theorem idleTest_markedDue (h : Idles v) (hhold : (testOf v.bst l).hold = false) (hbooting : (laneOf v.vot l).booting = false)
    (hlimited : (laneOf v.vot l).limited = false) (hothers : ∀ k, k ≠ l → NotDue v k) :
    idleTest (markedDue v l) = provingNow v l :=
  idleTest_only (markedDue_idles_iff.mpr h) (markedDue_testable hhold hbooting) (by rw [markedDue_test]) hlimited
    fun k hk => (hothers k hk).kept markedDue_frame hk

end

/-- PROOF_TEST_DUE at the due time: the test starts in an idle module, alone and with its lane's journal entry. -/
theorem proofTestDue_starts {s : State} {l : Lane} {now k : Nat} (hdue : (testOf (later s now).bst l).due = some k)
    (hnow : k ≤ (later s now).now) (h : Idles (later s now)) (hhold : (testOf (later s now).bst l).hold = false)
    (hbooting : (laneOf (later s now).vot l).booting = false) (hlimited : (laneOf (later s now).vot l).limited = false)
    (hothers : ∀ k, k ≠ l → NotDue (later s now) k) :
    exec (.proofTestDue l now) s = .next (provingNow (later s now) l) := by
  rw [proofTestDue_some hdue, if_neg (Nat.not_lt.mpr hnow), idleTest_markedDue h hhold hbooting hlimited hothers]

/-- PROOF_TEST_DUE at the due time, where no test can start of its own: the test is marked for the drain. -/
theorem proofTestDue_waits {s : State} {l : Lane} {now k : Nat} (hdue : (testOf (later s now).bst l).due = some k)
    (hnow : k ≤ (later s now).now) (h : ¬ Idles (later s now)) :
    exec (.proofTestDue l now) s = .next (markedDue (later s now) l) := by
  rw [proofTestDue_some hdue, if_neg (Nat.not_lt.mpr hnow), idleTest_busy (mt markedDue_idles_iff.mp h)]

theorem proofTestDue_under {s : State} {l : Lane} {now k : Nat} (hdue : (testOf (later s now).bst l).due = some k)
    (hnow : k ≤ (later s now).now) (h : Idles (later s now)) (hhold : (testOf (later s now).bst l).hold = false)
    (hbooting : (laneOf (later s now).vot l).booting = false) :
    ∃ t, exec (.proofTestDue l now) s = .next t ∧ t.bst.under ≠ none :=
  ⟨_, (proofTestDue_some hdue).trans (if_neg (Nat.not_lt.mpr hnow)),
    idleTest_under (markedDue_idles_iff.mpr h) (markedDue_due hhold hbooting)⟩

end Sys2Proof.Proofs.TestDue

/-! PROOFS. The verdict on a proof test (R192, R195 to R197): a test passes exactly where nothing is found and every time is kept. -/

namespace Sys2Proof.Proofs.TestVerdict

open Sys2Proof Sys2Proof.Machine Sys2Proof.Proofs.TestStart

/-- Every piece of work kept its time at most (R192). -/
def Punctual (took : List Nat) : Prop :=
  ∀ (i w : Nat) (p : Nat × Nat × Nat), testPieces[i]? = some p → took[i]? = some w → w ≤ p.2.2

theorem overlong_none_iff (took : List Nat) : overlong? took = none ↔ Punctual took := by
  rw [overlong?, Option.map_eq_none_iff, List.find?_eq_none]
  refine ⟨fun h i w p hp hw => ?_, fun h q hq => ?_⟩
  · have hmem : (p, w) ∈ testPieces.zip took :=
      List.mem_of_getElem? (List.getElem?_zip_eq_some.mpr ⟨hp, hw⟩)
    exact Nat.not_lt.mp (by simpa using h _ hmem)
  · obtain ⟨i, hi⟩ := List.mem_iff_getElem?.mp hq
    obtain ⟨hp, hw⟩ := List.getElem?_zip_eq_some.mp hi
    simpa using h i q.2 q.1 hp hw

theorem reloadBad_false_iff (s : State) (l : Lane) : reloadBad s l = false
    ↔ (activeBank (lfwPair s.upd l)).intact = true ∧ (activeBank s.upd.mzp).intact = true := by
  simp [reloadBad]

theorem testLimit_eq (again : Bool) : testLimit again = 52410000 + if again then 20000000 else 0 := by
  cases again <;> decide

/-- A condition that fails a test, where it is met. -/
theorem failsWhen_nil_iff (c : Bool) (f : TestFailure) : (if c = true then [f] else []) = [] ↔ c = false := by
  cases c <;> simp

/-- What makes a test pass. -/
def Sound (s : State) (l : Lane) (res : TestResult) : Prop :=
  res.found = none ∧ Punctual res.took
    ∧ (s.bst.again = true → (activeBank (lfwPair s.upd l)).intact = true ∧ (activeBank s.upd.mzp).intact = true
        ∧ res.reload ≤ 20000000)
    ∧ unwrapFails s l = false ∧ s.now - s.bst.startedAt ≤ 52410000 + if s.bst.again then 20000000 else 0

/-- The model's two checks of a repeat test's reload (R197): of the images, and of the time. -/
theorem reload_sound_iff (s : State) (l : Lane) (res : TestResult) :
    (s.bst.again && reloadBad s l) = false ∧ (s.bst.again && decide (reloadUs < res.reload)) = false
      ↔ (s.bst.again = true → (activeBank (lfwPair s.upd l)).intact = true ∧ (activeBank s.upd.mzp).intact = true
        ∧ res.reload ≤ 20000000) := by
  have hreload : decide (reloadUs < res.reload) = false ↔ res.reload ≤ 20000000 := by
    rw [decide_eq_false_iff_not, Nat.not_lt]
    rfl
  rw [← and_assoc (c := res.reload ≤ 20000000), ← reloadBad_false_iff]
  cases s.bst.again <;> simp [hreload]

theorem testFailures_nil_iff (s : State) (l : Lane) (res : TestResult) : testFailures s l res = [] ↔ Sound s l res := by
  have hfound : res.found.toList.map TestFinding.failure = [] ↔ res.found = none := by
    rw [List.map_eq_nil_iff, Option.toList_eq_nil_iff]
  have htook : (overlong? res.took).toList = [] ↔ Punctual res.took := by
    rw [Option.toList_eq_nil_iff, overlong_none_iff]
  unfold testFailures
  simp only [List.append_eq_nil_iff, failsWhen_nil_iff, hfound, htook, decide_eq_false_iff_not, Nat.not_lt, testLimit_eq, Sound,
    and_assoc]
  rw [← reload_sound_iff]
  simp only [and_assoc]

theorem testFailure_none_iff (s : State) (l : Lane) (res : TestResult) : testFailure? s l res = none ↔ Sound s l res := by
  rw [testFailure?, head_sortBy_none_iff, testFailures_nil_iff]

end Sys2Proof.Proofs.TestVerdict

/-! PROOFS. The lane keys through a proof test (R194, R195, R414, R418): wrapped under a fresh counter, a key that unwraps stays one
that does, and the lane that passes holds it again. -/

namespace Sys2Proof.Proofs.TestKeys

open Sys2Proof Sys2Proof.Machine Sys2Proof.Proofs.TestStart

/-! ## Wrapping counters -/

theorem keyCounter_bump_same (c : SecBlk) (kt ix sl : Nat) :
    keyCounter (bumpCounter c kt ix sl) kt ix sl = keyCounter c kt ix sl + 1 := by
  simp [keyCounter, bumpCounter]

theorem keyCounter_bump_other (c : SecBlk) (kt ix kt' ix' : Nat) {sl sl' : Nat} (h : sl' ≠ sl) :
    keyCounter (bumpCounter c kt ix sl) kt' ix' sl' = keyCounter c kt' ix' sl' := by
  have hfind : ∀ k : Nat × Nat × Nat × Nat,
      decide ((!(k.1 == kt && k.2.1 == ix && k.2.2.1 == sl)) = true ∧ (k.1 == kt' && k.2.1 == ix' && k.2.2.1 == sl') = true)
        = (k.1 == kt' && k.2.1 == ix' && k.2.2.1 == sl') := fun k => by
    rw [Bool.eq_iff_iff]
    by_cases hk : k.2.2.1 = sl'
    · simp [hk, h]
    · simp [hk]
  unfold keyCounter bumpCounter
  rw [List.find?_cons_of_neg (by simp [h.symm]), List.find?_filter, funext hfind]

/-! ## The rewrapping of one slot (R195) -/

/-- The wrapped copies of a lane's key in one slot, under a fresh counter. -/
def rewrapSlot (l : Lane) (c : SecBlk) (sl : Nat) : SecBlk :=
  { c with
    counters := (bumpCounter c 1 l.num sl).counters
    blobs := c.blobs.map fun b =>
      if b.ktype == 1 && b.index == l.num && b.slot == sl && usableBlob c b
      then { b with ctr := keyCounter (bumpCounter c 1 l.num sl) 1 l.num sl } else b }

theorem rewrapLane_eq (s : State) (l : Lane) : rewrapLane s l = { s with sec := rewrapSlot l (rewrapSlot l s.sec 0) 1 } := rfl

theorem rewrapSlot_counter_same (l : Lane) (c : SecBlk) (sl : Nat) :
    keyCounter (rewrapSlot l c sl) 1 l.num sl = keyCounter c 1 l.num sl + 1 := keyCounter_bump_same c 1 l.num sl

theorem rewrapSlot_counter_other (l : Lane) (c : SecBlk) (kt ix : Nat) {sl sl' : Nat} (h : sl' ≠ sl) :
    keyCounter (rewrapSlot l c sl) kt ix sl' = keyCounter c kt ix sl' := keyCounter_bump_other c 1 l.num kt ix h

theorem rewrapLane_counter (s : State) (l : Lane) {sl : Nat} (h : sl < 2) :
    keyCounter (rewrapLane s l).sec 1 l.num sl = keyCounter s.sec 1 l.num sl + 1 := by
  rw [rewrapLane_eq]
  dsimp only
  obtain rfl | rfl : sl = 0 ∨ sl = 1 := by omega
  · rw [rewrapSlot_counter_other _ _ _ _ (by decide), rewrapSlot_counter_same]
  · rw [rewrapSlot_counter_same, rewrapSlot_counter_other _ _ _ _ (by decide)]

/-- The element unwraps a copy of a lane's key in a slot. -/
def Unwraps (c : SecBlk) (l : Lane) (sl : Nat) : Prop :=
  ∃ b ∈ c.blobs, b.ktype = 1 ∧ b.index = l.num ∧ b.slot = sl ∧ usableBlob c b = true

theorem usableBlob_iff (c : SecBlk) (b : Blob) :
    usableBlob c b = true ↔ (c.kek = true ∧ b.gen = c.kekGen) ∧ b.ctr = keyCounter c b.ktype b.index b.slot := by
  simp [usableBlob]

theorem rewrapSlot_unwraps {l : Lane} {c : SecBlk} {sl : Nat} (sl' : Nat) (h : Unwraps c l sl) : Unwraps (rewrapSlot l c sl') l sl := by
  obtain ⟨b, hb, htype, hindex, hslot, husable⟩ := h
  have hmem := List.mem_map_of_mem (f := fun b : Blob => if b.ktype == 1 && b.index == l.num && b.slot == sl' && usableBlob c b
    then { b with ctr := keyCounter (bumpCounter c 1 l.num sl') 1 l.num sl' } else b) hb
  obtain ⟨hkek, hctr⟩ := (usableBlob_iff c b).mp husable
  by_cases hsl : sl = sl'
  · rw [if_pos (by simp [htype, hindex, hslot, hsl, husable])] at hmem
    refine ⟨_, hmem, htype, hindex, hslot, (usableBlob_iff _ _).mpr ⟨hkek, ?_⟩⟩
    dsimp only
    rw [htype, hindex, hslot, hsl]
    rfl
  · rw [if_neg (by simp [hslot, hsl])] at hmem
    refine ⟨_, hmem, htype, hindex, hslot, (usableBlob_iff _ _).mpr ⟨hkek, ?_⟩⟩
    rw [rewrapSlot_counter_other _ _ _ _ (by rwa [hslot]), hctr]

theorem rewrapLane_unwraps {s : State} {l : Lane} {sl : Nat} (h : Unwraps s.sec l sl) : Unwraps (rewrapLane s l).sec l sl :=
  rewrapSlot_unwraps 1 (rewrapSlot_unwraps 0 h)

/-! ## The keys in plain form -/

/-- Some key in plain form stands in a place. -/
def Holds (ks : List PlainKey) (kt ix sl : Nat) : Prop := ∃ k ∈ ks, k.ktype = kt ∧ k.index = ix ∧ k.slot = sl

theorem putKey_holds (ks : List PlainKey) (k : PlainKey) : Holds (putKey ks k) k.ktype k.index k.slot :=
  ⟨k, List.mem_append_right _ (List.mem_singleton_self k), rfl, rfl, rfl⟩

theorem putKey_keeps {ks : List PlainKey} (k : PlainKey) {kt ix sl : Nat} (h : Holds ks kt ix sl) : Holds (putKey ks k) kt ix sl := by
  obtain ⟨j, hj, rfl, rfl, rfl⟩ := h
  by_cases hsame : sameKey k.ktype k.index k.slot j = true
  · have heq : (j.ktype = k.ktype ∧ j.index = k.index) ∧ j.slot = k.slot := by simpa [sameKey] using hsame
    obtain ⟨⟨htype, hindex⟩, hslot⟩ := heq
    rw [htype, hindex, hslot]
    exact putKey_holds ks k
  · exact ⟨j, List.mem_append_left _ (List.mem_filter.mpr ⟨hj, by simpa using hsame⟩), rfl, rfl, rfl⟩

theorem foldl_putKey_keeps (new : List PlainKey) {ks : List PlainKey} {kt ix sl : Nat} (h : Holds ks kt ix sl) :
    Holds (new.foldl putKey ks) kt ix sl := by
  induction new generalizing ks with
  | nil => exact h
  | cons k new ih => exact ih (putKey_keeps k h)

theorem foldl_putKey_holds {new : List PlainKey} (ks : List PlainKey) {kt ix sl : Nat} (h : Holds new kt ix sl) :
    Holds (new.foldl putKey ks) kt ix sl := by
  induction new generalizing ks with
  | nil =>
    obtain ⟨k, hk, -⟩ := h
    exact absurd hk List.not_mem_nil
  | cons k new ih =>
    obtain ⟨j, hj, htype, hindex, hslot⟩ := h
    obtain rfl | hj := List.mem_cons.mp hj
    · subst htype hindex hslot
      exact foldl_putKey_keeps new (putKey_holds ks j)
    · exact ih _ ⟨j, hj, htype, hindex, hslot⟩

theorem rekeyLane_holds {s : State} {l : Lane} {sl : Nat} (hdbg : s.sec.dbg ≠ .d3) (h : Unwraps s.sec l sl) :
    Holds (rekeyLane s l).sec.plain 1 l.num sl := by
  obtain ⟨b, hb, htype, hindex, hslot, husable⟩ := h
  rw [rekeyLane, if_neg hdbg]
  refine foldl_putKey_holds _ ⟨{ ktype := 1, index := l.num, slot := b.slot, key := b.key }, ?_, rfl, rfl, hslot⟩
  exact List.mem_map.mpr ⟨b, List.mem_filter.mpr ⟨hb, by simp [htype, hindex, husable]⟩, rfl⟩

theorem unkeyLane_empty {s : State} {l : Lane} {step : Nat} (h : 5 ≤ step) :
    ∀ k ∈ (unkeyLane s l step).sec.plain, ¬ (k.ktype = 1 ∧ k.index = l.num) := by
  intro k hk
  rw [unkeyLane, if_neg (Nat.not_lt.mpr h)] at hk
  simpa [imp_iff_not_or] using (List.mem_filter.mp hk).2

/-! ## What the keys' part of a test leaves -/

theorem rewrapLane_bst (s : State) (l : Lane) : (rewrapLane s l).bst = s.bst := rfl

theorem rewrapLane_vot (s : State) (l : Lane) : (rewrapLane s l).vot = s.vot := rfl

theorem rewrapLane_dbg (s : State) (l : Lane) : (rewrapLane s l).sec.dbg = s.sec.dbg := rfl

theorem rewrapLane_frame (s : State) (l : Lane) : TestFrame l s (rewrapLane s l) := ⟨rfl, fun _ _ => rfl, fun _ _ => rfl⟩

theorem rekeyLane_eq (s : State) (l : Lane) :
    rekeyLane s l = { s with sec := { s.sec with plain := (rekeyLane s l).sec.plain } } := by
  rw [rekeyLane]
  split <;> rfl

theorem rekeyLane_bst (s : State) (l : Lane) : (rekeyLane s l).bst = s.bst := by rw [rekeyLane_eq]

theorem rekeyLane_vot (s : State) (l : Lane) : (rekeyLane s l).vot = s.vot := by rw [rekeyLane_eq]

theorem rekeyLane_counter (s : State) (l : Lane) (kt ix sl : Nat) :
    keyCounter (rekeyLane s l).sec kt ix sl = keyCounter s.sec kt ix sl := by
  rw [rekeyLane_eq]
  rfl

theorem rekeyLane_frame (s : State) (l : Lane) : TestFrame l s (rekeyLane s l) := by
  rw [rekeyLane_eq]
  exact ⟨rfl, fun _ _ => rfl, fun _ _ => rfl⟩

theorem unkeyLane_eq (s : State) (l : Lane) (step : Nat) :
    unkeyLane s l step = { s with sec := { s.sec with plain := (unkeyLane s l step).sec.plain } } := by
  rw [unkeyLane]
  split <;> rfl

theorem unkeyLane_bst (s : State) (l : Lane) (step : Nat) : (unkeyLane s l step).bst = s.bst := by rw [unkeyLane_eq]

theorem unkeyLane_vot (s : State) (l : Lane) (step : Nat) : (unkeyLane s l step).vot = s.vot := by rw [unkeyLane_eq]

theorem unkeyLane_frame (s : State) (l : Lane) (step : Nat) : TestFrame l s (unkeyLane s l step) := by
  rw [unkeyLane_eq]
  exact ⟨rfl, fun _ _ => rfl, fun _ _ => rfl⟩

end Sys2Proof.Proofs.TestKeys

/-! PROOFS. A proof test that passes (R185, R189, R195 to R199, R204). -/

namespace Sys2Proof.Proofs.TestPass

open Sys2Proof Sys2Proof.Machine Sys2Proof.Proofs.Frames Sys2Proof.Proofs.Grant
open Sys2Proof.Proofs.LanesAndInstances Sys2Proof.Proofs.TestSources Sys2Proof.Proofs.TestStart Sys2Proof.Proofs.TestKeys

/-! ## The end is noted -/

theorem noteTest_test (s : State) (l : Lane) (r : LastTest) : testOf (noteTest s l r).bst l = { testOf s.bst l with last := r } :=
  (testOf_progress _ _ _ _ _ l).trans (setTest_same _ _ _)

theorem noteTest_frame (s : State) (l : Lane) (r : LastTest) : TestFrame l s (noteTest s l r) :=
  testFrame_bst fun k hk => (testOf_progress _ _ _ _ _ k).trans (setTest_other _ _ _ _ hk)

theorem noteTest_journal (s : State) (l : Lane) (r : LastTest) :
    (noteTest s l r).bst.journal = s.bst.journal.set (l.num - 1) r := by
  unfold noteTest
  dsimp only
  rw [setTest_journal]

@[simp] theorem countPass_test (b : BstBlk) (l k : Lane) : testOf (countPass b l) k = testOf b k := by
  cases l <;> cases k <;> rfl
@[simp] theorem countPass_under (b : BstBlk) (l : Lane) : (countPass b l).under = b.under := by cases l <;> rfl
@[simp] theorem countPass_journal (b : BstBlk) (l : Lane) : (countPass b l).journal = b.journal := by cases l <;> rfl

/-- The last test of a lane, passed. -/
def passResult (v : State) (dur : Nat) : LastTest := { result := 1, again := v.bst.again, dur := dur }

/-- The module after a passed test is noted and counted. -/
def passNoted (v : State) (l : Lane) (dur : Nat) : State :=
  let s := noteTest v l (passResult v dur)
  { s with bst := countPass (setTest s.bst l fun t => { t with failed := false, restoreFail := false, keyzFail := false }) l }

theorem passNoted_test (v : State) (l : Lane) (dur : Nat) : testOf (passNoted v l dur).bst l =
    { testOf v.bst l with last := passResult v dur, failed := false, restoreFail := false, keyzFail := false } := by
  rw [passNoted, countPass_test, setTest_same, noteTest_test]

theorem passNoted_frame (v : State) (l : Lane) (dur : Nat) : TestFrame l v (passNoted v l dur) :=
  (noteTest_frame v l _).trans (testFrame_bst fun k hk => by rw [countPass_test, setTest_other _ _ _ _ hk])

theorem passNoted_under (v : State) (l : Lane) (dur : Nat) : (passNoted v l dur).bst.under = none := by
  rw [passNoted, countPass_under, setTest_under, noteTest]

theorem passNoted_journal (v : State) (l : Lane) (dur : Nat) :
    (passNoted v l dur).bst.journal = v.bst.journal.set (l.num - 1) (passResult v dur) := by
  rw [passNoted, countPass_journal, setTest_journal, noteTest_journal]

/-! ## The lane's firmware and its keys -/

theorem reloadLane_frame (s : State) (l : Lane) (again : Bool) : TestFrame l s (reloadLane s l again) := by
  cases again
  · exact testFrame_bst fun _ _ => rfl
  · exact testFrame_setLane s l _

theorem reloadLane_bst (s : State) (l : Lane) (again : Bool) : (reloadLane s l again).bst = s.bst := by cases again <;> rfl

theorem reloadLane_sec (s : State) (l : Lane) (again : Bool) : (reloadLane s l again).sec = s.sec := by cases again <;> rfl

theorem reloadLane_booted (s : State) (l : Lane) :
    (laneOf (reloadLane s l true).vot l).booted = bankImgId (activeBank (lfwPair s.upd l)) :=
  congrArg LaneBlk.booted (setLane_same s.vot l _)

/-- The module whose lane has its firmware and its keys again. -/
def passKeyed (v : State) (l : Lane) (dur : Nat) : State :=
  rekeyLane (rewrapLane (reloadLane (passNoted v l dur) l v.bst.again) l) l

theorem passKeyed_frame (v : State) (l : Lane) (dur : Nat) : TestFrame l v (passKeyed v l dur) :=
  (passNoted_frame v l dur).trans ((reloadLane_frame _ l _).trans ((rewrapLane_frame _ l).trans (rekeyLane_frame _ l)))

theorem passKeyed_bst (v : State) (l : Lane) (dur : Nat) : (passKeyed v l dur).bst = (passNoted v l dur).bst := by
  rw [passKeyed, rekeyLane_bst, rewrapLane_bst, reloadLane_bst]

theorem passKeyed_vot (v : State) (l : Lane) (dur : Nat) :
    (passKeyed v l dur).vot = (reloadLane (passNoted v l dur) l v.bst.again).vot := by
  rw [passKeyed, rekeyLane_vot, rewrapLane_vot]

theorem passKeyed_counter (v : State) (l : Lane) (dur : Nat) {sl : Nat} (h : sl < 2) :
    keyCounter (passKeyed v l dur).sec 1 l.num sl = keyCounter v.sec 1 l.num sl + 1 := by
  rw [passKeyed, rekeyLane_counter, rewrapLane_counter _ l h, reloadLane_sec]
  rfl

theorem passKeyed_holds (v : State) (l : Lane) (dur : Nat) {sl : Nat} (hdbg : v.sec.dbg ≠ .d3) (h : Unwraps v.sec l sl) :
    Holds (passKeyed v l dur).sec.plain 1 l.num sl := by
  have hsec : (reloadLane (passNoted v l dur) l v.bst.again).sec = v.sec := reloadLane_sec _ _ _
  exact rekeyLane_holds (by rwa [rewrapLane_dbg, hsec]) (rewrapLane_unwraps (by rwa [hsec]))

/-! ## The sources -/

theorem tellRetry_frame (s : State) (l : Lane) (again : Bool) : TestFrame l s (tellRetry s again) := by
  cases again
  · exact testFrame_bst fun _ _ => rfl
  · refine TestFrame.trans (t := { s with bst := { s.bst with sawRetry := true } }) (testFrame_bst fun k _ => by cases k <;> rfl)
      (.of_raise (raise_frame _ _ _) fun k _ => ?_)
    exact congrArg (laneOf · k) (raise_bst_vot _ _)

theorem tellRetry_bst (s : State) (again : Bool) :
    (tellRetry s again).bst = if again then { s.bst with sawRetry := true } else s.bst := by
  cases again
  · rfl
  · exact bst_of_raiseFrame (s := { s with bst := { s.bst with sawRetry := true } }) (raise_frame _ _ _)

theorem tellRetry_vot (s : State) (again : Bool) : (tellRetry s again).vot = s.vot := by
  cases again
  · rfl
  · exact raise_bst_vot _ _

theorem tellRetry_sec (s : State) (again : Bool) : (tellRetry s again).sec = s.sec := by
  cases again
  · rfl
  · exact sec_of_raiseFrame (s := { s with bst := { s.bst with sawRetry := true } }) (raise_frame _ _ _)

theorem tellRetry_isLive (s : State) : isLive (tellRetry s true) .bst bPT_RETRY = true := raise_isLive _ _ _ (by decide)

/-- The module whose sources follow the passed test, before the lane goes where it waits. -/
def passTold (v : State) (l : Lane) (dur : Nat) : State := tellRetry (testSources (passKeyed v l dur) l) v.bst.again

theorem passTold_frame (v : State) (l : Lane) (dur : Nat) : TestFrame l v (passTold v l dur) :=
  (passKeyed_frame v l dur).trans ((TestFrame.of_raised (testSources_raised _ l)).trans (tellRetry_frame _ l _))

theorem passTold_sec (v : State) (l : Lane) (dur : Nat) : (passTold v l dur).sec = (passKeyed v l dur).sec := by
  rw [passTold, tellRetry_sec, sec_of_raiseFrame (testSources_raised _ l).frame]

/-- The block but for PT_RETRY is as it was noted. -/
theorem passTold_bst (v : State) (l : Lane) (dur : Nat) : (passTold v l dur).bst =
    if v.bst.again then { (passNoted v l dur).bst with sawRetry := true } else (passNoted v l dur).bst := by
  rw [passTold, tellRetry_bst, bst_of_raiseFrame (testSources_raised _ l).frame, passKeyed_bst]

theorem passTold_test (v : State) (l : Lane) (dur : Nat) : testOf (passTold v l dur).bst l =
    { testOf v.bst l with last := passResult v dur, failed := false, restoreFail := false, keyzFail := false } := by
  rw [passTold_bst, ← passNoted_test]
  split
  · cases l <;> rfl
  · rfl

theorem passTold_under (v : State) (l : Lane) (dur : Nat) : (passTold v l dur).bst.under = none := by
  rw [passTold_bst, ← passNoted_under v l dur]
  split <;> rfl

theorem passTold_journal (v : State) (l : Lane) (dur : Nat) :
    (passTold v l dur).bst.journal = v.bst.journal.set (l.num - 1) (passResult v dur) := by
  rw [passTold_bst, ← passNoted_journal]
  split <;> rfl

theorem fencedLane_booted (now : Nat) (b : LaneBlk) : (fencedLane now b).booted = b.booted := by
  unfold fencedLane
  split <;> rfl

theorem Raised.booted {l : Lane} {s t : State} (h : Raised l s t) : (laneOf t.vot l).booted = (laneOf s.vot l).booted := by
  obtain hlane | hlane := h.lane
  · rw [hlane]
  · rw [hlane, fencedLane_booted]

theorem passTold_booted {v : State} (l : Lane) (dur : Nat) (hagain : v.bst.again = true) :
    (laneOf (passTold v l dur).vot l).booted = bankImgId (activeBank (lfwPair v.upd l)) := by
  rw [passTold, tellRetry_vot, Raised.booted (testSources_raised _ l), passKeyed_vot, hagain, reloadLane_booted]
  rfl

/-! ## Where the lane goes -/

theorem afterPass_drain {s : State} (l : Lane) (h : idleRole s = false) :
    afterPass s l = { s with vot := setLane s.vot l fun b => { b with passed := true } } :=
  if_neg (ne_true_of_eq_false h)

/-- A lane that is idle again, without its mark and held no longer. -/
def released (s : State) (l : Lane) : State :=
  let u := unmark (laneTo s l .fenced) l
  { u with vot := setLane u.vot l fun b => { b with limited := false } }

theorem afterPass_idle {s : State} (l : Lane) (h : idleRole s = true) : afterPass s l = setDue (released s l) l s.now := if_pos h

theorem released_lane (s : State) (l : Lane) :
    laneOf (released s l).vot l = { laneOf (laneTo s l .fenced).vot l with latent := false, limited := false } := by
  unfold released unmark
  dsimp only
  rw [setLane_same, setLane_same]

theorem released_frame (s : State) (l : Lane) : TestFrame l s (released s l) :=
  (testFrame_laneTo s l .fenced).trans ⟨rfl, fun _ hk => (setLane_other _ _ _ _ hk).trans (setLane_other _ _ _ _ hk),
    fun _ hk => setTest_other _ _ _ _ hk⟩

theorem afterPass_frame (s : State) (l : Lane) : TestFrame l s (afterPass s l) := by
  cases h : idleRole s
  · rw [afterPass_drain l h]
    exact testFrame_setLane s l _
  · rw [afterPass_idle l h]
    exact (released_frame s l).trans (testFrame_bst fun k hk => setTest_other _ _ _ _ hk)

theorem setTest_setTest (b : BstBlk) (l : Lane) (f g : LaneTest → LaneTest) :
    setTest (setTest b l f) l g = setTest b l fun t => g (f t) := by cases l <;> rfl

/-- In an idle role the next due time counts from the end of the test. -/
theorem afterPass_idle_bst {s : State} (l : Lane) (h : idleRole s = true) : (afterPass s l).bst = setTest s.bst l fun t =>
    { t with due := some (s.now + 3600000000 * fieldOf s.cfg.bstCtl 0 5), isDue := false, lastEnd := some s.now } := by
  rw [afterPass_idle l h]
  unfold setDue
  dsimp only
  rw [(released_frame s l).cfg]
  unfold released unmark
  dsimp only
  rw [setTest_setTest, bst_of_raiseFrame (laneTo_frame s l .fenced)]
  split <;> rfl

theorem afterPass_drain_bst {s : State} (l : Lane) (h : idleRole s = false) : (afterPass s l).bst = s.bst := by
  rw [afterPass_drain l h]

/-- What a lane's last test says stands, wherever the lane goes. -/
theorem afterPass_keeps (s : State) (l : Lane) : let t := testOf (afterPass s l).bst l
    let q := testOf s.bst l
    (t.last = q.last ∧ t.failed = q.failed ∧ t.restoreFail = q.restoreFail ∧ t.keyzFail = q.keyzFail ∧ t.hold = q.hold)
      ∧ (afterPass s l).bst.under = s.bst.under ∧ (afterPass s l).bst.journal = s.bst.journal := by
  cases h : idleRole s
  · rw [afterPass_drain_bst l h]
    exact ⟨⟨rfl, rfl, rfl, rfl, rfl⟩, rfl, rfl⟩
  · rw [afterPass_idle_bst l h, setTest_same]
    exact ⟨⟨rfl, rfl, rfl, rfl, rfl⟩, setTest_under _ _ _, setTest_journal _ _ _⟩

theorem laneTo_booted (s : State) (l : Lane) (st : LaneSt) : (laneOf (laneTo s l st).vot l).booted = (laneOf s.vot l).booted := by
  by_cases h : (laneOf s.vot l).state = st
  · rw [laneTo, if_pos h]
  · rw [laneTo_vot s l st h, setLane_same]

theorem afterPass_idle_lane {s : State} (l : Lane) (h : idleRole s = true) : laneOf (afterPass s l).vot l =
    { laneOf (laneTo s l .fenced).vot l with latent := false, limited := false } := by
  rw [afterPass_idle l h]
  exact released_lane s l

theorem afterPass_drain_lane {s : State} (l : Lane) (h : idleRole s = false) :
    laneOf (afterPass s l).vot l = { laneOf s.vot l with passed := true } := by
  rw [afterPass_drain l h, setLane_same]

theorem afterPass_booted (s : State) (l : Lane) : (laneOf (afterPass s l).vot l).booted = (laneOf s.vot l).booted := by
  cases h : idleRole s
  · rw [afterPass_drain_lane l h]
  · rw [afterPass_idle_lane l h]
    exact laneTo_booted s l .fenced

theorem afterPass_sec (s : State) (l : Lane) : (afterPass s l).sec = s.sec := by
  cases h : idleRole s
  · rw [afterPass_drain l h]
  · rw [afterPass_idle l h]
    show (laneTo s l .fenced).sec = s.sec
    exact sec_of_raiseFrame (laneTo_frame s l .fenced)

theorem afterPass_faults (s : State) (l : Lane) : (afterPass s l).faults = s.faults := by
  cases h : idleRole s
  · rw [afterPass_drain l h]
  · rw [afterPass_idle l h]
    exact laneTo_faults s l .fenced

/-! ## The passed test -/

theorem testPasses_eq (v : State) (l : Lane) (dur : Nat) : testPasses v l dur = afterPass (passTold v l dur) l := rfl

theorem testPasses_frame (v : State) (l : Lane) (dur : Nat) : TestFrame l v (testPasses v l dur) :=
  (passTold_frame v l dur).trans (afterPass_frame _ l)

theorem testPasses_shows (v : State) (l : Lane) (dur : Nat) : let b := (testPasses v l dur).bst
    b.under = none ∧ b.journal = v.bst.journal.set (l.num - 1) (passResult v dur) ∧ (testOf b l).last = passResult v dur
      ∧ (testOf b l).failed = false ∧ (testOf b l).restoreFail = false ∧ (testOf b l).keyzFail = false
      ∧ (testOf b l).hold = (testOf v.bst l).hold := by
  obtain ⟨⟨hlast, hfailed, hrestore, hkeyz, hhold⟩, hunder, hjournal⟩ := afterPass_keeps (passTold v l dur) l
  simp only [passTold_test] at hlast hfailed hrestore hkeyz hhold
  exact ⟨hunder.trans (passTold_under v l dur), hjournal.trans (passTold_journal v l dur), hlast, hfailed, hrestore, hkeyz, hhold⟩

theorem testPasses_sec (v : State) (l : Lane) (dur : Nat) : (testPasses v l dur).sec = (passKeyed v l dur).sec :=
  (afterPass_sec _ l).trans (passTold_sec v l dur)

theorem testPasses_retry {v : State} (l : Lane) (dur : Nat) (hagain : v.bst.again = true) :
    isLive (testPasses v l dur) .bst bPT_RETRY = true
      ∧ (laneOf (testPasses v l dur).vot l).booted = bankImgId (activeBank (lfwPair v.upd l)) := by
  constructor
  · rw [testPasses_eq, isLive_congr (afterPass_faults _ l), passTold, hagain]
    exact tellRetry_isLive _
  · rw [testPasses_eq, afterPass_booted, passTold_booted l dur hagain]

theorem testPasses_drain {v : State} (l : Lane) (dur : Nat) (h : idleRole v = false) :
    (laneOf (testPasses v l dur).vot l).passed = true := by
  rw [testPasses_eq, afterPass_drain_lane l ((passTold_frame v l dur).idleRole.trans h)]

theorem testPasses_idle {v : State} (l : Lane) (dur : Nat) (h : idleRole v = true) : let t := testPasses v l dur
    (laneOf t.vot l).state = .fenced ∧ (laneOf t.vot l).limited = false ∧ (testOf t.bst l).isDue = false
      ∧ (testOf t.bst l).due = some (v.now + 3600000000 * fieldOf v.cfg.bstCtl 0 5) := by
  have hframe := passTold_frame v l dur
  have hidle := hframe.idleRole.trans h
  rw [testPasses_eq]
  dsimp only
  rw [afterPass_idle_lane l hidle, afterPass_idle_bst l hidle, setTest_same, hframe.now, hframe.cfg]
  exact ⟨laneTo_state _ l .fenced, rfl, rfl, rfl⟩

/-- No other test starts at the end of one that has passed. -/
theorem testPasses_alone {v : State} (l : Lane) (dur : Nat)
    (h : ¬ idleRole v = true ∨ ((∀ k, k ≠ l → NotDue v k) ∧ 1 ≤ fieldOf v.cfg.bstCtl 0 5)) :
    idleTest (testPasses v l dur) = testPasses v l dur := by
  have hframe := testPasses_frame v l dur
  by_cases hidle : idleRole v = true
  · obtain ⟨hothers, hintv⟩ := h.resolve_left (not_not_intro hidle)
    obtain ⟨-, hlimited, hmark, hdue⟩ := testPasses_idle l dur hidle
    refine idleTest_stays fun k => .inr ?_
    by_cases hk : k = l
    · subst hk
      refine ⟨hlimited, hmark, fun a ha => ?_⟩
      obtain rfl := Option.some.inj (hdue.symm.trans ha)
      rw [hframe.now]
      omega
    · exact (hothers k hk).kept hframe hk
  · exact idleTest_busy fun hidles => hidle (hframe.idleRole ▸ hidles.1)

end Sys2Proof.Proofs.TestPass

/-! PROOFS. A proof test that fails (R194, R196, R197, R204). -/

namespace Sys2Proof.Proofs.TestFail

open Sys2Proof Sys2Proof.Machine Sys2Proof.Proofs.Grant Sys2Proof.Proofs.LanesAndInstances
open Sys2Proof.Proofs.TestSources Sys2Proof.Proofs.TestStart Sys2Proof.Proofs.TestKeys Sys2Proof.Proofs.TestPass

/-! ## The failure is noted -/

/-- The last test of a lane, failed. -/
def failResult (v : State) (f : TestFailure) (dur : Nat) : LastTest :=
  { result := 2, again := v.bst.again, block := f.block, step := f.step, unit := f.unit, dur := dur }

/-- What a failure makes of a lane's test. -/
def failTest (v : State) (f : TestFailure) (t : LaneTest) : LaneTest :=
  { t with failed := true, restoreFail := f.restoreFail, keyzFail := f.keyzFail, hold := t.hold || v.bst.again }

/-- The lane is FENCED, and the failure is noted and counted. -/
def failNoted (v : State) (l : Lane) (f : TestFailure) (dur : Nat) : State :=
  let s := laneTo (noteTest v l (failResult v f dur)) l .fenced
  let b := setTest s.bst l (failTest v f)
  { s with bst := { b with fail := satAdd 255 1 b.fail, sigF := if f.block = 0 then b.sigF else f.signature }
           vot := setLane s.vot l fun b => { b with why := .test, passed := false } }

/-- The counts and the signature are no part of a lane's test. -/
theorem testOf_counts (b : BstBlk) (n : Nat) (g : BitVec 64) (l : Lane) :
    testOf { b with fail := n, sigF := g } l = testOf b l := by
  cases l <;> rfl

theorem failNoted_frame (v : State) (l : Lane) (f : TestFailure) (dur : Nat) : TestFrame l v (failNoted v l f dur) :=
  (noteTest_frame v l (failResult v f dur)).trans ((testFrame_laneTo _ l .fenced).trans ⟨rfl,
    fun _ hk => setLane_other _ _ _ _ hk, fun k hk => (testOf_counts _ _ _ k).trans (setTest_other _ _ _ _ hk)⟩)

theorem failNoted_test (v : State) (l : Lane) (f : TestFailure) (dur : Nat) :
    testOf (failNoted v l f dur).bst l = failTest v f { testOf v.bst l with last := failResult v f dur } := by
  unfold failNoted
  dsimp only
  rw [testOf_counts, setTest_same, bst_of_raiseFrame (laneTo_frame _ _ _), noteTest_test]

theorem failNoted_block (v : State) (l : Lane) (f : TestFailure) (dur : Nat) : let b := (failNoted v l f dur).bst
    b.under = none ∧ b.fail = satAdd 255 1 v.bst.fail ∧ (f.block ≠ 0 → b.sigF = f.signature) := by
  unfold failNoted
  dsimp only
  rw [setTest_under, setTest_fail, bst_of_raiseFrame (laneTo_frame _ _ _)]
  refine ⟨rfl, ?_, fun hblock => if_neg hblock⟩
  unfold noteTest
  dsimp only
  rw [setTest_fail]

theorem failNoted_lane (v : State) (l : Lane) (f : TestFailure) (dur : Nat) : let b := laneOf (failNoted v l f dur).vot l
    b.state = .fenced ∧ b.why = .test ∧ b.passed = false := by
  unfold failNoted
  dsimp only
  rw [setLane_same]
  exact ⟨laneTo_state _ l .fenced, rfl, rfl⟩

/-! ## The failed test -/

/-- The module after a failed test, before a repeat test starts. -/
def failedNow (v : State) (l : Lane) (f : TestFailure) (dur : Nat) : State :=
  testSources (unkeyLane (failNoted v l f dur) l f.step) l

theorem testFails_first {v : State} (l : Lane) (f : TestFailure) (dur : Nat) (h : v.bst.again = false) :
    testFails v l f dur = startTest (failedNow v l f dur) l true (failedNow v l f dur).now := if_neg (ne_true_of_eq_false h)

theorem testFails_again {v : State} (l : Lane) (f : TestFailure) (dur : Nat) (h : v.bst.again = true) :
    testFails v l f dur = failedNow v l f dur := if_pos h

theorem failedNow_bst (v : State) (l : Lane) (f : TestFailure) (dur : Nat) :
    (failedNow v l f dur).bst = (failNoted v l f dur).bst := by
  rw [failedNow, bst_of_raiseFrame (testSources_raised _ l).frame, unkeyLane_bst]

/-- A lane that is FENCED already is not fenced again by the sources. -/
theorem Raised.lane_fenced {l : Lane} {s t : State} (h : Raised l s t) (hstate : (laneOf s.vot l).state = .fenced) :
    laneOf t.vot l = laneOf s.vot l := by
  have hout : fencedLane s.now (laneOf s.vot l) = laneOf s.vot l := fencedLane_out (by simp [hstate])
  have hlane := h.lane
  rw [hout] at hlane
  exact hlane.elim id id

theorem failedNow_lane (v : State) (l : Lane) (f : TestFailure) (dur : Nat) :
    laneOf (failedNow v l f dur).vot l = laneOf (failNoted v l f dur).vot l := by
  rw [failedNow, Raised.lane_fenced (testSources_raised _ l) (by rw [unkeyLane_vot]; exact (failNoted_lane v l f dur).1),
    unkeyLane_vot]

/-- What a failed test of a lane changes and shows, whether or not a repeat test follows. -/
structure Failed (v : State) (l : Lane) (f : TestFailure) (dur : Nat) (t : State) : Prop where
  frame : TestFrame l v t
  state : (laneOf t.vot l).state = .fenced
  why : (laneOf t.vot l).why = .test
  passed : (laneOf t.vot l).passed = false
  last : (testOf t.bst l).last = failResult v f dur
  failed : (testOf t.bst l).failed = true
  failLive : isLive t .bst bPT_FAIL = true
  count : t.bst.fail = satAdd 255 1 v.bst.fail
  keyzLive : f.keyzFail = true → isLive t .bst bKEYZ_FAIL = true
  restoreLive : f.restoreFail = true → isLive t .bst bRESTORE_FAIL = true
  signature : f.block ≠ 0 → t.bst.sigF = f.signature
  keys : 5 ≤ f.step → ∀ k ∈ t.sec.plain, ¬ (k.ktype = 1 ∧ k.index = l.num)

theorem failedNow_frame (v : State) (l : Lane) (f : TestFailure) (dur : Nat) : TestFrame l v (failedNow v l f dur) :=
  (failNoted_frame v l f dur).trans ((unkeyLane_frame _ l f.step).trans (.of_raised (testSources_raised _ l)))

/-- The sources say what the lane's test says. -/
theorem failedNow_isLive (v : State) (l : Lane) (f : TestFailure) (dur : Nat) : let u := failedNow v l f dur
    isLive u .bst bPT_FAIL = true ∧ (f.restoreFail = true → isLive u .bst bRESTORE_FAIL = true)
      ∧ (f.keyzFail = true → isLive u .bst bKEYZ_FAIL = true) ∧ (v.bst.again = true → isLive u .bst bPT_HOLD = true) := by
  obtain ⟨hfail, hrestore, hkeyz, hhold⟩ := testSources_isLive (unkeyLane (failNoted v l f dur) l f.step) l
  rw [unkeyLane_bst] at hfail hrestore hkeyz hhold
  have htest := failNoted_test v l f dur
  refine ⟨hfail.trans (any_test l ?_), fun h => hrestore.trans (any_test l ?_), fun h => hkeyz.trans (any_test l ?_),
    fun h => hhold.trans (any_test l ?_)⟩ <;> rw [htest]
  · rfl
  · exact h
  · exact h
  · exact (congrArg (_ || ·) h).trans (Bool.or_true _)

theorem failedNow_failed (v : State) (l : Lane) (f : TestFailure) (dur : Nat) : Failed v l f dur (failedNow v l f dur) := by
  obtain ⟨hstate, hwhy, hpassed⟩ := failNoted_lane v l f dur
  obtain ⟨-, hcount, hsignature⟩ := failNoted_block v l f dur
  obtain ⟨hfail, hrestore, hkeyz, -⟩ := failedNow_isLive v l f dur
  have hlane := failedNow_lane v l f dur
  have hbst := failedNow_bst v l f dur
  have htest := (congrArg (testOf · l) hbst).trans (failNoted_test v l f dur)
  exact {
    frame := failedNow_frame v l f dur
    state := by rwa [hlane]
    why := by rwa [hlane]
    passed := by rwa [hlane]
    last := congrArg LaneTest.last htest
    failed := congrArg LaneTest.failed htest
    failLive := hfail
    count := by rwa [hbst]
    keyzLive := hkeyz
    restoreLive := hrestore
    signature := fun h => by rw [hbst, hsignature h]
    keys := fun h => by
      rw [failedNow, sec_of_raiseFrame (testSources_raised _ l).frame]
      exact unkeyLane_empty h }

/-- The repeat test that starts at once leaves what the failed test shows. -/
theorem Failed.restart {v u : State} {l : Lane} {f : TestFailure} {dur : Nat} (h : Failed v l f dur u) :
    Failed v l f dur (startTest u l true u.now) := by
  have hlane := startTest_lane u l true u.now
  have htest := startTest_test u l true u.now
  have hlive := fun n hn hne => startTest_isLive u l true u.now (n := n) hn hne
  exact {
    frame := h.frame.trans (startTest_frame u l true u.now)
    state := by rw [hlane]; exact h.state
    why := by rw [hlane]; exact h.why
    passed := by rw [hlane]; exact h.passed
    last := by rw [htest]; exact h.last
    failed := by rw [htest]; exact h.failed
    failLive := (hlive _ (by decide) (by decide)).trans h.failLive
    count := by rw [startTest_bst, ← h.count]; exact setTest_fail _ _ _
    keyzLive := fun hk => (hlive _ (by decide) (by decide)).trans (h.keyzLive hk)
    restoreLive := fun hr => (hlive _ (by decide) (by decide)).trans (h.restoreLive hr)
    signature := fun hs => by rw [startTest_bst, ← h.signature hs]; exact setTest_sigF _ _ _
    keys := by rw [startTest_sec]; exact h.keys }

theorem testFails_failed (v : State) (l : Lane) (f : TestFailure) (dur : Nat) : Failed v l f dur (testFails v l f dur) := by
  have hfailed := failedNow_failed v l f dur
  cases h : v.bst.again
  · rw [testFails_first l f dur h]
    exact hfailed.restart
  · rwa [testFails_again l f dur h]

/-- After a first failure the repeat test is under way. -/
theorem testFails_repeats {v : State} (l : Lane) (f : TestFailure) (dur : Nat) (h : v.bst.again = false) :
    let b := (testFails v l f dur).bst
    b.under = some l ∧ b.again = true ∧ b.startedAt = v.now := by
  rw [testFails_first l f dur h, startTest_bst, ← (failedNow_frame v l f dur).now]
  exact ⟨rfl, rfl, rfl⟩

/-- A failed repeat test holds the lane. -/
theorem testFails_holds {v : State} (l : Lane) (f : TestFailure) (dur : Nat) (h : v.bst.again = true) :
    let t := testFails v l f dur
    t.bst.under = none ∧ (testOf t.bst l).hold = true ∧ isLive t .bst bPT_HOLD = true := by
  obtain ⟨-, -, -, hlive⟩ := failedNow_isLive v l f dur
  rw [testFails_again l f dur h]
  dsimp only
  refine ⟨?_, ?_, hlive h⟩
  · rw [failedNow_bst]
    exact (failNoted_block v l f dur).1
  · rw [failedNow_bst, failNoted_test]
    exact (congrArg (_ || ·) h).trans (Bool.or_true _)

/-- No other test starts at the end of one that has failed. -/
theorem testFails_alone {v : State} (l : Lane) (f : TestFailure) (dur : Nat)
    (h : ¬ idleRole v = true ∨ ∀ k, k ≠ l → NotDue v k) : idleTest (testFails v l f dur) = testFails v l f dur := by
  have hframe := (testFails_failed v l f dur).frame
  obtain hidle | hothers := h
  · exact idleTest_busy fun hidles => hidle (hframe.idleRole ▸ hidles.1)
  · cases hagain : v.bst.again
    · have hunder := (testFails_repeats l f dur hagain).1
      exact idleTest_busy fun ⟨_, _, hfree⟩ => Option.some_ne_none l (hunder.symm.trans hfree)
    · refine idleTest_stays fun k => ?_
      by_cases hk : k = l
      · exact .inl (hk ▸ (testFails_holds l f dur hagain).2.1)
      · exact .inr ((hothers k hk).kept hframe hk)

end Sys2Proof.Proofs.TestFail

/-! PROOFS. PROOF_TEST_END, and the statement on proof tests. -/

namespace Sys2Proof.Proofs.ProofTests

open Sys2Proof Sys2Proof.Machine Sys2Proof.Proofs.TestDue Sys2Proof.Proofs.TestVerdict Sys2Proof.Proofs.TestPass
open Sys2Proof.Proofs.TestFail

/-! ## PROOF_TEST_END -/

/-- The lane's test is in progress, and has begun. -/
def Runs (v : State) (l : Lane) : Prop := v.bst.under = some l ∧ v.bst.startedAt ≤ v.now

theorem not_runs_iff (v : State) (l : Lane) : ¬ Runs v l ↔ v.bst.under ≠ some l ∨ v.now < v.bst.startedAt := by
  rw [Runs, not_and_or, Nat.not_le]

/-- The duration that the register shows, in 10 ms (R203). -/
def durationOf (v : State) : Nat := min 65535 ((v.now - v.bst.startedAt) / 10000)

section
variable {s : State} {l : Lane} {now : Nat} {res : TestResult}

theorem proofTestEnd_idle (h : ¬ Runs (later s now) l) : exec (.proofTestEnd l res now) s = .next (later s now) :=
  if_pos ((not_runs_iff _ l).mp h)

theorem proofTestEnd_passes (h : Runs (later s now) l) (hres : testFailure? (later s now) l res = none) :
    exec (.proofTestEnd l res now) s = .next (idleTest (testPasses (later s now) l (durationOf (later s now)))) := by
  show execProofTestEnd l res now s = _
  unfold execProofTestEnd
  dsimp only
  rw [if_neg (mt (not_runs_iff _ l).mpr (not_not_intro h)), hres]
  rfl

theorem proofTestEnd_fails {f : TestFailure} (h : Runs (later s now) l) (hres : testFailure? (later s now) l res = some f) :
    exec (.proofTestEnd l res now) s = .next (idleTest (testFails (later s now) l f (durationOf (later s now)))) := by
  show execProofTestEnd l res now s = _
  unfold execProofTestEnd
  dsimp only
  rw [if_neg (mt (not_runs_iff _ l).mpr (not_not_intro h)), hres]
  rfl

end

/-! ## The statement -/

/-- Settles O54, command by command: a due test that starts at once or waits, a late one, the verdict on a test that ends, and
what a pass and a failure leave. -/
theorem proofTestsStartAndEndByTheirRules : Obligations.ProofTestsStartAndEndByTheirRules := by
  unfold Obligations.ProofTestsStartAndEndByTheirRules
  intro s l now v q idle others
  refine ⟨fun hdue => ⟨proofTestDue_none hdue, ptLate_none hdue⟩, fun k hdue => ⟨fun hnow => ?_, fun hnow hwait => ?_, ?_, ?_, ?_, ?_⟩,
    fun res => ⟨proofTestEnd_idle, testFailure_none_iff v l res, ?_, ?_⟩⟩
  · exact (proofTestDue_some hdue).trans (if_pos hnow)
  · refine proofTestDue_waits hdue hnow ?_
    rintro ⟨hidle, hready, hunder⟩
    obtain h | h | h := hwait
    · exact h hidle
    · exact ne_true_of_eq_false h hready
    · exact h hunder
  · rintro hnow ⟨hidle, hready, hunder, hhold, hbooting⟩
    exact proofTestDue_under hdue hnow ⟨hidle, hready, hunder⟩ hhold hbooting
  · rintro hnow ⟨hidle, hready, hunder, hhold, hbooting⟩ hothers hlimited
    refine ⟨_, proofTestDue_starts hdue hnow ⟨hidle, hready, hunder⟩ hhold hbooting hlimited hothers, ?_, ?_, ?_,
      provingNow_state, provingNow_frame.lanes, ?_, ?_, ?_, provingNow_journal, provingNow_frame.keyless provingNow_sec⟩
    · rw [provingNow_bst]; rfl
    · rw [provingNow_bst]; rfl
    · rw [provingNow_bst]; rfl
    · rw [provingNow_test]
    · rw [provingNow_test]
    · rw [provingNow_test]
  · exact fun hearly => (ptLate_some hdue).trans (if_pos (Nat.not_le.mp hearly))
  · exact fun htardy => ⟨_, (ptLate_some hdue).trans (if_neg (Nat.not_lt.mpr htardy)), raiseAt_isLive _ .bst _ _ (by decide),
      raiseAt_frame _ _ _ _⟩
  · intro hruns hrest hsound
    have hpass := proofTestEnd_passes hruns ((testFailure_none_iff v l res).mpr hsound)
    rw [testPasses_alone l _ hrest] at hpass
    have hframe := testPasses_frame v l (durationOf v)
    obtain ⟨hunder, hjournal, hlast, hfailed, hrestore, hkeyz, hhold⟩ := testPasses_shows v l (durationOf v)
    have hsec := testPasses_sec v l (durationOf v)
    refine ⟨_, hpass, ⟨hframe.frame, hframe.lanes⟩, hunder, hlast, hjournal, hfailed, hrestore, hkeyz, hhold, fun sl hsl => ?_,
      fun hdbg b hb htype hindex _ husable => ?_, testPasses_retry l _,
      fun hidle => testPasses_drain l _ (Bool.eq_false_iff.mpr hidle), fun hidle => ?_⟩
    · rw [hsec]
      exact passKeyed_counter v l _ hsl
    · rw [hsec]
      exact passKeyed_holds v l _ hdbg ⟨b, hb, htype, hindex, rfl, husable⟩
    · obtain ⟨hstate, hlimited, -, hnext⟩ := testPasses_idle l (durationOf v) hidle
      exact ⟨hstate, hlimited, hnext⟩
  · intro f hres hruns hrest
    have hfail := proofTestEnd_fails hruns hres
    rw [testFails_alone l f _ hrest] at hfail
    have h := testFails_failed v l f (durationOf v)
    exact ⟨_, hfail, ⟨h.frame.frame, h.frame.lanes⟩, h.state, h.why, h.passed, h.last, h.failed, h.failLive, h.count, h.keyzLive,
      h.restoreLive, h.signature, h.keys, testFails_repeats l f _, testFails_holds l f _⟩

end Sys2Proof.Proofs.ProofTests

/-! PROOFS. Ranging: the reply to a RANGE request and the end of its window (R231). -/

namespace Sys2Proof.Proofs.Ranging

open Sys2Proof Sys2Proof.Machine Sys2Proof.Safety Sys2Proof.Proofs.Frames Sys2Proof.Proofs.FieldPorts Sys2Proof.Proofs.FieldSteps
open Sys2Proof.Proofs.Uplinks

theorem setFrn_setFrn (s : State) (c : Cluster) (F G : FrnBlk → FrnBlk) : setFrn (setFrn s c F) c G = setFrn s c (G ∘ F) := by
  cases c <;> rfl

/-- An entry that `p` holds of after a change of all such entries is a changed one. -/
theorem of_mem_updAll {α : Type} {p : α → Bool} {g : α → α} {l : List α} {a : α} (ha : a ∈ updAll p g l)
    (hp : p a = true) : ∃ b, a = g b := by
  obtain ⟨b, -, rfl⟩ := List.mem_map.mp ha
  cases hb : p b with
  | true => exact ⟨b, if_pos rfl⟩
  | false =>
    rw [hb, if_neg Bool.false_ne_true] at hp
    exact absurd hp (ne_true_of_eq_false hb)

/-! ## The ranging of a port, by channel -/

/-- The party asked on a channel and the cycle of the request. -/
def asking (ch : Chan) (f : FrnBlk) : Option (Party × Nat) := match ch with | .a => f.askA | .b => f.askB

/-- The party that RANGED is due for on a channel. -/
def rangedOn (ch : Chan) (f : FrnBlk) : Option (Party × Nat) := match ch with | .a => f.rangedA | .b => f.rangedB

/-- The delay held of a node on a channel. -/
def delayOn (ch : Chan) (b : NodeBlk) : Option Nat := match ch with | .a => b.dlyA | .b => b.dlyB

/-- The port when a request is over. -/
def unasked (ch : Chan) (f : FrnBlk) : FrnBlk := match ch with | .a => { f with askA := none } | .b => { f with askB := none }

/-- The port when RANGED is due for a party. -/
def withRanged (ch : Chan) (p : Party) (d : Nat) (f : FrnBlk) : FrnBlk :=
  match ch with | .a => { f with rangedA := some (p, d) } | .b => { f with rangedB := some (p, d) }

/-- A node with its delay on a channel, and the configuration identifier it was ranged with. -/
def delayed (ch : Chan) (d : Option Nat) (cfgId : Nat) (b : NodeBlk) : NodeBlk :=
  match ch with | .a => { b with dlyA := d, ranCfg := some cfgId } | .b => { b with dlyB := d, ranCfg := some cfgId }

/-- The port with a party's delay on a channel. -/
def withDelay (ch : Chan) (p : Party) (d : Option Nat) (cfgId : Nat) (f : FrnBlk) : FrnBlk :=
  match p with
  | .coupler n => { f with couplers := updAll (fun k => k.chan = ch && k.num == n) (fun k => { k with dly := d }) f.couplers }
  | .node n => { f with nodes := updFirst (·.node == n) (delayed ch d cfgId) f.nodes }

/-- The port with a party refused. -/
def withRefused (ch : Chan) (p : Party) (f : FrnBlk) : FrnBlk :=
  match p with
  | .coupler n => { f with
      couplers := updAll (fun k => k.chan = ch && k.num == n) (fun k => { k with refused := true }) f.couplers
      refusedAt := some f.cycle }
  | .node n => { f with
      nodes := updFirst (·.node == n) (fun b => { b with state := .refused }) f.nodes
      refusedAt := some f.cycle }

theorem setDelay_eq (s : State) (c : Cluster) (ch : Chan) (p : Party) (d : Option Nat) (cfgId : Nat) :
    setDelay s c ch p d cfgId = setFrn s c (withDelay ch p d cfgId) := by
  cases p with
  | coupler n => rfl
  | node n => cases ch <;> rfl

theorem refuseParty_eq (s : State) (c : Cluster) (ch : Chan) (p : Party) :
    refuseParty s c ch p = raise (setFrn s c (withRefused ch p)) .frn (nAt c nADMIT_FAIL) := by
  cases p <;> cases c <;> rfl

theorem delayed_node (ch : Chan) (d : Option Nat) (cfgId : Nat) (b : NodeBlk) : (delayed ch d cfgId b).node = b.node := by
  cases ch <;> rfl

theorem delayed_holds (ch : Chan) (d : Option Nat) (cfgId : Nat) (b : NodeBlk) : delayOn ch (delayed ch d cfgId b) = d
    ∧ (delayed ch d cfgId b).state = b.state ∧ (delayed ch d cfgId b).ranCfg = some cfgId := by
  cases ch <;> exact ⟨rfl, rfl, rfl⟩

/-! ## A party taken or refused -/

/-- The port once a party's reply has been taken. -/
def accepted (ch : Chan) (p : Party) (d cfgId : Nat) : FrnBlk → FrnBlk :=
  withRanged ch p d ∘ withDelay ch p (some d) cfgId ∘ unasked ch

/-- The port once a party's reply has been refused. -/
def refused (ch : Chan) (p : Party) : FrnBlk → FrnBlk := withRefused ch p ∘ unasked ch

theorem accepted_ranging (ch : Chan) (p : Party) (d cfgId : Nat) (f : FrnBlk) :
    asking ch (accepted ch p d cfgId f) = none ∧ rangedOn ch (accepted ch p d cfgId f) = some (p, d) := by
  cases ch <;> cases p <;> exact ⟨rfl, rfl⟩

theorem refused_ranging (ch : Chan) (p : Party) (f : FrnBlk) :
    asking ch (refused ch p f) = none ∧ rangedOn ch (refused ch p f) = rangedOn ch f := by
  cases ch <;> cases p <;> exact ⟨rfl, rfl⟩

theorem accepted_nodes (ch : Chan) (n d cfgId : Nat) (f : FrnBlk) :
    (accepted ch (.node n) d cfgId f).nodes = updFirst (·.node == n) (delayed ch (some d) cfgId) f.nodes := by
  cases ch <;> rfl

theorem refused_nodes (ch : Chan) (n : Nat) (f : FrnBlk) :
    (refused ch (.node n) f).nodes = updFirst (·.node == n) (fun b => { b with state := .refused }) f.nodes := by
  cases ch <;> rfl

theorem accepted_couplers (ch : Chan) (n d cfgId : Nat) (f : FrnBlk) : (accepted ch (.coupler n) d cfgId f).couplers
    = updAll (fun k => k.chan = ch && k.num == n) (fun k => { k with dly := some d }) f.couplers := by
  cases ch <;> rfl

theorem refused_couplers (ch : Chan) (n : Nat) (f : FrnBlk) : (refused ch (.coupler n) f).couplers
    = updAll (fun k => k.chan = ch && k.num == n) (fun k => { k with refused := true }) f.couplers := by
  cases ch <;> rfl

/-- A node of the table after a change of the port that treats the first entry of its number. -/
theorem nodeOf?_setFrn {s : State} {c : Cluster} {n : Nat} {b : NodeBlk} {F : FrnBlk → FrnBlk} {g : NodeBlk → NodeBlk}
    (hF : (F (frnOf s c)).nodes = updFirst (·.node == n) g (frnOf s c).nodes) (hg : ∀ b, (g b).node = b.node)
    (hb : nodeOf? s c n = some b) : nodeOf? (setFrn s c F) c n = some (g b) := by
  rw [nodeOf?, setFrn_same, hF]
  exact find?_updFirst_same (fun b => by rw [hg]) hb

/-- A coupler of a channel and number after a change of all such couplers. -/
theorem coupler_updAll {ch : Chan} {n : Nat} {g : CouplerBlk → CouplerBlk} {l : List CouplerBlk} {k : CouplerBlk}
    (hk : k ∈ updAll (fun k => k.chan = ch && k.num == n) g l) (hchan : k.chan = ch) (hnum : k.num = n) : ∃ b, k = g b :=
  of_mem_updAll hk (by simp [hchan, hnum])

/-- A raising leaves the ranging of a port, its nodes and its couplers. -/
theorem raise_keeps_ranging (s : State) (c : Cluster) (ch : Chan) (n : Nat) :
    asking ch (frnOf (raise s .frn n) c) = asking ch (frnOf s c) ∧ rangedOn ch (frnOf (raise s .frn n) c) = rangedOn ch (frnOf s c)
      ∧ (frnOf (raise s .frn n) c).nodes = (frnOf s c).nodes ∧ (frnOf (raise s .frn n) c).couplers = (frnOf s c).couplers := by
  rw [frnOf_of_raiseFrame (raise_frame s .frn n) c]
  cases ch <;> exact ⟨rfl, rfl, rfl, rfl⟩

/-! ## The reply -/

/-- A body is the reply of a party asked in a cycle, taken in that cycle (R222, R231). -/
def isReply (f : FrnBlk) (p : Party) (cyc : Nat) (h : Bytes) : Prop :=
  h.length = 20 ∧ fieldAt h 0 1 = 0xC4 ∧ fieldAt h 8 2 = 8 ∧ fieldAt h 1 1 = p.kind ∧ fieldAt h 2 1 = p.num ∧ cyc = f.cycle

/-- The identifiers of a reply are those of the record, and the way is at most 60.0 µs (R231). -/
def replyGood (h : Bytes) (sched : Nat) (cfgs : List Nat) (late : Nat) : Prop :=
  fieldAt h 12 4 = sched ∧ fieldAt h 16 4 ∈ cfgs ∧ late / 2 ≤ 7500

/-- The checks of a reply as the command tests them. -/
theorem isReply_iff {f : FrnBlk} {p : Party} {cyc : Nat} {h : Bytes} : isReply f p cyc h ↔
    ¬ (h.length ≠ 20 ∨ fieldAt h 0 1 ≠ 0xC4 ∨ fieldAt h 8 2 ≠ 8 ∨ fieldAt h 1 1 ≠ p.kind ∨ fieldAt h 2 1 ≠ p.num
      ∨ cyc ≠ f.cycle) := by
  simp only [isReply, not_or, not_not]

theorem replyGood_iff {h : Bytes} {sched : Nat} {cfgs : List Nat} {late : Nat} : replyGood h sched cfgs late ↔
    ¬ (fieldAt h 12 4 ≠ sched ∨ (!cfgs.contains (fieldAt h 16 4)) = true ∨ late / 2 > 7500) := by
  simp [replyGood]

section Reply

variable {s : State} {c : Cluster} {ch : Chan} {now cyc late sched : Nat} {p : Party} {data h : Bytes} {cfgs : List Nat}
variable (hask : asking ch (frnOf (later s now) c) = some (p, cyc))

include hask

theorem rangeReply_idle (hnone : ∀ h, unCrc? data = some h → ¬ isReply (frnOf (later s now) c) p cyc h) :
    exec (.rangeReply c ch data late now) s = .next (later s now) := by
  cases ch
  all_goals
    rw [asking] at hask
    simp only [exec, execRangeReply, hask]
    split
    next p' cyc' h heq hdata =>
      cases heq
      exact if_pos (not_not.mp (isReply_iff.not.mp (hnone h hdata)))
    next => rfl

variable (hdata : unCrc? data = some h) (hreply : isReply (frnOf (later s now) c) p cyc h)
variable (hrec : recordOf (later s now) c ch p = some (sched, cfgs))

include hdata hreply hrec

theorem rangeReply_accepts (hgood : replyGood h sched cfgs late) : exec (.rangeReply c ch data late now) s
    = .next (setFrn (later s now) c (accepted ch p (late / 2) (fieldAt h 16 4))) := by
  rw [accepted, ← setFrn_setFrn, ← setFrn_setFrn, ← setDelay_eq]
  cases ch
  all_goals
    rw [asking] at hask
    simp only [exec, execRangeReply, hask, hdata]
    rw [if_neg (isReply_iff.mp hreply)]
    simp only [hrec]
    exact if_neg (replyGood_iff.mp hgood)

theorem rangeReply_refuses (hbad : ¬ replyGood h sched cfgs late) : exec (.rangeReply c ch data late now) s
    = .next (raise (setFrn (later s now) c (refused ch p)) .frn (nAt c nADMIT_FAIL)) := by
  rw [refused, ← setFrn_setFrn, ← refuseParty_eq]
  cases ch
  all_goals
    rw [asking] at hask
    simp only [exec, execRangeReply, hask, hdata]
    rw [if_neg (isReply_iff.mp hreply)]
    simp only [hrec]
    exact if_pos (not_not.mp (replyGood_iff.not.mp hbad))

end Reply

/-! ## What a reply gives -/

/-- A reply taken: δ is held and leaves with RANGED (R231). -/
theorem accepted_outcome (v : State) (c : Cluster) (ch : Chan) (p : Party) (d cfgId : Nat) :
    asking ch (frnOf (setFrn v c (accepted ch p d cfgId)) c) = none
    ∧ rangedOn ch (frnOf (setFrn v c (accepted ch p d cfgId)) c) = some (p, d)
    ∧ (setFrn v c (accepted ch p d cfgId)).faults = v.faults
    ∧ (∀ n b, p = .node n → nodeOf? v c n = some b → ∃ k, nodeOf? (setFrn v c (accepted ch p d cfgId)) c n = some k
        ∧ delayOn ch k = some d ∧ k.state = b.state ∧ k.ranCfg = some cfgId)
    ∧ (∀ n, p = .coupler n → ∀ k ∈ (frnOf (setFrn v c (accepted ch p d cfgId)) c).couplers, k.chan = ch → k.num = n →
        k.dly = some d)
    ∧ (setFrn v c (accepted ch p d cfgId)).sent = v.sent ∧ (setFrn v c (accepted ch p d cfgId)).core = v.core := by
  obtain ⟨hasking, hranged⟩ := accepted_ranging ch p d cfgId (frnOf v c)
  refine ⟨?_, ?_, setFrn_faults _ _ _, ?_, ?_, setFrn_sent _ _ _, setFrn_core _ _ _⟩
  · rwa [setFrn_same]
  · rwa [setFrn_same]
  · rintro n b rfl hb
    have hnode := nodeOf?_setFrn (accepted_nodes ch n d cfgId _) (delayed_node ch (some d) cfgId) hb
    exact ⟨_, hnode, delayed_holds ch (some d) cfgId b⟩
  · rintro n rfl k hk hchan hnum
    rw [setFrn_same, accepted_couplers] at hk
    obtain ⟨b, rfl⟩ := coupler_updAll hk hchan hnum
    rfl

/-- A reply refused: nothing is due for the party, and ADMIT_FAIL is live (R231). -/
theorem refused_outcome {v t : State} {c : Cluster} {ch : Chan} {p : Party}
    (ht : t = raise (setFrn v c (refused ch p)) .frn (nAt c nADMIT_FAIL)) : asking ch (frnOf t c) = none
    ∧ isLive t .frn (nAt c nADMIT_FAIL) = true ∧ rangedOn ch (frnOf t c) = rangedOn ch (frnOf v c)
    ∧ (∀ n b, p = .node n → nodeOf? v c n = some b → ∃ k, nodeOf? t c n = some k ∧ k.state = .refused)
    ∧ (∀ n, p = .coupler n → ∀ k ∈ (frnOf t c).couplers, k.chan = ch → k.num = n → k.refused = true) := by
  obtain ⟨hasking, hranged, hnodes, hcouplers⟩ := raise_keeps_ranging (setFrn v c (refused ch p)) c ch (nAt c nADMIT_FAIL)
  obtain ⟨hnone, hsame⟩ := refused_ranging ch p (frnOf v c)
  rw [← ht] at hasking hranged hnodes hcouplers
  rw [setFrn_same] at hasking hranged hcouplers
  refine ⟨hasking.trans hnone, ?_, hranged.trans hsame, ?_, ?_⟩
  · rw [ht]
    exact raise_isLive _ _ _ (nAt_lt c (by decide))
  · rintro n b rfl hb
    have hrefused := nodeOf?_setFrn (refused_nodes ch n (frnOf v c)) (fun _ => rfl) hb
    exact ⟨_, (nodeOf?_congr hnodes n).trans hrefused, rfl⟩
  · rintro n rfl k hk hchan hnum
    rw [hcouplers, refused_couplers] at hk
    obtain ⟨b, rfl⟩ := coupler_updAll hk hchan hnum
    rfl

/-! ## The end of the window -/

/-- A node whose window has ended: unranged on both channels it is as before its request. -/
def windowOver (b : NodeBlk) : NodeBlk :=
  { b with state := if b.state = .ranging ∧ b.dlyA = none ∧ b.dlyB = none then .absent else b.state }

/-- The port once the window of a party has ended. -/
def unreplied (ch : Chan) (p : Party) (f : FrnBlk) : FrnBlk :=
  match p with
  | .coupler _ => unasked ch f
  | .node n => { unasked ch f with nodes := updFirst (·.node == n) windowOver f.nodes }

theorem unreplied_asking (ch : Chan) (p : Party) (f : FrnBlk) : asking ch (unreplied ch p f) = none := by
  cases ch <;> cases p <;> rfl

theorem rangingWindowTimeout_idle {s : State} {c : Cluster} {ch : Chan} (hask : asking ch (frnOf s c) = none) :
    exec (.rangingWindowTimeout c ch) s = .next s := by
  cases ch
  all_goals
    rw [asking] at hask
    simp only [exec, execRangingWindowTimeout, hask]

theorem rangingWindowTimeout_ends {s : State} {c : Cluster} {ch : Chan} {p : Party} {cyc : Nat}
    (hask : asking ch (frnOf s c) = some (p, cyc)) :
    exec (.rangingWindowTimeout c ch) s = .next (setFrn s c (unreplied ch p)) := by
  have hover : (fun b : NodeBlk =>
      { b with state := if b.state = .ranging && b.dlyA.isNone && b.dlyB.isNone then .absent else b.state }) = windowOver := by
    funext b
    simp [windowOver, and_assoc]
  cases ch
  all_goals
    rw [asking] at hask
    simp only [exec, execRangingWindowTimeout, hask, hover]
    cases p <;> cases c <;> rfl

theorem unreplied_outcome (s : State) (c : Cluster) (ch : Chan) (p : Party) :
    asking ch (frnOf (setFrn s c (unreplied ch p)) c) = none
    ∧ ∀ n b, p = .node n → nodeOf? s c n = some b → nodeOf? (setFrn s c (unreplied ch p)) c n = some (windowOver b) := by
  refine ⟨?_, ?_⟩
  · rw [setFrn_same]
    exact unreplied_asking ch p _
  · rintro n b rfl hb
    exact nodeOf?_setFrn rfl (fun _ => rfl) hb

end Sys2Proof.Proofs.Ranging

/-! PROOFS. Service frames to field nodes and their answers (R224, R386). -/

namespace Sys2Proof.Proofs.ServiceFrames

open Sys2Proof Sys2Proof.Machine Sys2Proof.Safety Sys2Proof.Proofs.Frames Sys2Proof.Proofs.FieldPorts Sys2Proof.Proofs.FieldSteps
open Sys2Proof.Proofs.Uplinks Sys2Proof.Proofs.FieldTransmissions

/-! ## Sending -/

/-- `t` is `s` but for what has left. -/
def SentOnly (s t : State) : Prop := t = { s with sent := t.sent }

theorem SentOnly.trans {s t u : State} (h : SentOnly s t) (g : SentOnly t u) : SentOnly s u := by
  unfold SentOnly at *
  rw [g, h]

theorem SentOnly.port {s t : State} (h : SentOnly s t) (c : Cluster) : frnOf t c = frnOf s c := by
  unfold SentOnly at h
  rw [h]
  cases c <;> rfl

theorem sendOn_sentOnly (s : State) (c : Cluster) (ch : Chan) (data : Bytes) : SentOnly s (sendOn s c ch data) := by
  unfold sendOn
  dsimp only
  split <;> rfl

theorem sendSvc_sentOnly (s : State) (c : Cluster) (w : SvcOut) : SentOnly s (sendSvc s c w) :=
  (sendOn_sentOnly s c .a _).trans (sendOn_sentOnly _ c .b _)

theorem foldl_sendSvc_sentOnly (c : Cluster) (ws : List SvcOut) (s : State) :
    SentOnly s (ws.foldl (fun s w => sendSvc s c w) s) := by
  induction ws generalizing s with
  | nil => rfl
  | cons w ws ih => exact (sendSvc_sentOnly s c w).trans (ih _)

theorem sendSvc_speaks (s : State) (c : Cluster) (w : SvcOut) : Speaks c s (sendSvc s c w) := sendBoth_speaks s c _

/-- The frame of a waiting service frame on a channel (R222, R224). -/
def svcBytes (s : State) (c : Cluster) (w : SvcOut) (ch : Chan) : Bytes :=
  dynamicBytes s c 0xC1 (.node w.node) ch (be 1 w.code ++ be 1 0 ++ be 2 w.snum ++ be 4 w.ref ++ w.content)

theorem svcBytes_speaks {c : Cluster} {s t : State} (h : Speaks c s t) (w : SvcOut) (ch : Chan) :
    svcBytes t c w ch = svcBytes s c w ch := by
  rw [svcBytes, svcBytes, dynamicBytes, dynamicBytes, h.cycle]

/-- A state in which a port sends more than sync frames. -/
def talks (st : PortSt) : Prop := st ≠ .off ∧ st ≠ .follow ∧ st ≠ .followNoSync

theorem sends_of_talks {st : PortSt} (h : talks st) (data : Bytes) : sends st data := by
  obtain ⟨hon, hfollow, hnosync⟩ := h
  exact ⟨hon, fun hsync => (hsync.elim hfollow hnosync).elim⟩

/-- Each of the service frames sent one after another leaves, in the numbering of the cycle that they are sent in. -/
theorem foldl_sendSvc_mem {c : Cluster} {ch : Chan} {s : State} {w : SvcOut} {ws : List SvcOut} (h : Open c ch s)
    (hst : talks (frnOf s c).state) (hw : w ∈ ws) :
    .field c ch (svcBytes s c w ch) ∈ (ws.foldl (fun s w => sendSvc s c w) s).sent := by
  induction ws generalizing s with
  | nil => cases hw
  | cons x ws ih =>
    have hfirst := sendSvc_speaks s c x
    rw [List.foldl_cons]
    obtain rfl | hw := List.mem_cons.mp hw
    · exact (foldl_speaks (fun s w => sendSvc_speaks s c w) ws _).sent.subset
        (sendBoth_mem (data := svcBytes s c w) h (sends_of_talks hst _))
    · have hlater := ih (h.speaks hfirst) (by rwa [hfirst.port]) hw
      rwa [svcBytes_speaks hfirst] at hlater

/-! ## A frame to a node -/

/-- The frame that waits for its answer once it has been sent to a node. -/
def serviceOut (s : State) (c : Cluster) (b : NodeBlk) (node code ref : Nat) (content : Bytes) : SvcOut :=
  { node := node, code := code, snum := nextSnum b.snum, ref := ref, content := content, sentCycle := (frnOf s c).cycle }

/-- What a service frame to a node leaves: the node's number counted on, the frame waiting, all else but what left. -/
theorem sendService_spec {s : State} {c : Cluster} {node : Nat} {b : NodeBlk} (hb : nodeOf? s c node = some b)
    (code ref : Nat) (content : Bytes) :
    nodeOf? (sendService s c node code ref content) c node = some { b with snum := nextSnum b.snum }
    ∧ (frnOf (sendService s c node code ref content) c).svc = (frnOf s c).svc ++ [serviceOut s c b node code ref content]
    ∧ (sendService s c node code ref content).core = s.core ∧ (sendService s c node code ref content).cfg = s.cfg
    ∧ (sendService s c node code ref content).faults = s.faults := by
  generalize hu : setFrn (setNode s c node fun b' => { b' with snum := nextSnum b.snum }) c
    (fun f => { f with svc := f.svc ++ [serviceOut s c b node code ref content] }) = u
  have hsend : sendService s c node code ref content = sendSvc u c (serviceOut s c b node code ref content) := by
    rw [sendService, hb, ← hu]
    rfl
  have hsent := sendSvc_sentOnly u c (serviceOut s c b node code ref content)
  have hport := hsent.port c
  have hnode := nodeOf?_setNode_same (g := fun b' => { b' with snum := nextSnum b.snum }) (fun _ => rfl) hb
  rw [hsend]
  refine ⟨?_, ?_, ?_, ?_, ?_⟩
  · rw [nodeOf?_congr (congrArg FrnBlk.nodes hport), ← hnode, ← hu]
    exact nodeOf?_congr (by rw [setFrn_same]) node
  · rw [hport, ← hu, setFrn_same, setNode_same]
  all_goals
    unfold SentOnly at hsent
    rw [hsent, ← hu]
    cases c <;> rfl

/-! ## Answers -/

/-- The frames that still wait once an answer has come. -/
def stillWaiting (s : State) (c : Cluster) (w : SvcIn) : List SvcOut :=
  (frnOf s c).svc.filter fun k => !(k.node == w.node && k.snum == w.ref)

theorem answered_eq (s : State) (c : Cluster) (w : SvcIn) :
    answered s c w = setFrn s c fun f => { f with svc := stillWaiting s c w } := setFrn_congr rfl

/-- An answer names a waiting frame of an OCF distribution (R224). -/
def toOcf (s : State) (c : Cluster) (w : SvcIn) : Prop := ∃ k, svcFor? s c w = some k ∧ 2 ≤ k.code ∧ k.code ≤ 4

theorem toOcf_iff (s : State) (c : Cluster) (w : SvcIn) :
    (((svcFor? s c w).map fun k => decide (2 ≤ k.code) && decide (k.code ≤ 4)) == some true) = true ↔ toOcf s c w := by
  unfold toOcf
  cases svcFor? s c w <;> simp

section Answer

variable {s : State} {c : Cluster} {data : Bytes} {w : SvcIn} (hw : parseSvc? data = some w)

include hw

theorem ack_other (hcode : w.code ≠ 0x81) : exec (.ack c data) s = .next s := by
  simp only [exec, execAck, hw]
  exact if_pos hcode

theorem ack_ends (hcode : w.code = 0x81) (h : fieldAt w.content 0 1 = 0 ∨ ¬ toOcf s c w) :
    exec (.ack c data) s = .next (answered s c w) := by
  simp only [exec, execAck, hw]
  rw [if_neg (not_not.mpr hcode), if_neg]
  rw [Bool.and_eq_true, decide_eq_true_iff, toOcf_iff, not_and_or, not_not]
  exact h

theorem ack_stops (hcode : w.code = 0x81) (hstatus : fieldAt w.content 0 1 ≠ 0) (hocf : toOcf s c w) : exec (.ack c data) s
    = .next (setNode (answered s c w) c w.node fun b => { b with ocfWant := false, ocfState := 0 }) := by
  simp only [exec, execAck, hw]
  rw [if_neg (not_not.mpr hcode), if_pos]
  rw [Bool.and_eq_true, decide_eq_true_iff, toOcf_iff]
  exact ⟨hstatus, hocf⟩

theorem diagReply_step : (w.code = 0x83 → exec (.diagReply c data) s = .next (answered s c w))
    ∧ (w.code ≠ 0x83 → exec (.diagReply c data) s = .next s) := by
  simp only [exec, execDiagReply, hw]
  exact ⟨fun h => if_pos h, fun h => if_neg h⟩

theorem ocfState_other (hcode : w.code ≠ 0x82) : exec (.ocfState c data) s = .next s := by
  simp only [exec, execOcfState, hw]
  exact if_pos hcode

end Answer

/-! ## OCF_STATE -/

/-- A node with what it reports of its package. -/
def withReport (w : SvcIn) (b : NodeBlk) : NodeBlk :=
  { b with ocfState := fieldAt w.content 12 1, ocfMissing := fieldAt w.content 8 4, ocfReceived := fieldAt w.content 4 4
           ocfWant := b.ocfWant || (fieldAt w.content 12 1 == 2 && b.ocfPkg == fieldAt w.content 0 4) }

/-- The state once an OCF_STATE has been taken, before a block is sent again. -/
def reported (s : State) (c : Cluster) (w : SvcIn) : State := setNode (answered s c w) c w.node (withReport w)

/-- A report that a block of a held image answers (R386): the node's own package, not yet whole. -/
structure AsksBlock (s : State) (b : NodeBlk) (w : SvcIn) (bank : Bank) : Prop where
  image : ocfImage? s (fieldAt w.content 0 4) = some bank
  asked : b.ocfPkg = fieldAt w.content 0 4 ∧ fieldAt w.content 12 1 ≤ 1 ∧ fieldAt w.content 8 4 ≠ 0xFFFFFFFF
    ∧ fieldAt w.content 8 4 < ocfCount bank.image

theorem reported_spec {s : State} {c : Cluster} {w : SvcIn} {b : NodeBlk} (hb : nodeOf? s c w.node = some b) :
    nodeOf? (reported s c w) c w.node = some (withReport w b) ∧ (frnOf (reported s c w) c).svc = stillWaiting s c w
    ∧ (∀ pkg, ocfImage? (reported s c w) pkg = ocfImage? s pkg) ∧ (reported s c w).core = s.core
    ∧ (reported s c w).cfg = s.cfg ∧ (reported s c w).sent = s.sent := by
  unfold reported
  refine ⟨nodeOf?_setNode_same (g := withReport w) (fun _ => rfl) ?_, ?_, fun pkg => ?_, ?_, ?_, ?_⟩
  · rw [← hb]
    exact nodeOf?_congr (by rw [answered, setFrn_same]) _
  · rw [setNode_same, answered, setFrn_same]
    rfl
  all_goals cases c <;> rfl

section OcfState

variable {s : State} {c : Cluster} {data : Bytes} {w : SvcIn} {b : NodeBlk} (hw : parseSvc? data = some w)
variable (hcode : w.code = 0x82) (hb : nodeOf? s c w.node = some b)

include hw hcode hb

theorem ocfState_sends {bank : Bank} (h : AsksBlock s b w bank) : exec (.ocfState c data) s
    = .next (sendOcfBlock (reported s c w) c w.node (fieldAt w.content 0 4) bank.image (fieldAt w.content 8 4)) := by
  obtain ⟨hnode, -, himage, -⟩ := reported_spec hb
  rw [reported] at hnode himage ⊢
  unfold withReport at hnode himage ⊢
  simp only [exec, execOcfState, hw, hnode, himage, h.image]
  rw [if_neg (not_not.mpr hcode)]
  exact if_pos h.asked

theorem ocfState_waits (h : ∀ bank, ¬ AsksBlock s b w bank) : exec (.ocfState c data) s = .next (reported s c w) := by
  obtain ⟨hnode, -, himage, -⟩ := reported_spec hb
  rw [reported] at hnode himage ⊢
  unfold withReport at hnode himage ⊢
  simp only [exec, execOcfState, hw, hnode, himage]
  rw [if_neg (not_not.mpr hcode)]
  cases hbank : ocfImage? s (fieldAt w.content 0 4) with
  | none => rfl
  | some bank => exact if_neg fun hasked => h bank ⟨hbank, hasked⟩

end OcfState

/-- The block that a report asks for is sent, and waits with the node's other frames (R224). -/
theorem sendOcfBlock_spec {s t : State} {c : Cluster} {w : SvcIn} {b : NodeBlk} (hb : nodeOf? s c w.node = some b) (bank : Bank)
    (ht : t = sendOcfBlock (reported s c w) c w.node (fieldAt w.content 0 4) bank.image (fieldAt w.content 8 4)) :
    (∃ n, nodeOf? t c w.node = some { withReport w b with snum := n }) ∧ t.core = s.core ∧ t.cfg = s.cfg
    ∧ ∃ o, (frnOf t c).svc = stillWaiting s c w ++ [o] ∧ o.node = w.node ∧ o.code = 0x02 ∧ o.ref = fieldAt w.content 0 4
      ∧ o.content.drop 12 = (bank.image.drop (3968 * fieldAt w.content 8 4)).take 3968
      ∧ o.content.take 4 = be 4 (fieldAt w.content 8 4) := by
  obtain ⟨hnode, hsvc, -, hcore, hcfg, -⟩ := reported_spec hb
  unfold sendOcfBlock at ht
  dsimp only at ht
  obtain ⟨hafter, hwaits, hcore', hcfg', -⟩ := sendService_spec hnode 0x02 (fieldAt w.content 0 4)
    (be 4 (fieldAt w.content 8 4) ++ be 4 (ocfCount bank.image)
      ++ be 4 (crc32c (slice bank.image (3968 * fieldAt w.content 8 4) 3968)).toNat
      ++ slice bank.image (3968 * fieldAt w.content 8 4) 3968)
  rw [← ht] at hafter hwaits hcore' hcfg'
  rw [hsvc] at hwaits
  exact ⟨⟨_, hafter⟩, hcore'.trans hcore, hcfg'.trans hcfg, _, hwaits, rfl, rfl, rfl, rfl, rfl⟩

/-! ## Repetition -/

/-- A frame to a node that is sent again: a CONFIG_SET or OCF_RESTART unanswered for 16 cycles (R224). -/
def repeats (node cycle : Nat) (w : SvcOut) : Prop :=
  w.node = node ∧ (w.code = 0x01 ∨ w.code = 0x04) ∧ 16 ≤ (cycle + 2 ^ 32 - w.sentCycle) % 2 ^ 32

/-- The same as the command tests it. -/
def isDue (node cycle : Nat) (w : SvcOut) : Bool :=
  w.node == node && (w.code == 0x01 || w.code == 0x04) && decide (16 ≤ cyclesSince w.sentCycle cycle)

theorem isDue_iff {node cycle : Nat} {w : SvcOut} : isDue node cycle w = true ↔ repeats node cycle w := by
  rw [isDue, repeats, cyclesSince, Bool.and_eq_true, Bool.and_eq_true, Bool.or_eq_true, decide_eq_true_iff, beq_iff_eq, beq_iff_eq,
    beq_iff_eq, and_assoc]

/-- The frames to a node that are due, sent again one after another. -/
def resent (s : State) (c : Cluster) (node : Nat) : State :=
  ((frnOf s c).svc.filter (isDue node (frnOf s c).cycle)).foldl (fun s w => sendSvc s c w) s

/-- The waiting frames with the cycle of their last sending. -/
def redated (f : FrnBlk) (node : Nat) : List SvcOut :=
  updAll (isDue node f.cycle) (fun w => { w with sentCycle := f.cycle }) f.svc

theorem resent_sentOnly (s : State) (c : Cluster) (node : Nat) : SentOnly s (resent s c node) := foldl_sendSvc_sentOnly c _ s

/-- The state once what is due to a node has been sent again. -/
def repeated (s : State) (c : Cluster) (node : Nat) : State :=
  setFrn (resent s c node) c fun f => { f with svc := redated (frnOf s c) node }

theorem configSetRepeat_eq (s : State) (c : Cluster) (node : Nat) :
    exec (.configSetRepeat c node) s = .next (repeated s c node) := by
  have hsame : repeated s c node = setFrn (resent s c node) c fun f => { f with
      svc := updAll (isDue node (frnOf s c).cycle) (fun w => { w with sentCycle := f.cycle }) f.svc } := by
    refine setFrn_congr ?_
    rw [(resent_sentOnly s c node).port c, redated]
  exact congrArg Host.Outcome.next hsame.symm

theorem repeated_mem {s : State} {c : Cluster} {ch : Chan} {node : Nat} {w : SvcOut} (h : Open c ch s)
    (hst : talks (frnOf s c).state) (hw : w ∈ (frnOf s c).svc) (hdue : repeats node (frnOf s c).cycle w) :
    .field c ch (svcBytes s c w ch) ∈ (repeated s c node).sent := by
  rw [repeated, setFrn_sent]
  exact foldl_sendSvc_mem h hst (List.mem_filter.mpr ⟨hw, isDue_iff.mpr hdue⟩)

/-- Where nothing is due nothing happens. -/
theorem repeated_none {s : State} {c : Cluster} {node : Nat} (h : ∀ w ∈ (frnOf s c).svc, ¬ repeats node (frnOf s c).cycle w) :
    repeated s c node = s := by
  have hnone : ∀ w ∈ (frnOf s c).svc, ¬ isDue node (frnOf s c).cycle w = true := fun w hw hdue => h w hw (isDue_iff.mp hdue)
  have hresent : resent s c node = s := by
    rw [resent, List.filter_eq_nil_iff.mpr hnone]
    rfl
  have hredated : redated (frnOf s c) node = (frnOf s c).svc :=
    (List.map_congr_left fun w hw => if_neg (hnone w hw)).trans (List.map_id _)
  rw [repeated, hresent, hredated]
  cases c <;> rfl

theorem repeated_length (s : State) (c : Cluster) (node : Nat) :
    (frnOf (repeated s c node) c).svc.length = (frnOf s c).svc.length := by
  rw [repeated, setFrn_same]
  exact List.length_map _

/-- The repetition changes the dates of the waiting frames, and what has left. -/
theorem repeated_frame (s : State) (c : Cluster) (node : Nat) : repeated s c node
    = { setFrn s c (fun f => { f with svc := (frnOf (repeated s c node) c).svc }) with sent := (repeated s c node).sent } := by
  have hsent := resent_sentOnly s c node
  unfold SentOnly at hsent
  rw [repeated, setFrn_same, setFrn_sent, hsent]
  cases c <;> rfl

/-! ## The order to restart -/

theorem ocfRestart_waits {s : State} {c : Cluster} {node : Nat} {b : NodeBlk} (hb : nodeOf? s c node = some b)
    (h : ¬ (b.ocfWant = true ∧ nodeQuiet s c node = true)) : exec (.ocfRestart c node) s = .next s := by
  simp only [exec, execOcfRestart, hb]
  exact if_neg (by rwa [Bool.and_eq_true])

/-- A node ordered to restart, with the configuration identifier of the package accepted; a refused one is tried again
(R231, R386). -/
def ordered (new : Option Nat) (b : NodeBlk) : NodeBlk :=
  { b with ocfWant := false, altCfg := new, state := if b.state = .refused then .absent else b.state }

theorem ocfRestart_orders {s : State} {c : Cluster} {node : Nat} {b : NodeBlk} (hb : nodeOf? s c node = some b)
    (h : b.ocfWant = true ∧ nodeQuiet s c node = true) : ∃ new,
      exec (.ocfRestart c node) s = .next (sendService (setNode s c node (ordered new)) c node 0x04 b.ocfPkg [])
      ∧ ∀ bank ids e, ocfImage? s b.ocfPkg = some bank → bank.content = .ocf ids → ids.find? (·.1 == node) = some e →
          new = some e.2 := by
  simp only [exec, execOcfRestart, hb]
  rw [if_pos (by rwa [Bool.and_eq_true])]
  refine ⟨_, rfl, fun bank ids e hbank hids hfind => ?_⟩
  rw [hbank, Option.bind_some, hids]
  exact congrArg (Option.map Prod.snd) hfind

end Sys2Proof.Proofs.ServiceFrames

/-! PROOFS. The statement about ranging and the answers to service frames as a whole. -/

namespace Sys2Proof.Proofs.RangingAndService

open Sys2Proof Sys2Proof.Machine Sys2Proof.Safety Sys2Proof.Proofs.Frames Sys2Proof.Proofs.FieldPorts
open Sys2Proof.Proofs.FieldTransmissions Sys2Proof.Proofs.Ranging Sys2Proof.Proofs.ServiceFrames

/-- A report of a package: what it shows, and what becomes of the frames that wait. -/
theorem ocfState_outcome {s : State} {c : Cluster} {data : Bytes} {w : SvcIn} {b : NodeBlk} (hw : parseSvc? data = some w)
    (hcode : w.code = 0x82) (hb : nodeOf? s c w.node = some b) :
    ∃ t b', exec (.ocfState c data) s = .next t ∧ nodeOf? t c w.node = some b' ∧ b'.ocfState = fieldAt w.content 12 1
      ∧ b'.ocfMissing = fieldAt w.content 8 4 ∧ b'.ocfReceived = fieldAt w.content 4 4 ∧ b'.ocfPkg = b.ocfPkg
      ∧ (b'.ocfWant = true ↔ b.ocfWant = true ∨ (fieldAt w.content 12 1 = 2 ∧ b.ocfPkg = fieldAt w.content 0 4))
      ∧ t.core = s.core ∧ t.cfg = s.cfg
      ∧ (2 ≤ fieldAt w.content 12 1 ∨ fieldAt w.content 8 4 = 0xFFFFFFFF ∨ b.ocfPkg ≠ fieldAt w.content 0 4 →
          (frnOf t c).svc = stillWaiting s c w ∧ t.sent = s.sent)
      ∧ (fieldAt w.content 12 1 ≤ 1 → fieldAt w.content 8 4 ≠ 0xFFFFFFFF → b.ocfPkg = fieldAt w.content 0 4 →
          ∀ bank, ocfImage? s (fieldAt w.content 0 4) = some bank → 3968 * fieldAt w.content 8 4 < bank.image.length →
          ∃ o, (frnOf t c).svc = stillWaiting s c w ++ [o] ∧ o.node = w.node ∧ o.code = 0x02 ∧ o.ref = fieldAt w.content 0 4
            ∧ o.content.drop 12 = (bank.image.drop (3968 * fieldAt w.content 8 4)).take 3968
            ∧ o.content.take 4 = be 4 (fieldAt w.content 8 4)) := by
  have hwant : (withReport w b).ocfWant = true ↔
      b.ocfWant = true ∨ (fieldAt w.content 12 1 = 2 ∧ b.ocfPkg = fieldAt w.content 0 4) := by
    simp [withReport]
  by_cases hasks : ∃ bank, AsksBlock s b w bank
  · obtain ⟨bank, hbank⟩ := hasks
    obtain ⟨⟨n, hnode⟩, hcore, hcfg, hsvc⟩ := sendOcfBlock_spec hb bank rfl
    have hsends := ocfState_sends hw hcode hb hbank
    obtain ⟨himage, hpkg, hst, hmissing, -⟩ := hbank
    refine ⟨_, _, hsends, hnode, rfl, rfl, rfl, rfl, hwant, hcore, hcfg, fun hquiet => ?_,
      fun _ _ _ bank' hbank' _ => ?_⟩
    · obtain hquiet | hquiet | hquiet := hquiet
      · omega
      · exact absurd hquiet hmissing
      · exact absurd hpkg hquiet
    · cases himage.symm.trans hbank'
      exact hsvc
  · obtain ⟨hnode, hsvc, -, hcore, hcfg, hsent⟩ := reported_spec hb
    refine ⟨_, _, ocfState_waits hw hcode hb (not_exists.mp hasks), hnode, rfl, rfl, rfl, rfl, hwant, hcore, hcfg,
      fun _ => ⟨hsvc, hsent⟩, fun hst hmissing hpkg bank himage hlong => ?_⟩
    have hblock : fieldAt w.content 8 4 < ocfCount bank.image := by
      unfold ocfCount
      omega
    exact absurd ⟨bank, himage, hpkg, hst, hmissing, hblock⟩ hasks

/-- The order to restart: the node awaits none, its new identifier is accepted, and the frame waits for its answer. -/
theorem ocfRestart_outcome {s : State} {c : Cluster} {node : Nat} {b : NodeBlk} (hb : nodeOf? s c node = some b)
    (hgo : b.ocfWant = true ∧ nodeQuiet s c node = true) : ∃ t k o, exec (.ocfRestart c node) s = .next t
      ∧ nodeOf? t c node = some k ∧ k.ocfWant = false
      ∧ (∀ bank ids e, ocfImage? s b.ocfPkg = some bank → bank.content = .ocf ids → ids.find? (·.1 == node) = some e →
          k.altCfg = some e.2)
      ∧ (frnOf t c).svc = (frnOf s c).svc ++ [o] ∧ o.node = node ∧ o.code = 0x04 ∧ o.ref = b.ocfPkg
      ∧ t.core = s.core ∧ t.cfg = s.cfg ∧ t.faults = s.faults := by
  obtain ⟨new, hexec, hnew⟩ := ocfRestart_orders hb hgo
  have hordered := nodeOf?_setNode_same (g := ordered new) (fun _ => rfl) hb
  obtain ⟨hnode, hsvc, hcore, hcfg, hfaults⟩ := sendService_spec hordered 0x04 b.ocfPkg []
  refine ⟨_, _, serviceOut (setNode s c node (ordered new)) c (ordered new b) node 0x04 b.ocfPkg [], hexec, hnode, rfl, hnew, ?_,
    rfl, rfl, rfl, hcore.trans (setFrn_core _ _ _), hcfg.trans (setFrn_cfg _ _ _), hfaults.trans (setNode_faults _ _ _ _)⟩
  rw [hsvc, setNode_same]

/-- Settles O56, command by command: a reply to a request by its form and its identifiers, the end of the window, each kind of
answer, the repetition of what is due, and the order to restart. -/
theorem rangingAndServiceAnswersAreTaken : Obligations.RangingAndServiceAnswersAreTaken := by
  unfold Obligations.RangingAndServiceAnswersAreTaken
  intro s c ch now
  refine ⟨fun p cyc data late hask => ⟨rangeReply_idle (ch := ch) hask, fun h sched cfgs hdata hreply hrec => ?_⟩,
    rangingWindowTimeout_idle (ch := ch), fun p cyc hask => ?_, fun data w hw => ?_, fun node => ?_, fun node b hb => ?_⟩
  · by_cases hgood : replyGood h sched cfgs late
    · obtain ⟨hasking, houtcome⟩ := accepted_outcome (later s now) c ch p (late / 2) (fieldAt h 16 4)
      exact ⟨_, rangeReply_accepts hask hdata hreply hrec hgood, hasking, fun _ => houtcome, fun hbad => absurd hgood hbad⟩
    · obtain ⟨hasking, houtcome⟩ := refused_outcome (v := later s now) (c := c) (ch := ch) (p := p) rfl
      exact ⟨_, rangeReply_refuses hask hdata hreply hrec hgood, hasking, fun h => absurd h hgood, fun _ => houtcome⟩
  · obtain ⟨hasking, hnode⟩ := unreplied_outcome s c ch p
    exact ⟨_, rangingWindowTimeout_ends hask, hasking, setFrn_sent _ _ _, setFrn_core _ _ _, setFrn_faults _ _ _, hnode⟩
  · have hanswered : answered s c w = setFrn s c fun f => { f with svc := stillWaiting s c w } := answered_eq s c w
    obtain ⟨hdiag, hother⟩ := diagReply_step (s := s) (c := c) hw
    have hack := ack_ends (s := s) (c := c) hw
    have hstops := ack_stops (s := s) (c := c) hw
    rw [hanswered] at hdiag hstops hack
    exact ⟨ack_other hw, hack, hstops, hdiag, hother, ocfState_other hw, fun hcode b hb => ocfState_outcome hw hcode hb⟩
  · refine ⟨_, configSetRepeat_eq s c node, fun w hw k hdue hlink hguard hmute hon hfollow hnosync => ?_, repeated_none,
      repeated_length s c node, repeated_frame s c node⟩
    have hsent := repeated_mem ⟨hlink, hguard, hmute⟩ ⟨hon, hfollow, hnosync⟩ hw hdue
    obtain ⟨rfl, -⟩ := hdue
    exact hsent
  · exact ⟨ocfRestart_waits hb, ocfRestart_outcome hb⟩

end Sys2Proof.Proofs.RangingAndService

/-! PROOFS. The inputs of the field side (R250 to R253, R266): filtering, discrepancies, counting pairs, comparators, shunt and
location tests, and the statement on them. -/

namespace Sys2Proof.Proofs.Inputs

open Sys2Proof Sys2Proof.Machine Sys2Proof.Safety Sys2Proof.Proofs.BarrierDown

/-! ## What a command on inputs leaves as it was -/

theorem getElem?_set_of_some {α : Type} {l : List α} {n : Nat} {a : α} (h : l[n]? = some a) (b : α) : (l.set n b)[n]? = some b :=
  List.getElem?_set_self (List.getElem?_eq_some_iff.mp h).1

/-- Of the module only the field side has changed, and of that no input but those of `ns`, no switch and not the hold state. -/
def InputsOnly (ns : List Nat) (v t : State) : Prop :=
  FieldFrame v t ∧ (∀ m, m ∉ ns → t.lio.field.ins[m]? = v.lio.field.ins[m]?) ∧ t.lio.field.outs = v.lio.field.outs
    ∧ t.lio.field.trips = v.lio.field.trips ∧ t.lio.field.hold = v.lio.field.hold

theorem setIn_some {f : FieldSide} {n : Nat} {i : InBlk} (hi : f.ins[n]? = some i) (g : InBlk → InBlk) :
    setIn f n g = { f with ins := f.ins.set n (g i) } := by
  simp only [setIn, hi]

theorem set_getElem?_outside {ins : List InBlk} {n m : Nat} (i : InBlk) (hm : m ∉ [n]) : (ins.set n i)[m]? = ins[m]? :=
  List.getElem?_set_ne (Ne.symm (List.ne_of_not_mem_cons hm))

/-- A channel's timing is no input and no switch (R251). -/
theorem channelTiming_eq (s : State) (n : Nat) : ∃ cs, channelTiming s n = updField s fun f => { f with chans := cs } := by
  unfold channelTiming
  dsimp only
  split
  · exact ⟨s.lio.field.chans, rfl⟩
  · unfold setChan updField
    dsimp only
    split
    · exact ⟨_, rfl⟩
    · exact ⟨s.lio.field.chans, rfl⟩

/-- An input takes its new state, and its channel's timing follows. -/
theorem setIn_timed {v : State} {n : Nat} {i : InBlk} (hi : v.lio.field.ins[n]? = some i) (g : InBlk → InBlk) :
    let t := channelTiming (updField v fun f => setIn f n g) n
    InputsOnly [n] v t ∧ t.lio.field.ins[n]? = some (g i) := by
  obtain ⟨cs, hcs⟩ := channelTiming_eq (updField v fun f => setIn f n g) n
  dsimp only
  rw [hcs, updField, updField, setIn_some hi]
  exact ⟨⟨rfl, fun m hm => set_getElem?_outside _ hm, rfl, rfl, rfl⟩, getElem?_set_of_some hi _⟩

theorem not_stopped {f : FieldSide} (h : fieldRuns f = true) : ¬ (!fieldRuns f) = true := by
  rw [h]
  decide

/-- What a command asks of a field side that runs and of a terminal that the variant has. -/
theorem not_refused {f : FieldSide} {n k : Nat} (h : fieldRuns f = true) (hn : n < k) : ¬ ((!fieldRuns f) = true ∨ k ≤ n) :=
  not_or.mpr ⟨not_stopped h, Nat.not_le.mpr hn⟩

/-! ## INPUT_CHANGE and FILT_EXPIRY (R250) -/

/-- An input when the level at its terminal changes. -/
def changed (v : State) (n : Nat) (level : Bool) (i : InBlk) : InBlk :=
  let read := { i with level := level, cmp1 := level, cmp2 := level, disSince := none }
  if isCounting (inputCfg v n).mode then { read with value := level }
  else if level = restrReading v n ∨ (inputCfg v n).filt = 0 then { read with value := level, since := none }
  else if i.value = level then read
  else { read with since := some (i.since.getD v.now) }

theorem changed_reads (v : State) (n : Nat) (level : Bool) (i : InBlk) : let k := changed v n level i
    k.level = level ∧ k.cmp1 = level ∧ k.cmp2 = level := by
  unfold changed
  dsimp only
  split_ifs <;> exact ⟨rfl, rfl, rfl⟩

theorem changed_at_once {v : State} {n : Nat} {level : Bool} (i : InBlk) (h : isCounting (inputCfg v n).mode = true
      ∨ level = restrReading v n ∨ (inputCfg v n).filt = 0) : (changed v n level i).value = level := by
  unfold changed
  dsimp only
  split
  · rfl
  next hcount => rw [if_pos (h.resolve_left hcount)]

theorem changed_waits {v : State} {n : Nat} {level : Bool} {i : InBlk} (hcount : isCounting (inputCfg v n).mode = false)
    (hperm : level ≠ restrReading v n) (hfilt : (inputCfg v n).filt ≠ 0) (hvalue : i.value ≠ level) :
    (changed v n level i).value = i.value ∧ (changed v n level i).since = some (i.since.getD v.now) := by
  rw [changed, if_neg (by simp [hcount]), if_neg (by simp [hperm, hfilt]), if_neg hvalue]
  exact ⟨rfl, rfl⟩

section
variable {s : State} {now n : Nat} {i : InBlk}

theorem exec_inputChange (hruns : fieldRuns (later s now).lio.field = true) (hn : n < nInputs (later s now)) (level : Bool) :
    exec (.inputChange n level now) s = .next (channelTiming (updField (later s now) fun f =>
      setIn f n (changed (later s now) n level)) n) := by
  show execInputChange n level now s = _
  unfold execInputChange
  dsimp only
  rw [if_neg (not_refused hruns hn)]
  rfl

theorem exec_filtExpiry {a : Nat} (hi : (later s now).lio.field.ins[n]? = some i) (ha : i.since = some a) : let v := later s now
    exec (.filtExpiry n now) s = if a + 250 * (inputCfg v n).filt ≤ v.now
      then .next (channelTiming (updField v fun f => setIn f n fun i => { i with value := i.level, since := none }) n)
      else .next v := by
  show execFiltExpiry n now s = _
  unfold execFiltExpiry
  simp only [hi, ha]

end

/-! ## Discrepancies (R251) -/

theorem faultChannel_eq {f : FieldSide} {k : Nat} {i j : InBlk} (hi : f.ins[2 * k]? = some i) (hj : f.ins[2 * k + 1]? = some j)
    (on : Bool) : faultChannel f k on
      = { f with ins := (f.ins.set (2 * k) { i with discFault := on }).set (2 * k + 1) { j with discFault := on } } := by
  unfold faultChannel
  rw [setIn_some hi, setIn_some ((List.getElem?_set_ne (by omega)).trans hj)]

/-- Both inputs of a channel take the fault or lose it, and nothing else changes. -/
theorem faultChannel_both {v : State} {k : Nat} {i j : InBlk} (hi : v.lio.field.ins[2 * k]? = some i)
    (hj : v.lio.field.ins[2 * k + 1]? = some j) (on : Bool) : let t := updField v fun f => faultChannel f k on
    InputsOnly [2 * k, 2 * k + 1] v t ∧ t.lio.field.ins[2 * k]? = some { i with discFault := on }
      ∧ t.lio.field.ins[2 * k + 1]? = some { j with discFault := on } := by
  dsimp only
  rw [updField, faultChannel_eq hi hj]
  refine ⟨⟨rfl, fun m hm => ?_, rfl, rfl, rfl⟩, ?_, getElem?_set_of_some ((List.getElem?_set_ne (by omega)).trans hj) _⟩
  · rw [List.mem_cons, not_or] at hm
    exact (set_getElem?_outside _ hm.2).trans (List.getElem?_set_ne (Ne.symm hm.1))
  · exact (List.getElem?_set_ne (by omega)).trans (getElem?_set_of_some hi _)

section
variable {s : State} {now k a : Nat} {ch : ChanBlk} (hch : (later s now).lio.field.chans[k]? = some ch)
include hch

theorem exec_discrepancyExpiry (ha : ch.disSince = some a) : let v := later s now
    exec (.discrepancyExpiry k now) s = if a + 10000 * (inputCfg v (2 * k)).disc ≤ v.now
      then .next (updField v fun f => faultChannel f k true) else .next v := by
  show execDiscrepancyExpiry k now s = _
  unfold execDiscrepancyExpiry
  simp only [hch, Option.bind_some, ha]

theorem exec_discrepancyFaultClear (ha : ch.restrSince = some a) : let v := later s now
    exec (.discrepancyFaultClear k now) s = if a + 1000000 ≤ v.now
      then .next (updField v fun f => faultChannel f k false) else .next v := by
  show execDiscrepancyFaultClear k now s = _
  unfold execDiscrepancyFaultClear
  simp only [hch, Option.bind_some, ha]

end

/-! ## Counting pairs (R252) -/

/-- A passage from the first contact to the second counts once in direction 0. -/
theorem passage_forward {b : PairBlk} (hcur : b.cur = (false, false)) (hentry : b.entry = none) (hbad : b.bad = false)
    {d1 d2 d3 d4 : Nat} (h1 : 16 ≤ d1) (h2 : 16 ≤ d2) (h3 : 16 ≤ d3) (h4 : 16 ≤ d4) :
    [(true, false, d1), (true, true, d2), (false, true, d3), (false, false, d4)].foldl (pairSample .paired) b
      = { b with cnt0 := (b.cnt0 + 1) % 65536 } := by
  obtain ⟨cur, entry, bad, cnt0, cnt1, seqe⟩ := b
  subst hcur hentry hbad
  simp [pairSample, Nat.not_lt.mpr h1, Nat.not_lt.mpr h2, Nat.not_lt.mpr h3, Nat.not_lt.mpr h4]

/-- A passage from the second contact to the first counts once in direction 1. -/
theorem passage_backward {b : PairBlk} (hcur : b.cur = (false, false)) (hentry : b.entry = none) (hbad : b.bad = false)
    {d1 d2 d3 d4 : Nat} (h1 : 16 ≤ d1) (h2 : 16 ≤ d2) (h3 : 16 ≤ d3) (h4 : 16 ≤ d4) :
    [(false, true, d1), (true, true, d2), (true, false, d3), (false, false, d4)].foldl (pairSample .paired) b
      = { b with cnt1 := (b.cnt1 + 1) % 65536 } := by
  obtain ⟨cur, entry, bad, cnt0, cnt1, seqe⟩ := b
  subst hcur hentry hbad
  simp [pairSample, Nat.not_lt.mpr h1, Nat.not_lt.mpr h2, Nat.not_lt.mpr h3, Nat.not_lt.mpr h4]

/-- Both levels at once, or a level that lasted less than 16 µs: a sequence error, and nothing counts. -/
theorem sample_error {b : PairBlk} (mode : InMode) (hcur : b.cur = (false, false)) {x y : Bool} {d : Nat}
    (hmove : (x, y) ≠ (false, false)) (herr : d < 16 ∨ (x, y) = (true, true)) : let h := pairSample mode b (x, y, d)
    h.seqe = (b.seqe + 1) % 256 ∧ h.bad = true ∧ h.cnt0 = b.cnt0 ∧ h.cnt1 = b.cnt1 := by
  obtain ⟨cur, entry, bad, cnt0, cnt1, seqe⟩ := b
  subst hcur
  obtain hshort | hboth := herr
  · have haway : x = true ∨ y = true := by
      cases x
      · simpa using hmove
      · exact .inl rfl
    simp [pairSample, hmove, hshort, haway]
  · cases hboth
    simp [pairSample]

/-- A pair counted singly counts the rising level of either contact. -/
theorem single_rises {b : PairBlk} (hcur : b.cur = (false, false)) (hbad : b.bad = false) {d : Nat} (hd : 16 ≤ d) :
    let g := pairSample .countSingle b (true, false, d)
    let h := pairSample .countSingle b (false, true, d)
    (g.cnt0 = (b.cnt0 + 1) % 65536 ∧ g.cnt1 = b.cnt1 ∧ g.seqe = b.seqe)
      ∧ h.cnt1 = (b.cnt1 + 1) % 65536 ∧ h.cnt0 = b.cnt0 ∧ h.seqe = b.seqe := by
  simp [pairSample, hcur, hbad, Nat.not_lt.mpr hd]

section
variable {s : State} {now k : Nat}

/-- The samples go through the pair's decoder, and only the pair changes. -/
theorem axleCount_counts {b : PairBlk} (hruns : fieldRuns (later s now).lio.field = true) (hk : k < nPairs (later s now))
    (hb : (later s now).lio.field.pairs[k]? = some b) {mode : InMode} (hmode : (inputCfg (later s now) (2 * k)).mode = mode)
    (hcount : isCounting mode = true) (levels : List (Bool × Bool × Nat)) :
    ∃ t, exec (.axleCount k levels now) s = .next t ∧ InputsOnly [] (later s now) t
      ∧ t.lio.field.pairs[k]? = some (levels.foldl (pairSample mode) b) := by
  have hexec : exec (.axleCount k levels now) s = .next (updField (later s now) fun f =>
      { f with pairs := f.pairs.set k (levels.foldl (pairSample mode) b) }) := by
    show execAxleCount k levels now s = _
    unfold execAxleCount
    dsimp only
    rw [hmode, if_neg (not_or.mpr ⟨not_stopped hruns, not_or.mpr ⟨Nat.not_le.mpr hk, by rw [hcount]; decide⟩⟩)]
    simp only [hb]
  exact ⟨_, hexec, ⟨rfl, fun _ _ => rfl, rfl, rfl, rfl⟩, getElem?_set_of_some hb _⟩

theorem axleCount_stays (levels : List (Bool × Bool × Nat)) (h : isCounting (inputCfg (later s now) (2 * k)).mode = false) :
    exec (.axleCount k levels now) s = .next (later s now) := by
  show execAxleCount k levels now s = _
  unfold execAxleCount
  exact if_pos (by simp [h])

end

/-! ## COMPARATOR_DISAGREEMENT (R252, R253) -/

/-- The bank fault bit faults every input of the bank until a location test finishes. -/
theorem inputFault_of_bank {f : FieldSide} {m : Nat} (hibf : f.ibf[m / 8]? = some true) (htest : f.ibTested[m / 8]? = some false) :
    inputFault f m = true := by
  simp [inputFault, hibf, htest]

/-- The field side where the comparators of an input disagree: its bank is faulted and not yet tested. -/
def disagreed (n : Nat) (f : FieldSide) : FieldSide :=
  setIn { f with ibf := f.ibf.set (n / 8) true, ibTested := f.ibTested.set (n / 8) false } n fun i => { i with cmp2 := !i.cmp1 }

theorem disagreed_eq {f : FieldSide} {n : Nat} {i : InBlk} (hi : f.ins[n]? = some i) : disagreed n f
    = { f with ibf := f.ibf.set (n / 8) true, ibTested := f.ibTested.set (n / 8) false
               ins := f.ins.set n { i with cmp2 := !i.cmp1 } } :=
  setIn_some (f := { f with ibf := f.ibf.set (n / 8) true, ibTested := f.ibTested.set (n / 8) false }) hi _

theorem disagreed_pairs {f : FieldSide} {n : Nat} {i : InBlk} (hi : f.ins[n]? = some i) : (disagreed n f).pairs = f.pairs := by
  rw [disagreed_eq hi]

/-- The sequence error of the pair of a counting input. -/
def pairDisturbed (k : Nat) (f : FieldSide) : FieldSide :=
  match f.pairs[k]? with
  | some p => { f with pairs := f.pairs.set k { p with seqe := (p.seqe + 1) % 256, bad := true } }
  | none => f

theorem pairDisturbed_some {f : FieldSide} {k : Nat} {p : PairBlk} (h : f.pairs[k]? = some p) :
    pairDisturbed k f = { f with pairs := f.pairs.set k { p with seqe := (p.seqe + 1) % 256, bad := true } } := by
  simp only [pairDisturbed, h]

theorem pairDisturbed_eq (k : Nat) (f : FieldSide) : ∃ ps, pairDisturbed k f = { f with pairs := ps } := by
  unfold pairDisturbed
  split
  · exact ⟨_, rfl⟩
  · exact ⟨f.pairs, rfl⟩

/-- What a disagreement does to its input's bank, whatever becomes of the pairs. -/
structure BankFaulted (n : Nat) (v t : State) : Prop where
  only : InputsOnly [n] v t
  ibf : t.lio.field.ibf = v.lio.field.ibf.set (n / 8) true
  ibTested : t.lio.field.ibTested = v.lio.field.ibTested.set (n / 8) false

theorem disagreed_faults {v : State} {n : Nat} {i : InBlk} (hi : v.lio.field.ins[n]? = some i) (ps : List PairBlk) :
    BankFaulted n v (updField v fun f => { disagreed n f with pairs := ps }) := by
  rw [updField, disagreed_eq hi]
  exact ⟨⟨rfl, fun m hm => set_getElem?_outside _ hm, rfl, rfl, rfl⟩, rfl, rfl⟩

theorem BankFaulted.inputFault {n : Nat} {v t : State} (h : BankFaulted n v t) (hibf : n / 8 < v.lio.field.ibf.length)
    (htest : n / 8 < v.lio.field.ibTested.length) {m : Nat} (hm : m / 8 = n / 8) : inputFault t.lio.field m = true :=
  inputFault_of_bank (by rw [h.ibf, hm, List.getElem?_set_self hibf]) (by rw [h.ibTested, hm, List.getElem?_set_self htest])

theorem bank_lt_four {s : State} {n : Nat} (h : n < nInputs s) : n / 8 < 4 := by
  unfold nInputs at h
  split at h <;> omega

section
variable {s : State} {now n : Nat} {i : InBlk} (hruns : fieldRuns (later s now).lio.field = true) (hn : n < nInputs (later s now))
  (hi : (later s now).lio.field.ins[n]? = some i)
include hruns hn hi

theorem comparatorDisagreement_counting (hcount : isCounting (inputCfg (later s now) n).mode = true) :
    ∃ t, exec (.comparatorDisagreement n now) s = .next t ∧ BankFaulted n (later s now) t
      ∧ ∀ b, (later s now).lio.field.pairs[n / 2]? = some b →
          t.lio.field.pairs[n / 2]? = some { b with seqe := (b.seqe + 1) % 256, bad := true } := by
  have hexec : exec (.comparatorDisagreement n now) s
      = .next (updField (later s now) fun f => pairDisturbed (n / 2) (disagreed n f)) := by
    show execComparatorDisagreement n now s = _
    unfold execComparatorDisagreement
    dsimp only
    rw [if_neg (not_refused hruns hn), if_pos hcount]
    rfl
  refine ⟨_, hexec, ?_, fun b hb => ?_⟩
  · obtain ⟨ps, hps⟩ := pairDisturbed_eq (n / 2) (disagreed n (later s now).lio.field)
    rw [updField, hps]
    exact disagreed_faults hi ps
  · have hpairs := (congrArg (·[n / 2]?) (disagreed_pairs hi)).trans hb
    rw [updField, pairDisturbed_some hpairs]
    exact getElem?_set_of_some hpairs _

theorem comparatorDisagreement_other (hcount : isCounting (inputCfg (later s now) n).mode = false) :
    ∃ t, exec (.comparatorDisagreement n now) s = .next t ∧ BankFaulted n (later s now) t
      ∧ t.lio.field.pairs = (later s now).lio.field.pairs := by
  have hexec : exec (.comparatorDisagreement n now) s = .next (updField (later s now) (disagreed n)) := by
    show execComparatorDisagreement n now s = _
    unfold execComparatorDisagreement
    dsimp only
    rw [if_neg (not_refused hruns hn), if_neg (by simp [hcount])]
    rfl
  exact ⟨_, hexec, disagreed_faults hi (disagreed n (later s now).lio.field).pairs, disagreed_pairs hi⟩

end

/-! ## SHUNT_TEST and LOCATION_TEST (R253, R266) -/

section
variable {s : State} {n : Nat}

theorem shuntTest_keeps {ok : Bool} (h : s.lio.field.locating = some (n / 8) ∨ ok = true) : exec (.shuntTest n ok) s = .next s :=
  if_pos (.inr (.inr h))

theorem shuntTest_fails {i : InBlk} (hruns : fieldRuns s.lio.field = true) (hn : n < nInputs s) (hi : s.lio.field.ins[n]? = some i)
    (hloc : s.lio.field.locating ≠ some (n / 8)) : exec (.shuntTest n false) s = .next { s with lio := { s.lio with
      field := { s.lio.field with ins := s.lio.field.ins.set n { i with shuntFault := true } } } } := by
  have hgo : ¬ ((!fieldRuns s.lio.field) = true ∨ nInputs s ≤ n ∨ s.lio.field.locating = some (n / 8) ∨ false = true) := by
    simp [hruns, hn, hloc]
  refine (if_neg hgo).trans (congrArg Host.Outcome.next ?_)
  rw [updField, setIn_some hi]

end

/-- The inputs of the bank that a location test finds. -/
def found (bank : Nat) (bad : List Nat) : List Nat := bad.filter fun n => n / 8 == bank

theorem found_isEmpty (bank : Nat) (bad : List Nat) : (found bank bad).isEmpty = true ↔ ∀ n ∈ bad, n / 8 ≠ bank := by
  simp [found]

theorem found_contains (bank : Nat) (bad : List Nat) (n : Nat) :
    (found bank bad).contains n = decide (n ∈ bad ∧ n / 8 = bank) := by
  simp [found]

/-- The field side after a location test that has finished. -/
def locatedIn (bank : Nat) (bad : List Nat) (f : FieldSide) : FieldSide :=
  { f with locating := none, tresBank := bank, tres := if (found bank bad).isEmpty then 0 else 1
           ibTested := f.ibTested.set bank true
           ibf := if (found bank bad).isEmpty then f.ibf.set bank false else f.ibf
           ins := f.ins.zipIdx.map fun p => if (found bank bad).contains p.2 then { p.1 with located := true } else p.1 }

theorem locatedIn_ins {f : FieldSide} {n : Nat} {i : InBlk} (bank : Nat) (bad : List Nat) (hi : f.ins[n]? = some i) :
    (locatedIn bank bad f).ins[n]? = some { i with located := i.located || decide (n ∈ bad ∧ n / 8 = bank) } := by
  rw [locatedIn, zipIdx_map_getElem?, hi, Option.map_some, found_contains]
  split
  next h => rw [h, Bool.or_true]
  next h => rw [Bool.eq_false_iff.mpr h, Bool.or_false]

/-- A test that finds nothing clears its bank; one that finds an input leaves the bank fault bit. -/
theorem locatedIn_result (bank : Nat) (bad : List Nat) (f : FieldSide) :
    ((∀ n ∈ bad, n / 8 ≠ bank) → (locatedIn bank bad f).tres = 0 ∧ (locatedIn bank bad f).ibf = f.ibf.set bank false)
      ∧ ((∃ n ∈ bad, n / 8 = bank) → (locatedIn bank bad f).tres = 1 ∧ (locatedIn bank bad f).ibf = f.ibf) := by
  constructor
  · intro hnone
    have hempty := (found_isEmpty bank bad).mpr hnone
    exact ⟨if_pos hempty, if_pos hempty⟩
  · rintro ⟨n, hn, hbank⟩
    have hfull : ¬ (found bank bad).isEmpty = true := fun h => (found_isEmpty bank bad).mp h n hn hbank
    exact ⟨if_neg hfull, if_neg hfull⟩

section
variable {s : State} {bank : Nat}

theorem locationTest_idle (bad : List Nat) (aborted : Bool) (h : s.lio.field.locating ≠ some bank) :
    exec (.locationTest bank bad aborted) s = .next s := if_pos (.inr h)

theorem exec_locationTest (hruns : fieldRuns s.lio.field = true) (hloc : s.lio.field.locating = some bank) (bad : List Nat)
    (aborted : Bool) : exec (.locationTest bank bad aborted) s = .next (updField s fun f =>
      if aborted = true then { f with locating := none, tresBank := bank, tres := 2 } else locatedIn bank bad f) := by
  show execLocationTest bank bad aborted s = _
  unfold execLocationTest
  rw [if_neg (by simp [hruns, hloc])]
  cases aborted <;> rfl

end

/-- Settles O58, command by command: the level and its filter, the discrepancies, the pairs' decoders, the comparators, and the shunt
and location tests. -/
theorem inputsAreFilteredCountedAndTested : Obligations.InputsAreFilteredCountedAndTested := by
  unfold Obligations.InputsAreFilteredCountedAndTested
  intro s now v f only
  refine ⟨fun hruns n i level hn hi => ?_, fun n i a hi ha => ⟨fun h => ?_, fun h => ?_⟩, fun k ch i j hch hi hj => ?_,
    fun hruns k b hk hb hmode hcur hentry hbad => ⟨fun d1 d2 d3 d4 h1 h2 h3 h4 => ?_, fun x y d hmove herr => ?_⟩,
    fun hruns k b d hk hb hmode hcur hbad hd => ?_, fun k levels => axleCount_stays levels,
    fun hruns n i hn hi hibf htest => ?_,
    fun hruns n i hn hi => ⟨fun h => shuntTest_keeps (.inl h), shuntTest_keeps (.inr rfl), shuntTest_fails hruns hn hi⟩,
    fun hruns bank bad => ⟨fun h aborted => locationTest_idle bad aborted h, fun hloc =>
      ⟨exec_locationTest hruns hloc bad true, _, exec_locationTest hruns hloc bad false, rfl, rfl, rfl,
        fun n i => locatedIn_ins bank bad, (locatedIn_result bank bad _).1, (locatedIn_result bank bad _).2, rfl⟩⟩⟩
  · obtain ⟨honly, hins⟩ := setIn_timed hi (changed v n level)
    obtain ⟨hlevel, hcmp1, hcmp2⟩ := changed_reads v n level i
    exact ⟨_, _, exec_inputChange hruns hn level, honly, hins, hlevel, hcmp1, hcmp2, changed_at_once i, changed_waits⟩
  · exact (exec_filtExpiry hi ha).trans (if_neg (Nat.not_le.mpr h))
  · exact ⟨_, (exec_filtExpiry hi ha).trans (if_pos h), setIn_timed hi _⟩
  · intro both
    exact ⟨fun a ha => ⟨fun h => (exec_discrepancyExpiry hch ha).trans (if_neg (Nat.not_le.mpr h)),
        fun h => ⟨_, (exec_discrepancyExpiry hch ha).trans (if_pos h), faultChannel_both hi hj true⟩⟩,
      fun a ha => ⟨fun h => (exec_discrepancyFaultClear hch ha).trans (if_neg (Nat.not_le.mpr h)),
        fun h => ⟨_, (exec_discrepancyFaultClear hch ha).trans (if_pos h), faultChannel_both hi hj false⟩⟩⟩
  · have hcounts := axleCount_counts hruns hk hb hmode rfl
    exact ⟨passage_forward hcur hentry hbad h1 h2 h3 h4 ▸ hcounts _, passage_backward hcur hentry hbad h1 h2 h3 h4 ▸ hcounts _⟩
  · obtain ⟨t, hexec, honly, hpair⟩ := axleCount_counts hruns hk hb hmode rfl [(x, y, d)]
    exact ⟨t, _, hexec, honly, hpair, sample_error .paired hcur hmove herr⟩
  · obtain ⟨hfirst, hsecond⟩ := single_rises hcur hbad hd
    obtain ⟨t, hexec, honly, hpair⟩ := axleCount_counts hruns hk hb hmode rfl [(true, false, d)]
    obtain ⟨u, hexec', honly', hpair'⟩ := axleCount_counts hruns hk hb hmode rfl [(false, true, d)]
    exact ⟨⟨t, _, hexec, honly, hpair, hfirst⟩, u, _, hexec', honly', hpair', hsecond⟩
  · have hbank := bank_lt_four hn
    cases hcount : isCounting (inputCfg v n).mode with
    | true =>
      obtain ⟨t, hexec, hfault, hpairs⟩ := comparatorDisagreement_counting hruns hn hi hcount
      exact ⟨t, hexec, hfault.only, fun m => hfault.inputFault (hibf ▸ hbank) (htest ▸ hbank), hfault.ibf, hfault.ibTested,
        fun _ => hpairs, nofun⟩
    | false =>
      obtain ⟨t, hexec, hfault, hpairs⟩ := comparatorDisagreement_other hruns hn hi hcount
      exact ⟨t, hexec, hfault.only, fun m => hfault.inputFault (hibf ▸ hbank) (htest ▸ hbank), hfault.ibf, hfault.ibTested,
        nofun, fun _ => hpairs⟩

end Sys2Proof.Proofs.Inputs

/-! PROOFS. The outputs and trip channels of the field side and its supply (R248, R257 to R263, R442): what a failed test, a fault, a
short, a sag, a lost supply or converter and the end of the restart tests make of the switches, and the statement on them. -/

namespace Sys2Proof.Proofs.Outputs

open Sys2Proof Sys2Proof.Machine Sys2Proof.Safety Sys2Proof.Proofs.BarrierDown Sys2Proof.Proofs.Inputs

/-! ## What keeps a switch open (R254, R259) -/

theorem outOn_of_locked {f : FieldSide} {n : Nat} {o : OutBlk} (ho : f.outs[n]? = some o) (hlock : o.locked = true) :
    outOn f n = false := by
  simp [outOn, ho, hlock]

theorem tripOn_of_locked {f : FieldSide} {c : Nat} {b : TripBlk} (hb : f.trips[c]? = some b) (hlock : b.locked = true) :
    tripOn f c = false := by
  simp [tripOn, hb, hlock]

theorem outOn_of_group {f : FieldSide} {n : Nat} (h : groupOk f (n / 8) = false) : outOn f n = false := by
  refine Bool.eq_false_iff.mpr fun hon => ?_
  obtain ⟨-, -, -, -, -, -, hgroup, -⟩ := (outOn_iff f n).mp hon
  exact absurd hgroup (Bool.eq_false_iff.mp h)

theorem setOutAt_some {f : FieldSide} {n : Nat} {o : OutBlk} (ho : f.outs[n]? = some o) (g : OutBlk → OutBlk) :
    setOutAt f n g = { f with outs := f.outs.set n (g o) } := by
  simp only [setOutAt, ho]

theorem setTripAt_some {f : FieldSide} {c : Nat} {b : TripBlk} (hb : f.trips[c]? = some b) (g : TripBlk → TripBlk) :
    setTripAt f c g = { f with trips := f.trips.set c (g b) } := by
  simp only [setTripAt, hb]

theorem not_open {f : FieldSide} {k : Nat} (h : groupOk f k = true) : ¬ (!groupOk f k) = true := by
  rw [h]
  decide

theorem already_open {f : FieldSide} {k : Nat} (h : groupOk f k = false) : (!groupOk f k) = true := by
  rw [h]
  rfl

/-- Every other output and every trip channel is as it was. -/
def OtherSwitches (n : Nat) (f g : FieldSide) : Prop := (∀ m, m ≠ n → g.outs[m]? = f.outs[m]?) ∧ g.trips = f.trips

theorem setOutAt_others {f : FieldSide} {n : Nat} {o : OutBlk} (ho : f.outs[n]? = some o) (g : OutBlk → OutBlk) :
    (setOutAt f n g).outs[n]? = some (g o) ∧ OtherSwitches n f (setOutAt f n g) := by
  rw [setOutAt_some ho]
  exact ⟨getElem?_set_of_some ho _, fun m hm => List.getElem?_set_ne hm.symm, rfl⟩

/-- An output of code 3 is locked off, and it is the last that was at fault. -/
theorem lockOut_locks {f : FieldSide} {n : Nat} {o : OutBlk} (ho : f.outs[n]? = some o) : let g := lockOut f n
    g.outs[n]? = some { o with app := false, locked := true, code := 3 } ∧ OtherSwitches n f g ∧ outOn g n = false
      ∧ g.oflt = (n, 3) := by
  obtain ⟨hout, hothers⟩ := setOutAt_others ho fun o => { o with app := false, locked := true, code := 3 }
  exact ⟨hout, hothers, outOn_of_locked hout rfl, rfl⟩

/-! ## OFF_PULSE and OUTPUT_FAULT (R257, R259) -/

theorem bank_of_output {s : State} {n : Nat} (h : n < nOutputs s) : n / 8 = 0 ∨ n / 8 = 1 := by
  unfold nOutputs at h
  split at h <;> omega

/-- The group switch of an output's bank opens, and with it every output of the bank. -/
theorem openGroup_bank {f : FieldSide} {n : Nat} (now : Nat) (hbank : n / 8 = 0 ∨ n / 8 = 1) : let g := openGroup now (n / 8) n f
    groupOk g (n / 8) = false ∧ (∀ m, m / 8 = n / 8 → outOn g m = false)
      ∧ (n < 8 → g.openAt0 = some now ∧ g.openOut0 = some n) ∧ (8 ≤ n → g.openAt1 = some now ∧ g.openOut1 = some n) := by
  intro g
  have hopen : groupOk g (n / 8) = false := by
    obtain h | h := hbank <;> simp only [g, h] <;> rfl
  refine ⟨hopen, fun m hm => outOn_of_group (hm ▸ hopen), fun hn => ?_, fun hn => ?_⟩
  · have h : n / 8 = 0 := by omega
    simp only [g, h]
    exact ⟨rfl, rfl⟩
  · have h : n / 8 = 1 := by omega
    simp only [g, h]
    exact ⟨rfl, rfl⟩

section
variable {s : State} {now n : Nat} {o : OutBlk} (hruns : fieldRuns (later s now).lio.field = true)
  (hn : n < nOutputs (later s now)) (ho : (later s now).lio.field.outs[n]? = some o)
include hruns hn

theorem exec_offPulse (ok : Bool) : let v := later s now
    let u := { v with sent := v.sent ++ [.switchTest n] }
    exec (.offPulse n ok now) s = if ok = true then .next u else .next (updField u fun f => lockOut f n) :=
  if_neg (not_refused hruns hn)

theorem outputFault_switch (hgroup : groupOk (later s now).lio.field (n / 8) = true) :
    exec (.outputFault n false false now) s = .next (updField (later s now) fun f => lockOut f n) :=
  (if_neg (not_refused hruns hn)).trans (if_neg (not_open hgroup))

theorem outputFault_short (hgroup : groupOk (later s now).lio.field (n / 8) = true) :
    exec (.outputFault n false true now) s = .next (updField (later s now) (openGroup (later s now).now (n / 8) n)) :=
  (if_neg (not_refused hruns hn)).trans (if_neg (not_open hgroup))

include ho

/-- In a bank that is open already a fault is recorded, and no more. -/
theorem outputFault_recorded (hgroup : groupOk (later s now).lio.field (n / 8) = false) (short : Bool) : let v := later s now
    exec (.outputFault n false short now) s
      = .next { v with lio := { v.lio with field := { v.lio.field with oflt := (n, o.code) } } } := by
  refine ((if_neg (not_refused hruns hn)).trans (if_pos (already_open hgroup))).trans (congrArg Host.Outcome.next ?_)
  rw [if_neg (by decide), updField, ho]
  rfl

end

/-! ## Trip channels (R259, R261, R262) -/

/-- A trip channel locked off. -/
def lockedTrip (b : TripBlk) : TripBlk := { b with f1 := false, f2 := false, app := false, locked := true }

/-- The field side with another trip channel in place `c`. -/
def withTrip (c : Nat) (b : TripBlk) (f : FieldSide) : FieldSide := { f with trips := f.trips.set c b }

theorem withTrip_locked_off {f : FieldSide} {c : Nat} {b : TripBlk} (hb : f.trips[c]? = some b) :
    tripOn (withTrip c (lockedTrip b) f) c = false :=
  tripOn_of_locked (getElem?_set_of_some hb _) rfl

theorem updField_setTripAt {v : State} {c : Nat} {b : TripBlk} (hb : v.lio.field.trips[c]? = some b) (g : TripBlk → TripBlk) :
    updField v (fun f => setTripAt f c g) = updField v (withTrip c (g b)) := by
  rw [updField, setTripAt_some hb]
  rfl

section
variable {s : State} {now c : Nat} {b : TripBlk} (hruns : fieldRuns (later s now).lio.field = true)
  (hc : c < nTrips (later s now)) (hb : (later s now).lio.field.trips[c]? = some b)
include hruns hc

theorem tripTest_passes : exec (.tripChannelTest c .pass now) s = .next (later s now) := if_neg (not_refused hruns hc)

theorem tripFault_short (hgroup : groupOk (later s now).lio.field 2 = true) :
    exec (.outputFault c true true now) s = .next (updField (later s now) (openGroup (later s now).now 2 c)) :=
  (if_neg (not_refused hruns hc)).trans (if_neg (not_open hgroup))

theorem tripFault_nothing (hgroup : groupOk (later s now).lio.field 2 = false) (short : Bool) :
    exec (.outputFault c true short now) s = .next (later s now) :=
  (if_neg (not_refused hruns hc)).trans (if_pos (already_open hgroup))

include hb

theorem tripFault_locks (hgroup : groupOk (later s now).lio.field 2 = true) :
    exec (.outputFault c true false now) s = .next (updField (later s now) (withTrip c (lockedTrip b))) :=
  ((if_neg (not_refused hruns hc)).trans (if_neg (not_open hgroup))).trans
    (congrArg Host.Outcome.next (updField_setTripAt hb lockedTrip))

theorem tripTest_locks : exec (.tripChannelTest c .locked now) s = .next (updField (later s now) (withTrip c (lockedTrip b))) :=
  (if_neg (not_refused hruns hc)).trans (congrArg Host.Outcome.next (updField_setTripAt hb lockedTrip))

theorem exec_tripTest_degraded : exec (.tripChannelTest c .degraded now) s
    = .next (updField (later s now) (withTrip c (if b.degraded = true then b else
        { b with degraded := true, degSince := some (later s now).now, locked := b.locked || !tripOn (later s now).lio.field c }))) :=
  (if_neg (not_refused hruns hc)).trans (congrArg Host.Outcome.next (updField_setTripAt hb _))

theorem tripTest_again (hdeg : b.degraded = true) : exec (.tripChannelTest c .degraded now) s = .next (later s now) := by
  obtain ⟨hlt, hget⟩ := List.getElem?_eq_some_iff.mp hb
  rw [exec_tripTest_degraded hruns hc hb, if_pos hdeg, updField, withTrip, ← hget, List.set_getElem_self]

theorem tripTest_degrades (hdeg : b.degraded = false) : exec (.tripChannelTest c .degraded now) s
    = .next (updField (later s now) (withTrip c
        { b with degraded := true, degSince := some (later s now).now, locked := b.locked || !tripOn (later s now).lio.field c })) := by
  rw [exec_tripTest_degraded hruns hc hb, if_neg (by simp [hdeg])]

end

section
variable {s : State} {now c a : Nat} {b : TripBlk} (hb : (later s now).lio.field.trips[c]? = some b)
include hb

theorem exec_degx (ha : b.degSince = some a) (hdeg : b.degraded = true) (hdegx : b.degx = false) : let v := later s now
    exec (.degx c now) s = if a + 60000000 * fieldOf v.cfg.lioCtl 8 8 ≤ v.now
      then .next (updField v (withTrip c { b with degx := true, degxAt := some v.now })) else .next v := by
  show execDegx c now s = _
  unfold execDegx
  simp only [hb, ha]
  rw [updField_setTripAt hb]
  simp only [ha, hdeg, hdegx, Bool.not_false, Bool.and_self, Bool.true_and, decide_eq_true_eq]

theorem exec_degxOpen (ha : b.degxAt = some a) : let v := later s now
    exec (.degxOpen c now) s = if tripOn v.lio.field c = true ∧ a + 1000000 ≤ v.now
      then .next (updField v (withTrip c (openTrip b))) else .next v := by
  show execDegxOpen c now s = _
  unfold execDegxOpen
  simp only [hb, Option.bind_some, ha, Bool.and_eq_true, decide_eq_true_eq]
  rw [updField_setTripAt hb]

end

/-! ## FAULT_CLASSIFICATION (R259) -/

/-- The output whose fault opened its bank gets its code. -/
def classified (n : Nat) (high : Bool) (f : FieldSide) : FieldSide :=
  { setOutAt f n (fun b => { b with code := if high = true then 1 else 2 }) with oflt := (n, if high = true then 1 else 2) }

theorem classified_eq {f : FieldSide} {n : Nat} {o : OutBlk} (ho : f.outs[n]? = some o) (high : Bool) : classified n high f
    = { f with outs := f.outs.set n { o with code := if high = true then 1 else 2 }, oflt := (n, if high = true then 1 else 2) } := by
  rw [classified, setOutAt_some ho]

section
variable {s : State} {now a n : Nat} (high : Bool)

theorem exec_classify_bank0 (ha : (later s now).lio.field.openAt0 = some a) (hout : (later s now).lio.field.openOut0 = some n) :
    exec (.faultClassification 0 high now) s = if a + 1000 ≤ (later s now).now
      then .next (updField (later s now) fun f => { classified n high f with openAt0 := none }) else .next (later s now) := by
  show execFaultClassification 0 high now s = _
  unfold execFaultClassification
  simp only [ha, hout]
  rfl

theorem exec_classify_bank1 (ha : (later s now).lio.field.openAt1 = some a) (hout : (later s now).lio.field.openOut1 = some n) :
    exec (.faultClassification 1 high now) s = if a + 1000 ≤ (later s now).now
      then .next (updField (later s now) fun f => { classified n high f with openAt1 := none }) else .next (later s now) := by
  show execFaultClassification 1 high now s = _
  unfold execFaultClassification
  simp only [ha, hout]
  rfl

theorem classify_trips (ha : (later s now).lio.field.openAtT = some a) (hout : (later s now).lio.field.openOutT = some n)
    (hdue : a + 1000 ≤ (later s now).now) :
    exec (.faultClassification 2 high now) s = .next (updField (later s now) fun f => { f with openAtT := none }) := by
  show execFaultClassification 2 high now s = _
  unfold execFaultClassification
  simp only [ha, hout, if_pos hdue]
  rfl

end

/-! ## The supply (R248, R260, R442) -/

/-- X2 as it is measured; what has held for 1 s holds no longer where it is out of range. -/
def noted (x2 : Nat) (f : FieldSide) : FieldSide := { f with x2 := x2, x2Ok := f.x2Ok && decide (2040 ≤ x2 ∧ x2 ≤ 3000) }

/-- Something is energised, or was within the last 10 ms (R266). -/
def Lit (now : Nat) (f : FieldSide) : Prop := anythingOn f = true ∨ ∃ a, f.openedAt = some a ∧ now < a + 10000

theorem lit_iff (now : Nat) (f : FieldSide) :
    (anythingOn f || (f.openedAt.map fun k => decide (now < k + 10000)).getD false) = true ↔ Lit now f := by
  unfold Lit
  cases f.openedAt <;> simp

/-- The field side that a sag opens and latches. -/
def sagged (x2 : Nat) (f : FieldSide) : FieldSide := { openAll (noted x2 f) with suplatch := true }

theorem sagged_opens {x2 : Nat} (f : FieldSide) (h : x2 < 1920 ∨ 3000 < x2) : let g := sagged x2 f
    g.x2 = x2 ∧ g.x2Ok = false ∧ Dark g ∧ g.suplatch = true := by
  have hout : ¬ (2040 ≤ x2 ∧ x2 ≤ 3000) := by omega
  refine ⟨rfl, ?_, openAll_dark (f := f) rfl rfl, rfl⟩
  simp [sagged, openAll, openTrips, noted, hout]

section
variable {s : State} {now x2 : Nat} (hruns : fieldRuns (later s now).lio.field = true)
include hruns

theorem supplySag_notes (h : 1920 ≤ x2 ∧ x2 ≤ 3000 ∨ ¬ Lit (later s now).now (later s now).lio.field) :
    exec (.supplySag x2 now) s = .next (updField (later s now) (noted x2)) := by
  have hstays : ¬ ((x2 < 1920 ∨ 3000 < x2) ∧ Lit (later s now).now (later s now).lio.field) := by
    rintro ⟨hrange, hlit⟩
    exact h.elim (by omega) (· hlit)
  rw [← lit_iff] at hstays
  exact (if_neg (not_stopped hruns)).trans (congrArg (fun g => Host.Outcome.next (updField (later s now) fun _ => g)) (if_neg hstays))

theorem supplySag_opens (hrange : x2 < 1920 ∨ 3000 < x2) (hlit : Lit (later s now).now (later s now).lio.field) :
    exec (.supplySag x2 now) s = .next (updField (later s now) (sagged x2)) := by
  rw [← lit_iff] at hlit
  exact (if_neg (not_stopped hruns)).trans
    (congrArg (fun g => Host.Outcome.next (updField (later s now) fun _ => g)) (if_pos ⟨hrange, hlit⟩))

end

section
variable {s : State} {now : Nat}

theorem x2Loss_stops (h : (later s now).sys.variant = 0x10) : exec (.x2Loss now) s
    = .next (updField (later s now) fun f => { stopField { f with x2 := 0, x2Ok := false } with powered := false }) :=
  congrArg (fun g => Host.Outcome.next (updField (later s now) fun _ => g)) (if_pos h)

theorem x2Loss_runs_on (h : (later s now).sys.variant ≠ 0x10) : exec (.x2Loss now) s
    = .next (updField (later s now) fun f => { f with x2 := 0, x2Ok := false }) :=
  congrArg (fun g => Host.Outcome.next (updField (later s now) fun _ => g)) (if_neg h)

/-- Whether the return of X2 starts the field side. -/
def Starts (v : State) (x2 : Nat) : Prop := v.sys.variant = 0x10 ∧ v.lio.field.powered = false ∧ 1600 ≤ x2

theorem starts_iff (v : State) (x2 : Nat) :
    (decide (v.sys.variant = 0x10) && !v.lio.field.powered && decide (x2 ≥ 1600)) = true ↔ Starts v x2 := by
  simp [Starts, and_assoc]

/-- A field side that the return of X2 starts is in RESTART without keys, and its supply latch stays. -/
theorem started_restarts (x2 : Nat) (f : FieldSide) : let g := startField (noted x2 f)
    g.powered = true ∧ g.hold = .restart ∧ g.keyed = false ∧ g.lastF = 0 ∧ g.lastF2 = 0 ∧ Dark g ∧ g.suplatch = f.suplatch :=
  ⟨rfl, rfl, rfl, rfl, rfl, dark_of_restart rfl, rfl⟩

theorem x2Return_starts {x2 : Nat} (h : Starts (later s now) x2) :
    exec (.x2Return x2 now) s = .next (updField (later s now) fun f => startField (noted x2 f)) :=
  congrArg (fun g => Host.Outcome.next (updField (later s now) fun _ => g)) (if_pos ((starts_iff _ x2).mpr h))

theorem x2Return_notes {x2 : Nat} (h : ¬ Starts (later s now) x2) :
    exec (.x2Return x2 now) s = .next (updField (later s now) (noted x2)) :=
  congrArg (fun g => Host.Outcome.next (updField (later s now) fun _ => g)) (if_neg (mt (starts_iff _ x2).mp h))

theorem applyHeld_out {f : FieldSide} {n : Nat} {o : OutBlk} (ho : f.outs[n]? = some o) :
    (applyHeld f).outs[n]? = some { o with app := o.app || (o.f1 && o.f2) } := by
  simp [applyHeld, ho]

theorem applyHeld_trip {f : FieldSide} {c : Nat} {k : TripBlk} (hk : f.trips[c]? = some k) :
    (applyHeld f).trips[c]? = some { k with app := k.app || (k.f1 && k.f2) } := by
  simp [applyHeld, hk]

end

/-! ## The converter (R248) -/

theorem field_of_raiseFrame {s t : State} (h : RaiseFrame s t) : t.lio.field = s.lio.field := by rw [h]

theorem converterBad_of_raiseFrame {s t : State} (h : RaiseFrame s t) : t.lio.vital.converterBad = s.lio.vital.converterBad := by
  rw [h]

/-- The module without its converter, before CONVERTER is raised. -/
def unconverted (v : State) : State :=
  updVital (updField v fun f => { stopField f with inReset := true }) fun w => { w with converterBad := true }

section
variable {s : State} {now : Nat}

theorem converter_raises (h : (later s now).sys.variant ≠ 0x10) :
    exec (.converter now) s = .next (raise (unconverted (later s now)) .lio lCONVERTER) := if_neg h

theorem converterRecovery_idle (h : (later s now).sys.variant = 0x10
      ∨ (later s now).lio.vital.converterBad = false ∧ (later s now).lio.field.inReset = false) :
    exec (.converterRecovery now) s = .next (later s now) := by
  refine if_pos (h.imp_right ?_)
  rintro ⟨hbad, hreset⟩
  rw [hbad, hreset]
  rfl

theorem converterRecovery_starts (hlarge : (later s now).sys.variant ≠ 0x10)
    (h : (later s now).lio.vital.converterBad = true ∨ (later s now).lio.field.inReset = true) :
    exec (.converterRecovery now) s = .next (lower (updVital (updField (later s now) fun f =>
      if f.powered then startField f else { f with inReset := false }) fun w => { w with converterBad := false }) .lio lCONVERTER) := by
  refine if_neg (not_or.mpr ⟨hlarge, ?_⟩)
  rw [(Bool.or_eq_true _ _).mpr h]
  decide

end

theorem recovered_field (f : FieldSide) : let g := if f.powered then startField f else { f with inReset := false }
    g.inReset = false ∧ g.suplatch = f.suplatch ∧ (f.powered = true → g.hold = .restart ∧ Dark g) := by
  intro g
  cases hpower : f.powered with
  | true =>
    have hg : g = startField f := if_pos hpower
    rw [hg]
    exact ⟨rfl, rfl, fun _ => ⟨rfl, dark_of_restart rfl⟩⟩
  | false =>
    have hg : g = { f with inReset := false } := if_neg (by simp [hpower])
    rw [hg]
    exact ⟨rfl, rfl, nofun⟩

/-! ## RESTART_TESTS_END (R263) -/

theorem of_zipIdx_map {α β : Type} {l : List α} {f : α × Nat → β} {n : Nat} {b : β} (h : (l.zipIdx.map f)[n]? = some b) :
    ∃ a, b = f (a, n) := by
  rw [zipIdx_map_getElem?, Option.map_eq_some_iff] at h
  obtain ⟨a, -, rfl⟩ := h
  exact ⟨a, rfl⟩

theorem not_contains_iff (l : List Nat) (n : Nat) : (!l.contains n) = true ↔ n ∉ l := by simp

/-- The latches fall, and only what the tests found stays locked, open or faulted. -/
theorem restartTests_clear {s : State} {now : Nat} (hruns : fieldRuns (later s now).lio.field = true)
    (hat : (later s now).lio.field.restartAt ≠ none) (res : RestartTests) :
    ∃ t, exec (.restartTestsEnd res now) s = .next t ∧ FieldFrame (later s now) t
      ∧ t.lio.field.hold = .restart ∧ t.lio.field.restartAt = none ∧ t.lio.field.suplatch = false ∧ t.lio.field.fence = false
      ∧ t.lio.field.selfTestBad = res.selfTestBad ∧ Dark t.lio.field
      ∧ (t.lio.field.grp0 = true ↔ 0 ∉ res.badBanks) ∧ (t.lio.field.grp1 = true ↔ 1 ∉ res.badBanks)
      ∧ (t.lio.field.grpT = true ↔ 2 ∉ res.badBanks)
      ∧ (∀ (n : Nat) o, t.lio.field.outs[n]? = some o → (o.locked = true ↔ n ∈ res.badOutputs))
      ∧ (∀ (c : Nat) k, t.lio.field.trips[c]? = some k → (k.locked = true ↔ c ∈ res.badTrips))
      ∧ ∀ (n : Nat) i, t.lio.field.ins[n]? = some i → (i.shuntFault = true ↔ n ∈ res.badInputs) := by
  refine ⟨_, if_neg (not_or.mpr ⟨not_stopped hruns, hat⟩), rfl, rfl, rfl, rfl, rfl, rfl, dark_of_restart rfl,
    not_contains_iff _ 0, not_contains_iff _ 1, not_contains_iff _ 2, fun n o ho => ?_, fun c k hk => ?_, fun n i hi => ?_⟩
  · obtain ⟨a, rfl⟩ := of_zipIdx_map ho
    exact List.contains_iff_mem
  · obtain ⟨a, rfl⟩ := of_zipIdx_map hk
    show (!!res.badTrips.contains c) = true ↔ _
    rw [Bool.not_not]
    exact List.contains_iff_mem
  · obtain ⟨a, rfl⟩ := of_zipIdx_map hi
    exact List.contains_iff_mem

/-- Settles O59: a running field side's outputs, trip channels, sag and restart tests; then DEGX, the classification of each bank, the
loss and return of X2, and the converter. -/
theorem outputFaultsAndSupplyOpenSwitches : Obligations.OutputFaultsAndSupplyOpenSwitches := by
  unfold Obligations.OutputFaultsAndSupplyOpenSwitches
  intro s now v f field others dark
  refine ⟨fun hruns => ⟨fun n o hn ho => ?_, fun c b hc hb => ?_, fun x2 => ⟨supplySag_notes hruns, fun hrange hlit => ?_⟩,
      restartTests_clear hruns⟩,
    fun c b a hb ha hdeg hdegx => ⟨fun h => ?_, fun h => ?_⟩, fun c b a hb ha => ⟨fun h => ?_, fun h hon => ?_⟩,
    fun a n o high ha hout ho => ⟨fun h => ?_, fun h => ?_⟩, fun a n o high ha hout ho => ⟨fun h => ?_, fun h => ?_⟩,
    fun a n high ha hout => classify_trips high ha hout, ?_, fun x2 => ?_, fun x2 => ⟨fun h => ?_, fun hlow hhigh => ?_⟩,
    fun hsmall => if_pos hsmall, fun hlarge => ?_, converterRecovery_idle, fun hlarge h => ?_⟩
  · intro locked
    obtain ⟨hout, hothers, hoff, hlast⟩ := lockOut_locks ho
    exact ⟨exec_offPulse hruns hn true, ⟨_, exec_offPulse hruns hn false, ⟨hout, hothers, hoff, hlast⟩, rfl⟩,
      fun hgroup => ⟨_, outputFault_switch hruns hn hgroup, ⟨hout, hothers, hoff, hlast⟩, rfl⟩,
      fun hgroup => ⟨_, outputFault_short hruns hn hgroup, rfl, openGroup_bank v.now (bank_of_output hn)⟩,
      outputFault_recorded hruns hn ho⟩
  · intro opened shut
    exact ⟨tripTest_passes hruns hc, ⟨_, tripTest_locks hruns hc hb, rfl, withTrip_locked_off hb⟩, tripTest_again hruns hc hb,
      fun hdeg => ⟨_, tripTest_degrades hruns hc hb hdeg, rfl⟩, fun hgroup => ⟨_, tripFault_locks hruns hc hb hgroup, rfl⟩,
      fun hgroup => ⟨_, tripFault_short hruns hc hgroup, rfl, rfl, rfl, rfl, openTrips_off (f := f) rfl⟩,
      tripFault_nothing hruns hc⟩
  · exact ⟨_, supplySag_opens hruns hrange hlit, rfl, sagged_opens f hrange⟩
  · exact (exec_degx hb ha hdeg hdegx).trans (if_neg (Nat.not_le.mpr h))
  · exact (exec_degx hb ha hdeg hdegx).trans (if_pos h)
  · refine (exec_degxOpen hb ha).trans (if_neg ?_)
    rintro ⟨hon, hdue⟩
    exact h.elim (Nat.not_lt.mpr hdue) (Bool.eq_false_iff.mp · hon)
  · exact (exec_degxOpen hb ha).trans (if_pos ⟨hon, h⟩)
  · exact (exec_classify_bank0 high ha hout).trans (if_neg (Nat.not_le.mpr h))
  · refine ⟨_, (exec_classify_bank0 high ha hout).trans (if_pos h), ?_⟩
    rw [updField, classified_eq ho]
    exact ⟨rfl, rfl, getElem?_set_of_some ho _, rfl, fun m hm => List.getElem?_set_ne hm.symm, rfl⟩
  · exact (exec_classify_bank1 high ha hout).trans (if_neg (Nat.not_le.mpr h))
  · refine ⟨_, (exec_classify_bank1 high ha hout).trans (if_pos h), ?_⟩
    rw [updField, classified_eq ho]
    exact ⟨rfl, rfl, getElem?_set_of_some ho _, rfl, fun m hm => List.getElem?_set_ne hm.symm, rfl⟩
  · by_cases hsmall : v.sys.variant = 0x10
    · exact ⟨_, x2Loss_stops hsmall, rfl, rfl, rfl, fun _ => ⟨rfl, rfl, rfl, dark_of_restart rfl⟩, (absurd hsmall ·)⟩
    · exact ⟨_, x2Loss_runs_on hsmall, rfl, rfl, rfl, (absurd · hsmall), fun _ => rfl⟩
  · by_cases hstart : Starts v x2
    · refine ⟨_, x2Return_starts hstart, rfl, rfl, fun _ _ _ => started_restarts x2 f, fun h => ?_⟩
      obtain ⟨hsmall, hpower, hx2⟩ := hstart
      obtain h | h | h := h
      · exact absurd hsmall h
      · exact absurd (h.symm.trans hpower) (by decide)
      · exact absurd hx2 (Nat.not_le.mpr h)
    · exact ⟨_, x2Return_notes hstart, rfl, rfl, fun hsmall hpower hx2 => absurd ⟨hsmall, hpower, hx2⟩ hstart, fun _ => rfl⟩
  · exact if_neg (by omega)
  · exact ⟨_, if_pos ⟨hlow, hhigh⟩, rfl, rfl, rfl, fun n o => applyHeld_out, fun c k => applyHeld_trip⟩
  · have hframe := raise_frame (unconverted v) .lio lCONVERTER
    have hfield := field_of_raiseFrame hframe
    refine ⟨_, converter_raises hlarge, raise_isLive _ .lio lCONVERTER (by decide), converterBad_of_raiseFrame hframe, ?_⟩
    rw [hfield]
    exact ⟨rfl, rfl, dark_of_restart rfl⟩
  · obtain ⟨hreset, hlatch, hstart⟩ := recovered_field f
    exact ⟨_, converterRecovery_starts hlarge h, lower_isLive _ .lio lCONVERTER (by decide), rfl, hreset, hlatch, hstart, rfl⟩

end Sys2Proof.Proofs.Outputs

/-! PROOFS. Steps 7 and 8 of R282 (R271, R283, R284, R387, R409, R421): what the gate gives in each case, and what its answer leaves. -/

namespace Sys2Proof.Proofs.Gate

open Sys2Proof Sys2Proof.Machine Sys2Proof.Safety Sys2Proof.Proofs.LaneCommands

/-! ## What the gate gives -/

section
variable {s : State} {src : Src} {opc : Nat}

theorem gateOf_empty (h : (partnerAt s src.entry).addr = 0xFFFF) : gateOf s src opc = .silent := if_pos (.inl h)

section
variable (hruns : svcRuns s = true) (haddr : (partnerAt s src.entry).addr ≠ 0xFFFF)
include hruns haddr

/-- In recovery mode and keyless only X13 is served (R387, R421). -/
theorem gateOf_otherConnector (hmode : s.upd.recov = true ∨ s.sec.keyless = true) (hconn : (partnerAt s src.entry).conn ≠ 13) :
    gateOf s src opc = .silent := by
  simp [gateOf, hruns, haddr, hmode, hconn]

variable (hrecov : s.upd.recov = false) (hkeyless : s.sec.keyless = false)
include hrecov hkeyless

theorem gateOf_oldVersion (hver : src.ver = 1) (hopc : oldVersion opc = false) : gateOf s src opc = .answer .badOpc := by
  simp [gateOf, hruns, haddr, hrecov, hkeyless, hver, hopc]

variable (hver : src.ver ≠ 1)
include hver

theorem gateOf_classless (hclass : hasClass s src (classOf opc) = false) : gateOf s src opc = .answer .notAuth := by
  simp [gateOf, hruns, haddr, hrecov, hkeyless, hver, hclass]

variable (hclass : hasClass s src (classOf opc) = true)
include hclass

theorem gateOf_lifeRefuses {st : Status} (hlife : lifeRefuses s.sec.life opc = some st) : gateOf s src opc = .answer st := by
  simp [gateOf, hruns, haddr, hrecov, hkeyless, hver, hclass, hlife]

variable (hlife : lifeRefuses s.sec.life opc = none)
include hlife

theorem gateOf_outsideSession (hneeds : needsSession opc = true) (hsession : inSession s src = false) :
    gateOf s src opc = .answer .notAuth := by
  simp [gateOf, hruns, haddr, hrecov, hkeyless, hver, hclass, hlife, hneeds, hsession]

/-- A query or a diagnostic command needs no session and no bridge. -/
theorem gateOf_passes (hquery : classOf opc = .query ∨ classOf opc = .diag) : gateOf s src opc = .pass := by
  have hsession : needsSession opc = false := by obtain h | h := hquery <;> simp [needsSession, h]
  have hmaint : classOf opc ≠ .maint ∧ classOf opc ≠ .update := by obtain h | h := hquery <;> simp [h]
  simp [gateOf, hruns, haddr, hrecov, hkeyless, hver, hclass, hlife, hsession, hmaint]

end
end

theorem oldVersion_eq_false {opc : Nat} (h0 : opc ≠ 0x50) (h1 : opc ≠ 0x51) (h2 : opc ≠ 0x52) (h5 : opc ≠ 0x55) (he : opc ≠ 0xE0) :
    oldVersion opc = false := by
  simp [oldVersion, h0, h1, h2, h5, he]

/-! ## What becomes of a command -/

theorem gated_silent {s : State} {src : Src} {opc : Nat} (h : gateOf s src opc = .silent) (f : State → State) :
    gated s src opc f = s := by
  rw [gated, h]

/-- A status of the gate is a reply like any other: it counts a failure more, and that is all (R295). -/
theorem gated_replies {s : State} {src : Src} {opc : Nat} {st : Status} (h : gateOf s src opc = .answer st) (f : State → State) :
    Replies s (gated s src opc f) src opc st [] := by
  rw [gated, h]
  dsimp only
  split
  · exact reply_replies s src opc st []
  · exact reply_replies (countOther s) src opc st []

theorem later_zero (s : State) : later s 0 = s := by simp [later]

/-- The five commands of the statement are rows behind the gate. -/
theorem exec_gated {s : State} {src : Src} {opc : Nat} {c : Instr}
    (h : (opc, c) ∈ [(0x50, Instr.identity src), (0x51, .status src), (0x57, .timeRead src 0), (0xE1, .portCounters src 10),
      (0x56, .subscribe src 0)]) : ∃ f, exec c s = .next (gated s src opc f) := by
  simp only [List.mem_cons, Prod.mk.injEq, List.not_mem_nil, or_false] at h
  obtain ⟨rfl, rfl⟩ | ⟨rfl, rfl⟩ | ⟨rfl, rfl⟩ | ⟨rfl, rfl⟩ | ⟨rfl, rfl⟩ := h
  · exact ⟨_, rfl⟩
  · exact ⟨_, rfl⟩
  · obtain ⟨f, hf⟩ : ∃ f, exec (.timeRead src 0) s = .next (gated (later s 0) src 0x57 f) := ⟨_, rfl⟩
    exact ⟨f, by rw [hf, later_zero]⟩
  · exact ⟨_, rfl⟩
  · exact ⟨_, rfl⟩

/-- Settles O29, check by check in the order of the gate; a command that does not pass is answered or dropped before its row. -/
theorem gateDecidesByClassLifecycleAndSession : Obligations.GateDecidesByClassLifecycleAndSession := by
  unfold Obligations.GateDecidesByClassLifecycleAndSession
  refine ⟨fun s src opc hruns => ⟨gateOf_empty, fun haddr => ⟨gateOf_otherConnector hruns haddr, fun hrecov hkeyless =>
    ⟨fun hver h0 h1 h2 h5 he => gateOf_oldVersion hruns haddr hrecov hkeyless hver (oldVersion_eq_false h0 h1 h2 h5 he),
      fun hver => ⟨gateOf_classless hruns haddr hrecov hkeyless hver, fun hclass =>
        ⟨fun st => gateOf_lifeRefuses hruns haddr hrecov hkeyless hver hclass, fun hlife => ⟨fun hneeds hopc => ?_,
          gateOf_passes hruns haddr hrecov hkeyless hver hclass hlife⟩⟩⟩⟩⟩⟩, fun s src opc c hc => ?_⟩
  · exact gateOf_outsideSession hruns haddr hrecov hkeyless hver hclass hlife (by simp [needsSession, hneeds, hopc])
  · obtain ⟨f, hexec⟩ := exec_gated (s := s) hc
    rw [hexec]
    exact ⟨fun hsilent => congrArg Host.Outcome.next (gated_silent hsilent f), fun st hst => ⟨_, rfl, gated_replies hst f⟩⟩

end Sys2Proof.Proofs.Gate

/-! PROOFS. The queries, the diagnostic commands and SUBSCRIBE as the service processor answers them (R274, R289, R290, R293, R401). -/

namespace Sys2Proof.Proofs.Queries

open Sys2Proof Sys2Proof.Machine Sys2Proof.Safety Sys2Proof.Proofs.LaneCommands

/-! ## A row behind the gate -/

/-- A command that the gate passes is replied to with what its row gives. -/
theorem svcReply_of_gated {c : Instr} {s v u : State} {src : Src} {opc : Nat} {f : State → State} {st : Status} {body : Bytes}
    (hexec : exec c s = .next (gated v src opc f)) (hgate : gateOf v src opc = .pass)
    (hrow : f (hearFrom v src.entry) = reply u src opc st body) : SvcReply c s u src opc st body :=
  ⟨_, hexec, by rw [gated_pass hgate, hrow]; exact reply_replies u src opc st body⟩

/-! ## IDENTITY and the range reads (R289) -/

theorem runningEpoch_of_booted {s : State} (h : (laneOf s.vot .l1).booted ≠ 0) :
    runningEpoch s = fieldAt (activeBank s.upd.lfw1).header 7 1 := by
  have hfind : (Lane.all.find? fun l => (laneOf s.vot l).booted != 0) = some .l1 := List.find?_cons_of_pos (by simpa using h)
  rw [runningEpoch, runningHeader?, hfind]
  rfl

theorem lfwVersion_of_booted {s : State} {l : Lane} (h : (laneOf s.vot l).booted ≠ 0) (p : BankPair) :
    lfwVersion s l p = fieldAt (activeBank p).header 20 4 :=
  if_pos (bne_iff_ne.mpr h)

theorem identityBody_of_booted {s : State} (h : ∀ l, (laneOf s.vot l).booted ≠ 0) : identityBody s =
    be 1 s.sys.variant ++ be 1 s.sys.issue ++ be 1 (fieldAt (activeBank s.upd.lfw1).header 7 1)
      ++ be 1 (fieldOf s.cfg.cmdAddr 16 5) ++ be 1 (fieldOf s.cfg.cmdAddr 8 3) ++ be 1 s.sec.life.code ++ be 2 0
      ++ be 4 ((s.mzp.map (·.mzpid)).getD 0) ++ be 4 ((s.prt.map (·.prtid)).getD 0)
      ++ be 4 (fieldAt (activeBank s.upd.lfw1).header 20 4) ++ be 4 (fieldAt (activeBank s.upd.lfw2).header 20 4)
      ++ be 4 (fieldAt (activeBank s.upd.lfw3).header 20 4) ++ be 4 (fieldAt (activeBank s.upd.svc).header 20 4)
      ++ be 8 s.sys.serial := by
  rw [identityBody, runningEpoch_of_booted (h .l1), lfwVersion_of_booted (h .l1), lfwVersion_of_booted (h .l2),
    lfwVersion_of_booted (h .l3), ownPair, ownKind]

theorem rangeOk_iff (first count most size : Nat) :
    rangeOk first count most size = true ↔ 1 ≤ count ∧ count ≤ most ∧ first + count ≤ size := by
  simp [rangeOk, and_assoc]

/-- A read of a range is answered with its fields exactly where the count and the range fit (R289). -/
theorem readsRange {c : Instr} {s : State} {src : Src} {opc first count most size : Nat} {body : State → Bytes}
    (hexec : exec c s = .next (gated s src opc fun s =>
      if rangeOk first count most size then reply s src opc .done (body s) else reply s src opc .badLen []))
    (hgate : gateOf s src opc = .pass) : let u := hearFrom s src.entry
    ∃ t, exec c s = .next t ∧ if 1 ≤ count ∧ count ≤ most ∧ first + count ≤ size then Replies u t src opc .done (body u)
      else Replies u t src opc .badLen [] := by
  by_cases h : 1 ≤ count ∧ count ≤ most ∧ first + count ≤ size
  · simp only [if_pos h]
    exact svcReply_of_gated hexec hgate (if_pos ((rangeOk_iff ..).mpr h))
  · simp only [if_neg h]
    exact svcReply_of_gated hexec hgate (if_neg (mt (rangeOk_iff ..).mp h))

/-- Settles O30, query by query: each row gives the fields of R289 from the image, and a range outside its bounds none. -/
theorem queriesAnswerFromTheImage : Obligations.QueriesAnswerFromTheImage := by
  unfold Obligations.QueriesAnswerFromTheImage
  intro s src first count u
  refine ⟨fun hgate hbooted => ?_, fun hgate => ?_, fun hgate => ?_, fun hgate => ?_, fun hgate => ?_⟩
  · exact svcReply_of_gated rfl hgate (congrArg (reply u src 0x50 .done) (identityBody_of_booted (s := u) hbooted))
  · refine svcReply_of_gated rfl hgate (congrArg (reply u src 0x51 .done) ?_)
    simp only [List.flatMap_cons, List.flatMap_nil, List.append_nil, List.append_assoc]
    rfl
  · exact readsRange (body := fun v => be 2 count ++ (List.range count).flatMap fun k =>
      be 4 (objectWord v.image.inter (first + k))) rfl hgate
  · exact readsRange (body := fun v => be 2 count ++ (List.range count).flatMap fun k =>
      routeEntry (stationOf v) v.image.inter (first + k)) rfl hgate
  · exact readsRange (body := fun v => be 2 count ++ (List.range count).flatMap fun k =>
      be 8 (crumbEntry v.image.inter.crumbs (first + k))) rfl hgate

/-! ## SUBSCRIBE (R290) -/

/-- The subscriptions after one of `entry` with a period, 0 for none. -/
def subscribed (subs : List Subscription) (entry period : Nat) : List Subscription :=
  let rest := subs.filter (·.entry != entry)
  if period = 0 then rest else rest ++ [{ entry := entry, period := period }]

theorem subscribed_others (subs : List Subscription) (entry period : Nat) :
    (subscribed subs entry period).filter (·.entry != entry) = subs.filter (·.entry != entry) := by
  unfold subscribed
  dsimp only
  split <;> simp [List.filter_filter]

theorem subscribed_own (subs : List Subscription) (entry period : Nat) :
    ((subscribed subs entry period).filter (·.entry == entry)).map (·.period) = if period = 0 then [] else [period] := by
  have hrest : (subs.filter (·.entry != entry)).filter (·.entry == entry) = [] := by
    rw [List.filter_filter]
    simp
  unfold subscribed
  dsimp only
  split
  · rw [hrest]
    rfl
  · rw [List.filter_append, hrest]
    simp

/-! ## TIME_READ (R289, R401) -/

theorem stampOf_known {s : State} {b : Int} {t n : Nat} (hbase : s.evr.base = some b) (hn : (n : Int) = b + 1000 * (t : Int)) :
    stampOf s t = (false, n % 2 ^ 63) := by
  simp only [stampOf, hbase, ← hn, Int.toNat_natCast]

theorem stampOf_unknown {s : State} (hbase : s.evr.base = none) (t : Nat) :
    stampOf s t = (true, 2 ^ 63 + 1000 * (t - s.evr.powerOnAt) % 2 ^ 63) := by
  simp only [stampOf, hbase]

/-- TIME_READ gives the stamp of its own instant and the source of the time, none where no time is known. -/
theorem timeRead_replies {s : State} {src : Src} {now : Nat} (hgate : gateOf (later s now) src 0x57 = .pass) :
    let v := hearFrom (later s now) src.entry
    SvcReply (.timeRead src now) s v src 0x57 .done (be 8 (stampOf v (max s.now now)).2
      ++ be 1 (if s.evr.base.isNone then TimeSrc.none else s.evr.tsrc).code ++ be 1 0) :=
  svcReply_of_gated rfl hgate rfl

/-- Settles O32, command by command. -/
theorem subscriptionsTimeAndEchoAreServed : Obligations.SubscriptionsTimeAndEchoAreServed := by
  unfold Obligations.SubscriptionsTimeAndEchoAreServed
  intro s src u
  refine ⟨fun hgate period => ⟨fun hmax => ?_, fun hmin => ?_⟩, fun now => ?_, fun hgate data => ?_, fun hgate conn c hc => ?_⟩
  · obtain ⟨t, hexec, ht⟩ := svcReply_of_gated (u := { u with cmd := { u.cmd with subs := subscribed s.cmd.subs src.entry period } })
      (c := .subscribe src period) (s := s) rfl hgate (if_neg (Nat.not_lt.mpr hmax))
    have hsubs : t.cmd.subs = subscribed s.cmd.subs src.entry period := by rw [ht]
    refine ⟨t, hexec, ?_, ?_, ?_⟩
    · rw [hsubs, subscribed_own]
    · rw [hsubs, subscribed_others]
    · rw [hsubs]
      exact ht
  · exact svcReply_of_gated rfl hgate (if_pos hmin)
  · intro v hgate
    obtain ⟨t, hexec, ht⟩ := timeRead_replies hgate
    refine ⟨fun b hb hpos => ?_, fun hnone => ?_⟩
    · obtain ⟨n, hn⟩ := Int.eq_ofNat_of_zero_le hpos
      rw [stampOf_known (s := v) hb hn.symm, hb] at ht
      exact ⟨t, n, hexec, hn.symm, ht⟩
    · rw [stampOf_unknown (s := v) hnone, hnone] at ht
      exact ⟨t, hexec, ht⟩
  · by_cases h : data.length ≤ 8182
    · simp only [if_pos h]
      exact svcReply_of_gated rfl hgate (if_neg (Nat.not_lt.mpr h))
    · simp only [if_neg h]
      exact svcReply_of_gated rfl hgate (if_pos (Nat.not_le.mp h))
  · have hports : u.cmd.ports.find? (·.conn == conn) = some c := hc
    refine svcReply_of_gated rfl hgate ?_
    dsimp only
    rw [hports]
    rfl

end Sys2Proof.Proofs.Queries

/-! PROOFS. POINT_MOVE, SECTION_RESTORE, BLOCK, GUARD_ACK and STATION_CMD as INPUT takes them (R78, R152, R286, R287, R444, R448):
each case of the checks and what the lanes make of it. -/

namespace Sys2Proof.Proofs.ObjectRequests

open Sys2Proof Sys2Proof.Machine Sys2Proof.Safety Sys2Proof.Proofs.VitalRequests Sys2Proof.Proofs.InterlockParts

/-! ## POINT_MOVE (R286, R444) -/

/-- A point with an individual move to a position. -/
def moved (pos : Nat) (o : ObjInst) : ObjInst := { o with move := some (posCmd pos), kept := false }

/-- Every point named with its move. -/
def movedAll (ms : List (Nat × Nat)) (x : Inter) : Inter := ms.foldl (fun y m => setObj y m.1 (moved m.2)) x

theorem movedAll_eq (ms : List (Nat × Nat)) (x : Inter) : movedAll ms x = { x with objs := (movedAll ms x).objs } := by
  induction ms generalizing x with
  | nil => rfl
  | cons m ms ih => exact ih _

theorem objOf?_movedAll_other {ms : List (Nat × Nat)} {i : Nat} (h : ∀ m ∈ ms, m.1 ≠ i) (x : Inter) :
    objOf? (movedAll ms x) i = objOf? x i := by
  induction ms generalizing x with
  | nil => rfl
  | cons m ms ih =>
    obtain ⟨hm, hms⟩ := List.forall_mem_cons.mp h
    exact (ih hms _).trans (objOf?_setObj_other (fun _ => rfl) hm.symm)

theorem objOf?_movedAll_same {ms : List (Nat × Nat)} (hnodup : (ms.map (·.1)).Nodup) {m : Nat × Nat} (hm : m ∈ ms) {x : Inter}
    {o : ObjInst} (ho : objOf? x m.1 = some o) : objOf? (movedAll ms x) m.1 = some (moved m.2 o) := by
  induction ms generalizing x with
  | nil => cases hm
  | cons k ms ih =>
    obtain ⟨hk, hrest⟩ := List.nodup_cons.mp hnodup
    have hk' : ∀ j ∈ ms, j.1 ≠ k.1 := fun j hj hjk =>
      hk (List.mem_map.mpr ⟨j, hj, hjk⟩)
    obtain rfl | hms := List.mem_cons.mp hm
    · exact (objOf?_movedAll_other hk' _).trans (objOf?_setObj_same ho rfl)
    · exact ih hrest hms ((objOf?_setObj_other (f := moved k.2) (fun _ => rfl) (hk' m hms)).trans ho)

theorem moveRefused_iff (x : Inter) (i : Nat) : moveRefused x i = true ↔
    ∀ o, objOf? x i = some o → (∃ c ∈ x.shadow, c.obj = i) ∨ o.valid = false ∨ o.settle ≠ 0 ∨ o.block = true := by
  unfold moveRefused
  cases h : objOf? x i with
  | none => simp
  | some o => simp [crumbsOn, or_assoc]

section PointMove
variable {st : Station} {x : Inter} {grp : Bool} {n pos : Nat} {ms : List (Nat × Nat)} (src : Src)

theorem doPointMove_noPoint (h : moveTargets st grp n (pos - 1) = none) :
    doPointMove st src grp n pos x = ask src 0x13 (.fixed .badState) x := by
  simp only [doPointMove, h]

section
variable (h : moveTargets st grp n (pos - 1) = some ms)
include h

theorem doPointMove_refused (hbar : ∃ m ∈ ms, moveRefused x m.1 = true) :
    doPointMove st src grp n pos x = ask src 0x13 (.fixed .refused) x := by
  simp only [doPointMove, h, List.any_eq_true.mpr hbar, if_true]

variable (hfree : ∀ m ∈ ms, ¬ moveRefused x m.1 = true)
include hfree

theorem doPointMove_done (hthere : ∀ m ∈ ms, shows (seenObj x m.1) (posRep m.2) = true) :
    doPointMove st src grp n pos x = ask src 0x13 (.fixed .done) x := by
  simp only [doPointMove, h, List.any_eq_false.mpr hfree, List.all_eq_true.mpr hthere, if_true, Bool.false_eq_true, if_false]

theorem doPointMove_accepts (helse : ∃ m ∈ ms, shows (seenObj x m.1) (posRep m.2) = false) :
    doPointMove st src grp n pos x = ask src 0x13 (.fixed .accepted) (movedAll ms x) := by
  have hall : (ms.all fun m => shows (seenObj x m.1) (posRep m.2)) = false :=
    List.all_eq_false.mpr (have ⟨m, hm, hno⟩ := helse; ⟨m, hm, ne_true_of_eq_false hno⟩)
  simp only [doPointMove, h, List.any_eq_false.mpr hfree, hall, Bool.false_eq_true, if_false]
  rfl

end
end PointMove

/-! ## SECTION_RESTORE (R286, R448) -/

/-- A restorable section that is reported DISTURBED. -/
def Restorable (st : Station) (x : Inter) (i : Nat) : Prop :=
  ∃ d o, stObj? st i = some d ∧ objOf? x i = some o ∧ d.ty = .track ∧ d.restorable = true ∧ o.rep = scDisturbed

theorem doSectionRestore_accepts {st : Station} {x : Inter} {i : Nat} (src : Src) (h : Restorable st x i) :
    doSectionRestore st src i x = ask src 0x14 (.fixed .accepted) (setObj x i fun u => { u with restore := true }) := by
  obtain ⟨d, o, hd, ho, hok⟩ := h
  simp only [doSectionRestore, hd, ho]
  exact if_pos hok

theorem doSectionRestore_else {st : Station} {x : Inter} {i : Nat} (src : Src) (h : ¬ Restorable st x i) :
    doSectionRestore st src i x = ask src 0x14 (.fixed .badState) x := by
  unfold doSectionRestore
  split
  · next d o hd ho => exact if_neg fun hok => h ⟨d, o, hd, ho, hok⟩
  · rfl

/-! ## BLOCK (R286, R287) -/

/-- The blocked routes after BLOCK of one. -/
def blockedAfter (set : Bool) (n : Nat) (rs : List Nat) : List Nat :=
  if set then n :: rs.filter (· != n) else rs.filter (· != n)

theorem mem_blockedAfter_set (n r : Nat) (rs : List Nat) : r ∈ blockedAfter true n rs ↔ r = n ∨ r ∈ rs := by
  by_cases h : r = n <;> simp [blockedAfter, h]

theorem mem_blockedAfter_clear (n r : Nat) (rs : List Nat) : r ∈ blockedAfter false n rs ↔ r ≠ n ∧ r ∈ rs := by
  simp [blockedAfter, and_comm]

section Block
variable {st : Station} {x : Inter} {n : Nat} (src : Src) (set : Bool)

theorem doBlock_route {rd : RouteDef} (h : stRoute? st n = some rd) : doBlock st src true n set x =
    ask src 0x15 (.fixed .done) { x with blockedRoutes := blockedAfter set n x.blockedRoutes } := by
  simp only [doBlock, h, Option.isSome_some, if_true]
  rfl

theorem doBlock_object {d : ObjDesc} (h : stObj? st n = some d) :
    doBlock st src false n set x = ask src 0x15 (.fixed .done) (setObj x n fun o => { o with block := set }) := by
  simp only [doBlock, h, Option.isSome_some, if_true, Bool.false_eq_true, if_false]

theorem doBlock_undefined {onRoute : Bool} (hroute : onRoute = true → stRoute? st n = none)
    (hobj : onRoute = false → stObj? st n = none) : doBlock st src onRoute n set x = ask src 0x15 (.fixed .badState) x := by
  cases onRoute with
  | true => simp [doBlock, hroute rfl]
  | false => simp [doBlock, hobj rfl]

end Block

/-! ## GUARD_ACK (R152, R286) -/

theorem mem_trippedNow_iff (s : State) (g : Nat) :
    g ∈ trippedNow s ↔ ∃ b, s.prl.guards[g]? = some b ∧ b.tripped = true := by
  rw [trippedNow, List.mem_filter, List.mem_range]
  cases h : s.prl.guards[g]? with
  | none => simp
  | some b => simp [(List.getElem?_eq_some_iff.mp h).1]

/-- A guard of the table that is TRIPPED in the frozen inputs. -/
def Acknowledgeable (s : State) (p : Prt) (g : Nat) : Prop :=
  g < p.guards.length ∧ ∃ b, s.prl.guards[g]? = some b ∧ b.tripped = true

theorem acknowledgeable_iff (s : State) (src : Src) (p : Prt) (g : Nat) :
    ((p.guards[g]?).isSome && (requestFrame s src).tripped.contains g) = true ↔ Acknowledgeable s p g := by
  have htripped : (requestFrame s src).tripped = trippedNow s := rfl
  rw [Bool.and_eq_true, htripped, List.contains_iff_mem, mem_trippedNow_iff, isSome_getElem?]
  rfl

theorem doGuardAck_accepts {s : State} {p : Prt} {g : Nat} (src : Src) (h : Acknowledgeable s p g) (x : Inter) :
    doGuardAck p (requestFrame s src) src g x = ask src 0x18 (.fixed .accepted) { x with acks := x.acks ++ [g] } :=
  if_pos ((acknowledgeable_iff s src p g).mpr h)

theorem doGuardAck_else {s : State} {p : Prt} {g : Nat} (src : Src) (h : ¬ Acknowledgeable s p g) (x : Inter) :
    doGuardAck p (requestFrame s src) src g x = ask src 0x18 (.fixed .badState) x :=
  if_neg (mt (acknowledgeable_iff s src p g).mp h)

/-! ## The commands -/

section
variable {s : State} {src : Src} {st : Station} {p : Prt} (h : TakesFrom s src st p) (hown : OwnSide s src)
include h hown

theorem exec_pointMove {pos : Nat} (hpos : pos = 1 ∨ pos = 2) (grp : Bool) (n : Nat) :
    exec (.pointMove src grp n pos) s = .next (handed s src (doPointMove st src grp n pos s.core)) := by
  show Host.Outcome.next (vitalRow s src 0x13 (if pos = 1 ∨ pos = 2 then some (.pointMove src grp n pos) else none)) = _
  rw [if_pos hpos, vitalRow_takes h hown 0x13 (r := .pointMove src grp n pos) nofun]
  rfl

theorem exec_sectionRestore (i : Nat) :
    exec (.sectionRestore src i) s = .next (handed s src (doSectionRestore st src i s.core)) :=
  congrArg Host.Outcome.next (vitalRow_takes h hown 0x14 (r := .restore src i) nofun)

theorem exec_blockSet (onRoute : Bool) (n : Nat) :
    exec (.blockSet src onRoute n) s = .next (handed s src (doBlock st src onRoute n true s.core)) :=
  congrArg Host.Outcome.next (vitalRow_takes h hown 0x15 (r := .block src onRoute n true) nofun)

theorem exec_blockClear (onRoute : Bool) (n : Nat) :
    exec (.blockClear src onRoute n) s = .next (handed s src (doBlock st src onRoute n false s.core)) :=
  congrArg Host.Outcome.next (vitalRow_takes h hown 0x15 (r := .block src onRoute n false) nofun)

theorem exec_guardAck {g : Nat} (hg : g ≤ 15) :
    exec (.guardAck src g) s = .next (handed s src (doGuardAck p (requestFrame s src) src g s.core)) := by
  show Host.Outcome.next (vitalRow s src 0x18 (if g ≤ 15 then some (.guardAck src g) else none)) = _
  rw [if_pos hg, vitalRow_takes h hown 0x18 (r := .guardAck src g) nofun]
  rfl

theorem exec_stationCmd (code arg : Nat) :
    exec (.stationCmd src code arg) s = .next (handed s src (doStationCmd st src code arg s.core)) :=
  congrArg Host.Outcome.next (vitalRow_takes h hown 0x19 (r := .stationCmd src code arg) nofun)

end

/-- An accepted POINT_MOVE changes the objects only, and of these the points named. -/
theorem taken_moves {s : State} {src : Src} {ms : List (Nat × Nat)} (hnodup : (ms.map (·.1)).Nodup)
    (hthere : ∀ m ∈ ms, ∃ o, objOf? s.core m.1 = some o) :
    let t := handed s src (ask src 0x13 (.fixed .accepted) (movedAll ms s.core))
    Taken s t src 0x13 (.fixed .accepted) { s.core with objs := t.core.objs }
      ∧ (∀ m ∈ ms, objOf? t.core m.1 = (objOf? s.core m.1).map (moved m.2))
      ∧ ∀ i, (∀ m ∈ ms, m.1 ≠ i) → objOf? t.core i = objOf? s.core i := by
  refine ⟨taken_of_core_eq (congrArg (ask src 0x13 (.fixed .accepted)) (movedAll_eq ms s.core)), fun m hm => ?_,
    fun i hi => objOf?_movedAll_other hi s.core⟩
  obtain ⟨o, ho⟩ := hthere m hm
  rw [ho]
  exact objOf?_movedAll_same hnodup hm ho

/-- Settles O34, command by command: each check in its order, and what the lanes make of an accepted request. -/
theorem objectCommandsAreTakenByTheirRules : Obligations.ObjectCommandsAreTakenByTheirRules := by
  unfold Obligations.ObjectCommandsAreTakenByTheirRules
  intro s src st p h hown
  refine ⟨fun grp n pos hpos => ⟨_, exec_pointMove h hown hpos grp n, fun hnone => ?_, fun ms hms => ⟨fun ⟨m, hm, hbar⟩ => ?_,
      fun hfree => ?_⟩⟩,
    fun i => ⟨_, exec_sectionRestore h hown i, fun hok => ?_, fun hno => ?_⟩,
    fun n => ⟨fun rd hrd => ⟨⟨_, exec_blockSet h hown true n, ?_⟩, _, exec_blockClear h hown true n, ?_⟩,
      fun d hd => ⟨⟨_, exec_blockSet h hown false n, ?_⟩, _, exec_blockClear h hown false n, ?_⟩,
      fun onRoute hroute hobj => ⟨⟨_, exec_blockSet h hown onRoute n, ?_⟩, _, exec_blockClear h hown onRoute n, ?_⟩⟩,
    fun g hg => ⟨_, exec_guardAck h hown hg, ?_⟩, fun code arg => ⟨_, exec_stationCmd h hown code arg, ?_⟩⟩
  · exact taken_of_core_eq (doPointMove_noPoint src hnone)
  · exact taken_of_core_eq (doPointMove_refused src hms ⟨m, hm, (moveRefused_iff ..).mpr hbar⟩)
  · have hgo : ∀ m ∈ ms, ¬ moveRefused s.core m.1 = true := by
      intro m hm hbar
      obtain ⟨o, ho, hcrumb, hvalid, hsettle, hblock⟩ := hfree m hm
      obtain ⟨c, hc, hobj⟩ | hbad | hbad | hbad := (moveRefused_iff ..).mp hbar o ho
      · exact hcrumb c hc hobj
      · exact absurd (hvalid.symm.trans hbad) (by decide)
      · exact hbad hsettle
      · exact absurd (hblock.symm.trans hbad) (by decide)
    refine ⟨fun hthere => taken_of_core_eq (doPointMove_done src hms hgo hthere), fun helse hnodup => ?_⟩
    rw [doPointMove_accepts src hms hgo helse]
    exact taken_moves hnodup fun m hm => have ⟨o, ho, _⟩ := hfree m hm; ⟨o, ho⟩
  · exact taken_of_core_eq (doSectionRestore_accepts src hok)
  · refine taken_of_core_eq (doSectionRestore_else src ?_)
    rintro ⟨d, o, hd, ho, hok⟩
    exact hno d o hd ho hok
  · rw [doBlock_route src true hrd]
    exact ⟨taken_of_core_eq rfl, fun r => mem_blockedAfter_set n r _⟩
  · rw [doBlock_route src false hrd]
    exact ⟨taken_of_core_eq rfl, fun r => mem_blockedAfter_clear n r _⟩
  · exact taken_of_core_eq (doBlock_object src true hd)
  · exact taken_of_core_eq (doBlock_object src false hd)
  · exact taken_of_core_eq (doBlock_undefined src true hroute hobj)
  · exact taken_of_core_eq (doBlock_undefined src false hroute hobj)
  · split
    · next hok => exact taken_of_core_eq (doGuardAck_accepts src hok s.core)
    · next hno => exact taken_of_core_eq (doGuardAck_else src hno s.core)
  · split
    · next hcode => exact taken_of_core_eq (if_pos (List.contains_iff_mem.mpr hcode))
    · next hcode => exact taken_of_core_eq (if_neg (mt List.contains_iff_mem.mp hcode))

end Sys2Proof.Proofs.ObjectRequests

/-! PROOFS. A vital request by the checks of its row (R30, R278, R282, R284 to R286, R296, R320): who answers it, what drops it, and
how it waits for the next INPUT. -/

namespace Sys2Proof.Proofs.VitalChecks

open Sys2Proof Sys2Proof.Machine Sys2Proof.Safety Sys2Proof.Proofs.LaneCommands

section
variable {s : State} {src : Src} {opc : Nat} {r : Option VReq}
variable (haddr : (partnerAt s src.entry).addr ≠ 0xFFFF) (hbridge : s.xbr.fenced = false) (hruns : svcRuns s = true)
include haddr hbridge hruns

/-- Without the class, and in FACTORY or RETIRED, the service processor answers (R282 step 8, R284). -/
theorem vitalRow_notAuth (h : hasClass s src .vital = false ∨ s.sec.life = .factory ∨ s.sec.life = .retired) :
    vitalRow s src opc r = reply s src opc .notAuth [] := by
  have hbar : (!hasClass s src .vital || s.sec.life = .factory || s.sec.life = .retired) = true := by
    obtain h | h | h := h <;> simp [h]
  simp [vitalRow, haddr, hbridge, hruns, hbar]

variable (hclass : hasClass s src .vital = true) (hfactory : s.sec.life ≠ .factory) (hretired : s.sec.life ≠ .retired)
include hclass hfactory hretired

/-- No lanes take it (R282 step 12, R285). -/
theorem vitalRow_drops (htakes : takesVital s = false) : vitalRow s src opc r = s := by
  simp [vitalRow, haddr, hbridge, hruns, hclass, hfactory, hretired, htakes]

variable (htakes : takesVital s = true)
include htakes

/-- The lanes of a fenced command engine answer (R296). -/
theorem vitalRow_fenced (hfenced : s.cmd.fenced = true) : vitalRow s src opc r = putStatus s src opc .notAuth := by
  simp [vitalRow, haddr, hbridge, hruns, hclass, hfactory, hretired, htakes, hfenced]

variable (hfenced : s.cmd.fenced = false)
include hfenced

/-- From a neighbour pair's module nothing but BOUNDARY_STATE is fresh (R278). -/
theorem vitalRow_stale (hkind : (partnerAt s src.entry).addr / 256 % 8 ≤ 3) :
    vitalRow s src opc r = putStatus (countVital s .stale) src opc .stale := by
  simp [vitalRow, haddr, hbridge, hruns, hclass, hfactory, hretired, htakes, hfenced, hkind]

variable (hown : OwnSide s src)
include hown

theorem vitalRow_badLen : vitalRow s src opc none = putStatus s src opc .badLen := by
  have hkind : ¬ (partnerAt s src.entry).addr / 256 % 8 ≤ 3 := Nat.not_le.mpr hown
  simp [vitalRow, haddr, hbridge, hruns, hclass, hfactory, hretired, htakes, hfenced, hkind]

theorem vitalRow_puts (q : VReq) : vitalRow s src opc (some q) = putRequest (hearFrom s src.entry) q := by
  have hkind : ¬ (partnerAt s src.entry).addr / 256 % 8 ≤ 3 := Nat.not_le.mpr hown
  simp [vitalRow, haddr, hbridge, hruns, hclass, hfactory, hretired, htakes, hfenced, hkind]

end

/-- In a frame a request waits for the next INPUT (R30). -/
theorem putRequest_waits {s : State} (hwork : s.work.isSome = true) (hmzp : s.mzp.isSome = true) (r : VReq) :
    putRequest s r = { s with cmd := { s.cmd with inbox := s.cmd.inbox ++ [r] } } := by
  obtain ⟨x, hx⟩ := Option.isSome_iff_exists.mp hwork
  obtain ⟨st, hst⟩ := Option.isSome_iff_exists.mp hmzp
  simp only [putRequest, hst, hx, Option.isNone_some, Bool.false_and, Bool.false_eq_true, if_false]

/-- The ten commands of the statement are rows with their request in range. -/
theorem exec_vital {s : State} {src : Src} {opc : Nat} {c : Instr} {r : VReq} {n m : Nat} {b : Bool}
    (h : (opc, c, r) ∈ [(0x10, Instr.routeSet src n 600, VReq.routeSet src n 600), (0x11, .routeCancel src n, .routeCancel src n),
      (0x12, .emergencyRelease src n, .emergency src n), (0x13, .pointMove src b n 1, .pointMove src b n 1),
      (0x13, .pointMove src b n 2, .pointMove src b n 2), (0x14, .sectionRestore src n, .restore src n),
      (0x15, .blockSet src b n, .block src b n true), (0x15, .blockClear src b n, .block src b n false),
      (0x18, .guardAck src 15, .guardAck src 15), (0x19, .stationCmd src n m, .stationCmd src n m)]) :
    exec c s = .next (vitalRow s src opc (some r)) := by
  simp only [List.mem_cons, Prod.mk.injEq, List.not_mem_nil, or_false] at h
  obtain ⟨rfl, rfl, rfl⟩ | ⟨rfl, rfl, rfl⟩ | ⟨rfl, rfl, rfl⟩ | ⟨rfl, rfl, rfl⟩ | ⟨rfl, rfl, rfl⟩ | ⟨rfl, rfl, rfl⟩ | ⟨rfl, rfl, rfl⟩
    | ⟨rfl, rfl, rfl⟩ | ⟨rfl, rfl, rfl⟩ | ⟨rfl, rfl, rfl⟩ := h
  all_goals rfl

theorem exec_routeSet_tooLong {wait : Nat} (h : 600 < wait) (s : State) (src : Src) (route : Nat) :
    exec (.routeSet src route wait) s = .next (vitalRow s src 0x10 none) :=
  congrArg (fun r => Host.Outcome.next (vitalRow s src 0x10 r)) (if_neg (Nat.not_le.mpr h))

theorem exec_pointMove_elsewhere {pos : Nat} (h1 : pos ≠ 1) (h2 : pos ≠ 2) (s : State) (src : Src) (grp : Bool) (n : Nat) :
    exec (.pointMove src grp n pos) s = .next (vitalRow s src 0x13 none) :=
  congrArg (fun r => Host.Outcome.next (vitalRow s src 0x13 r)) (if_neg (not_or.mpr ⟨h1, h2⟩))

theorem exec_guardAck_above {g : Nat} (h : 15 < g) (s : State) (src : Src) :
    exec (.guardAck src g) s = .next (vitalRow s src 0x18 none) :=
  congrArg (fun r => Host.Outcome.next (vitalRow s src 0x18 r)) (if_neg (Nat.not_le.mpr h))

/-- Settles O35, check by check in the order of the row. -/
theorem vitalRequestsAreAnsweredDroppedOrKept : Obligations.VitalRequestsAreAnsweredDroppedOrKept := by
  unfold Obligations.VitalRequestsAreAnsweredDroppedOrKept
  intro s src opc c r n m b hc haddr hbridge hruns fixed
  rw [exec_vital hc]
  refine ⟨fun hbar => ⟨_, rfl, ?_⟩, fun hclass hfactory hretired => ⟨fun hno => ?_, fun htakes => ⟨fun hfenced => ⟨_, rfl, ?_⟩,
    fun hfenced => ⟨fun hkind => ⟨_, rfl, ?_⟩, fun hown => ?_⟩⟩⟩⟩
  · rw [vitalRow_notAuth haddr hbridge hruns hbar]
    exact reply_replies s src opc .notAuth []
  · rw [vitalRow_drops haddr hbridge hruns hclass hfactory hretired hno]
  · rw [vitalRow_fenced haddr hbridge hruns hclass hfactory hretired htakes hfenced]
    exact ⟨rfl, rfl⟩
  · rw [vitalRow_stale haddr hbridge hruns hclass hfactory hretired htakes hfenced hkind]
    exact ⟨rfl, rfl⟩
  · have hbad : ∀ {c : Instr} {o : Nat}, exec c s = .next (vitalRow s src o none) →
        ∃ t, exec c s = .next t ∧ t = fixed t o .badLen ∧ t.cmd = s.cmd := by
      intro c o hexec
      rw [vitalRow_badLen haddr hbridge hruns hclass hfactory hretired htakes hfenced hown] at hexec
      exact ⟨_, hexec, rfl, rfl⟩
    refine ⟨fun hwork hmzp _ => ⟨_, rfl, ?_⟩, fun k hk => hbad (exec_routeSet_tooLong hk s src n),
      fun k h1 h2 => hbad (exec_pointMove_elsewhere h1 h2 s src b n), fun k hk => hbad (exec_guardAck_above hk s src)⟩
    rw [vitalRow_puts haddr hbridge hruns hclass hfactory hretired htakes hfenced hown, putRequest_waits (s := hearFrom s src.entry) hwork hmzp]
    exact ⟨rfl, rfl⟩

end Sys2Proof.Proofs.VitalChecks

/-! PROOFS. The commands on registers, staging and settings (R271, R291, R297, R299, R301, R314, R385): what REG_READ meets at each
address, what REG_WRITE makes of the words, and what is staged or stored. -/

namespace Sys2Proof.Proofs.RegisterCommands

open Sys2Proof Sys2Proof.Machine Sys2Proof.Safety Sys2Proof.Proofs.LaneCommands Sys2Proof.Proofs.Queries

/-! ## REG_READ (R291, R297, R301) -/

/-- The copies of the pointers of every queue agree (R311). -/
def PointersAgree (s : State) : Prop := ∀ q ≤ 5, pointersAgree (queueOf s.xbr q) = true

/-- An access to a port whose queue is sound changes nothing. -/
theorem touchPort_agree {s : State} (h : PointersAgree s) (a : Nat) : touchPort s a = s := by
  unfold touchPort
  split
  · next hport =>
    obtain ⟨hmin, hmax, -⟩ := hport
    exact if_pos (h _ (by omega))
  · rfl

theorem readOne_ok {s : State} (h : PointersAgree s) {a : Nat} {w : Word} (hread : serviceRead s a = .ok w) :
    readOne s a = (w, { s with free := s.free + 1 }) := by
  simp only [readOne, touchPort_agree h, hread]

theorem readOne_error {s : State} (h : PointersAgree s) {a c : Nat} (hread : serviceRead s a = .error c) :
    readOne s a = (0xFFFFFFFF, accessError s a c false) := by
  simp only [readOne, touchPort_agree h, hread]

/-- Words that all read are read one by one, whatever free values the reads have taken. -/
theorem readMany_ok {s : State} (h : PointersAgree s) {a count : Nat} {w : Nat → Word}
    (hread : ∀ k < count, ∀ f, serviceRead { s with free := f } (a + 4 * k) = .ok (w k)) (f : Nat) :
    readMany { s with free := f } a count = ((List.range count).map w, { s with free := f + count }) := by
  induction count generalizing a w f with
  | zero => rfl
  | succ n ih =>
    have hfirst : readOne { s with free := f } a = (w 0, { s with free := f + 1 }) :=
      readOne_ok (s := { s with free := f }) h (hread 0 n.succ_pos f)
    have hrest : readMany { s with free := f + 1 } (a + 4) n
        = ((List.range n).map fun k => w (k + 1), { s with free := f + 1 + n }) := by
      refine ih (fun k hk g => ?_) (f + 1)
      rw [show a + 4 + 4 * k = a + 4 * (k + 1) by omega]
      exact hread (k + 1) (Nat.succ_lt_succ hk) g
    rw [readMany, hfirst]
    dsimp only
    rw [hrest, List.range_succ_eq_map, List.map_cons, List.map_map, Nat.add_right_comm]
    rfl

section RegRead
variable {s : State} {src : Src} (hgate : gateOf s src 0x82 = .pass) {addr count : Nat}
include hgate

theorem regRead_badLen (h : addr % 4 ≠ 0 ∨ count = 0 ∨ 2045 < count) :
    SvcReply (.regReadCmd src addr count) s (hearFrom s src.entry) src 0x82 .badLen [] :=
  svcReply_of_gated rfl hgate (if_pos (h.imp_right (.imp_left fun h0 => h0 ▸ Nat.one_pos)))

/-- A count within its limits at an aligned address is replied to with what the reads gave. -/
theorem regRead_replies (haddr : addr % 4 = 0) (hmin : 1 ≤ count) (hmax : count ≤ 2045) {ws : List Word} {v : State}
    (hread : readMany (hearFrom s src.entry) addr count = (ws, v)) :
    SvcReply (.regReadCmd src addr count) s v src 0x82 .done (ws.flatMap fun w => be 4 w.toNat) := by
  refine svcReply_of_gated rfl hgate ?_
  rw [if_neg (by omega), hread]

end RegRead

/-! ## REG_WRITE (R291) -/

/-- The words go to rising addresses in their order. -/
theorem writeMany_eq_foldl (wr : Writer) (s : State) (a k : Nat) (words : List Word) : writeMany wr s (a + 4 * k) words
    = (words.zipIdx k).foldl (fun v p => (laneWrite v wr (a + 4 * p.2) p.1).getD v) s := by
  induction words generalizing s k with
  | nil => rfl
  | cons w ws ih =>
    rw [writeMany, List.zipIdx_cons, List.foldl_cons, ← ih]
    rfl

/-! ## PARTNER_STAGE (R271) -/

/-- The staged entries with one in place of what was staged for its number. -/
def stagedWith (l : List (Nat × Partner)) (entry : Nat) (p : Partner) : List (Nat × Partner) :=
  l.filter (·.1 != entry) ++ [(entry, p)]

theorem mem_stagedWith_same (l : List (Nat × Partner)) (entry : Nat) (p q : Partner) :
    (entry, q) ∈ stagedWith l entry p ↔ q = p := by
  simp [stagedWith]

theorem mem_stagedWith_other (l : List (Nat × Partner)) {entry n : Nat} (h : n ≠ entry) (p q : Partner) :
    (n, q) ∈ stagedWith l entry p ↔ (n, q) ∈ l := by
  simp [stagedWith, h]

/-- Settles O38, command by command. -/
theorem registerCommandsReachTheirRegisters : Obligations.RegisterCommandsReachTheirRegisters := by
  unfold Obligations.RegisterCommandsReachTheirRegisters
  intro s src u
  refine ⟨fun hgate addr count => ⟨regRead_badLen hgate, fun hagree haddr hmin hmax w hread => ?_, fun hagree haddr c hread => ?_⟩,
    fun hgate addr words => ⟨fun hout => ?_, fun haddr hsome hmax => ?_⟩, fun hgate => ?_, fun hgate => ?_,
    fun hgate entry words => ?_, fun hgate => ⟨fun hconf => ?_, fun q hq hpart => ?_⟩⟩
  · rw [← List.flatMap_map w (fun w => be 4 w.toNat)]
    exact regRead_replies hgate haddr hmin hmax (readMany_ok (s := u) hagree hread u.free)
  · refine ⟨accessError u addr c false, rfl, regRead_replies (ws := [0xFFFFFFFF]) hgate haddr Nat.le.refl (by omega) ?_⟩
    have hone : readOne u addr = (0xFFFFFFFF, accessError u addr c false) := readOne_error (s := u) hagree hread
    rw [readMany, hone]
    rfl
  · refine svcReply_of_row rfl hgate (if_pos ?_)
    simpa using hout
  · refine laneAnswer_of_row rfl hgate ?_ (by decide)
    rw [← writeMany_eq_foldl { addr := src.addr } u addr 0 words]
    exact if_neg (by simp [haddr, hsome, hmax])
  · exact congrArg Host.Outcome.next (gated_pass hgate _)
  · exact laneAnswer_of_row rfl hgate rfl (by decide)
  · intro bs p
    refine ⟨fun hentry hlen hconn => ⟨stagedWith s.stagedPartners entry p, laneAnswer_of_row rfl hgate (if_neg ?_) (by decide),
      mem_stagedWith_same _ entry p, fun n q hn => mem_stagedWith_other _ hn p q⟩,
      fun hout => svcReply_of_row rfl hgate (if_pos (hout.imp_right .inl))⟩
    rintro (hbad | hbad | ⟨haddr, hbad⟩)
    · exact absurd hentry (Nat.not_le.mpr hbad)
    · exact hbad hlen
    · obtain h | ⟨hmin, hmax⟩ := hconn
      · exact haddr h
      · exact hbad.elim (Nat.not_lt.mpr hmin) (Nat.not_lt.mpr hmax)
  · refine svcReply_of_gated rfl hgate (if_neg ?_)
    rintro (h | h) <;> obtain ⟨q, hq, hpart⟩ := Option.map_eq_some_iff.mp h
    · exact (hconf q hq).1 hpart
    · exact (hconf q hq).2 hpart
  · refine svcReply_of_gated rfl hgate (if_pos ?_)
    exact hpart.imp (fun h => Option.map_eq_some_iff.mpr ⟨q, hq, h⟩) fun h => Option.map_eq_some_iff.mpr ⟨q, hq, h⟩

end Sys2Proof.Proofs.RegisterCommands

/-! PROOFS. What the steps of a start-up carry over and where they end (R202, R385, R387, R388, R415, R420 to R422). -/

namespace Sys2Proof.Proofs.StartUp

open Sys2Proof Sys2Proof.Machine Sys2Proof.Safety Sys2Proof.Proofs.Frames Sys2Proof.Proofs.Grant Sys2Proof.Proofs.FieldTransmissions
open Sys2Proof.Proofs.ServiceFrames

/-! ## What a step leaves -/

/-- What a start shows at its end of what it found: no step of it changes these, but for the seal's check and the self-test. -/
structure Carried where
  cause : Nat
  dbg : Dbg
  session : Option Session
  chal : Option Chal
  life : Life
  blobs : List Blob
  tamper : Bool
  sealBroken : Bool
  ring : List Segment
  pending : List Instr
  pcc : Nat
  post : Nat

/-- What a start finds in a state, and shows at its end. -/
def carried (s : State) : Carried :=
  { cause := s.sys.cause, dbg := s.sec.dbg, session := s.sec.session, chal := s.sec.chal, life := s.sec.life
    blobs := s.sec.blobs, tamper := s.sec.tamper, sealBroken := s.sec.sealBroken, ring := s.evr.ring, pending := s.pending
    pcc := s.pwr.pcc, post := s.bst.post }

/-- How far the start is, recovery mode, and the image in use. -/
def place (s : State) : Nat × Bool × Option Station := (s.sys.step, s.upd.recov, s.mzp)

/-- What a module without a role has: no frame, no tick, no grant. -/
def running (s : State) : Option Inter × Option Nat × Bool × Bool := (s.work, s.frm.nextTick, s.dpx.granted, s.sys.ready)

/-- No frame is in progress or due, no grant is held, and no role entered. -/
def Idle (s : State) : Prop := running s = (none, none, false, false)

/-- `t` follows `s` by steps that stay in one place of the start. -/
structure Stays (s t : State) : Prop where
  keeps : carried t = carried s
  there : place t = place s
  sent : s.sent <+: t.sent
  now : t.now = s.now
  idle : Idle s → Idle t

theorem Stays.trans {s t u : State} (h : Stays s t) (g : Stays t u) : Stays s u where
  keeps := g.keeps.trans h.keeps
  there := g.there.trans h.there
  sent := h.sent.trans g.sent
  now := g.now.trans h.now
  idle i := g.idle (h.idle i)

/-- All that `Stays` speaks of. -/
def view (s : State) := (carried s, place s, running s, s.sent, s.now)

theorem Stays.of_view {s t : State} (h : view t = view s) : Stays s t := by
  obtain ⟨hcarried, hplace, hrunning, hsent, hnow⟩ : carried t = carried s ∧ place t = place s ∧ running t = running s
      ∧ t.sent = s.sent ∧ t.now = s.now := by simpa only [view, Prod.mk.injEq] using h
  exact ⟨hcarried, hplace, ⟨[], by rw [List.append_nil, hsent]⟩, hnow, fun i => hrunning.trans i⟩

/-- A step from a state that differs in nothing of this. -/
theorem Stays.after {s t u : State} (g : Stays t u) (h : view t = view s) : Stays s u := (Stays.of_view h).trans g

theorem Stays.refl (s : State) : Stays s s := .of_view rfl

theorem Stays.foldl {α : Type} {f : State → α → State} (hf : ∀ s a, Stays s (f s a)) (l : List α) (s : State) :
    Stays s (l.foldl f s) := by
  induction l generalizing s with
  | nil => exact .refl s
  | cons a l ih => exact (hf s a).trans (ih _)

/-- A step that is taken under a condition only. -/
theorem Stays.ite {s t u : State} (p : Prop) [Decidable p] (h : Stays s t) (g : Stays s u) : Stays s (if p then t else u) := by
  split
  · exact h
  · exact g

/-! ## Records, fencing and the stop -/

theorem stays_of_note {s t : State} (h : NoteFrame s t) : Stays s t := by
  refine .of_view ?_
  rw [h]
  rfl

theorem stays_of_record {s t : State} (h : RecordFrame s t) : Stays s t := stays_of_note h.note

theorem stays_of_lanes {s t : State} (h : LanesFrame s t) : Stays s t := by
  refine .of_view ?_
  rw [h]
  rfl

theorem laneFence_stays (s : State) (l : Lane) : Stays s (laneFence s l) := by
  have hduo : ∀ u : State, Stays u (duoStart u) := fun u => .ite _ (.of_view rfl) (.refl u)
  exact .ite _ ((stays_of_lanes (laneTo_lanesFrame s l .fenced)).trans ((hduo _).after rfl)) (.refl s)

theorem prlSwitch_stays (s : State) : Stays s (prlSwitch s) := .ite _ (.of_view rfl) (.refl s)

/-- A change of the interlocking state finds no frame in progress to change with it. -/
theorem updInter_stays (s : State) (f : Inter → Inter) : Stays s (updInter s f) where
  keeps := rfl
  there := rfl
  sent := List.prefix_rfl
  now := rfl
  idle i := by
    obtain ⟨hwork, -⟩ : s.work = none ∧ _ := by simpa only [Idle, running, Prod.mk.injEq] using i
    have hmap : (updInter s f).work = s.work := by rw [updInter, hwork]; rfl
    exact (congrArg (·, s.frm.nextTick, s.dpx.granted, s.sys.ready) hmap).trans i

theorem prlFence_stays (s : State) : Stays s (prlFence s) := by
  have hfenced : Stays s { s with prl := { s.prl with fenced := true } } := .of_view rfl
  exact .ite _ (.refl s) (hfenced.trans ((updInter_stays _ _).trans ((prlSwitch_stays _).after rfl)))

theorem setFrn_stays (s : State) (c : Cluster) (f : FrnBlk → FrnBlk) : Stays s (setFrn s c f) := by
  cases c <;> exact .of_view rfl

theorem frnFence_stays (s : State) (c : Cluster) : Stays s (frnFence s c) :=
  .ite _ (.refl s) (.ite _ ((setFrn_stays s c _).trans (.of_view rfl)) (setFrn_stays s c _))

theorem fenceUnit_stays (s : State) (b : Blk) (n : Nat) (lane : Option Lane) : Stays s (fenceUnit s b n lane) := by
  cases b
  case vot | bst =>
    cases lane with
    | none => exact .refl s
    | some l => exact laneFence_stays s l
  case prl => exact prlFence_stays s
  case frn => exact frnFence_stays s _
  all_goals exact .of_view rfl

/-- The stop ends what a module without a role does not have. -/
theorem safeStop_stays (s : State) : Stays s (safeStop s) := by
  have hstop : Stays s (stopFrames s) :=
    { keeps := rfl, there := rfl, sent := List.prefix_rfl, now := rfl
      idle := fun i => by simp_all [Idle, running, stopFrames] }
  have hgiven : ∀ u : State, Stays u (relinquish u) := fun u =>
    { keeps := rfl, there := rfl, sent := List.prefix_rfl, now := rfl
      idle := fun i => by simp_all [Idle, running, relinquish] }
  exact .ite _ (.refl s) (hstop.trans ((stays_of_record (recordFrame_of_svc (startFlush_frame _))).trans (hgiven _)))

theorem react_stays (s : State) (b : Blk) (n : Nat) (sev : Sev) (lane : Option Lane) : Stays s (react s b n sev lane) := by
  cases sev
  case record | warn => exact .refl s
  case fence => exact fenceUnit_stays s b n lane
  case safeStop => exact (fenceUnit_stays s b n lane).trans (safeStop_stays _)

theorem faultRec_stays (s : State) (b : Blk) (n : Nat) (sev : Sev) : Stays s (faultRec s b n sev) :=
  stays_of_note (faultRec_noteFrame s b n sev)

theorem raiseAt_stays (s : State) (b : Blk) (n : Nat) (lane : Option Lane) : Stays s (raiseAt s b n lane) := by
  unfold raiseAt
  dsimp only
  split
  · exact .refl s
  · exact ((faultRec_stays _ b n _).trans (react_stays _ b n _ lane)).after rfl

theorem raise_stays (s : State) (b : Blk) (n : Nat) : Stays s (raise s b n) := raiseAt_stays s b n none

theorem setLive_stays (s : State) (b : Blk) (n : Nat) (on : Bool) : Stays s (setLive s b n on) :=
  .ite _ (raise_stays s b n) (.of_view rfl)

/-! ## The evaluation of the stored settings (R224, R314, R421) -/

theorem sendService_stays (s : State) (c : Cluster) (node code ref : Nat) (content : Bytes) :
    Stays s (sendService s c node code ref content) := by
  have hsend : ∀ (u : State) (w : SvcOut), Stays u (sendSvc u c w) := fun u w => by
    have hsent := (sendSvc_speaks u c w).sent
    have honly := sendSvc_sentOnly u c w
    unfold SentOnly at honly
    rw [honly] at hsent ⊢
    exact ⟨rfl, rfl, hsent, rfl, id⟩
  unfold sendService
  split
  · exact .refl s
  · exact (setFrn_stays s c _).trans ((setFrn_stays _ c _).trans (hsend _ _))

theorem sendConfigSet_stays (s : State) (param value : Nat) : Stays s (sendConfigSet s param value) :=
  (Stays.foldl (fun s _ => sendService_stays s .c0 _ _ _ _) _ s).trans (.foldl (fun s _ => sendService_stays s .c1 _ _ _ _) _ _)

theorem reactRaised_stays (old : Cfg) (s : State) (b : Blk) : Stays s (reactRaised old s b) := by
  refine .foldl (fun s n => .ite _ ?_ (.refl s)) _ s
  exact (faultRec_stays s b n _).trans (.ite _ (react_stays _ b n _ none) (.foldl (fun s l => react_stays s b n _ (some l)) _ _))

theorem retryRefused_stays (s : State) : Stays s (retryRefused s) := by
  unfold retryRefused
  exact (setFrn_stays s .c0 _).trans (setFrn_stays _ .c1 _)

theorem redue_post (s : State) (c : Cfg) (b : BstBlk) (l : Lane) : (redue s c b l).post = b.post := by
  unfold redue
  dsimp only
  cases l <;> repeat' split
  all_goals rfl

/-- New due times of the tests. -/
theorem redueAll_stays (s : State) (c : Cfg) : Stays s { s with bst := Lane.all.foldl (redue s c) s.bst } := by
  have hpost : (Lane.all.foldl (redue s c) s.bst).post = s.bst.post :=
    (redue_post s c _ .l3).trans ((redue_post s c _ .l2).trans (redue_post s c _ .l1))
  refine .of_view ?_
  show ({ carried s with post := (Lane.all.foldl (redue s c) s.bst).post }, _) = _
  rw [hpost]
  rfl

theorem applyStaged_stays (s : State) : Stays s (applyStaged s) := by
  have hperiod : ∀ (p : Prop) [Decidable p] (u : State) (n v : Nat), Stays u (if p then sendConfigSet u n v else u) :=
    fun p _ u n v => .ite p (sendConfigSet_stays u n v) (.refl u)
  unfold applyStaged
  dsimp only
  refine Stays.trans ?_ ((retryRefused_stays _).trans (.foldl (reactRaised_stays s.cfg) _ _))
  refine Stays.trans ?_ (.ite _ (redueAll_stays _ _) (.refl _))
  exact ((hperiod _ _ 1 _).trans (hperiod _ _ 2 _)).after rfl

theorem evalCommit_stays (s : State) : Stays s (evalCommit s) := by
  have hdone : ∀ (u : State) (x : XbrBlk) (r a : Nat), Stays u (commitRecord { u with xbr := x } r a) := fun u x r a =>
    (stays_of_record (frameRec_recordFrame _ _ _ _)).after rfl
  refine .ite _ (hdone s _ 2 0) ?_
  split
  · exact hdone s _ 1 _
  · exact (applyStaged_stays s).trans (hdone _ _ 0 0)

theorem startCommit_stays (s : State) : Stays s (startCommit s) := by
  unfold startCommit
  split
  · exact .refl s
  · exact (evalCommit_stays _).after rfl

/-! ## The lanes, Praline, the tests and the START record -/

/-- A change of the vote's block with a raising that follows it. -/
theorem raisedLane_stays (s : State) (v : VotBlk) (l : Lane) : Stays s (raiseAt { s with vot := v } .vot vLANE_FAULT (some l)) :=
  (raiseAt_stays _ _ _ _).after rfl

theorem bootLane_stays (fail : List Lane) (s : State) (l : Lane) : Stays s (bootLane fail s l) :=
  .ite _ (raisedLane_stays s _ l) (.of_view rfl)

theorem keepLane_stays (v : VotBlk) (s : State) (l : Lane) : Stays s (keepLane v s l) :=
  .ite _ (raisedLane_stays s _ l) (.of_view rfl)

theorem laneKeys_stays (s : State) : Stays s (laneKeys s) :=
  .foldl (fun s l => .ite _ (.refl s) (raisedLane_stays s _ l)) _ s

theorem checkPraline_stays (env : StartEnv) (s : State) : Stays s (checkPraline env s) := .of_view rfl

theorem unwrapKeys_stays (s : State) : Stays s (unwrapKeys s) := by
  unfold unwrapKeys
  dsimp only
  refine .ite _ ((raise_stays _ .prl pKEY_ABSENT).after rfl) (.ite _ (.of_view rfl) (.of_view rfl))

theorem inject_stays (env : StartEnv) (s : State) : Stays s (inject env s) :=
  .ite _ (.of_view rfl) ((raise_stays _ .vot vINJ_FAIL).after rfl)

theorem startRecord_stays (cause : Nat) (s : State) : Stays s (startRecord cause s) :=
  stays_of_record (svcRec_recordFrame s _ _ _)

theorem fieldAtStart_stays (env : StartEnv) (s : State) : Stays s (fieldAtStart env s) :=
  .ite _ ((raise_stays _ .lio lCONVERTER).after rfl) (.of_view rfl)

theorem openWindow_stays (s : State) (part : Part) (withPrt : Bool) : Stays s (openWindow s part withPrt) :=
  (raise_stays _ .upd uCONFIRM_PENDING).after rfl

theorem resumeWindow_stays (s : State) : Stays s (resumeWindow s) := by
  unfold resumeWindow
  split
  · exact .ite _ (openWindow_stays s _ _) (.refl s)
  · exact .refl s

theorem loadNumbers_stays (s : State) : Stays s (loadNumbers s) := (raise_stays _ .evr rTIME_HOLD).after rfl

/-! ## The service part (R202, R387, R388, R415, R420) -/

/-- `t` follows `s` by steps of the start that show `f` of what they found. -/
structure Leads (f : Carried → Carried) (s t : State) : Prop where
  keeps : carried t = f (carried s)
  sent : s.sent <+: t.sent
  now : s.now ≤ t.now
  idle : Idle s → Idle t

theorem Stays.leads {s t : State} (h : Stays s t) : Leads id s t := ⟨h.keeps, h.sent, h.now.ge, h.idle⟩

theorem Leads.trans {f g : Carried → Carried} {s t u : State} (h : Leads f s t) (k : Leads g t u) : Leads (g ∘ f) s u where
  keeps := k.keeps.trans (congrArg g h.keeps)
  sent := h.sent.trans k.sent
  now := h.now.trans k.now
  idle i := k.idle (h.idle i)

theorem Leads.stays {f : Carried → Carried} {s t u : State} (h : Leads f s t) (k : Stays t u) : Leads f s u := h.trans k.leads

/-- A step to another place of the start. -/
theorem leads_of_eq {f : Carried → Carried} {s t : State} (hkeeps : carried t = f (carried s)) (hsent : t.sent = s.sent)
    (hnow : t.now = s.now) (hrunning : running t = running s) : Leads f s t :=
  ⟨hkeeps, ⟨[], by rw [List.append_nil, hsent]⟩, hnow.ge, fun i => hrunning.trans i⟩

theorem upd_leads (s : State) (u : UpdBlk) : Leads id s { s with upd := u } := leads_of_eq rfl rfl rfl rfl

/-- The start enters a step. -/
def atStep (s : State) (n : Nat) : State := { s with sys := { s.sys with step := n } }

theorem step_leads (s : State) (n : Nat) : Leads id s (atStep s n) := leads_of_eq rfl rfl rfl rfl

theorem noteBanks_stays (s : State) : Stays s (noteBanks s) := setLive_stays s .upd uBANK_BAD _

/-- A source raised where `p` is found. -/
theorem raiseIf_stays (p : Bool) (s : State) (b : Blk) (n : Nat) : Stays s (if p then raise s b n else s) :=
  .ite _ (raise_stays s b n) (.refl s)

theorem raiseUnless_stays (p : Bool) (s : State) (b : Blk) (n : Nat) : Stays s (if p then s else raise s b n) :=
  .ite _ (.refl s) (raise_stays s b n)

theorem startBanks_leads (s : State) : Leads id s (startBanks s) := by
  delta startBanks
  extract_lets u _ u0 fell u1 s1 s2 found x y s3 _
  have h1 : Leads id s s1 := (upd_leads s u1).stays (noteBanks_stays _)
  have h2 : Leads id s1 s2 := (raiseIf_stays fell s1 .upd uFALLBACK).leads
  have h3 : Leads id s2 s3 := by
    clear_value s2 found
    unfold s3
    split
    · exact upd_leads s2 _
    · have hlost : Leads id s2 { s2 with sys := { y with settingsLost := true } } := leads_of_eq rfl rfl rfl rfl
      exact hlost.stays (raise_stays _ .sys sSETTINGS_LOST)
  exact ((h1.trans h2).trans h3).trans (upd_leads s3 _)

/-- What a module shows that has checked its seal (R415). -/
def Carried.sealChecked (k : Carried) : Carried := { k with tamper := k.tamper || k.sealBroken }

/-- Another result of the self-test (R202). -/
def Carried.withPost (post : Nat) (k : Carried) : Carried := { k with post := post }

theorem post_leads (s : State) (post : Nat) : Leads (Carried.withPost post) s { s with bst := { s.bst with post := post } } :=
  leads_of_eq rfl rfl rfl rfl

theorem peerRecord_stays (s : State) (n : Nat) : Stays s { s with dpx := { s.dpx with peerRecord := n } } := .of_view rfl

theorem elementOk_stays (s : State) (ok : Bool) : Stays s { s with sec := { s.sec with elementOk := ok } } := .of_view rfl

/-- A security block in which the seal has been checked, with a key-encryption key made anew or not. -/
theorem seal_leads (s : State) : let c := if s.sec.sealBroken then { s.sec with tamper := true, kek := false } else s.sec
    Leads Carried.sealChecked s
      (if c.kek then { s with sec := c } else { s with sec := { c with kek := true, kekGen := c.kekGen + 1 } }) := by
  intro c
  have hseal : carried { s with sec := c } = (carried s).sealChecked := by
    unfold c
    cases h : s.sec.sealBroken <;> simp [carried, Carried.sealChecked, h]
  clear_value c
  split <;> exact leads_of_eq hseal rfl rfl rfl

theorem selfTest_leads (env : StartEnv) (s : State) : Leads (Carried.withPost (if env.postOk then 2 else 3)) s
    (if env.postOk then { s with bst := { s.bst with post := 2 } }
      else raise { s with bst := { s.bst with post := 3 } } .bst bPOST_FAIL) := by
  split
  · exact post_leads s 2
  · exact (post_leads s 3).stays (raise_stays _ .bst bPOST_FAIL)

/-- The service part shows the seal in the latch, and the result of the self-test. -/
theorem startService_leads (env : StartEnv) (s : State) :
    Leads (Carried.withPost (if env.postOk then 2 else 3) ∘ Carried.sealChecked) s (startService env s) := by
  delta startService
  extract_lets _ s0 s1 _ s2 _ c s3 s4 _ s5 _ s6 _
  have h1 : Stays s s1 :=
    ((peerRecord_stays s _).trans (fieldAtStart_stays env _)).trans (raiseUnless_stays env.railOk s0 .pwr wRAIL)
  have h2 : Stays s1 s2 := .ite _ (.refl s1) ((elementOk_stays s1 false).trans (raise_stays _ .sec eKEY_STORE))
  have h3 : Leads Carried.sealChecked s2 s3 := seal_leads s2
  have h4 : Stays s3 s4 := raiseIf_stays c.tamper s3 .sec eTAMPER
  have h5 : Leads id s4 s5 := (step_leads s4 3).trans (startBanks_leads _)
  have h6 : Leads (Carried.withPost (if env.postOk then 2 else 3)) s5 s6 := selfTest_leads env s5
  clear_value s1 s2 s3 s4 s5 s6
  exact ((((((h1.trans h2).leads.trans h3).stays h4).trans h5).trans h6).trans (step_leads s6 4)).stays
    ((Stays.foldl (bootLane_stays env.bootFail) _ _).trans (resumeWindow_stays _))

/-! ## Steps 5 to 9 (R147, R182, R421) -/

/-- Time passes. -/
def spend (s : State) (d : Nat) : State := { s with now := s.now + d }

theorem spend_leads (s : State) (d : Nat) : Leads id s (spend s d) where
  keeps := rfl
  sent := List.prefix_rfl
  now := Nat.le_add_right s.now d
  idle := id

/-- A module that has tried to load its image: in recovery mode, or with the image in use. -/
def Loaded (s : State) : Prop := s.upd.recov = true ∨ ∃ st, s.mzp = some st

theorem Stays.mzp {s t : State} (h : Stays s t) : t.mzp = s.mzp := congrArg (·.2.2) h.there

theorem Stays.recov {s t : State} (h : Stays s t) : t.upd.recov = s.upd.recov := congrArg (·.2.1) h.there

theorem Stays.step {s t : State} (h : Stays s t) : t.sys.step = s.sys.step := congrArg (·.1) h.there

theorem Stays.loaded {s t : State} (h : Stays s t) (hs : Loaded s) : Loaded t := by
  rwa [Loaded, h.recov, h.mzp]

theorem loadMzp_leads (env : StartEnv) (s : State) : Leads id s (loadMzp env s) ∧ Loaded (loadMzp env s) := by
  unfold loadMzp
  split
  next st _ =>
    split
    · have hmark : ∀ u : UpdBlk, u.recov = true →
          Leads id s (noteBanks { s with upd := u }) ∧ Loaded (noteBanks { s with upd := u }) :=
        fun u hu => ⟨(upd_leads s u).stays (noteBanks_stays _), (noteBanks_stays _).loaded (.inl hu)⟩
      exact hmark _ rfl
    · exact ⟨leads_of_eq rfl rfl rfl rfl, .inr ⟨st, rfl⟩⟩
  next => exact ⟨upd_leads s _, .inl rfl⟩

/-- Steps 5 to 7. -/
def unwrapped (env : StartEnv) (s : State) : State := unwrapKeys (checkPraline env (loadMzp env (atStep s 5)))

theorem unwrapped_leads (env : StartEnv) (s : State) : Leads id s (unwrapped env s) ∧ Loaded (unwrapped env s) := by
  obtain ⟨hlead, hloaded⟩ := loadMzp_leads env (atStep s 5)
  have hkeys := (checkPraline_stays env (loadMzp env (atStep s 5))).trans (unwrapKeys_stays _)
  exact ⟨((step_leads s 5).trans hlead).stays hkeys, hkeys.loaded hloaded⟩

/-- Step 8, with the START record. -/
def committed (cause : Nat) (s : State) : State := startRecord cause (startCommit (atStep s 8))

theorem committed_leads (cause : Nat) {s : State} (hloaded : Loaded s) :
    Leads id s (committed cause s) ∧ Loaded (committed cause s) ∧ (committed cause s).sys.step = 8 := by
  have h := (startCommit_stays (atStep s 8)).trans (startRecord_stays cause _)
  exact ⟨(step_leads s 8).stays h, h.loaded hloaded, h.step⟩

/-- Step 9 where no source has stopped the module. -/
def afterInjection (env : StartEnv) (s : State) : State :=
  if s.sys.stopped then laneKeys s else inject env (laneKeys (atStep s 9))

theorem afterInjection_leads (env : StartEnv) {s : State} (hstep : s.sys.step = 8) :
    Leads id s (afterInjection env s) ∧ (afterInjection env s).mzp = s.mzp
      ∧ ((afterInjection env s).sys.step = 8 ∨ (afterInjection env s).sys.step = 9) := by
  unfold afterInjection
  split
  · have h := laneKeys_stays s
    exact ⟨h.leads, h.mzp, .inl (h.step.trans hstep)⟩
  · have h := (laneKeys_stays (atStep s 9)).trans (inject_stays env _)
    exact ⟨(step_leads s 9).stays h, h.mzp, .inr h.step⟩

/-- How the lanes' part goes on after step 8. -/
def finishLanes (env : StartEnv) (s : State) : State :=
  if s.upd.recov then { s with dpx := { s.dpx with role := .alone }, sys := { s.sys with stopped := true, step := 5 } }
  else if s.xbr.cresult = 1 ∨ keyedLanes s (laneKsel s.cfg) < 2 ∨ s.sec.tamper then goKeyless (laneKeys s)
  else if (spend (afterInjection env s) env.duration).sys.stopped then spend (afterInjection env s) env.duration
  else enterRole (spend (afterInjection env s) env.duration)

theorem startLanes_eq (env : StartEnv) (cause : Nat) (s : State) :
    startLanes env cause s = finishLanes env (committed cause (unwrapped env s)) := by
  delta startLanes
  extract_lets _ s5 s7 _ s8 s9 _ _ s10 s11
  have h9 : s9 = committed cause (unwrapped env s) := rfl
  clear_value s9
  rw [← h9]
  rfl

/-! ## Step 10: the role (R342, R422) -/

/-- What the role is entered with. -/
def roleView (s : State) := (carried s, s.sent, s.now, s.work, s.sys, s.dpx, s.cfg, s.frm.nextTick, s.mzp, s.core)

theorem roleView_startPort (s : State) (c : Cluster) (st : PortSt) : roleView (startPort s c st) = roleView s := by
  unfold startPort
  split
  · cases c <;> rfl
  · rfl

theorem roleView_startPorts (s : State) (st : PortSt) :
    roleView (startPort (startPort s .c0 st) .c1 st) = roleView s :=
  (roleView_startPort _ .c1 st).trans (roleView_startPort s .c0 st)

theorem anchorTests_post (c : Cfg) (n : Nat) (b : BstBlk) : (anchorTests c n b).post = b.post := by
  unfold anchorTests
  split <;> rfl

theorem roleView_anchorAtRole (s : State) : roleView (anchorAtRole s) = roleView s := by
  have hpost : carried (anchorAtRole s) = carried s :=
    congrArg (fun n => { carried s with post := n }) (anchorTests_post s.cfg s.now s.bst)
  rw [roleView, hpost]
  rfl

/-- The state in which the role is entered with a beat counter, before what its MODE makes of it (R422). -/
def entered (s : State) (beat : Nat) : State :=
  { s with sys := { s.sys with step := 10, ready := true }
           dpx := { s.dpx with beat := beat, beatAt := s.now }
           cmd := { s.cmd with heard := (List.range 32).map fun n => (n, s.now) } }

/-- The block of the pair as the role ALONE finds it. -/
def aloneDpx (s : State) (beat : Nat) : DpxBlk := { (entered s beat).dpx with role := .alone }

/-- The block of the pair as the role STANDBY finds it, which asks for the grant. -/
def standbyDpx (s : State) (beat : Nat) : DpxBlk :=
  { (entered s beat).dpx with role := .standby, asking := some 2, startedAt := some s.now }

/-- The block of the pair as the role WITNESS finds it, which adopts the grant that stands. -/
def witnessDpx (s : State) (beat : Nat) : DpxBlk :=
  { (entered s beat).dpx with role := .witness, adopting := true, startedAt := some s.now }

theorem aloneDpx_granted (s : State) (beat : Nat) : (aloneDpx s beat).granted = s.dpx.granted := rfl

theorem standbyDpx_granted (s : State) (beat : Nat) : (standbyDpx s beat).granted = s.dpx.granted := rfl

theorem witnessDpx_granted (s : State) (beat : Nat) : (witnessDpx s beat).granted = s.dpx.granted := rfl

/-- The ALONE module enters its role with the interlocking state of a cold start, and its first frame starts at once. -/
theorem enterRole_alone {s : State} {st : Station} (hmode : dpxMode s.cfg = 0) (hst : s.mzp = some st) :
    ∃ beat n, roleView (enterRole s) = (carried s, s.sent, s.now, none, (entered s beat).sys, aloneDpx s beat, s.cfg, some s.now,
      some st, coldInter st n) := by
  have hrole : ∃ beat, enterRole s =
      let w := lanesVote (coldStart { entered s beat with dpx := aloneDpx s beat })
      startPort (startPort { w with frm := { w.frm with nextTick := some w.now } } .c0 .cold) .c1 .cold := by
    refine ⟨coldCounter s.dpx.beat, ?_⟩
    unfold enterRole
    rw [hmode]
    rfl
  obtain ⟨beat, hrole⟩ := hrole
  obtain ⟨n, -, hcold⟩ := coldStart_eq (s := { entered s beat with dpx := aloneDpx s beat }) (st := st) hst
  have hlanes := lanesVote_frame (coldStart { entered s beat with dpx := aloneDpx s beat })
  refine ⟨beat, n, ?_⟩
  rw [hrole]
  dsimp only
  rw [roleView_startPorts]
  generalize lanesVote _ = w at hlanes ⊢
  rw [hlanes, hcold, ← hst]
  rfl

theorem enterRole_standby {s : State} (hmode : dpxMode s.cfg = 1) :
    ∃ beat, roleView (enterRole s) = (carried s, s.sent, s.now, s.work, (entered s beat).sys, standbyDpx s beat, s.cfg,
      s.frm.nextTick, s.mzp, s.core) := by
  refine ⟨coldCounter s.dpx.beat, ?_⟩
  unfold enterRole
  rw [hmode]
  exact (roleView_startPorts _ .follow).trans (roleView_anchorAtRole _)

theorem enterRole_witness {s : State} (hmode : 2 ≤ dpxMode s.cfg) :
    ∃ beat, roleView (enterRole s) = (carried s, s.sent, s.now, s.work, (entered s beat).sys, witnessDpx s beat, s.cfg,
      s.frm.nextTick, s.mzp, s.core) := by
  refine ⟨coldCounter s.dpx.beat, ?_⟩
  obtain ⟨n, hn⟩ := Nat.exists_eq_add_of_le' hmode
  unfold enterRole
  rw [hn]
  exact roleView_anchorAtRole _

/-! ## The end of a start -/

/-- A start-up that has ended, with what it shows. -/
structure Ended (f : Carried → Carried) (s t : State) : Prop where
  keeps : carried t = f (carried s)
  sent : s.sent <+: t.sent
  now : s.now ≤ t.now
  work : t.work = none
  ends : StartEnds t

theorem Leads.ended {f g : Carried → Carried} {s t u : State} (h : Leads f s t) (k : Ended g t u) : Ended (g ∘ f) s u where
  keeps := k.keeps.trans (congrArg g h.keeps)
  sent := h.sent.trans k.sent
  now := h.now.trans k.now
  work := k.work
  ends := k.ends

theorem Idle.fields {s : State} (h : Idle s) : s.work = none ∧ s.frm.nextTick = none ∧ s.dpx.granted = false ∧ s.sys.ready = false := by
  simpa only [Idle, running, Prod.mk.injEq] using h

/-- An ALONE module in its role has ended its start. -/
theorem ended_of_alone {s t : State} {d : DpxBlk} {beat : Nat} {st : Station} {n : Nat}
    (hview : roleView t = (carried s, s.sent, s.now, none, (entered s beat).sys, d, s.cfg, some s.now, some st, coldInter st n))
    (hstopped : s.sys.stopped = false) (hmode : dpxMode s.cfg = 0)
    (hrole : d.role = .alone) (hgranted : d.granted = false) : Ended id s t := by
  simp only [roleView, Prod.mk.injEq] at hview
  obtain ⟨hcarried, hsent, hnow, hwork, hsys, rfl, hcfg, htick, hmzp, hcore⟩ := hview
  refine ⟨hcarried, by rw [hsent], hnow.ge, hwork, .inr (.inr (.inr ?_))⟩
  rw [hsys, hcfg, htick, hnow, hmode]
  exact ⟨hstopped, rfl, rfl, hgranted, fun _ => ⟨hrole, rfl, st, n, hmzp, hcore⟩, nofun, nofun⟩

/-- A module that runs no frames has ended its start in its role. -/
theorem ended_of_idleRole {s t : State} {d : DpxBlk} {beat : Nat}
    (hview : roleView t = (carried s, s.sent, s.now, s.work, (entered s beat).sys, d, s.cfg, s.frm.nextTick, s.mzp, s.core))
    (hidle : Idle s) (hstopped : s.sys.stopped = false) (hgranted : d.granted = false)
    (hmode : 1 ≤ dpxMode s.cfg) (hstandby : dpxMode s.cfg = 1 → d.role = .standby ∧ d.asking = some 2)
    (hwitness : 2 ≤ dpxMode s.cfg → d.role = .witness ∧ d.adopting = true) : Ended id s t := by
  obtain ⟨hnone, hnever, -, -⟩ := hidle.fields
  have hnot : dpxMode s.cfg ≠ 0 := by omega
  simp only [roleView, Prod.mk.injEq] at hview
  obtain ⟨hcarried, hsent, hnow, hwork, hsys, rfl, hcfg, htick, -, -⟩ := hview
  refine ⟨hcarried, by rw [hsent], hnow.ge, hwork.trans hnone, .inr (.inr (.inr ?_))⟩
  rw [hsys, hcfg, htick]
  exact ⟨hstopped, rfl, rfl, hgranted, fun h => absurd h hnot, fun h => ⟨(hstandby h).1, (hstandby h).2, hnever⟩,
    fun h => ⟨(hwitness h).1, (hwitness h).2, hnever⟩⟩

theorem enterRole_ended {s : State} (hidle : Idle s) (hmzp : ∃ st, s.mzp = some st) (hstopped : s.sys.stopped = false) :
    Ended id s (enterRole s) := by
  obtain ⟨-, -, hgranted, -⟩ := hidle.fields
  obtain ⟨st, hst⟩ := hmzp
  have hmode : dpxMode s.cfg = 0 ∨ dpxMode s.cfg = 1 ∨ 2 ≤ dpxMode s.cfg := by omega
  obtain h | h | h := hmode
  · obtain ⟨beat, n, hview⟩ := enterRole_alone h hst
    exact ended_of_alone hview hstopped h rfl ((aloneDpx_granted s beat).trans hgranted)
  · obtain ⟨beat, hview⟩ := enterRole_standby h
    exact ended_of_idleRole hview hidle hstopped ((standbyDpx_granted s beat).trans hgranted) h.ge (fun _ => ⟨rfl, rfl⟩)
      fun hw => absurd hw (by omega)
  · obtain ⟨beat, hview⟩ := enterRole_witness h
    exact ended_of_idleRole hview hidle hstopped ((witnessDpx_granted s beat).trans hgranted) (by omega)
      (fun hs => absurd hs (by omega)) fun _ => ⟨rfl, rfl⟩

theorem Idle.work {s : State} (h : Idle s) : s.work = none := congrArg (·.1) h

theorem Idle.ready {s : State} (h : Idle s) : s.sys.ready = false := congrArg (·.2.2.2) h

theorem recovery_ended {s : State} (hidle : Idle s) (hrecov : s.upd.recov = true) :
    Ended id s { s with dpx := { s.dpx with role := .alone }, sys := { s.sys with stopped := true, step := 5 } } :=
  ⟨rfl, List.prefix_rfl, le_rfl, hidle.work, .inl ⟨hrecov, rfl, rfl, rfl, hidle.ready⟩⟩

theorem goKeyless_ended {s : State} (hidle : Idle s) : Ended id s (goKeyless s) :=
  ⟨rfl, List.prefix_rfl, le_rfl, hidle.work, .inr (.inl ⟨rfl, rfl, rfl, hidle.ready⟩)⟩

theorem finishLanes_ended {env : StartEnv} {s : State} (hidle : Idle s) (hloaded : Loaded s) (hstep : s.sys.step = 8) :
    Ended id s (finishLanes env s) := by
  unfold finishLanes
  split
  next hrecov => exact recovery_ended hidle hrecov
  next hrecov =>
    split
    · have hkeys := laneKeys_stays s
      exact hkeys.leads.ended (goKeyless_ended (hkeys.idle hidle))
    · obtain ⟨hlead, hsame, hstep'⟩ := afterInjection_leads env hstep
      have hspent := hlead.trans (spend_leads (afterInjection env s) env.duration)
      obtain ⟨hwork', -, -, hready'⟩ := (hspent.idle hidle).fields
      split
      next hstop => exact ⟨hspent.keeps, hspent.sent, hspent.now, hwork', .inr (.inr (.inl ⟨hstop, hstep', hready'⟩))⟩
      next hstop =>
        have hmzp : ∃ st, (afterInjection env s).mzp = some st := hsame ▸ hloaded.resolve_left hrecov
        exact hspent.ended (g := id) (enterRole_ended (hspent.idle hidle) hmzp (Bool.eq_false_iff.mpr hstop))

/-- Steps 5 to 10 end a start that has no frame and no role. -/
theorem startLanes_ended (env : StartEnv) (cause : Nat) {s : State} (hidle : Idle s) : Ended id s (startLanes env cause s) := by
  obtain ⟨hunwrapped, hloaded⟩ := unwrapped_leads env s
  obtain ⟨hcommitted, hloaded', hstep⟩ := committed_leads cause hloaded
  have hlead := hunwrapped.trans hcommitted
  rw [startLanes_eq]
  exact hlead.ended (finishLanes_ended (hlead.idle hidle) hloaded' hstep)

/-! ## The starts (R388, R420, R422) -/

/-- What a restart leaves before its first step: no session, no debug level, no self-test. -/
def Carried.reset (cause : Nat) (k : Carried) : Carried := { k with cause := cause, dbg := .d0, session := none, chal := none, post := 0 }

theorem afterReset_carried (s : State) (cause : Nat) : carried (afterReset s cause) = (carried s).reset cause := rfl

theorem afterReset_idle (s : State) (cause : Nat) : Idle (afterReset s cause) := rfl

/-- A start from step 1 shows its cause, the seal in the latch and the result of its self-test. -/
theorem startUp_ended (env : StartEnv) (cause : Nat) (s : State) :
    Ended (Carried.withPost (if env.postOk then 2 else 3) ∘ Carried.sealChecked ∘ Carried.reset cause) s (startUp env cause s) := by
  have hreset : Leads (Carried.reset cause) s (afterReset s cause) :=
    ⟨afterReset_carried s cause, List.prefix_rfl, le_rfl, fun _ => afterReset_idle s cause⟩
  delta startUp
  extract_lets s0 _
  have h0 : Leads (Carried.reset cause) s s0 := hreset
  have hidle : Idle s0 := afterReset_idle s cause
  clear_value s0
  have hservice := ((upd_leads s0 { s0.upd with atRestart := [] }).stays (loadNumbers_stays _)).trans (startService_leads env _)
  exact (h0.trans hservice).ended (startLanes_ended env cause (hservice.idle hidle))

/-! ### RESTART of kind 2 -/

theorem setPairs_stays (s : State) (part : Part) (f : BankPair → BankPair) : Stays s (setPairs s part f) := by
  cases part <;> exact .of_view rfl

theorem bankRecord_stays (s : State) (part : Part) (st : BankSt) (img : Nat) : Stays s (bankRecord s part st img) := by
  have hfree : Stays s { s with free := s.free + 1 } := .of_view rfl
  exact hfree.trans (stays_of_record (frameRec_recordFrame _ _ _ _))

theorem switchPart_stays (s : State) (part : Part) (new old : BankSt) : Stays s (switchPart s part new old) :=
  (setPairs_stays s part _).trans (bankRecord_stays _ _ _ _)

theorem activateWaiting_leads (s : State) : Leads id s (activateWaiting s) := by
  delta activateWaiting
  extract_lets parts _ s1
  have h1 : Leads id s s1 :=
    (upd_leads s { s.upd with atRestart := [] }).stays (.foldl (fun s p => switchPart_stays s p .unconfirmed .previous) _ _)
  clear_value s1 parts
  cases parts with
  | nil => exact h1
  | cons p ps => exact h1.stays (openWindow_stays s1 _ _)

/-- A restart of kind 2 shows its cause, and the self-test as it was. -/
theorem coldRestart_ended (env : StartEnv) (s : State) :
    Ended (Carried.withPost s.bst.post ∘ Carried.reset 3) s (coldRestart env s) := by
  delta coldRestart
  extract_lets s0 boot _ s1 s2 s3 s4 _
  have hreset : Leads (Carried.reset 3) s (afterReset s 3) :=
    ⟨afterReset_carried s 3, List.prefix_rfl, le_rfl, fun _ => afterReset_idle s 3⟩
  have h0 : Leads (Carried.reset 3) s s0 := hreset.stays (loadNumbers_stays _)
  have hidle : Idle s0 := (loadNumbers_stays _).idle (afterReset_idle s 3)
  have h1 : Leads (Carried.withPost s.bst.post) s0 s1 := post_leads s0 s.bst.post
  have h2 : Leads id s1 s2 := (startBanks_leads s1).trans (activateWaiting_leads _)
  have h3 : Stays s2 s3 := raiseIf_stays s2.sec.tamper s2 .sec eTAMPER
  have h4 : Stays s3 s4 := .ite _ (.foldl (bootLane_stays env.bootFail) _ s3) (.foldl (keepLane_stays s.vot) _ s3)
  clear_value s0 s1 s2 s3 s4
  have hlast : Leads (Carried.withPost s.bst.post) s0 _ := ((h1.trans h2).stays (h3.trans h4)).stays
    (((peerRecord_stays s4 (env.peerRecord.getD 0)).trans (fieldAtStart_stays env _)).trans (resumeWindow_stays _))
  exact (h0.trans hlast).ended (startLanes_ended env 3 (hlast.idle hidle))

end Sys2Proof.Proofs.StartUp

/-! PROOFS. RESTART and TAMPER_REARM (R291, R397, R408, R415, R420, R422): refused, or answered first and then a start-up. -/

namespace Sys2Proof.Proofs.Restarts

open Sys2Proof Sys2Proof.Machine Sys2Proof.Safety Sys2Proof.Proofs.Frames Sys2Proof.Proofs.LaneCommands Sys2Proof.Proofs.Queries
open Sys2Proof.Proofs.StartUp

/-! ## What a start shows of the state before it -/

/-- A start-up from step 1, from a state that carries what another one does, but for the session. -/
theorem startUp_startedFrom {v w : State} (env : StartEnv) (hnow : w.now = v.now)
    (hcarried : (carried w).reset 2 = (carried v).reset 2) : let t := startUp env 2 w
    StartedFrom v t 2 ∧ t.bst.post = (if env.postOk then 2 else 3) ∧ t.pwr.pcc = v.pwr.pcc ∧ w.sent <+: t.sent
      ∧ t.sec.life = v.sec.life := by
  intro t
  obtain ⟨hkeeps, hsent, hlater, hwork, hends⟩ := startUp_ended env 2 w
  have hshown : carried t = ((carried v).reset 2).sealChecked.withPost (if env.postOk then 2 else 3) := by
    rw [← hcarried]
    exact hkeeps
  simp only [carried, Carried.reset, Carried.sealChecked, Carried.withPost, Carried.mk.injEq] at hshown
  obtain ⟨hcause, hdbg, hsession, hchal, hlife, hblobs, htamper, -, hring, hpending, hpcc, hpost⟩ := hshown
  exact ⟨⟨hcause, hdbg, hsession, hchal, hwork, hblobs, htamper, hring, hpending, hnow.ge.trans hlater, hends⟩, hpost, hpcc, hsent,
    hlife⟩

/-- A restart of kind 2 keeps the latch and the result of the self-test. -/
theorem coldRestart_startedFrom {v w : State} (env : StartEnv) (hnow : w.now = v.now)
    (hcarried : (carried w).reset 3 = (carried v).reset 3) (hpost : w.bst.post = v.bst.post) : let t := coldRestart env w
    StartedFrom v t 3 ∧ t.bst.post = v.bst.post ∧ t.pwr.pcc = v.pwr.pcc ∧ w.sent <+: t.sent := by
  intro t
  obtain ⟨hkeeps, hsent, hlater, hwork, hends⟩ := coldRestart_ended env w
  have hshown : carried t = ((carried v).reset 3).withPost v.bst.post := by
    rw [← hcarried, ← hpost]
    exact hkeeps
  simp only [carried, Carried.reset, Carried.withPost, Carried.mk.injEq] at hshown
  obtain ⟨hcause, hdbg, hsession, hchal, -, hblobs, htamper, -, hring, hpending, hpcc, hpost'⟩ := hshown
  have hlatch : t.sec.tamper = (v.sec.tamper || ((3 : Nat) != 3 && v.sec.sealBroken)) := by
    rw [htamper, bne_self_eq_false, Bool.false_and, Bool.or_false]
  exact ⟨⟨hcause, hdbg, hsession, hchal, hwork, hblobs, hlatch, hring, hpending, hnow.ge.trans hlater, hends⟩, hpost', hpcc, hsent⟩

/-! ## What stands between the answer and the start -/

theorem closeRecorder_recordFrame (s : State) : RecordFrame s (closeRecorder s) := by
  have hcommit : ∀ u : State, RecordFrame u (commitBatch u) := by
    intro u
    unfold commitBatch
    split <;> rfl
  have hflush := recordFrame_of_svc (startFlush_frame (commitBatch s))
  have hmark : ∀ u : State, RecordFrame u { u with evr := { u.evr with mark := u.evr.buffer.isEmpty, closed := true } } := fun _ => rfl
  exact (((hcommit s).trans hflush).trans (hcommit _)).trans (hmark _)

theorem configRecord_stays (s : State) : Stays s (configRecord s) := by
  have hfree : Stays s { s with free := s.free + 1 } := .of_view rfl
  exact hfree.trans (stays_of_record (frameRec_recordFrame _ _ _ _))

theorem closeRecorder_stays (s : State) : Stays s (closeRecorder s) := stays_of_record (closeRecorder_recordFrame s)

/-- A command answered DONE: its answer is the last packet that has left, and what a start carries over stands but for the session. -/
theorem answered {v : State} (src : Src) (opc : Nat) : let r := reply (hearFrom v src.entry) src opc .done []
    r.sent = v.sent ++ [.packet (replyPacket (hearFrom v src.entry) src opc .done [])] ∧ r.now = v.now
      ∧ r.sec = (hearFrom v src.entry).sec ∧ r.bst.post = v.bst.post
      ∧ ∀ cause, (carried r).reset cause = (carried v).reset cause := by
  intro r
  have hr : Replies (hearFrom v src.entry) r src opc .done [] := reply_replies _ src opc .done []
  unfold Replies at hr
  rw [hr]
  exact ⟨rfl, rfl, rfl, rfl, fun _ => rfl⟩

/-- The state in which RESTART begins its start. -/
def closedAfter (v : State) (src : Src) : State := closeRecorder (reply (hearFrom v src.entry) src 0x91 .done [])

theorem closedAfter_spec (v : State) (src : Src) : let w := closedAfter v src
    v.sent ++ [.packet (replyPacket (hearFrom v src.entry) src 0x91 .done [])] <+: w.sent ∧ w.now = v.now ∧ w.bst.post = v.bst.post
      ∧ ∀ cause, (carried w).reset cause = (carried v).reset cause := by
  obtain ⟨hsent, hnow, -, hpost, hcarried⟩ := answered (v := v) src 0x91
  have hclosed := closeRecorder_stays (reply (hearFrom v src.entry) src 0x91 .done [])
  exact ⟨hsent ▸ hclosed.sent, hclosed.now.trans hnow, (congrArg Carried.post hclosed.keeps).trans hpost,
    fun cause => (congrArg (Carried.reset cause) hclosed.keeps).trans (hcarried cause)⟩

/-- RESTART of kind 1 (R291, R420). -/
theorem restartModule_starts {s : State} {src : Src} {now : Nat} (env : StartEnv) (hgate : gateOf (later s now) src 0x91 = .pass) :
    let v := later s now
    ∃ t, exec (.restartModule src env now) s = .next t ∧ StartedFrom v t 2 ∧ t.bst.post = (if env.postOk then 2 else 3)
      ∧ t.pwr.pcc = s.pwr.pcc ∧ s.sent ++ [.packet (replyPacket (hearFrom v src.entry) src 0x91 .done [])] <+: t.sent := by
  intro v
  obtain ⟨hanswer, hnow, -, hcarried⟩ := closedAfter_spec v src
  obtain ⟨hstart, hpost, hpcc, hsent, -⟩ := startUp_startedFrom env hnow (hcarried 2)
  have hrow : rowRestart src false env v = startUp env 2 (closedAfter v src) := by
    rw [rowRestart, gated_pass hgate]
    exact if_neg Bool.false_ne_true
  have hexec : exec (.restartModule src env now) s = .next (rowRestart src false env v) := rfl
  rw [hrow] at hexec
  exact ⟨_, hexec, hstart, hpost, hpcc, hanswer.trans hsent⟩

/-- RESTART of kind 2 (R291, R422). -/
theorem restartCold_starts {s : State} {src : Src} {now : Nat} (env : StartEnv) (hgate : gateOf (later s now) src 0x91 = .pass) :
    let v := later s now
    ∃ t, exec (.restartCold src env now) s = .next t ∧ StartedFrom v t 3 ∧ t.bst.post = s.bst.post
      ∧ t.pwr.pcc = s.pwr.pcc ∧ s.sent ++ [.packet (replyPacket (hearFrom v src.entry) src 0x91 .done [])] <+: t.sent := by
  intro v
  obtain ⟨hanswer, hnow, hpost, hcarried⟩ := closedAfter_spec v src
  obtain ⟨hstart, hpost', hpcc, hsent⟩ := coldRestart_startedFrom env hnow (hcarried 3) hpost
  have hrow : rowRestart src true env v = coldRestart env (closedAfter v src) := by
    rw [rowRestart, gated_pass hgate]
    exact if_pos rfl
  have hexec : exec (.restartCold src env now) s = .next (rowRestart src true env v) := rfl
  rw [hrow] at hexec
  exact ⟨_, hexec, hstart, hpost', hpcc, hanswer.trans hsent⟩

/-! ## TAMPER_REARM -/

/-- What TAMPER_REARM leaves of a lifecycle state (R408, R415). -/
def rearmedLife (l : Life) : Life := if l = .sealed ∨ l = .maint then .commission else l

/-- A module that has ended its tamper latch (R415). -/
def rearmed (s : State) : State :=
  { s with sec := { s.sec with tamper := false, blobs := s.sec.blobs.filter (usableBlob s.sec), life := rearmedLife s.sec.life } }

/-- The session whose key slot is the maintenance key's. -/
theorem kslot_hearFrom (s : State) (entry : Nat) :
    ((hearFrom s entry).sec.session.map (·.kslot)) = some 2 ↔ ∃ k, s.sec.session = some k ∧ k.kslot = 2 := by
  unfold hearFrom
  cases s.sec.session with
  | none => simp
  | some k =>
    by_cases h : k.entry = entry <;> simp [h]

/-- A module whose seal reads closed or not at the moment of the request. -/
def sealRead (v : State) (closed : Bool) : State := { v with sec := { v.sec with sealBroken := !closed } }

/-- What a rearmed module carries into its start (R415). -/
def rearmedFrom (v : State) : State :=
  { v with sec := { v.sec with
      sealBroken := false, tamper := false, blobs := v.sec.blobs.filter (usableBlob v.sec), life := rearmedLife v.sec.life } }

/-- The state in which TAMPER_REARM begins its start. -/
def rearmedAfter (v : State) (src : Src) : State :=
  closeRecorder (configRecord (rearmed (reply (hearFrom (sealRead v true) src.entry) src 0x92 .done [])))

theorem rearmedAfter_spec (v : State) (src : Src) : let w := rearmedAfter v src
    v.sent ++ [.packet (replyPacket (hearFrom v src.entry) src 0x92 .done [])] <+: w.sent ∧ w.now = v.now
      ∧ (carried w).reset 2 = (carried (rearmedFrom v)).reset 2 := by
  intro w
  obtain ⟨hsent, hnow, hsec, -, hcarried⟩ := answered (v := sealRead v true) src 0x92
  have hrecord : Stays (rearmed (reply (hearFrom (sealRead v true) src.entry) src 0x92 .done [])) w :=
    (configRecord_stays _).trans (closeRecorder_stays _)
  clear_value w
  generalize reply (hearFrom (sealRead v true) src.entry) src 0x92 .done [] = r at hsent hnow hsec hcarried hrecord
  have hblobs : r.sec.blobs.filter (usableBlob r.sec) = v.sec.blobs.filter (usableBlob v.sec) := by
    rw [hsec]
    rfl
  have hrearmed : ∀ cause, (carried (rearmed r)).reset cause = { (carried r).reset cause with
      tamper := false, blobs := r.sec.blobs.filter (usableBlob r.sec)
      life := rearmedLife ((carried r).reset cause).life } := fun _ => rfl
  refine ⟨?_, hrecord.now.trans hnow, ?_⟩
  · exact hsent ▸ hrecord.sent
  · rw [hrecord.keeps, hrearmed, hcarried, hblobs]
    rfl

/-- TAMPER_REARM is taken (R415). -/
theorem tamperRearm_starts {s : State} {src : Src} {now : Nat} (env : StartEnv)
    (hgate : gateOf (sealRead (later s now) true) src 0x92 = .pass) (htamper : s.sec.tamper = true)
    (hsession : ∃ k, s.sec.session = some k ∧ k.kslot = 2) : let v := later s now
    ∃ t, exec (.tamperRearm src s.sys.serial true env now) s = .next t
      ∧ StartedFrom (rearmedFrom v) t 2 ∧ t.sec.life = rearmedLife s.sec.life ∧ t.pwr.pcc = s.pwr.pcc
      ∧ s.sent ++ [.packet (replyPacket (hearFrom v src.entry) src 0x92 .done [])] <+: t.sent := by
  intro v
  obtain ⟨hanswer, hnow, hcarried⟩ := rearmedAfter_spec v src
  obtain ⟨hstart, -, hpcc, hsent, hlife⟩ := startUp_startedFrom (v := rearmedFrom v) env hnow hcarried
  have hpassed : ¬ (!s.sec.tamper || !true) = true := by simp [htamper]
  have hslot := (kslot_hearFrom (sealRead v true) src.entry).mpr hsession
  have hrow : rowTamperRearm src s.sys.serial true env v = startUp env 2 (rearmedAfter v src) := by
    rw [rowTamperRearm]
    refine (gated_pass hgate _).trans ?_
    exact (if_neg (not_not.mpr rfl)).trans ((if_neg hpassed).trans (if_neg (not_not.mpr hslot)))
  have hexec : exec (.tamperRearm src s.sys.serial true env now) s = .next (rowTamperRearm src s.sys.serial true env v) := rfl
  rw [hrow] at hexec
  exact ⟨_, hexec, hstart, hlife, hpcc, hanswer.trans hsent⟩

/-- Settles O42, command by command: each refusal is a reply and nothing else; what is taken is answered, and the start-up that follows
carries over what stands beside the answer. -/
theorem restartsAnswerAndStartAgain : Obligations.RestartsAnswerAndStartAgain := by
  unfold Obligations.RestartsAnswerAndStartAgain
  intro s src env now v u d
  refine ⟨fun hgate => ⟨restartModule_starts env hgate, restartCold_starts env hgate⟩, ?_⟩
  intro closed z hgate serial no
  refine ⟨fun hserial => ?_, fun hserial => ⟨fun hbad => ?_, fun htamper hclosed => ⟨fun hsession => ?_, fun hsession => ?_⟩⟩⟩
  · exact svcReply_of_gated rfl hgate (if_pos hserial)
  · have hrefused : (!s.sec.tamper || !closed) = true := by
      obtain h | h := hbad <;> simp [h]
    exact svcReply_of_gated rfl hgate ((if_neg (not_not.mpr hserial)).trans (if_pos hrefused))
  · have hpassed : ¬ (!s.sec.tamper || !closed) = true := by simp [htamper, hclosed]
    have hnone : ((hearFrom z src.entry).sec.session.map (·.kslot)) ≠ some 2 := fun h => by
      obtain ⟨k, hk, hslot⟩ := (kslot_hearFrom z src.entry).mp h
      exact hsession k hk hslot
    exact svcReply_of_gated rfl hgate ((if_neg (not_not.mpr hserial)).trans ((if_neg hpassed).trans (if_pos hnone)))
  · subst hclosed hserial
    exact tamperRearm_starts env hgate htamper hsession

end Sys2Proof.Proofs.Restarts

/-! PROOFS. What every command keeps (R307, R310, R326, R327, R334): the invariants of the fault sub-blocks, of the stop and of the
bridge's numbering as one relation between states, with the rules by which it passes through the model's operations. -/

namespace Sys2Proof.Proofs.Invariants

open Sys2Proof Sys2Proof.Machine Sys2Proof.Safety
open Sys2Proof.Proofs.StartUp (Idle Stays Leads unwrapped committed afterInjection finishLanes spend startLanes_eq unwrapped_leads
  committed_leads laneKeys_stays upd_leads loadNumbers_stays startService_leads afterReset_idle post_leads startBanks_leads
  activateWaiting_leads raiseIf_stays bootLane_stays keepLane_stays peerRecord_stays fieldAtStart_stays resumeWindow_stays)
open Sys2Proof.Proofs.Reset (latched_reset quiet_reset numbered_reset)

/-! ## The relation -/

/-- What the invariants speak of. -/
structure View where
  pending : List Instr
  now : Nat
  faults : Faults
  stopped : Bool
  work : Option Inter
  queues : List Queue

def view (s : State) : View :=
  { pending := s.pending, now := s.now, faults := s.faults, stopped := s.sys.stopped, work := s.work
    queues := [s.xbr.q0, s.xbr.q1, s.xbr.q2, s.xbr.q3, s.xbr.q4, s.xbr.q5] }

theorem numbered_iff (s : State) : Numbered s ↔ ∀ q ∈ (view s).queues, NumberedQueue q := by
  simp [Numbered, view]

/-- `t` follows `s` in the course of one command: the queue of commands stands, time does not go back, and each invariant passes
from `s` to `t`. -/
structure Keeps (s t : State) : Prop where
  pending : t.pending = s.pending
  now : s.now ≤ t.now
  latched : Latched s → Latched t
  quiet : Quiet s → Quiet t
  numbered : Numbered s → Numbered t

theorem Keeps.trans {s t u : State} (h : Keeps s t) (g : Keeps t u) : Keeps s u where
  pending := g.pending.trans h.pending
  now := h.now.trans g.now
  latched i := g.latched (h.latched i)
  quiet i := g.quiet (h.quiet i)
  numbered i := g.numbered (h.numbered i)

/-- A change of what no invariant speaks of. The view of `t` is written out, so that it is compared field by field. -/
theorem Keeps.of_view {s t : State} (h : ⟨t.pending, t.now, t.faults, t.sys.stopped, t.work,
    [t.xbr.q0, t.xbr.q1, t.xbr.q2, t.xbr.q3, t.xbr.q4, t.xbr.q5]⟩ = view s) : Keeps s t := by
  change view t = view s at h
  have hq : Numbered s → Numbered t := by
    rw [numbered_iff, numbered_iff, h]
    exact id
  obtain ⟨hpending, hnow, hfaults, hstopped, hwork, -⟩ : t.pending = s.pending ∧ t.now = s.now ∧ t.faults = s.faults
      ∧ t.sys.stopped = s.sys.stopped ∧ t.work = s.work ∧ _ := by simpa only [view, View.mk.injEq] using h
  refine ⟨hpending, hnow.ge, fun i => ?_, fun i => ?_, hq⟩
  · unfold Latched
    rwa [hfaults]
  · unfold Quiet
    rwa [hstopped, hwork]

theorem Keeps.refl (s : State) : Keeps s s := .of_view rfl

/-- A change of what no invariant speaks of, at the end. -/
theorem Keeps.upd {s t u : State} (h : Keeps s t) (hv : ⟨u.pending, u.now, u.faults, u.sys.stopped, u.work,
    [u.xbr.q0, u.xbr.q1, u.xbr.q2, u.xbr.q3, u.xbr.q4, u.xbr.q5]⟩ = view t) : Keeps s u := h.trans (.of_view hv)

/-- The step before a step. -/
theorem Keeps.of {s t u : State} (g : Keeps t u) (h : Keeps s t) : Keeps s u := h.trans g

theorem Keeps.foldl {α : Type} {f : State → α → State} {l : List α} {s t : State} (h : Keeps s t)
    (hf : ∀ u a, Keeps u (f u a)) : Keeps s (l.foldl f t) := by
  induction l generalizing t with
  | nil => exact h
  | cons a l ih => exact ih (h.trans (hf t a))

theorem Keeps.ite {s t u : State} {p : Prop} [Decidable p] (h : Keeps s t) (g : Keeps s u) : Keeps s (if p then t else u) := by
  split
  · exact h
  · exact g

theorem Keeps.iteFst {α : Type} {s : State} {a b : State × α} {p : Prop} [Decidable p] (h : Keeps s a.1) (g : Keeps s b.1) :
    Keeps s (if p then a else b).1 := by
  split
  · exact h
  · exact g

theorem Keeps.iteSnd {α : Type} {s : State} {a b : α × State} {p : Prop} [Decidable p] (h : Keeps s a.2) (g : Keeps s b.2) :
    Keeps s (if p then a else b).2 := by
  split
  · exact h
  · exact g

/-- A change of the frame in progress that a stopped module does not see (R334). -/
theorem Keeps.frame {s t : State} (hq : Quiet s → QuietAt s.sys.stopped t.work) (hv : ⟨t.pending, t.now, t.faults, t.sys.stopped,
    s.work, [t.xbr.q0, t.xbr.q1, t.xbr.q2, t.xbr.q3, t.xbr.q4, t.xbr.q5]⟩ = view s) :
    Keeps s t := by
  have hall : Keeps s { t with work := s.work } := .of_view hv
  refine ⟨hall.pending, hall.now, hall.latched, fun h => ?_, hall.numbered⟩
  have hstopped : t.sys.stopped = s.sys.stopped := congrArg View.stopped hv
  unfold Quiet
  rw [hstopped]
  exact hq h

/-- The frame in progress ends. -/
theorem Keeps.noFrame {s t : State} (hw : t.work = none) (hv : ⟨t.pending, t.now, t.faults, t.sys.stopped,
    s.work, [t.xbr.q0, t.xbr.q1, t.xbr.q2, t.xbr.q3, t.xbr.q4, t.xbr.q5]⟩ = view s) : Keeps s t :=
  .frame (fun _ => hw ▸ quietAt_none _) hv

/-- A frame in progress goes on: the module is not stopped. -/
theorem quietAt_next {s : State} {x : Inter} (hx : s.work = some x) (hs : Quiet s) (y : Option Inter) : QuietAt s.sys.stopped y := by
  intro hstopped
  rw [hs hstopped] at hx
  cases hx

theorem Keeps.getD {s t : State} {o : Option State} (ho : ∀ u, o = some u → Keeps s u) (h : Keeps s t) : Keeps s (o.getD t) := by
  cases o with
  | none => exact h
  | some u => exact ho u rfl

/-- A command goes on to a state that follows. -/
def Goes (s : State) (o : Out) : Prop := ∃ t, o = .next t ∧ Keeps s t

theorem Goes.next {s t : State} (h : Keeps s t) : Goes s (.next t) := ⟨t, rfl, h⟩

theorem Goes.of {s t : State} {o : Out} (g : Goes t o) (h : Keeps s t) : Goes s o := by
  obtain ⟨u, ho, hu⟩ := g
  exact ⟨u, ho, hu.of h⟩

theorem Goes.ite {s : State} {o p : Out} {c : Prop} [Decidable c] (h : Goes s o) (g : Goes s p) : Goes s (if c then o else p) := by
  split
  · exact h
  · exact g

/-! ## Queues (R306 to R311) -/

/-- An item that enters a queue is numbered by it, and the queue numbers on (R307). -/
theorem push_numbered {u : Queue} (h : NumberedQueue u) (conn : Nat) (data : Bytes) (w : QPtr) :
    NumberedQueue { u with items := u.items ++ [{ iseq := u.nextSeq, conn := conn, data := data }], nextSeq := nextIseq u.nextSeq
                           wr := w } := by
  obtain ⟨hlow, hhigh, hitems⟩ := h
  obtain ⟨hnext, hlimit⟩ := nextIseq_range u.nextSeq
  refine ⟨hnext, hlimit hhigh, fun i hi => ?_⟩
  obtain hi | hi := List.mem_append.mp hi
  · exact hitems i hi
  · obtain rfl := List.mem_singleton.mp hi
    exact ⟨hlow, hhigh⟩

/-- Items that leave a queue leave the others and the numbering. -/
theorem numbered_of_subset {u v : Queue} (h : NumberedQueue u) (hnext : v.nextSeq = u.nextSeq) (hitems : v.items ⊆ u.items) :
    NumberedQueue v := by
  obtain ⟨hlow, hhigh, hold⟩ := h
  exact ⟨hnext ▸ hlow, hnext ▸ hhigh, fun i hi => hold i (hitems hi)⟩

theorem consume_numbered (gone : QItem → Bool) (u : Queue) (h : NumberedQueue u) : NumberedQueue (consume gone u) :=
  numbered_of_subset h rfl (List.filter_subset_self _)

theorem consumeHead_numbered (u : Queue) (h : NumberedQueue u) : NumberedQueue (consumeHead u) :=
  numbered_of_subset h rfl (List.tail_subset _)

/-- A change of one queue that keeps its numbering. -/
theorem Keeps.queue {s : State} {q : Nat} {f : Queue → Queue} (hf : ∀ u, NumberedQueue u → NumberedQueue (f u)) :
    Keeps s { s with xbr := setQueue s.xbr q f } where
  pending := rfl
  now := le_rfl
  latched := id
  quiet := id
  numbered := by
    rintro ⟨h0, h1, h2, h3, h4, h5⟩
    unfold setQueue
    split
    · exact ⟨hf _ h0, h1, h2, h3, h4, h5⟩
    · exact ⟨h0, hf _ h1, h2, h3, h4, h5⟩
    · exact ⟨h0, h1, hf _ h2, h3, h4, h5⟩
    · exact ⟨h0, h1, h2, hf _ h3, h4, h5⟩
    · exact ⟨h0, h1, h2, h3, hf _ h4, h5⟩
    · exact ⟨h0, h1, h2, h3, h4, hf _ h5⟩

theorem pushQueue_keeps (s : State) (q conn : Nat) (data : Bytes) : Keeps s { s with xbr := pushQueue s.xbr q conn data } := by
  unfold pushQueue
  split
  · exact .queue fun u h => push_numbered h conn data _
  · have hloss : Keeps s { s with xbr := setQueue s.xbr q fun u => { u with loss := satAdd 255 1 u.loss } } :=
      .queue fun u h => numbered_of_subset h rfl (List.Subset.refl _)
    exact hloss.upd rfl

theorem flushQueue_keeps (s : State) (q : Nat) : Keeps s { s with xbr := flushQueue s.xbr q } := by
  have hconsume : Keeps s { s with xbr := setQueue s.xbr q (consume fun _ => true) } := .queue (consume_numbered _)
  unfold flushQueue
  dsimp only
  split
  · exact hconsume.upd rfl
  · exact hconsume

/-! ## The shared operations -/

theorem later_keeps (s : State) (t : Nat) : Keeps s (later s t) := ⟨rfl, le_max_left _ _, id, id, id⟩

theorem updInter_keeps (s : State) (f : Inter → Inter) : Keeps s (updInter s f) :=
  ⟨rfl, le_rfl, id, (quietAt_map _ _ f).mpr, id⟩

theorem onWork_keeps (s : State) (f : Inter → Inter) : Keeps s (onWork s f) :=
  ⟨rfl, le_rfl, id, (quietAt_map _ _ f).mpr, id⟩

theorem setFrn_keeps (s : State) (c : Cluster) (f : FrnBlk → FrnBlk) : Keeps s (setFrn s c f) := by
  cases c <;> exact .of_view rfl

theorem dropPending_keeps (q : Nat) (s : State) : Keeps s (dropPending q s) := .ite (.of_view rfl) (.refl s)

theorem touchQueue_keeps (s : State) (q : Nat) : Keeps s (touchQueue s q) := by
  have hreset : Keeps s { s with xbr := setQueue (flushQueue s.xbr q) q fun v =>
      { v with wr := {}, rd := {}, loss := satAdd 255 (queueOf s.xbr q).items.length v.loss } } :=
    (flushQueue_keeps s q).trans (.queue fun u h => numbered_of_subset h rfl (List.Subset.refl _))
  unfold touchQueue
  dsimp only
  split
  · exact .refl s
  · exact (dropPending_keeps q _).of (hreset.upd rfl)

theorem pushTo_keeps (s : State) (q conn : Nat) (data : Bytes) : Keeps s (pushTo s q conn data) :=
  (touchQueue_keeps s q).trans (pushQueue_keeps _ q conn data)

/-- What a record of the service processor changes. -/
theorem keeps_of_svc {s t : State} (h : SvcFrame s t) : Keeps s t := by
  refine .of_view ?_
  rw [h]
  rfl

theorem startFlush_keeps (s : State) : Keeps s (startFlush s) := keeps_of_svc (startFlush_frame s)

theorem bufferRec_keeps (s : State) (t : Nat) (r : Rec) : Keeps s (bufferRec s t r) := keeps_of_svc (bufferRec_frame s t r)

theorem tellOne_keeps (n whr : Nat) (s : State) : Keeps s (tellOne n whr s) := keeps_of_svc (tellOne_frame n whr s)

theorem tellLoss_keeps (s : State) : Keeps s (tellLoss s) := keeps_of_svc (tellLoss_frame s)

theorem svcRec_keeps (s : State) (ty sev : Nat) (body : Bytes) : Keeps s (svcRec s ty sev body) :=
  keeps_of_svc (svcRec_frame s ty sev body)

theorem pushRec_keeps (s : State) (r : Rec) : Keeps s (pushRec s r) := by
  unfold pushRec
  dsimp only
  split
  · exact pushTo_keeps s 2 0 _
  · exact (pushTo_keeps s 2 0 _).upd rfl

theorem frameRec_keeps (s : State) (ty sev : Nat) (body : Bytes) : Keeps s (frameRec s ty sev body) :=
  .ite (pushRec_keeps s _) (svcRec_keeps s ty sev _)

theorem laneTo_keeps (s : State) (l : Lane) (st : LaneSt) : Keeps s (laneTo s l st) :=
  .ite (.refl s) ((frameRec_keeps _ _ _ _).of (.of_view rfl))

theorem duoStart_keeps (s : State) : Keeps s (duoStart s) := .ite (.of_view rfl) (.refl s)

theorem laneFence_keeps (s : State) (l : Lane) : Keeps s (laneFence s l) :=
  .ite ((duoStart_keeps _).of ((laneTo_keeps s l .fenced).upd rfl)) (.refl s)

theorem armGuards_keeps (s : State) : Keeps s (armGuards s) := .of_view rfl

theorem prlSwitch_keeps (s : State) : Keeps s (prlSwitch s) := .ite (.of_view rfl) (.refl s)

theorem prlFence_keeps (s : State) : Keeps s (prlFence s) := by
  have hfenced : Keeps s { s with prl := { s.prl with fenced := true } } := .of_view rfl
  exact .ite (.refl s) ((hfenced.trans (updInter_keeps _ _)).trans ((armGuards_keeps _).trans (prlSwitch_keeps _)))

theorem frnFence_keeps (s : State) (c : Cluster) : Keeps s (frnFence s c) :=
  .ite (.refl s) (.ite ((setFrn_keeps s c _).upd rfl) (setFrn_keeps s c _))

theorem fenceUnit_keeps (s : State) (b : Blk) (n : Nat) (lane : Option Lane) : Keeps s (fenceUnit s b n lane) := by
  cases b
  case vot | bst =>
    cases lane with
    | none => exact .refl s
    | some l => exact laneFence_keeps s l
  case prl => exact prlFence_keeps s
  case frn => exact frnFence_keeps s _
  all_goals exact .of_view rfl

theorem relinquish_keeps (s : State) : Keeps s (relinquish s) := .of_view rfl

/-- The stop takes the frame in progress with it (R334). -/
theorem stopFrames_keeps (s : State) : Keeps s (stopFrames s) := ⟨rfl, le_rfl, id, fun _ => quietAt_none _, id⟩

theorem safeStop_keeps (s : State) : Keeps s (safeStop s) :=
  .ite (.refl s) (((stopFrames_keeps s).trans (startFlush_keeps _)).trans (relinquish_keeps _))

theorem react_keeps (s : State) (b : Blk) (n : Nat) (sev : Sev) (lane : Option Lane) : Keeps s (react s b n sev lane) := by
  cases sev
  case record | warn => exact .refl s
  case fence => exact fenceUnit_keeps s b n lane
  case safeStop => exact (fenceUnit_keeps s b n lane).trans (safeStop_keeps _)

/-- A change of one fault sub-block after which its sticky bits cover its live ones. -/
theorem Keeps.faults {s : State} {b : Blk} {g : FaultBlk} (hg : Latched s → Covered g) :
    Keeps s { s with faults := setFault s.faults b g } :=
  ⟨rfl, le_rfl, fun h => latched_setFault s.faults b g h (hg h), id, id⟩

theorem tellAt_keeps (s : State) (b : Blk) (n t unrec : Nat) : Keeps s (tellAt s b n t unrec) :=
  .faults (covered_keep s.faults b _ _)

theorem faultRec_keeps (s : State) (b : Blk) (n : Nat) (sev : Sev) : Keeps s (faultRec s b n sev) := by
  have htold : ∀ (p : Prop) [Decidable p], Keeps s (if p then s else tellAt s b n s.now 0) := fun p _ =>
    .ite (.refl s) (tellAt_keeps s b n s.now 0)
  unfold faultRec
  dsimp only
  split
  · exact (htold _).trans (svcRec_keeps _ _ _ _)
  · exact (htold _).trans (frameRec_keeps _ _ _ _)
  · split
    · exact .ite (tellAt_keeps s b n _ _) ((tellAt_keeps s b n s.now 0).trans (frameRec_keeps _ _ _ _))
    · exact (tellAt_keeps s b n s.now 0).trans (frameRec_keeps _ _ _ _)

/-- A raising sets the sticky bit with the live one (R326). -/
theorem raiseAt_keeps (s : State) (b : Blk) (n : Nat) (lane : Option Lane) : Keeps s (raiseAt s b n lane) :=
  .ite (.refl s) (((Keeps.faults (covered_raise s.faults b _ _ _)).trans (faultRec_keeps _ b n _)).trans (react_keeps _ b n _ lane))

theorem raise_keeps (s : State) (b : Blk) (n : Nat) : Keeps s (raise s b n) := raiseAt_keeps s b n none

theorem lower_keeps (s : State) (b : Blk) (n : Nat) : Keeps s (lower s b n) := .faults (covered_lower s.faults b _ _ _)

theorem setLive_keeps (s : State) (b : Blk) (n : Nat) (on : Bool) : Keeps s (setLive s b n on) :=
  .ite (raise_keeps s b n) (lower_keeps s b n)

theorem setLiveAt_keeps (s : State) (b : Blk) (n : Nat) (lane : Option Lane) (on : Bool) : Keeps s (setLiveAt s b n lane on) :=
  .ite (raiseAt_keeps s b n lane) (lower_keeps s b n)

theorem pulse_keeps (s : State) (b : Blk) (n : Nat) : Keeps s (pulse s b n) := (lower_keeps s b n).trans (raise_keeps _ b n)

theorem takeFree_keeps (s : State) : Keeps s (takeFree s).2 := .of_view rfl

/-! ## `Machine/Registers` -/

theorem accessError_keeps (s : State) (a cause : Nat) (wr : Bool) : Keeps s (accessError s a cause wr) :=
  .of_view rfl

theorem lkRecord_keeps (s : State) (a : Nat) : Keeps s (lkRecord s a) :=
  frameRec_keeps s 8 0 _

theorem writeSt_keeps (s : State) (r : StReg) (w : Word) : Keeps s (writeSt s r w) :=
  .ite ((lkRecord_keeps _ r.addr).of (.of_view rfl)) (.of_view rfl)

theorem clearLatchBit_keeps (b : Blk) (wr : Writer) (w : Word) (s : State) (n : Nat) : Keeps s (clearLatchBit b wr w s n) := by
  unfold clearLatchBit
  split
  next hbit =>
    have hdead : isLive s b n = false := by simp_all
    exact (frameRec_keeps _ _ _ _).of (.faults fun h => covered_clear s b n _ _ h hdead)
  · exact .refl s

theorem writeLatch_keeps (s : State) (b : Blk) (wr : Writer) (w : Word) : Keeps s (writeLatch s b wr w) :=
  .foldl (.refl _) (clearLatchBit_keeps b wr w)

theorem writeIen_keeps (s : State) (b : Blk) (w : Word) : Keeps s (writeIen s b w) := .faults (covered_keep s.faults b _ _)

/-- A clear register takes a request and changes nothing else (R12). -/
theorem writeClr_keeps (s : State) (a : Nat) (w : Word) {t : State} (h : writeClr s a w = some t) : Keeps s t := by
  unfold writeClr at h
  dsimp only at h
  split at h
  case h_13 => cases h
  all_goals
    obtain rfl := Option.some.inj h
    exact .of_view rfl

theorem writeSem_keeps (s : State) (n : Nat) (w : Word) : Keeps s (writeSem s n w) := by
  unfold writeSem
  dsimp only
  split
  · exact .refl _
  · exact .ite (.refl _) (.ite (.ite (.refl _) (.of_view rfl)) (.ite (.of_view rfl) (.refl _)))

theorem ackQueue_keeps (s : State) (q iseq : Nat) : Keeps s (ackQueue s q iseq) := by
  have htouch : Keeps s (if q ≤ 5 then touchQueue s q else s) := .ite (touchQueue_keeps s q) (.refl s)
  unfold ackQueue
  dsimp only
  split
  · exact .ite (htouch.trans (.queue consumeHead_numbered)) ((accessError_keeps _ _ 9 true).of htouch)
  · exact (accessError_keeps _ _ 9 true).of htouch

theorem flushQueues_keeps (s : State) (mask : Nat) : Keeps s (flushQueues s mask) :=
  .foldl (.refl s) (fun u q => .ite ((dropPending_keeps q _).of ((touchQueue_keeps u q).trans (flushQueue_keeps _ q)))
      (.refl u))

theorem servicePush_keeps (s : State) (master conn : Nat) (data : Bytes) : Keeps s (servicePush s master conn data) := by
  have htouch : Keeps s (touchQueue { s with xbr := { s.xbr with port := [], portCut := false } } 0) :=
    (touchQueue_keeps _ 0).of (.of_view rfl)
  unfold servicePush
  exact .ite ((accessError_keeps _ _ 9 true).of htouch)
    (.ite ((raise_keeps _ .cmd cQUEUE_FULL).of ((accessError_keeps _ _ 9 true).of (htouch.upd rfl)))
      (htouch.trans (pushQueue_keeps _ 0 conn data)))

theorem writeAt_keeps (s : State) (wr : Writer) (a : Nat) (w : Word) {t : State} (h : writeAt s wr a w = some t) :
    Keeps s t := by
  unfold writeAt at h
  dsimp only at h
  split at h
  · obtain rfl := Option.some.inj h
    exact writeSt_keeps s _ w
  · split at h
    · cases h
    · split at h
      · obtain rfl := Option.some.inj h
        exact writeLatch_keeps s _ wr w
      · split at h
        · obtain rfl := Option.some.inj h
          exact writeIen_keeps s _ w
        · split at h
          next hclr =>
            obtain rfl := Option.some.inj h
            exact writeClr_keeps s a w hclr
          · split at h
            · obtain rfl := Option.some.inj h
              exact writeSem_keeps s _ w
            · split at h
              · obtain rfl := Option.some.inj h
                exact ackQueue_keeps s _ _
              · split at h
                · obtain rfl := Option.some.inj h
                  exact flushQueues_keeps s _
                · obtain ⟨_, -, rfl⟩ := Option.map_eq_some_iff.mp h
                  exact .refl s

theorem writeStaging_keeps (s : State) (a : Nat) (w : Word) {t : State} (h : writeStaging s a w = some t) : Keeps s t := by
  obtain ⟨r, -, rfl⟩ := Option.map_eq_some_iff.mp h
  exact writeSt_keeps s r w

/-! ## `Machine/Wire` -/

theorem sendOn_keeps (s : State) (c : Cluster) (ch : Chan) (data : Bytes) : Keeps s (sendOn s c ch data) :=
  .ite (.refl _) (.of_view rfl)

theorem sendBoth_keeps (s : State) (c : Cluster) (data : Chan → Bytes) : Keeps s (sendBoth s c data) :=
  (sendOn_keeps _ c Chan.b (data Chan.b)).of (sendOn_keeps s c Chan.a (data Chan.a))

theorem setNode_keeps (s : State) (c : Cluster) (n : Nat) (g : NodeBlk → NodeBlk) : Keeps s (setNode s c n g) :=
  setFrn_keeps s c _

theorem checkMailboxes_keeps (s : State) (c : Cluster) (which : NodeBlk → Bool) : Keeps s (checkMailboxes s c which) :=
  .ite (raise_keeps s Blk.frn _) (.refl _)

theorem sendSvc_keeps (s : State) (c : Cluster) (v : SvcOut) : Keeps s (sendSvc s c v) :=
  sendBoth_keeps s c _

theorem sendService_keeps (s : State) (c : Cluster) (node code ref : Nat) (content : Bytes) :
    Keeps s (sendService s c node code ref content) := by
  unfold sendService
  dsimp only
  split
  · exact .refl _
  · exact (sendSvc_keeps _ c _).of ((setFrn_keeps _ c _).of (setNode_keeps s c node _))

theorem sendConfigSet_keeps (s : State) (param value : Nat) : Keeps s (sendConfigSet s param value) := by
  unfold sendConfigSet
  exact .foldl (.foldl (.refl _) (fun u a => sendService_keeps u Cluster.c0 a.node 1 0 _))
      (fun u a => sendService_keeps u Cluster.c1 a.node 1 0 _)

theorem retryRefused_keeps (s : State) : Keeps s (retryRefused s) := by
  unfold retryRefused
  exact (setFrn_keeps _ Cluster.c1 _).of (setFrn_keeps s Cluster.c0 _)

/-! ## `Machine/Packet` -/

theorem countReply_keeps (s : State) (conn : Nat) : Keeps s (countReply s conn) :=
  .of_view rfl

theorem countOk_keeps (s : State) : Keeps s (countOk s) :=
  .of_view rfl

theorem countOther_keeps (s : State) : Keeps s (countOther s) :=
  .of_view rfl

theorem sendPacket_keeps (s : State) (entry : Nat) (p : Pkt) : Keeps s (sendPacket s entry p) :=
  .of_view rfl

theorem sendPlain_keeps (s : State) (entry ver opc tag : Nat) (dst : Nat) (payload : Bytes) :
    Keeps s (sendPlain s entry ver opc tag dst payload) :=
  (sendPacket_keeps _ entry _).of (.of_view rfl)

theorem reply_keeps (s : State) (src : Src) (opc : Nat) (st : Status) (body : Bytes) : Keeps s (reply s src opc st body) :=
  (sendPlain_keeps _ src.entry src.ver opc src.tag src.addr _).of
      ((countReply_keeps _ _).of (.ite (countOk_keeps s) (.ite (countOther_keeps s) (.refl _))))

theorem laneReply_keeps (s : State) (r : Reply) (dst : Nat) : Keeps s (laneReply s r dst) :=
  (sendPlain_keeps _ r.entry r.ver r.opc r.tag dst _).of (countReply_keeps s _)

theorem formVital_keeps (s : State) (entry ver opc tag dst slot counter : Nat) (payload : Bytes) :
    Keeps s (formVital s entry ver opc tag dst slot counter payload).1 := by
  unfold formVital
  dsimp only
  split
  · exact .refl s
  · exact .iteFst (.refl s) (.of_view rfl)

theorem sendWaiting_keeps (s : State) : Keeps s (sendWaiting s) :=
  .ite (.refl s) (((touchQueue_keeps s 1).trans (.queue (consume_numbered _))).upd rfl)

/-- The addressing of the item that entered a queue last (R307). -/
theorem numbered_mapLast {u : Queue} (h : NumberedQueue u) (f : QItem → QItem) (hf : ∀ i, (f i).iseq = i.iseq) :
    NumberedQueue { u with items := u.items.dropLast ++ u.items.getLast?.toList.map f } := by
  obtain ⟨hlow, hhigh, hitems⟩ := h
  refine ⟨hlow, hhigh, fun i hi => ?_⟩
  obtain hi | hi := List.mem_append.mp hi
  · exact hitems i (List.dropLast_subset _ hi)
  · obtain ⟨j, hj, rfl⟩ := List.mem_map.mp hi
    rw [hf]
    exact hitems j (List.mem_of_getLast? (Option.mem_toList.mp hj))

theorem pushOut_keeps (s : State) (conn : Nat) (d : Datagram) : Keeps s (pushOut s conn d) := by
  have hpush : Keeps s { touchQueue s 1 with xbr := pushQueue (touchQueue s 1).xbr 1 conn d.data } := pushTo_keeps s 1 conn
      d.data
  unfold pushOut
  dsimp only
  refine (sendWaiting_keeps _).of ?_
  split
  · exact hpush.trans (.queue fun u h => numbered_mapLast h _ fun _ => rfl)
  · exact hpush

theorem pushX9_keeps (s : State) (payload : Bytes) : Keeps s (pushX9 s payload) :=
  pushOut_keeps s 9 _

theorem sendVital_keeps (s : State) (entry ver opc tag dst slot counter : Nat) (payload : Bytes) :
    Keeps s (sendVital s entry ver opc tag dst slot counter payload).1 := by
  have hform := formVital_keeps s entry ver opc tag dst slot counter payload
  unfold sendVital
  split
  next s1 d heq => exact (pushOut_keeps s1 0 d).of (by rwa [heq] at hform)
  next s1 heq => rwa [heq] at hform

theorem storeReply_keeps (s : State) (r : Reply) (bs : Bytes) : Keeps s (storeReply s r bs) := by
  unfold storeReply
  dsimp only
  split
  · exact .refl _
  · exact .of_view rfl

theorem dropPend_keeps (s : State) (r : Reply) : Keeps s (dropPend s r) :=
  .of_view rfl

theorem vitalReply_keeps (s : State) (r : Reply) (slot : Nat) : Keeps s (vitalReply s r slot) := by
  have hcount := countReply_keeps s (partnerAt s r.entry).conn
  unfold vitalReply
  dsimp only
  split
  next s1 d heq =>
    have hform := formVital_keeps (countReply s (partnerAt s r.entry).conn) r.entry r.ver r.opc r.tag
        (partnerAt s r.entry).addr slot
      s.core.counter (replyPayload r.opc r.status slot (msw s) s.core.counter r.body)
    rw [heq] at hform
    exact (storeReply_keeps _ r _).of ((hcount.trans hform).upd rfl)
  · exact .refl s

theorem sendReply_keeps (s : State) (r : Reply) : Keeps s (sendReply s r) := by
  unfold sendReply
  dsimp only
  split
  · exact dropPend_keeps s r
  · split
    · exact .ite ((vitalReply_keeps _ r _).of (.ite ((countOk_keeps _).of (.ite (.of_view rfl) (.refl _)))
        (.ite (.of_view rfl) (.refl _)))) ((laneReply_keeps _ r _).of
        ((dropPend_keeps _ r).of (.ite ((countOk_keeps _).of (.ite (.of_view rfl) (.refl _))) (.ite (.of_view rfl) (.refl _)))))
    · exact (laneReply_keeps _ r _).of (.ite ((countOk_keeps _).of (.ite (.of_view rfl) (.refl _)))
        (.ite (.of_view rfl) (.refl _)))

theorem sendReplies_keeps (s : State) (rs : List Reply) : Keeps s (sendReplies s rs) :=
  .foldl (.refl _) sendReply_keeps

theorem holdReplies_keeps (s : State) (rs : List Reply) : Keeps s (holdReplies s rs) :=
  (sendReplies_keeps s rs).upd rfl

theorem sendFrame_keeps (s : State) : Keeps s (sendFrame s) := by
  unfold sendFrame
  exact .foldl (.of_view rfl) (fun u a => pushOut_keeps u 0 a)

theorem countVital_keeps (s : State) (st : Status) : Keeps s (countVital s st) := by
  unfold countVital
  dsimp only
  split
  · exact .of_view rfl
  · exact .of_view rfl
  · exact .refl _

/-! ## `Machine/Image` -/

theorem writeImage_keeps (s : State) : Keeps s (writeImage s) :=
  .of_view rfl

theorem touchPort_keeps (s : State) (a : Nat) : Keeps s (touchPort s a) :=
  .ite (touchQueue_keeps s _) (.refl _)

theorem readOne_keeps (s : State) (a : Nat) : Keeps s (readOne s a).2 := by
  have htouch := touchPort_keeps s a
  unfold readOne
  dsimp only
  split
  · exact htouch.upd rfl
  · exact (accessError_keeps _ a _ false).of htouch

theorem readMany_keeps (s : State) (a n : Nat) : Keeps s (readMany s a n).2 := by
  induction n generalizing s a with
  | zero => exact .refl s
  | succ n ih => exact (ih _ _).of (readOne_keeps s a)

theorem sendReport_keeps (s : State) (u : Subscription) : Keeps s (sendReport s u) := by
  have hsubs : ∀ t, Keeps s t → ∀ l, Keeps s { t with cmd := { t.cmd with subs := l } } := fun _ h _ => h.upd rfl
  exact hsubs _ (sendPlain_keeps s _ _ _ _ _ _) _

theorem sendReports_keeps (s : State) : Keeps s (sendReports s) :=
  .foldl (.refl _) (fun u a => .ite (sendReport_keeps u a) (.refl _))

/-! ## `Machine/Bridge` -/

theorem unlessFenced_keeps (s : State) (a : Nat) (f : State → State) (hf : ∀ t, Keeps t (f t)) : Keeps s (unlessFenced s a f) :=
  .ite (accessError_keeps s a 8 true) (hf _)

theorem execFlatchClear_goes (src : Src) (blk : Blk) (mask : Word) (s : State) : Goes s (execFlatchClear src blk mask s) :=
  .ite (.next (.refl _)) (.next (writeLatch_keeps s blk _ mask))

theorem execXbrQack_goes (q iseq : Nat) (s : State) : Goes s (execXbrQack q iseq s) := by
  unfold execXbrQack
  exact .next (unlessFenced_keeps s 0x60060 _ (fun t => ackQueue_keeps t q iseq))

theorem execXbrQpush_goes (q conn : Nat) (data : Bytes) (master : Nat) (s : State) :
    Goes s (execXbrQpush q conn data master s) := by
  unfold execXbrQpush
  exact .ite (.ite (.next (pushTo_keeps s q conn data)) (.next (.refl _)))
      (.ite (.next (unlessFenced_keeps s 0x60064 _ (fun t => servicePush_keeps t master conn data)))
      (.next (unlessFenced_keeps s 0x60064 _ (fun t => accessError_keeps t 0x60064 9 true))))

theorem execXbrQflush_goes (q : Nat) (s : State) : Goes s (execXbrQflush q s) := by
  unfold execXbrQflush
  exact .next (unlessFenced_keeps s 0x60068 _ (fun t => .ite (flushQueues_keeps t (2 ^ q)) (.refl _)))

theorem execSemAcquire_goes (n master now : Nat) (s : State) : Goes s (execSemAcquire n master now s) := by
  unfold execSemAcquire
  exact .next ((unlessFenced_keeps (later s now) (0x60020 + 4 * n) _ (fun t => writeSem_keeps t n _)).of (later_keeps s now))

theorem execSemRelease_goes (n master : Nat) (s : State) : Goes s (execSemRelease n master s) := by
  unfold execSemRelease
  exact .next (unlessFenced_keeps s (0x60020 + 4 * n) _ (fun t => writeSem_keeps t n _))

theorem execSemaphoreTimeout_goes (n now : Nat) (s : State) : Goes s (execSemaphoreTimeout n now s) := by
  unfold execSemaphoreTimeout
  dsimp only
  split
  · exact .next (later_keeps s now)
  · exact .ite (.next ((later_keeps s now).upd rfl)) (.next (later_keeps s now))

theorem execTransferTimeout_goes (addr : Nat) (write : Bool) (s : State) : Goes s (execTransferTimeout addr write s) :=
  .next (accessError_keeps s addr 4 write)

theorem inboundWrite_keeps (s : State) {t : State} (h : inboundWrite s = .ok t) : Keeps s t := by
  unfold inboundWrite at h
  split at h
  · cases h
  · split at h
    · cases h
    · obtain rfl := Except.ok.inj h
      exact .refl s

theorem portWrite_keeps (s : State) (o : Nat) (w : Word) : Keeps s (portWrite s o w) :=
  .ite (touchQueue_keeps s 0) ((touchQueue_keeps s 0).upd rfl)

theorem windowWrite_keeps (s : State) (a : Nat) (w : Word) {t : State} (h : windowWrite s a w = .ok t) : Keeps s t := by
  have hxfer : ∀ bs : Bytes, Keeps s { s with xbr := { s.xbr with xfer := bs } } := fun _ => .of_view rfl
  unfold windowWrite at h
  split at h
  · obtain rfl := Except.ok.inj h
    exact hxfer _
  · split at h
    · exact inboundWrite_keeps s h
    · split at h
      · obtain rfl := Except.ok.inj h
        exact portWrite_keeps s _ w
      · split at h <;> cases h

theorem qpushWrite_keeps (s : State) (master : Nat) (w : Word) : Keeps s (qpushWrite s master w) :=
  .ite (servicePush_keeps s master (fieldOf w 28 4) _) (accessError_keeps s 0x60064 9 true)

theorem serviceWrite_keeps (s : State) (master a : Nat) (w : Word) {t : State} (h : serviceWrite s master a w = .ok t) :
    Keeps s t := by
  unfold serviceWrite at h
  dsimp only at h
  split at h
  · obtain rfl := Except.ok.inj h
    exact qpushWrite_keeps s master w
  · split at h
    · split at h
      next u hu =>
        obtain rfl := Except.ok.inj h
        exact writeAt_keeps s {} a w hu
      · cases h
    · split at h
      · split at h
        next u hu =>
          obtain rfl := Except.ok.inj h
          exact writeStaging_keeps s _ w hu
        · cases h
      · split at h
        · cases h
        · split at h
          · cases h
          · split at h
            · exact windowWrite_keeps s a w h
            · cases h

theorem writeWords_keeps (master : Nat) (ws : List Word) (s : State) (a : Nat) {t : State}
    (h : writeWords master s a ws = .ok t) :
    Keeps s t := by
  induction ws generalizing s a with
  | nil =>
    obtain rfl := Except.ok.inj h
    exact .refl s
  | cons w ws ih =>
    unfold writeWords at h
    split at h
    · cases h
    next u hu => exact (ih u (a + 4) h).of (serviceWrite_keeps s master a w hu)

theorem writePart_keeps (master : Nat) (p : State × List Word) (part : Nat × Nat) : Keeps p.1 (writePart master p part).1 := by
  unfold writePart
  dsimp only
  split
  next hwords => exact writeWords_keeps master _ _ _ hwords
  · exact accessError_keeps _ _ _ true

theorem readPart_keeps (s : State) (part : Nat × Nat) : Keeps s (readPart s part) := by
  have htouch := touchPort_keeps s part.1
  unfold readPart
  dsimp only
  split
  · exact htouch.upd rfl
  next c _ => exact ((accessError_keeps _ part.1 c false).of htouch).upd rfl

theorem serviceTransfer_keeps (s : State) (t : Transfer) (master a : Nat) (word : Word) :
    Keeps s (serviceTransfer s t master a word) := by
  have hmet : Keeps s { s with xbr := { s.xbr with retry := satAdd 0xFFFFFFFF t.crossed s.xbr.retry, readData := [] } } :=
      .of_view rfl
  have hparts : ∀ (l : List (Nat × Nat)) (p : State × List Word), Keeps p.1 (l.foldl (writePart master) p).1 := by
    intro l
    induction l with
    | nil => exact fun p => .refl p.1
    | cons x l ih => exact fun p => (ih _).of (writePart_keeps master p x)
  unfold serviceTransfer
  dsimp only
  split
  next c _ =>
    have herr := (accessError_keeps _ a c t.write).of hmet
    exact .ite herr (herr.upd rfl)
  · exact .ite ((hparts _ _).of hmet) (.foldl hmet readPart_keeps)

theorem laneWrite_keeps (s : State) (wr : Writer) (a : Nat) (w : Word) {t : State} (h : laneWrite s wr a w = some t) :
    Keeps s t := by
  unfold laneWrite at h
  split at h
  · cases h
  · split at h
    · exact writeStaging_keeps s _ w h
    · split at h
      · exact writeAt_keeps s wr a w h
      · cases h

theorem execRegisterWrite_goes (acc : Access) (writer addr : Nat) (word : Word) (now : Nat) (s : State) :
    Goes s (execRegisterWrite acc writer addr word now s) := by
  have hlater := later_keeps s now
  unfold execRegisterWrite
  extract_lets s0
  change Keeps s s0 at hlater
  clear_value s0
  cases acc with
  | lanes =>
    exact .next (.getD (fun _ h => (laneWrite_keeps s0 _ addr word h).of hlater) ((accessError_keeps s0 addr _ true).of hlater))
  | service t => exact .next ((serviceTransfer_keeps s0 t writer addr word).of hlater)

theorem clrWrite_keeps (s : State) (a : Nat) (w : Word) : Keeps s (clrWrite s a w) :=
  .getD (fun _ h => writeClr_keeps _ _ _ h) (.refl _)

theorem execFrmPhclr_goes (word : Word) (s : State) : Goes s (execFrmPhclr word s) :=
  .next (clrWrite_keeps s 65596 word)

theorem execPrlCclr_goes (word : Word) (s : State) : Goes s (execPrlCclr word s) :=
  .next (clrWrite_keeps s 196644 word)

theorem execVotClr_goes (word : Word) (s : State) : Goes s (execVotClr word s) :=
  .next (clrWrite_keeps s 131100 word)

theorem execBstClr_goes (word : Word) (s : State) : Goes s (execBstClr word s) :=
  .next (clrWrite_keeps s 655412 word)

theorem execFrnClr_goes (c : Cluster) (word : Word) (s : State) : Goes s (execFrnClr c word s) :=
  .next (clrWrite_keeps s _ word)

theorem execLioClr_goes (word : Word) (s : State) : Goes s (execLioClr word s) :=
  .next (clrWrite_keeps s 327724 word)

theorem execCmdClr_goes (word : Word) (s : State) : Goes s (execCmdClr word s) :=
  .next (clrWrite_keeps s 852000 word)

theorem execXbrClr_goes (word : Word) (s : State) : Goes s (execXbrClr word s) :=
  .next (clrWrite_keeps s 0x6001C word)

theorem execDpxClr_goes (word : Word) (s : State) : Goes s (execDpxClr word s) :=
  .next (clrWrite_keeps s 458784 word)

theorem execEvrClr_goes (word : Word) (s : State) : Goes s (execEvrClr word s) :=
  .next (clrWrite_keeps s 589860 word)

theorem execPwrClr_goes (word : Word) (s : State) : Goes s (execPwrClr word s) :=
  .next (clrWrite_keeps s 720904 word)

theorem execBridgeEcc_goes (addr now : Nat) (s : State) : Goes s (execBridgeEcc addr now s) :=
  .next ((raise_keeps _ Blk.xbr xBRIDGE_ECC).of ((accessError_keeps (later s now) addr 5 false).of (later_keeps s now)))

/-! ## `Machine/Recorder` -/

theorem settleLoss_keeps (s : State) : Keeps s (settleLoss s) :=
  .ite ((raise_keeps _ Blk.evr rEVT_LOSS).of (.of_view rfl)) (.refl _)

theorem popEvt_keeps (s : State) : Keeps s (popEvt s) := .queue consumeHead_numbered

theorem execEventRecordTaken_goes (now : Nat) (s : State) : Goes s (execEventRecordTaken now s) := by
  unfold execEventRecordTaken
  dsimp only
  split
  · exact .next (.ite (later_keeps s now) ((touchQueue_keeps (later s now) 2).of (later_keeps s now)))
  · exact .ite (.next (.ite (later_keeps s now) ((touchQueue_keeps (later s now) 2).of (later_keeps s now))))
      (.ite (.next ((settleLoss_keeps _).of (((popEvt_keeps _).of
      (.ite (later_keeps s now) ((touchQueue_keeps (later s now) 2).of (later_keeps s now)))).upd rfl)))
      (.next ((settleLoss_keeps _).of ((bufferRec_keeps _ _ _).of
      ((tellLoss_keeps _).of ((popEvt_keeps _).of (.ite (later_keeps s now)
      ((touchQueue_keeps (later s now) 2).of (later_keeps s now)))))))))

theorem execFlush_goes (now : Nat) (s : State) : Goes s (execFlush now s) :=
  .ite (.next ((startFlush_keeps (later s now)).of (later_keeps s now))) (.next (later_keeps s now))

theorem flushAgain_keeps (s : State) : Keeps s (flushAgain s) :=
  .ite ((startFlush_keeps _).of (.of_view rfl)) (.refl _)

theorem markShutdown_keeps (s : State) : Keeps s (markShutdown s) :=
  .ite (.of_view rfl) (.refl _)

theorem commitBatch_keeps (s : State) : Keeps s (commitBatch s) := by
  unfold commitBatch
  dsimp only
  split
  · exact .refl _
  · exact .of_view rfl

theorem execFlushEnd_goes (ok : Bool) (now : Nat) (s : State) : Goes s (execFlushEnd ok now s) := by
  unfold execFlushEnd
  dsimp only
  split
  · exact .next (later_keeps s now)
  · exact .ite (.next ((markShutdown_keeps _).of ((flushAgain_keeps _).of
      ((lower_keeps _ Blk.evr rMRAM_ERR).of ((commitBatch_keeps (later s now)).of (later_keeps s now))))))
      (.next ((raise_keeps _ Blk.evr rMRAM_ERR).of ((later_keeps s now).upd rfl)))

theorem execSegmentCopy_goes (ok : Bool) (s : State) : Goes s (execSegmentCopy ok s) :=
  .ite (.next (.refl _)) (.ite (.next (raise_keeps s Blk.evr rRING_ERR))
      (.next ((lower_keeps _ Blk.evr rRING_ERR).of (.of_view rfl))))

theorem execMark_goes (now : Nat) (s : State) : Goes s (execMark now s) :=
  .ite (.next ((svcRec_keeps _ 21 0 []).of ((later_keeps s now).upd rfl))) (.next (later_keeps s now))

theorem takeDiag_keeps (s : State) (l : Lane) : Keeps s (takeDiag s l) := by
  have htaken : Keeps s { touchQueue s (2 + l.num) with
      xbr := setQueue (touchQueue s (2 + l.num)).xbr (2 + l.num) (consume fun _ => true) } :=
    (touchQueue_keeps s _).trans (.queue (consume_numbered _))
  exact .ite (.refl s) (htaken.upd rfl)

theorem takeDiags_keeps (s : State) : Keeps s (takeDiags s) :=
  .foldl (.refl _) takeDiag_keeps

theorem stepTime_keeps (s : State) (src : TimeSrc) (utc : Int) : Keeps s (stepTime s src utc) :=
  (svcRec_keeps _ 19 0 _).of (.of_view rfl)

theorem syncLocked_keeps (utc : Int) (s : State) : Keeps s (syncLocked utc s) := by
  unfold syncLocked
  dsimp only
  split
  · exact .refl _
  · exact .ite ((stepTime_keeps _ TimeSrc.ptp utc).of (.of_view rfl)) (.of_view rfl)

theorem syncUnlocked_keeps (utc : Int) (s : State) : Keeps s (syncUnlocked utc s) := by
  unfold syncUnlocked
  exact .ite ((lower_keeps _ Blk.evr rTIME_HOLD).of ((stepTime_keeps _ TimeSrc.ptp utc).of (.of_view rfl)))
      (.of_view rfl)

theorem execPtpSync_goes (domain : Nat) (utc : Int) (now : Nat) (s : State) : Goes s (execPtpSync domain utc now s) :=
  .ite (.next (later_keeps s now)) (.next (.ite ((syncLocked_keeps utc (later s now)).of (later_keeps s now))
      ((syncUnlocked_keeps utc (later s now)).of (later_keeps s now))))

theorem execPtpUnlock_goes (now : Nat) (s : State) : Goes s (execPtpUnlock now s) := by
  unfold execPtpUnlock
  dsimp only
  split
  · exact .next (later_keeps s now)
  · exact .ite (.next (later_keeps s now)) (.ite (.next ((raise_keeps _ Blk.evr rTIME_HOLD).of ((later_keeps s now).upd rfl)))
      (.next ((later_keeps s now).upd rfl)))

theorem writeRtc_keeps (s : State) : Keeps s (writeRtc s) := by
  unfold writeRtc
  dsimp only
  split
  · exact .refl _
  · exact .of_view rfl

theorem execRtcWrite_goes (now : Nat) (s : State) : Goes s (execRtcWrite now s) :=
  .ite (.next ((writeRtc_keeps (later s now)).of (later_keeps s now))) (.next (later_keeps s now))

/-! ## `Machine/Access` -/

theorem hearFrom_keeps (s : State) (entry : Nat) : Keeps s (hearFrom s entry) :=
  .of_view rfl

theorem gated_keeps (s : State) (src : Src) (opc : Nat) (f : State → State) (hf : ∀ t, Keeps t (f t)) :
    Keeps s (gated s src opc f) := by
  unfold gated
  split
  · exact .refl _
  · exact (reply_keeps _ src opc _ []).of (.ite (.refl _) (countOther_keeps s))
  · exact (hf _).of (hearFrom_keeps s src.entry)

/-! ## `Machine/Commit` -/

theorem reactRaised_keeps (old : Cfg) (s : State) (b : Blk) : Keeps s (reactRaised old s b) :=
  .foldl (.refl _) (fun u a => .ite (.ite ((react_keeps _ b a _ none).of (faultRec_keeps u b a _))
      (.foldl (faultRec_keeps u b a _) (fun u a => react_keeps u b _ _ (some a)))) (.refl _))

theorem applyStaged_keeps (s : State) : Keeps s (applyStaged s) := by
  delta applyStaged
  extract_lets old new changed heard _ _ _ s1 s2 s3 s4
  have h1 : Keeps s s1 := .of_view rfl
  have h2 : Keeps s1 s2 := .ite (sendConfigSet_keeps s1 1 _) (.refl s1)
  have h3 : Keeps s2 s3 := .ite (sendConfigSet_keeps s2 2 _) (.refl s2)
  clear_value s1 s2 s3
  have h4 : Keeps s3 s4 := .ite (.of_view rfl) (.refl s3)
  exact .foldl ((retryRefused_keeps s4).of (((h1.trans h2).trans h3).trans h4)) (reactRaised_keeps old)

theorem commitRecord_keeps (s : State) (result addr : Nat) : Keeps s (commitRecord s result addr) :=
  frameRec_keeps s 8 0 _

theorem evalCommit_keeps (s : State) : Keeps s (evalCommit s) := by
  unfold evalCommit
  dsimp only
  split
  · exact (commitRecord_keeps _ 2 0).of (.of_view rfl)
  · split
    · exact (commitRecord_keeps _ 1 _).of (.of_view rfl)
    · exact (commitRecord_keeps _ 0 0).of ((applyStaged_keeps s).upd rfl)

theorem discardStaged_keeps (s : State) : Keeps s (discardStaged s) :=
  .of_view rfl

/-! ## `Machine/Exchange` -/

theorem noteBanks_keeps (s : State) : Keeps s (noteBanks s) :=
  setLive_keeps s Blk.upd uBANK_BAD _

theorem unreadable_keeps (s : State) (part : Part) : Keeps s (unreadable s part) :=
  (raise_keeps _ Blk.upd _).of (.of_view rfl)

theorem bankRewritten_keeps (s : State) (part : Part) : Keeps s (bankRewritten s part) :=
  .ite ((lower_keeps _ Blk.upd _).of ((noteBanks_keeps s).upd rfl)) (noteBanks_keeps s)

theorem bankRecord_keeps (s : State) (part : Part) (st : BankSt) (img : Nat) : Keeps s (bankRecord s part st img) :=
  (frameRec_keeps _ 10 _ _).of (.of_view rfl)

theorem setPairs_keeps (s : State) (part : Part) (f : BankPair → BankPair) : Keeps s (setPairs s part f) :=
  .of_view rfl

theorem switchPart_keeps (s : State) (part : Part) (new old : BankSt) : Keeps s (switchPart s part new old) :=
  (bankRecord_keeps _ part new _).of (setPairs_keeps s part _)

theorem openWindow_keeps (s : State) (part : Part) (withPrt : Bool) : Keeps s (openWindow s part withPrt) :=
  (raise_keeps _ Blk.upd _).of (.of_view rfl)

theorem closeWindow_keeps (s : State) : Keeps s (closeWindow s) :=
  (lower_keeps _ Blk.upd _).of (.of_view rfl)

theorem rewriteSettings_keeps (s : State) (fmt : Nat) : Keeps s (rewriteSettings s fmt) :=
  .ite (.refl _) (.of_view rfl)

theorem confirmPart_keeps (s : State) : Keeps s (confirmPart s) := by
  unfold confirmPart
  dsimp only
  split
  · exact .refl _
  · exact (closeWindow_keeps _).of ((bankRecord_keeps _ _ _ _).of
      (.ite ((setPairs_keeps _ Part.prt _).of ((setPairs_keeps _ _ _).of (.ite (rewriteSettings_keeps s _) (.refl _))))
      ((setPairs_keeps _ _ _).of (.ite (rewriteSettings_keeps s _) (.refl _)))))

theorem watchHealth_keeps (s : State) : Keeps s (watchHealth s) := by
  unfold watchHealth
  dsimp only
  split
  · exact .refl _
  · exact .ite (.refl _) (.of_view rfl)

theorem confirmDue_keeps (s : State) : Keeps s (confirmDue s) :=
  .ite (confirmPart_keeps s) (.refl _)

theorem doExchange_keeps (s : State) (e : Exchange) : Keeps s (doExchange s e) := by
  have hfbk : ∀ t, Keeps s t → Keeps s { t with upd := { t.upd with fbk := false } } := fun _ h => h.upd rfl
  unfold doExchange
  split
  · extract_lets table _ s1
    have h1 : Keeps s s1 := (retryRefused_keeps _).of (.of_view rfl)
    clear_value s1
    exact .ite ((closeWindow_keeps _).of (hfbk _ ((switchPart_keeps s1 .mzp _ _).of h1)))
      ((openWindow_keeps _ .mzp false).of ((switchPart_keeps s1 .mzp _ _).of h1))
  · exact .refl s

theorem exchangeDrain_keeps (s : State) : Keeps s (exchangeDrain s) := by
  unfold exchangeDrain
  dsimp only
  split
  · exact .refl _
  · exact .ite (doExchange_keeps s _) (.ite (.of_view rfl) (.refl _))

theorem tellFallback_keeps (s : State) (auto : Bool) : Keeps s (tellFallback s auto) :=
  (raise_keeps _ Blk.upd uFALLBACK).of (.of_view rfl)

theorem laneSwitch_keeps (s : State) (l : Lane) (new old : BankSt) : Keeps s (laneSwitch s l new old) :=
  (bankRecord_keeps _ Part.lfw new _).of (.of_view rfl)

theorem laneBack_keeps (s : State) (l : Lane) : Keeps s (laneBack s l) :=
  laneSwitch_keeps s l _ _

theorem lfwFallback_keeps (s : State) (auto : Bool) : Keeps s (lfwFallback s auto) :=
  (tellFallback_keeps _ auto).of (.of_view rfl)

theorem lfwFallbackEnd_keeps (s : State) : Keeps s (lfwFallbackEnd s) :=
  .ite (.ite ((closeWindow_keeps _).of (.of_view rfl)) (.of_view rfl)) (.refl _)

theorem laneFails_keeps (s : State) (l : Lane) : Keeps s (laneFails s l) :=
  .ite ((laneBack_keeps _ l).of (lfwFallback_keeps s true)) (.refl _)

/-! ## `Machine/FieldSide` -/

theorem updVital_keeps (s : State) (f : LioVital → LioVital) : Keeps s (updVital s f) :=
  .of_view rfl

theorem updField_keeps (s : State) (f : FieldSide → FieldSide) : Keeps s (updField s f) :=
  .of_view rfl

theorem takeLoc_keeps (s : State) (d : DownIn) (m : LocCmd) : Keeps s (takeLoc s d m) := by
  unfold takeLoc
  dsimp only
  split
  · exact .refl _
  · exact .ite (.refl _) (updField_keeps s _)

theorem countLost_keeps (fault : LinkFault) (s : State) : Keeps s (countLost fault s) :=
  updVital_keeps s _

theorem takeControl_keeps (s : State) (d : DownIn) : Keeps s (takeControl s d) := by
  unfold takeControl
  exact updField_keeps s _

theorem sentDown_keeps (s : State) : Keeps s (sentDown s) := by
  have hsent : ∀ t, Keeps s t → ∀ l, Keeps s { t with sent := l } := fun _ h _ => h.upd rfl
  exact hsent _ (updVital_keeps s _) _

theorem execBarrierDownstreamFrame_goes (f : DownIn) (now : Nat) (s : State) : Goes s (execBarrierDownstreamFrame f now s) := by
  unfold execBarrierDownstreamFrame
  dsimp only
  split
  · exact .next (.ite ((updField_keeps (later s now) _).of (later_keeps s now)) (later_keeps s now))
  · split
    · exact .next ((sentDown_keeps (later s now)).of (later_keeps s now))
    · split
      · exact .next ((sentDown_keeps _).of ((countLost_keeps f.fault _).of
          ((updField_keeps (later s now) _).of (later_keeps s now))))
      · split
        · exact .next ((sentDown_keeps _).of (.ite ((takeControl_keeps (later s now) f).of (later_keeps s now))
            ((takeLoc_keeps _ f _).of ((takeControl_keeps (later s now) f).of (later_keeps s now)))))
        · exact .next ((sentDown_keeps _).of ((takeControl_keeps (later s now) f).of (later_keeps s now)))

theorem execRestartEnd_goes (now : Nat) (s : State) : Goes s (execRestartEnd now s) := by
  unfold execRestartEnd
  dsimp only
  split
  · exact .ite (.next ((updField_keeps (later s now) _).of (later_keeps s now))) (.next (later_keeps s now))
  · exact .next (later_keeps s now)

theorem execToffeeExpiry_goes (now : Nat) (s : State) : Goes s (execToffeeExpiry now s) := by
  unfold execToffeeExpiry
  dsimp only
  split
  · exact .ite (.next ((updField_keeps (later s now) _).of (later_keeps s now))) (.next (later_keeps s now))
  · exact .next (later_keeps s now)

theorem startKeyRound_keeps (s : State) : Keeps s (startKeyRound s) := by
  unfold startKeyRound
  exact updVital_keeps s _

theorem guardRefresh_keeps (was : UpFrame) (s : State) : Keeps s (guardRefresh was s) := by
  unfold guardRefresh
  dsimp only
  split
  · exact .refl s
  · refine .foldl (.refl s) (fun u a => ?_)
    split
    · exact .refl u
    · exact .ite ((frameRec_keeps _ 6 0 _).of ((raise_keeps _ Blk.prl pGUARD_TRIP).of
        (.ite ((raise_keeps _ Blk.prl pGUARD_FAULT).of (.of_view rfl)) (.of_view rfl))))
        (.ite ((raise_keeps _ Blk.prl pGUARD_FAULT).of (.of_view rfl)) (.of_view rfl))

theorem lioSources_keeps (s : State) : Keeps s (lioSources s) :=
  (setLive_keeps _ Blk.lio lTOFFEE_EXP _).of ((setLive_keeps _ Blk.lio lTRIP_LOCK _).of
      ((setLive_keeps _ Blk.lio lTRIP_DEGRADED _).of ((setLive_keeps _ Blk.lio lSUPPLY _).of
      ((setLive_keeps _ Blk.lio lOUT_SWITCH _).of ((setLive_keeps _ Blk.lio lOUT_SHORT _).of
      ((setLive_keeps _ Blk.lio lIN_CHAN _).of ((setLive_keeps _ Blk.lio lIN_BANK _).of
      (setLive_keeps s Blk.lio lFIELD_SIDE _))))))))

theorem execBarrierUpstreamFrame_goes (fault : LinkFault) (now : Nat) (s : State) :
    Goes s (execBarrierUpstreamFrame fault now s) := by
  have hlater := later_keeps s now
  unfold execBarrierUpstreamFrame
  extract_lets s0 up was seq s1 s2 s3 s4
  change Keeps s s0 at hlater
  have h1 : Keeps s0 s1 := updField_keeps s0 _
  have h2 : Keeps s1 s2 := updVital_keeps s1 _
  clear_value s0 s1 s2
  have h3 : Keeps s2 s3 := (lower_keeps _ .lio lBARRIER).of (.of_view rfl)
  clear_value s3
  have h4 : Keeps s3 s4 := .ite (startKeyRound_keeps s3) (.refl s3)
  have hall := ((h1.trans h2).trans h3).trans h4
  exact .ite (.next hlater) (.ite (.next ((countLost_keeps fault _).of ((updVital_keeps s0 _).of hlater)))
    (.next ((lioSources_keeps _).of ((guardRefresh_keeps was s4).of (hall.of hlater)))))

theorem execBarrierLoss_goes (up : Bool) (now : Nat) (s : State) : Goes s (execBarrierLoss up now s) :=
  .ite (.next (later_keeps s now)) (.ite (.next (.ite ((raise_keeps _ Blk.lio lBARRIER).of
      ((updVital_keeps (later s now) _).of (later_keeps s now))) (later_keeps s now)))
      (.ite (.next ((updField_keeps (later s now) _).of (later_keeps s now))) (.next (later_keeps s now))))

theorem execKeyRoundRepeat_goes (now : Nat) (s : State) : Goes s (execKeyRoundRepeat now s) := by
  unfold execKeyRoundRepeat
  dsimp only
  split
  · exact .ite (.next ((updVital_keeps (later s now) _).of (later_keeps s now))) (.next (later_keeps s now))
  · exact .next (later_keeps s now)

theorem channelTiming_keeps (s : State) (n : Nat) : Keeps s (channelTiming s n) :=
  .ite (.refl _) (updField_keeps s _)

theorem execInputChange_goes (input : Nat) (level : Bool) (now : Nat) (s : State) :
    Goes s (execInputChange input level now s) :=
  .ite (.next (later_keeps s now)) (.next ((channelTiming_keeps _ input).of
      ((updField_keeps (later s now) _).of (later_keeps s now))))

theorem execFiltExpiry_goes (input now : Nat) (s : State) : Goes s (execFiltExpiry input now s) := by
  unfold execFiltExpiry
  dsimp only
  split
  · split
    · exact .ite (.next ((channelTiming_keeps _ input).of ((updField_keeps (later s now) _).of (later_keeps s now))))
        (.next (later_keeps s now))
    · exact .next (later_keeps s now)
  · exact .next (later_keeps s now)

theorem execDiscrepancyExpiry_goes (chan now : Nat) (s : State) : Goes s (execDiscrepancyExpiry chan now s) := by
  unfold execDiscrepancyExpiry
  dsimp only
  split
  · exact .ite (.next ((updField_keeps (later s now) _).of (later_keeps s now))) (.next (later_keeps s now))
  · exact .next (later_keeps s now)

theorem execDiscrepancyFaultClear_goes (chan now : Nat) (s : State) : Goes s (execDiscrepancyFaultClear chan now s) := by
  unfold execDiscrepancyFaultClear
  dsimp only
  split
  · exact .ite (.next ((updField_keeps (later s now) _).of (later_keeps s now))) (.next (later_keeps s now))
  · exact .next (later_keeps s now)

theorem execAxleCount_goes (pair : Nat) (levels : List (Bool × Bool × Nat)) (now : Nat) (s : State) :
    Goes s (execAxleCount pair levels now s) := by
  unfold execAxleCount
  dsimp only
  split
  · exact .next (later_keeps s now)
  · split
    · exact .next ((updField_keeps (later s now) _).of (later_keeps s now))
    · exact .next (later_keeps s now)

theorem execComparatorDisagreement_goes (input now : Nat) (s : State) : Goes s (execComparatorDisagreement input now s) :=
  .ite (.next (later_keeps s now)) (.ite (.next ((updField_keeps _ _).of
      ((updField_keeps (later s now) _).of (later_keeps s now))))
      (.next ((updField_keeps (later s now) _).of (later_keeps s now))))

theorem execShuntTest_goes (input : Nat) (ok : Bool) (s : State) : Goes s (execShuntTest input ok s) :=
  .ite (.next (.refl _)) (.next (updField_keeps s _))

theorem execLocationTest_goes (bank : Nat) (bad : List Nat) (aborted : Bool) (s : State) :
    Goes s (execLocationTest bank bad aborted s) :=
  .ite (.next (.refl _)) (.ite (.next (updField_keeps s _)) (.next (updField_keeps s _)))

theorem execOffPulse_goes (out : Nat) (ok : Bool) (now : Nat) (s : State) : Goes s (execOffPulse out ok now s) :=
  .ite (.next (later_keeps s now)) (.ite (.next ((later_keeps s now).upd rfl))
      (.next ((updField_keeps _ _).of ((later_keeps s now).upd rfl))))

theorem execTripChannelTest_goes (chan : Nat) (res : TripResult) (now : Nat) (s : State) :
    Goes s (execTripChannelTest chan res now s) := by
  unfold execTripChannelTest
  dsimp only
  split
  · exact .next (later_keeps s now)
  · split
    · exact .next (later_keeps s now)
    · exact .next ((updField_keeps (later s now) _).of (later_keeps s now))
    · exact .next ((updField_keeps (later s now) _).of (later_keeps s now))

theorem execDegx_goes (chan now : Nat) (s : State) : Goes s (execDegx chan now s) := by
  unfold execDegx
  dsimp only
  split
  · split
    · exact .ite (.next ((updField_keeps (later s now) _).of (later_keeps s now))) (.next (later_keeps s now))
    · exact .next (later_keeps s now)
  · exact .next (later_keeps s now)

theorem execDegxOpen_goes (chan now : Nat) (s : State) : Goes s (execDegxOpen chan now s) := by
  unfold execDegxOpen
  dsimp only
  split
  · exact .ite (.next ((updField_keeps (later s now) _).of (later_keeps s now))) (.next (later_keeps s now))
  · exact .next (later_keeps s now)

theorem execOutputFault_goes (out : Nat) (trip short : Bool) (now : Nat) (s : State) :
    Goes s (execOutputFault out trip short now s) :=
  .ite (.next (later_keeps s now)) (.ite (.next (.ite (later_keeps s now)
      ((updField_keeps (later s now) _).of (later_keeps s now))))
      (.ite (.next ((updField_keeps (later s now) _).of (later_keeps s now)))
      (.ite (.next ((updField_keeps (later s now) _).of (later_keeps s now)))
      (.next ((updField_keeps (later s now) _).of (later_keeps s now))))))

theorem execFaultClassification_goes (bank : Nat) (high : Bool) (now : Nat) (s : State) :
    Goes s (execFaultClassification bank high now s) := by
  unfold execFaultClassification
  dsimp only
  split
  · exact .ite (.next ((updField_keeps (later s now) _).of (later_keeps s now))) (.next (later_keeps s now))
  · exact .next (later_keeps s now)

theorem execSupplySag_goes (x2 now : Nat) (s : State) : Goes s (execSupplySag x2 now s) :=
  .ite (.next (later_keeps s now)) (.next ((updField_keeps (later s now) _).of (later_keeps s now)))

theorem execX2Loss_goes (now : Nat) (s : State) : Goes s (execX2Loss now s) :=
  .next ((updField_keeps (later s now) _).of (later_keeps s now))

theorem execX2Return_goes (x2 now : Nat) (s : State) : Goes s (execX2Return x2 now s) :=
  .next ((updField_keeps (later s now) _).of (later_keeps s now))

theorem execX2WithinRange_goes (x2 now : Nat) (s : State) : Goes s (execX2WithinRange x2 now s) :=
  .ite (.next ((updField_keeps (later s now) _).of (later_keeps s now))) (.next (later_keeps s now))

theorem execConverter_goes (now : Nat) (s : State) : Goes s (execConverter now s) :=
  .ite (.next (later_keeps s now)) (.next ((raise_keeps _ Blk.lio lCONVERTER).of
      ((updVital_keeps _ _).of ((updField_keeps (later s now) _).of (later_keeps s now)))))

theorem execConverterRecovery_goes (now : Nat) (s : State) : Goes s (execConverterRecovery now s) :=
  .ite (.next (later_keeps s now)) (.next ((lower_keeps _ Blk.lio lCONVERTER).of
      ((updVital_keeps _ _).of ((updField_keeps (later s now) _).of (later_keeps s now)))))

theorem execRestartTestsEnd_goes (res : RestartTests) (now : Nat) (s : State) : Goes s (execRestartTestsEnd res now s) :=
  .ite (.next (later_keeps s now)) (.next ((updField_keeps (later s now) _).of (later_keeps s now)))

/-! ## `Machine/Security` -/

theorem emptyWindow_keeps (s : State) (entry slot : Nat) : Keeps s (emptyWindow s entry slot) := by
  unfold emptyWindow
  exact updInter_keeps s _

theorem takeKey_keeps (s : State) (k : PlainKey) : Keeps s (takeKey s k) :=
  .ite ((emptyWindow_keeps _ k.index k.slot).of (.of_view rfl)) (.of_view rfl)

theorem applyKeys_keeps (s : State) : Keeps s (applyKeys s) := by
  unfold applyKeys
  exact .ite ((startKeyRound_keeps _).of (.foldl (.of_view rfl) takeKey_keeps))
      (.foldl (.of_view rfl) takeKey_keeps)

theorem zeroisePlain_keeps (s : State) : Keeps s (zeroisePlain s) :=
  .of_view rfl

theorem eraseEvery_keeps (s : State) : Keeps s (eraseEvery s) :=
  .of_view rfl

theorem releaseHalts_keeps (s : State) : Keeps s (releaseHalts s) :=
  .of_view rfl

theorem setDebug_keeps (s : State) (d : Dbg) (l : Option Lane) : Keeps s (setDebug s d l) :=
  (setLive_keeps _ Blk.sec eDEBUG_OPEN _).of (.ite ((zeroisePlain_keeps _).of
      (.ite (.of_view rfl) ((releaseHalts_keeps _).of (.of_view rfl))))
      (.ite (.of_view rfl) ((releaseHalts_keeps _).of (.of_view rfl))))

theorem configRecord_keeps (s : State) : Keeps s (configRecord s) :=
  (frameRec_keeps _ 8 0 _).of (.of_view rfl)

theorem changeLife_keeps (s : State) (t : Life) : Keeps s (changeLife s t) :=
  (configRecord_keeps _).of (.ite ((eraseEvery_keeps _).of
      (.ite (((setDebug_keeps _ Dbg.d0 none).of (.of_view rfl)).upd rfl) ((setDebug_keeps _ Dbg.d0 none).of (.of_view rfl))))
      (.ite (((setDebug_keeps _ Dbg.d0 none).of (.of_view rfl)).upd rfl) ((setDebug_keeps _ Dbg.d0 none).of (.of_view rfl))))

/-! ## `Machine/Field` -/

theorem closeCycle_keeps (env : CycleEnv) (s : State) (c : Cluster) : Keeps s (closeCycle env s c) :=
  .ite ((setLive_keeps _ Blk.frn _ _).of ((setLive_keeps _ Blk.frn _ _).of
      ((setLive_keeps _ Blk.frn _ _).of ((setLive_keeps _ Blk.frn (nAt c nDROPOUT) _).of
      ((setLive_keeps _ Blk.frn _ _).of ((setLive_keeps _ Blk.frn (nAt c nCHANNEL) _).of
      ((setFrn_keeps _ c _).of (.ite (.of_view rfl) (.refl _)))))))))
      ((setLive_keeps _ Blk.frn _ _).of ((setLive_keeps _ Blk.frn _ _).of
      ((setLive_keeps _ Blk.frn (nAt c nDROPOUT) _).of ((setLive_keeps _ Blk.frn _ _).of
      ((setLive_keeps _ Blk.frn (nAt c nCHANNEL) _).of ((setFrn_keeps _ c _).of (.ite (.of_view rfl) (.refl _))))))))

theorem askRange_keeps (s : State) (c : Cluster) (ch : Chan) : Keeps s (askRange s c ch) := by
  unfold askRange
  dsimp only
  split
  · exact .refl _
  · split
    · exact .refl _
    · split
      · exact (setFrn_keeps _ c _).of (sendOn_keeps s c ch _)
      · exact (setNode_keeps _ c _ _).of ((setFrn_keeps _ c _).of (sendOn_keeps s c ch _))

theorem sendRanged_keeps (s : State) (c : Cluster) (ch : Chan) : Keeps s (sendRanged s c ch) := by
  unfold sendRanged
  dsimp only
  split
  · exact .refl _
  · exact (setFrn_keeps _ c _).of (sendOn_keeps s c ch _)

theorem sendDownlink_keeps (s : State) (c : Cluster) : Keeps s (sendDownlink s c) := by
  unfold sendDownlink
  exact .foldl (.ite (.of_view rfl) (.refl _)) (fun u a => sendBoth_keeps u c _)

theorem sendCycle_keeps (s : State) (c : Cluster) : Keeps s (sendCycle s c) := by
  unfold sendCycle
  split
  · exact .refl _
  · exact sendDownlink_keeps s c
  · exact sendBoth_keeps s c _
  · exact sendBoth_keeps s c _
  · exact sendBoth_keeps s c _
  · exact sendBoth_keeps s c _

theorem upsetMailboxes_keeps (env : CycleEnv) (c : Cluster) (s : State) : Keeps s (upsetMailboxes env c s) := by
  unfold upsetMailboxes
  exact .foldl (.refl _) (fun u a => setNode_keeps u c a.1 _)

theorem execFieldCycleStart_goes (c : Cluster) (env : CycleEnv) (s : State) : Goes s (execFieldCycleStart c env s) :=
  .ite (.next ((upsetMailboxes_keeps env c _).of (later_keeps s env.now)))
      (.ite (.ite (.next ((askRange_keeps _ c Chan.b).of ((askRange_keeps _ c Chan.a).of
      ((sendRanged_keeps _ c Chan.b).of ((sendRanged_keeps _ c Chan.a).of
      ((sendCycle_keeps _ c).of (.ite (((setFrn_keeps _ c _).of
      (.ite ((closeCycle_keeps env _ c).of ((upsetMailboxes_keeps env c _).of (later_keeps s env.now)))
      ((upsetMailboxes_keeps env c _).of (later_keeps s env.now)))).upd rfl)
      ((setFrn_keeps _ c _).of (.ite ((closeCycle_keeps env _ c).of
      ((upsetMailboxes_keeps env c _).of (later_keeps s env.now)))
      ((upsetMailboxes_keeps env c _).of (later_keeps s env.now)))))))))))
      (.next ((sendRanged_keeps _ c Chan.b).of ((sendRanged_keeps _ c Chan.a).of
      ((sendCycle_keeps _ c).of (.ite (((setFrn_keeps _ c _).of
      (.ite ((closeCycle_keeps env _ c).of ((upsetMailboxes_keeps env c _).of (later_keeps s env.now)))
      ((upsetMailboxes_keeps env c _).of (later_keeps s env.now)))).upd rfl)
      ((setFrn_keeps _ c _).of (.ite ((closeCycle_keeps env _ c).of
      ((upsetMailboxes_keeps env c _).of (later_keeps s env.now)))
      ((upsetMailboxes_keeps env c _).of (later_keeps s env.now))))))))))
      (.next ((sendCycle_keeps _ c).of (.ite (((setFrn_keeps _ c _).of
      (.ite ((closeCycle_keeps env _ c).of ((upsetMailboxes_keeps env c _).of (later_keeps s env.now)))
      ((upsetMailboxes_keeps env c _).of (later_keeps s env.now)))).upd rfl)
      ((setFrn_keeps _ c _).of (.ite ((closeCycle_keeps env _ c).of
      ((upsetMailboxes_keeps env c _).of (later_keeps s env.now)))
      ((upsetMailboxes_keeps env c _).of (later_keeps s env.now))))))))

theorem execOffsetCorrection_goes (c : Cluster) (now : Nat) (s : State) : Goes s (execOffsetCorrection c now s) :=
  .ite (.next (later_keeps s now)) (.next ((setLive_keeps _ Blk.frn _ _).of
      ((setFrn_keeps (later s now) c _).of (later_keeps s now))))

theorem execUplink_goes (c : Cluster) (node : Nat) (copyA copyB : Option Arrival) (now : Nat) (s : State) :
    Goes s (execUplink c node copyA copyB now s) := by
  unfold execUplink
  dsimp only
  split
  · split
    · exact .next (later_keeps s now)
    · split
      · exact .next ((setFrn_keeps _ c _).of ((setNode_keeps (later s now) c node _).of (later_keeps s now)))
      · exact .next ((setNode_keeps _ c node _).of ((checkMailboxes_keeps _ c _).of
          ((setFrn_keeps _ c _).of ((setFrn_keeps _ c _).of ((setNode_keeps (later s now) c node _).of (later_keeps s now))))))
  · exact .next (later_keeps s now)

theorem execSyncFrame_goes (c : Cluster) (arr : Arrival) (now : Nat) (s : State) : Goes s (execSyncFrame c arr now s) :=
  .ite (.next ((setFrn_keeps (later s now) c _).of (later_keeps s now))) (.next (later_keeps s now))

theorem execDropout_goes (c : Cluster) (node : Nat) (s : State) : Goes s (execDropout c node s) := by
  unfold execDropout
  dsimp only
  split
  · exact .ite (.next ((raise_keeps _ Blk.frn (nAt c nDROPOUT)).of ((setFrn_keeps _ c _).of (setNode_keeps s c node _))))
      (.next (.refl _))
  · exact .next (.refl _)

theorem execReturnToAbsent_goes (c : Cluster) (node : Nat) (s : State) : Goes s (execReturnToAbsent c node s) := by
  unfold execReturnToAbsent
  dsimp only
  split
  · exact .ite (.next (setNode_keeps s c node _)) (.next (.refl _))
  · exact .next (.refl _)

theorem setDelay_keeps (s : State) (c : Cluster) (ch : Chan) (p : Party) (d : Option Nat) (cfgId : Nat) :
    Keeps s (setDelay s c ch p d cfgId) := by
  unfold setDelay
  dsimp only
  split
  · exact setFrn_keeps s c _
  · exact setNode_keeps s c _ _

theorem refuseParty_keeps (s : State) (c : Cluster) (ch : Chan) (p : Party) : Keeps s (refuseParty s c ch p) := by
  unfold refuseParty
  dsimp only
  split
  · exact (raise_keeps _ Blk.frn _).of ((setFrn_keeps _ c _).of (setFrn_keeps s c _))
  · exact (raise_keeps _ Blk.frn _).of ((setFrn_keeps _ c _).of (setNode_keeps s c _ _))

theorem execRangeReply_goes (c : Cluster) (chan : Chan) (data : Bytes) (late now : Nat) (s : State) :
    Goes s (execRangeReply c chan data late now s) := by
  have hlater := later_keeps s now
  unfold execRangeReply
  dsimp only
  split
  · refine .ite (.next hlater) ?_
    split
    · exact .next ((setFrn_keeps _ c _).of hlater)
    · exact .ite (.next ((refuseParty_keeps _ c chan _).of ((setFrn_keeps _ c _).of hlater)))
        (.next ((setFrn_keeps _ c _).of ((setDelay_keeps _ c chan _ _ _).of ((setFrn_keeps _ c _).of hlater))))
  · exact .next hlater

theorem execRangingWindowTimeout_goes (c : Cluster) (chan : Chan) (s : State) : Goes s (execRangingWindowTimeout c chan s) := by
  unfold execRangingWindowTimeout
  dsimp only
  split
  · exact .next (.refl s)
  · split
    · exact .next (setFrn_keeps s c _)
    · exact .next ((setNode_keeps _ c _ _).of (setFrn_keeps s c _))

theorem answered_keeps (s : State) (c : Cluster) (v : SvcIn) : Keeps s (answered s c v) :=
  setFrn_keeps s c _

theorem execAck_goes (c : Cluster) (data : Bytes) (s : State) : Goes s (execAck c data s) := by
  unfold execAck
  dsimp only
  split
  · exact .ite (.next (.refl _)) (.ite (.next ((setNode_keeps _ c _ _).of (answered_keeps s c _)))
      (.next (answered_keeps s c _)))
  · exact .next (.refl _)

theorem sendOcfBlock_keeps (s : State) (c : Cluster) (node pkg : Nat) (image : Bytes) (k : Nat) :
    Keeps s (sendOcfBlock s c node pkg image k) :=
  sendService_keeps s c node 2 pkg _

theorem execOcfState_goes (c : Cluster) (data : Bytes) (s : State) : Goes s (execOcfState c data s) := by
  unfold execOcfState
  dsimp only
  split
  · split
    · exact .next (.refl _)
    · split
      · exact .ite (.next ((sendOcfBlock_keeps _ c _ _ _ _).of ((setNode_keeps _ c _ _).of (answered_keeps s c _))))
          (.next ((setNode_keeps _ c _ _).of (answered_keeps s c _)))
      · exact .next ((setNode_keeps _ c _ _).of (answered_keeps s c _))
  · exact .next (.refl _)

theorem execDiagReply_goes (c : Cluster) (data : Bytes) (s : State) : Goes s (execDiagReply c data s) := by
  unfold execDiagReply
  split
  · exact .ite (.next (answered_keeps s c _)) (.next (.refl _))
  · exact .next (.refl _)

theorem execConfigSetRepeat_goes (c : Cluster) (node : Nat) (s : State) : Goes s (execConfigSetRepeat c node s) :=
  .next ((setFrn_keeps _ c _).of (.foldl (.refl _) (fun u a => sendSvc_keeps u c a)))

theorem execOcfRestart_goes (c : Cluster) (node : Nat) (s : State) : Goes s (execOcfRestart c node s) := by
  unfold execOcfRestart
  dsimp only
  split
  · exact .ite (.next ((sendService_keeps _ c node 4 _ []).of (setNode_keeps s c node _))) (.next (.refl _))
  · exact .next (.refl _)

theorem execGuardianViolation_goes (c : Cluster) (chan : Chan) (now : Nat) (s : State) :
    Goes s (execGuardianViolation c chan now s) :=
  .ite (.next (later_keeps s now)) (.next ((raise_keeps _ Blk.frn _).of
      ((setFrn_keeps (later s now) c _).of (later_keeps s now))))

theorem execGuardianBlockedExpiry_goes (c : Cluster) (chan : Chan) (s : State) : Goes s (execGuardianBlockedExpiry c chan s) :=
  .ite (.next (setFrn_keeps s c _)) (.next (.refl _))

/-! ## `Machine/Freeze` -/

theorem freezeCluster_keeps (s : State) (c : Cluster) : Keeps s (freezeCluster s c) := by
  unfold freezeCluster
  exact (setFrn_keeps _ c _).of (checkMailboxes_keeps s c (fun x => true))

theorem freezeLocal_keeps (s : State) : Keeps s (freezeLocal s) :=
  (setLive_keeps _ Blk.lio lCOUNT_ERR _).of (updVital_keeps s _)

theorem noteTickPosition_keeps (s : State) : Keeps s (noteTickPosition s) :=
  .of_view rfl

theorem freezeInputs_keeps (s : State) : Keeps s (freezeInputs s) :=
  (noteTickPosition_keeps _).of ((freezeLocal_keeps _).of ((freezeCluster_keeps _ Cluster.c1).of
      (freezeCluster_keeps s Cluster.c0)))

/-! ## `Machine/Query` -/

theorem answerQuery_keeps (s : State) (src : Src) (opc : Nat) (f : State → State) (hf : ∀ t, Keeps t (f t)) :
    Keeps s (answerQuery s src opc f) :=
  gated_keeps s src opc f (fun _ => hf _)

theorem execIdentity_goes (src : Src) (s : State) : Goes s (execIdentity src s) := by
  unfold execIdentity
  exact .next (answerQuery_keeps s src 80 _ (fun t => reply_keeps t src 80 Status.done (identityBody t)))

theorem execStatus_goes (src : Src) (s : State) : Goes s (execStatus src s) := by
  unfold execStatus
  exact .next (answerQuery_keeps s src 81 _ (fun t => reply_keeps t src 81 Status.done _))

theorem execObjectRead_goes (src : Src) (first count : Nat) (s : State) : Goes s (execObjectRead src first count s) := by
  unfold execObjectRead
  exact .next (answerQuery_keeps s src 82 _ (fun t => .ite (reply_keeps t src 82 Status.done _)
      (reply_keeps t src 82 Status.badLen [])))

theorem execRouteRead_goes (src : Src) (first count : Nat) (s : State) : Goes s (execRouteRead src first count s) := by
  unfold execRouteRead
  exact .next (answerQuery_keeps s src 83 _ (fun t => .ite (reply_keeps t src 83 Status.done _)
      (reply_keeps t src 83 Status.badLen [])))

theorem execCrumbRead_goes (src : Src) (first count : Nat) (s : State) : Goes s (execCrumbRead src first count s) := by
  unfold execCrumbRead
  exact .next (answerQuery_keeps s src 84 _ (fun t => .ite (reply_keeps t src 84 Status.done _)
      (reply_keeps t src 84 Status.badLen [])))

theorem execEventRead_goes (src : Src) (start maxb minsev : Nat) (s : State) :
    Goes s (execEventRead src start maxb minsev s) := by
  unfold execEventRead
  exact .next (answerQuery_keeps s src 85 _ (fun t => .ite (reply_keeps t src 85 Status.badLen [])
      ((reply_keeps _ src 85 Status.done _).of (.ite (raise_keeps t Blk.evr rRING_ERR) (.refl _)))))

theorem execSubscribe_goes (src : Src) (period : Nat) (s : State) : Goes s (execSubscribe src period s) := by
  unfold execSubscribe
  exact .next (answerQuery_keeps s src 86 _ (fun t => .ite (reply_keeps t src 86 Status.badLen [])
      ((reply_keeps _ src 86 Status.done []).of (.of_view rfl))))

theorem execTimeRead_goes (src : Src) (now : Nat) (s : State) : Goes s (execTimeRead src now s) := by
  unfold execTimeRead
  exact .next ((answerQuery_keeps (later s now) src 87 _ (fun t => reply_keeps t src 87 Status.done _)).of (later_keeps s now))

theorem execEcho_goes (src : Src) (data : Bytes) (s : State) : Goes s (execEcho src data s) := by
  unfold execEcho
  exact .next (answerQuery_keeps s src 224 _ (fun t => .ite (reply_keeps t src 224 Status.badLen [])
      (reply_keeps t src 224 Status.done data)))

theorem execPortCounters_goes (src : Src) (conn : Nat) (s : State) : Goes s (execPortCounters src conn s) := by
  unfold execPortCounters
  exact .next (answerQuery_keeps s src 225 _ (fun t => reply_keeps t src 225 Status.done _))

theorem execLaneDiag_goes (src : Src) (lane start maxb : Nat) (s : State) : Goes s (execLaneDiag src lane start maxb s) := by
  unfold execLaneDiag
  dsimp only
  split
  · exact .next (answerQuery_keeps s src 226 _ (fun t => reply_keeps t src 226 Status.badLen []))
  · exact .next (answerQuery_keeps s src 226 _ (fun t => reply_keeps t src 226 Status.done _))

/-! ## `Machine/Vital` -/

theorem putRequest_keeps (s : State) (r : VReq) : Keeps s (putRequest s r) := by
  unfold putRequest
  dsimp only
  split
  · exact .ite (.of_view rfl) (.of_view rfl)
  · exact .refl _

theorem putStatus_keeps (s : State) (src : Src) (opc : Nat) (st : Status) : Keeps s (putStatus s src opc st) :=
  updInter_keeps s _

theorem vitalRow_keeps (s : State) (src : Src) (opc : Nat) (r : Option VReq) : Keeps s (vitalRow s src opc r) := by
  cases r <;> unfold vitalRow <;> dsimp only
  · exact .ite (.refl _) (.ite (reply_keeps s src opc Status.notAuth [])
      (.ite (.refl _) (.ite (putStatus_keeps s src opc Status.notAuth)
      (.ite ((putStatus_keeps _ src opc Status.stale).of (countVital_keeps s Status.stale))
      (putStatus_keeps s src opc Status.badLen)))))
  · exact .ite (.refl _) (.ite (reply_keeps s src opc Status.notAuth [])
      (.ite (.refl _) (.ite (putStatus_keeps s src opc Status.notAuth)
      (.ite ((putStatus_keeps _ src opc Status.stale).of (countVital_keeps s Status.stale))
      ((putRequest_keeps _ _).of (hearFrom_keeps s src.entry))))))

theorem execRouteSet_goes (src : Src) (route wait : Nat) (s : State) : Goes s (execRouteSet src route wait s) :=
  .next (vitalRow_keeps s src 16 _)

theorem execRouteCancel_goes (src : Src) (route : Nat) (s : State) : Goes s (execRouteCancel src route s) :=
  .next (vitalRow_keeps s src 17 _)

theorem execEmergencyRelease_goes (src : Src) (route : Nat) (s : State) : Goes s (execEmergencyRelease src route s) :=
  .next (vitalRow_keeps s src 18 _)

theorem execPointMove_goes (src : Src) (group : Bool) (target pos : Nat) (s : State) :
    Goes s (execPointMove src group target pos s) :=
  .next (vitalRow_keeps s src 19 _)

theorem execSectionRestore_goes (src : Src) (obj : Nat) (s : State) : Goes s (execSectionRestore src obj s) :=
  .next (vitalRow_keeps s src 20 _)

theorem execBlockSet_goes (src : Src) (onRoute : Bool) (target : Nat) (s : State) :
    Goes s (execBlockSet src onRoute target s) :=
  .next (vitalRow_keeps s src 21 _)

theorem execBlockClear_goes (src : Src) (onRoute : Bool) (target : Nat) (s : State) :
    Goes s (execBlockClear src onRoute target s) :=
  .next (vitalRow_keeps s src 21 _)

theorem execGuardAck_goes (src : Src) (guard : Nat) (s : State) : Goes s (execGuardAck src guard s) :=
  .next (vitalRow_keeps s src 24 _)

theorem execStationCmd_goes (src : Src) (code arg : Nat) (s : State) : Goes s (execStationCmd src code arg s) :=
  .next (vitalRow_keeps s src 25 _)

theorem execBoundaryState_goes (src : Src) (msg : BoundaryIn) (s : State) : Goes s (execBoundaryState src msg s) := by
  unfold execBoundaryState
  dsimp only
  split
  · exact .next (.refl _)
  · split
    · exact .next ((countOk_keeps _).of ((putRequest_keeps _ _).of ((hearFrom_keeps _ src.entry).of (updInter_keeps s _))))
    · exact .next ((countOther_keeps _).of (updInter_keeps s _))

/-! ## `Machine/Emit` -/

theorem emitCluster_keeps (s : State) (st : Station) (x : Inter) (a b : Lane) (ka kb : Key) (c : Cluster) :
    Keeps s (emitCluster s st x a b ka kb c) :=
  .ite (.refl _) (setFrn_keeps s c _)

theorem boundaryTo_keeps (st : Station) (x : Inter) (s : State) (entry : Nat) : Keeps s (boundaryTo st x s entry) := by
  have hfree := takeFree_keeps s
  unfold boundaryTo
  dsimp only
  split
  next s1 d heq =>
    have hform := congrArg Prod.fst heq ▸ formVital_keeps (takeFree s).2 entry 2 0x40 0 (partnerAt s entry).addr
        (cmdKsel s.cfg) x.counter _
    exact (hfree.trans hform).upd rfl
  next s1 heq =>
    have hform := congrArg Prod.fst heq ▸ formVital_keeps (takeFree s).2 entry 2 0x40 0 (partnerAt s entry).addr
        (cmdKsel s.cfg) x.counter _
    exact hfree.trans hform

theorem emitBoundary_keeps (s : State) (st : Station) (x : Inter) : Keeps s (emitBoundary s st x) := by
  unfold emitBoundary
  exact .foldl (.of_view rfl) (boundaryTo_keeps st x)

theorem emit_keeps (s : State) (st : Station) (x : Inter) (a b : Lane) {t : State} (h : emit s st x a b = some t) :
    Keeps s t := by
  unfold emit at h
  dsimp only at h
  split at h
  · cases h
  next ka kb _ =>
    have hclusters := (emitCluster_keeps (emitCluster s st x a b ka kb .c0) st x a b ka kb .c1).of
      (emitCluster_keeps s st x a b ka kb .c0)
    obtain rfl := Option.some.inj h
    exact (emitBoundary_keeps _ st x).of (.ite hclusters (hclusters.upd rfl))

/-! ## `Machine/Vote` -/

theorem noteOdd_keeps (s : State) (l : Lane) (bits frame : Nat) : Keeps s (noteOdd s l bits frame) :=
  .of_view rfl

theorem makeOdd_keeps (s : State) (l : Lane) (bits frame : Nat) : Keeps s (makeOdd s l bits frame) :=
  (laneFence_keeps _ l).of ((raiseAt_keeps _ Blk.vot vODD_LANE (some l)).of
      ((lower_keeps _ Blk.vot vODD_LANE).of (noteOdd_keeps s l bits frame)))

theorem noMajority_keeps (s : State) : Keeps s (noMajority s) :=
  (raise_keeps _ Blk.vot vNOMAJ).of (.of_view rfl)

theorem resyncFail_keeps (s : State) (l : Lane) : Keeps s (resyncFail s l) :=
  (raiseAt_keeps _ Blk.vot vRESYNC_FAIL (some l)).of (.of_view rfl)

theorem shadowFrame_keeps (good : Pub) (s : State) (l : Lane) : Keeps s (shadowFrame good s l) := by
  unfold shadowFrame
  dsimp only
  split
  · exact .refl _
  · split
    · exact .ite (.of_view rfl) ((laneFence_keeps (resyncFail s l) l).of (resyncFail_keeps s l))
    · exact (laneFence_keeps (resyncFail s l) l).of (resyncFail_keeps s l)

theorem outvote_keeps (s : State) (l : Lane) (bits frame : Nat) : Keeps s (outvote s l bits frame) :=
  (laneFence_keeps _ l).of ((raiseAt_keeps _ Blk.vot _ (some l)).of ((noteOdd_keeps s l bits frame).upd rfl))

theorem vote_keeps (s : State) (env : VoteEnv) (frame : Nat) : Keeps s (vote s env frame).1 := by
  unfold vote
  extract_lets ls counted bad
  clear_value ls counted bad
  split
  · exact .refl s
  · split
    · dsimp only
      split
      · exact outvote_keeps s _ 32 frame
      · exact .refl s
    · split
      · exact .refl s
      · extract_lets odd bits one s1 s2 s3 _ s4
        have h1 : Keeps s s1 := .foldl (.refl s) (fun u l => makeOdd_keeps u l _ frame)
        have h2 : Keeps s1 s2 := by
          unfold s2
          clear_value s1
          cases bad with
          | none => exact .refl s1
          | some l =>
            have hout := outvote_keeps s1 l (if odd.contains l then bits l else 32) frame
            exact .ite ((raiseAt_keeps _ .vot vODD_LANE (some l)).of ((lower_keeps _ .vot vODD_LANE).of hout)) hout
        have h3 : Keeps s2 s3 := .foldl (.refl s2) (shadowFrame_keeps _)
        have h4 : Keeps s3 s4 := .of_view rfl
        clear_value s1 s2 s3 s4
        have hall := ((h1.trans h2).trans h3).trans h4
        exact .ite ((lower_keeps s4 .vot vODD_LANE).of hall) hall

/-! ## `Machine/Drain` -/

/-- A frame starts in a module that is not stopped. -/
theorem startWork_keeps (s : State) (hs : s.sys.stopped = false) : Keeps s (startWork s) :=
  .frame (fun _ hstopped => absurd hstopped (by simp [hs])) rfl

theorem consumeTaken_keeps (s : State) : Keeps s (consumeTaken s) := by
  have hconsume : Keeps s { touchQueue s 0 with
      xbr := setQueue (touchQueue s 0).xbr 0 (consume fun i => (touchQueue s 0).xbr.taken.contains i.iseq) } :=
    (touchQueue_keeps s 0).trans (.queue (consume_numbered _))
  exact hconsume.upd rfl

theorem countPermits_keeps (s : State) : Keeps s (countPermits s) :=
  .of_view rfl

theorem commitFrame_keeps (s : State) (x : Inter) (v : OutVec) (released : Bool) : Keeps s (commitFrame s x v released) := by
  have hdone : Keeps s { s with core := { answerAll x with replies := v.replies, recs := v.recs }, work := none } := .noFrame
      rfl rfl
  have hrecs := Keeps.foldl hdone pushRec_keeps (l := v.recs)
  exact (armGuards_keeps _).of ((countPermits_keeps _).of ((consumeTaken_keeps _).of
      (.ite ((holdReplies_keeps _ _).of hrecs) hrecs)))

theorem countDuo_keeps (s : State) : Keeps s (countDuo s) :=
  .ite (.of_view rfl) (.of_view rfl)

theorem instOut_keeps (s : State) (i : Inst) : Keeps s (instOut s i) :=
  (countDuo_keeps _).of ((countDuo_keeps s).upd rfl)

theorem instSource_keeps (s : State) : Keeps s (instSource s) :=
  setLive_keeps s Blk.prl pINST_OUT _

theorem voteInsts_keeps (bad : List Inst) (s : State) : Keeps s (voteInsts bad s) :=
  .ite (.foldl (setLive_keeps s Blk.prl pINST_NOMAJ _) instOut_keeps) (setLive_keeps s Blk.prl pINST_NOMAJ _)

theorem drainInsts_keeps (s : State) : Keeps s (drainInsts s) :=
  (instSource_keeps _).of ((countDuo_keeps _).of (.of_view rfl))

theorem checkStore_keeps (d : DrainEnv) (s : State) : Keeps s (checkStore d s) :=
  .of_view rfl

theorem compactStore_keeps (d : DrainEnv) (s : State) : Keeps s (compactStore d s) := by
  delta compactStore
  extract_lets v s0 y free press _ s1 s2 s3 s4
  have h0 : Keeps s s0 := (voteInsts_keeps [] _).of ((checkStore_keeps d _).of (.of_view rfl))
  clear_value s0
  have h1 : Keeps s0 s1 := .of_view rfl
  have h2 : Keeps s1 s2 := .ite (.refl s1) (frameRec_keeps s1 6 0 _)
  have h3 : Keeps s2 s3 := (setLive_keeps _ .prl pCRUMB_CRIT _).of (setLive_keeps s2 .prl pCRUMB_LOW _)
  have h4 : Keeps s3 s4 := setLive_keeps s3 .prl pCRUMB_CORRUPT _
  have hall := (((h0.trans h1).trans h2).trans h3).trans h4
  exact .ite ((raise_keeps s4 .prl pLOCK_MISMATCH).of hall) hall

theorem pralineSources_keeps (s : State) : Keeps s (pralineSources s) :=
  ((setLive_keeps _ Blk.prl pGUARD_FAULT _).of ((setLive_keeps _ Blk.prl pDENY_DISAGREE _).of
      (.ite (raise_keeps s Blk.prl pLOCK_MISMATCH) (.refl _)))).upd rfl

theorem pralineIdle_keeps (s : State) : Keeps s (pralineIdle s) :=
  .ite ((lower_keeps _ Blk.prl pDUO_LIMIT).of (setLive_keeps s Blk.prl pKEY_ABSENT _)) (setLive_keeps s Blk.prl pKEY_ABSENT _)

theorem tellTaken_keeps (s : State) (src : Src) (opc : Nat) (st : Status) : Keeps s (tellTaken s src opc st) :=
  .ite (pushRec_keeps s _) (.refl _)

theorem answerNow_keeps (s : State) (src : Src) (opc : Nat) (st : Status) (body : Bytes) :
    Keeps s (answerNow s src opc st body) :=
  (laneReply_keeps _ _ src.addr).of ((tellTaken_keeps _ src opc st).of (.ite (countOk_keeps s) (.refl _)))

theorem laneAnswer_keeps (s : State) (src : Src) (opc : Nat) (st : Status) (body : Bytes) :
    Keeps s (laneAnswer s src opc st body) := by
  unfold laneAnswer
  split
  · exact answerNow_keeps s src opc st body
  next x hx =>
    have hnext := fun hq : Quiet s => quietAt_next hx hq
    dsimp only
    split
    · exact .frame (fun hq => hnext hq _) rfl
    · exact .frame (fun hq => hnext hq _) rfl

theorem drainCommit_keeps (s : State) : Keeps s (drainCommit s) := by
  unfold drainCommit
  exact .ite (.refl _) (.foldl ((evalCommit_keeps s).upd rfl) (fun u a => laneAnswer_keeps u a 132 _ _))

theorem formWafer_keeps (d : DrainEnv) (s : State) : Keeps s (formWafer d s) := by
  unfold formWafer
  exact .ite (.refl _) (.of_view rfl)

theorem scrubNoMajority_keeps (s : State) : Keeps s (scrubNoMajority s) :=
  (noMajority_keeps _).of (raise_keeps s Blk.vot vSCRUB_NOMAJ)

theorem markLatent_keeps (s : State) (l : Lane) (word : Nat) : Keeps s (markLatent s l word) :=
  (raiseAt_keeps _ Blk.vot vLATENT (some l)).of (.of_view rfl)

theorem unmark_keeps (s : State) (l : Lane) : Keeps s (unmark s l) :=
  .of_view rfl

theorem scrub_keeps (d : DrainEnv) (s0 : State) : Keeps s0 (scrub d s0) := by
  unfold scrub
  dsimp only
  split
  · exact .ite (.ite (.ite (.of_view rfl) (.of_view rfl)) ((markLatent_keeps _ _ _).of (.ite (.of_view rfl) (.of_view rfl))))
      (.ite ((markLatent_keeps _ _ _).of (.ite (.of_view rfl) (.of_view rfl)))
      (.ite ((markLatent_keeps _ _ _).of (.ite (.of_view rfl) (.of_view rfl)))
      ((scrubNoMajority_keeps _).of (.ite (.of_view rfl) (.of_view rfl)))))
  · exact .ite (.ite (.of_view rfl) (.of_view rfl)) ((scrubNoMajority_keeps _).of (.ite (.of_view rfl) (.of_view rfl)))
  · exact .ite (.of_view rfl) (.of_view rfl)

theorem repair_keeps (d : DrainEnv) (s : State) : Keeps s (repair d s) := by
  have hupsets : ∀ t, Keeps s t → ∀ v : VotBlk, Keeps s { t with vot := v } := fun _ h _ => h.upd rfl
  unfold repair
  split
  · extract_lets fix la lb
    have hfix : ∀ l, Keeps s (fix s l) := fun l =>
      .ite (scrubNoMajority_keeps s) ((frameRec_keeps _ 7 0 _).of (hupsets _ (unmark_keeps s l) _))
    exact .ite (hfix _) (.ite (hfix _) (.refl s))
  · exact .refl s

theorem startTest_keeps (s : State) (l : Lane) (again : Bool) (at_ : Nat) : Keeps s (startTest s l again at_) :=
  (setLive_keeps _ Blk.bst bPT_LATE _).of (.of_view rfl)

theorem retryLimit_keeps (s : State) (l : Lane) : Keeps s (retryLimit s l) := by
  unfold retryLimit
  exact .ite ((startTest_keeps _ l true _).of (.ite ((raiseAt_keeps _ Blk.vot vRESYNC_LIMIT (some l)).of
      (.of_view rfl)) (.of_view rfl))) (.ite ((raiseAt_keeps _ Blk.vot vRESYNC_LIMIT (some l)).of
      (.of_view rfl)) (.of_view rfl))

theorem setDue_keeps (s : State) (l : Lane) (at_ : Nat) : Keeps s (setDue s l at_) :=
  .of_view rfl

theorem resyncLane_keeps (d : DrainEnv) (s : State) (l : Lane) : Keeps s (resyncLane d s l) :=
  .ite (.refl _) (.ite (.ite ((laneFails_keeps _ l).of (((laneTo_keeps (resyncFail s l) l LaneSt.fenced).of
      (resyncFail_keeps s l)).upd rfl)) (((laneTo_keeps (resyncFail s l) l LaneSt.fenced).of (resyncFail_keeps s l)).upd rfl))
      (.ite ((setDue_keeps _ l d.drainEnd).of (((laneTo_keeps (unmark s l) l LaneSt.resync).of (unmark_keeps s l)).upd rfl))
      (((laneTo_keeps (unmark s l) l LaneSt.resync).of (unmark_keeps s l)).upd rfl)))

theorem leave_keeps (s : State) (l : Lane) (st : LaneSt) (why : OutWhy) : Keeps s (leave s l st why) :=
  (duoStart_keeps _).of ((laneTo_keeps s l st).upd rfl)

theorem leaveAsked_keeps (s : State) (l : Lane) : Keeps s (leaveAsked s l) :=
  .ite (leave_keeps s l LaneSt.halted OutWhy.debug) (.ite (leave_keeps s l LaneSt.fenced OutWhy.command)
      (.ite (.ite ((laneBack_keeps _ l).of (leave_keeps s l LaneSt.fenced OutWhy.update))
      (.ite ((openWindow_keeps _ Part.lfw false).of ((laneSwitch_keeps _ l _ _).of
      (leave_keeps s l LaneSt.fenced OutWhy.update))) ((laneSwitch_keeps _ l _ _).of
      (leave_keeps s l LaneSt.fenced OutWhy.update)))) (.ite (laneBack_keeps s l) (.refl _))))

theorem startDueTest_keeps (d : DrainEnv) (s : State) : Keeps s (startDueTest d s) := by
  unfold startDueTest
  split
  · exact (startTest_keeps _ _ false _).of (leave_keeps s _ LaneSt.proving OutWhy.test)
  · exact .refl _

theorem idleTest_keeps (s : State) : Keeps s (idleTest s) := by
  unfold idleTest
  dsimp only
  split
  · exact .refl _
  · split
    · exact startTest_keeps s _ true s.now
    · exact (startTest_keeps _ _ false s.now).of (laneTo_keeps s _ LaneSt.proving)
    · exact .refl _

theorem duoReset_keeps (s : State) : Keeps s (duoReset s) :=
  (lower_keeps _ Blk.vot vDUO_LIMIT).of (.of_view rfl)

theorem duoZero_keeps (s : State) : Keeps s (duoZero s) :=
  .ite (duoReset_keeps s) (.refl _)

theorem drainLanes_keeps (d : DrainEnv) (s : State) : Keeps s (drainLanes d s) := by
  delta drainLanes
  extract_lets s1 s2 s3
  have h1 : Keeps s s1 :=
    .foldl (.foldl ((repair_keeps d _).of (duoZero_keeps s)) retryLimit_keeps)
        (resyncLane_keeps d)
  have h2 : Keeps s1 s2 := .foldl (.refl s1) leaveAsked_keeps
  clear_value s1 s2
  have h3 : Keeps s2 s3 := (startDueTest_keeps d _).of (.of_view rfl)
  exact (lfwFallbackEnd_keeps s3).of ((h1.trans h2).trans h3)

theorem applyClears_keeps (s : State) : Keeps s (applyClears s) := by
  have hclear : ∀ u : Queue, NumberedQueue u → NumberedQueue { u with loss := 0 } := fun _ h => h
  refine ⟨rfl, le_rfl, id, id, ?_⟩
  rintro ⟨h0, h1, h2, h3, h4, h5⟩
  unfold applyClears Numbered
  dsimp only
  split
  · exact ⟨hclear _ h0, hclear _ h1, hclear _ h2, hclear _ h3, hclear _ h4, hclear _ h5⟩
  · exact ⟨h0, h1, h2, h3, h4, h5⟩

theorem applyWants_keeps (s : State) : Keeps s (applyWants s) := by
  unfold applyWants
  dsimp only
  split
  · split
    · exact (changeLife_keeps _ _).of (.ite (.of_view rfl) (setDebug_keeps s _ _))
    · exact changeLife_keeps s _
  · split
    · exact .ite (.of_view rfl) (setDebug_keeps s _ _)
    · exact .refl _

theorem drainSources_keeps (s : State) : Keeps s (drainSources s) :=
  ((setLive_keeps _ Blk.bst bPT_RETRY s.bst.sawRetry).of ((setLive_keeps _ Blk.dpx dWAFER_BAD _).of
      ((setLive_keeps _ Blk.dpx dTAKEOVER _).of ((setLive_keeps _ Blk.sys sSVC_WDOG _).of
      ((setLive_keeps _ Blk.evr rEVT_LOSS _).of ((setLive_keeps _ Blk.sec eAUTH_FAIL _).of
      ((setLive_keeps _ Blk.upd uTRANSFER_ERR _).of ((setLive_keeps _ Blk.vot vRESYNC_FAIL _).of
      ((setLive_keeps _ Blk.vot _ _).of ((setLive_keeps _ Blk.vot vSIG_FAIL _).of
      ((setLive_keeps _ Blk.vot vLATENT _).of ((setLive_keeps _ Blk.vot vDEBUG_HALT _).of
      ((setLive_keeps _ Blk.vot vRESYNC_LIMIT _).of ((setLive_keeps _ Blk.xbr xQPTR s.xbr.sawQptr).of
      ((setLive_keeps _ Blk.xbr xQLOSS s.xbr.sawQloss).of ((setLive_keeps _ Blk.xbr xSEM_TIMEOUT s.xbr.sawSem).of
      ((setLive_keeps _ Blk.xbr xACCESS_ERR s.xbr.sawErr).of
      ((setLive_keeps _ Blk.cmd cSAFETY_FAIL _).of ((setLive_keeps _ Blk.cmd cSTALE_PKT s.cmd.sawStale).of
      ((setLive_keeps _ Blk.cmd cQUEUE_FULL s.cmd.sawFull).of
      ((setLive_keeps _ Blk.cmd cUNKNOWN_SRC _).of ((setLive_keeps _ Blk.cmd _ _).of
      (setLive_keeps s Blk.cmd cNO_KEY (lacksKey s)))))))))))))))))))))))).upd rfl

theorem serviceDrain_keeps (s : State) : Keeps s (serviceDrain s) :=
  (confirmDue_keeps _).of ((watchHealth_keeps _).of ((drainSources_keeps _).of
      ((takeDiags_keeps _).of ((pralineIdle_keeps _).of ((applyKeys_keeps _).of
      ((applyWants_keeps (applyClears s)).of (applyClears_keeps s)))))))

theorem advanceCounter_keeps (s : State) : Keeps s (advanceCounter s) :=
  .of_view rfl

theorem notePhases_keeps (T : Nat) (d : DrainEnv) (s : State) : Keeps s (notePhases T d s) :=
  (setLive_keeps _ Blk.frm fBUDGET _).of (.of_view rfl)

theorem judgeFrame_keeps (d : DrainEnv) (s : State) : Keeps s (judgeFrame d s) :=
  (setLive_keeps _ Blk.frm fOVERRUN _).of (.of_view rfl)

theorem endFrame_keeps (d : DrainEnv) (s : State) : Keeps s (endFrame d s) :=
  .of_view rfl

theorem limitMoved_keeps (s : State) : Keeps s (limitMoved s) := by
  unfold limitMoved
  dsimp only
  split
  · exact .ite ((lower_keeps _ Blk.vot vDUO_LIMIT).of (.of_view rfl)) (.refl _)
  · exact .refl _

theorem stopDue_keeps (s : State) : Keeps s (stopDue s) :=
  .ite (safeStop_keeps s) (.refl _)

theorem drainWork_keeps (d : DrainEnv) (s : State) : Keeps s (drainWork d s) :=
  (sendReports_keeps _).of ((writeImage_keeps _).of ((notePhases_keeps s.frm.T d _).of
      ((serviceDrain_keeps _).of ((drainInsts_keeps _).of ((drainLanes_keeps d _).of
      ((exchangeDrain_keeps _).of ((formWafer_keeps d _).of
      ((scrub_keeps d _).of ((stopDue_keeps _).of ((limitMoved_keeps _).of
      ((drainCommit_keeps _).of ((compactStore_keeps d _).of ((pralineSources_keeps _).of (.of_view rfl))))))))))))))

theorem finishDrain_keeps (d : DrainEnv) (s : State) : Keeps s (finishDrain d s) :=
  (endFrame_keeps d _).of ((advanceCounter_keeps (judgeFrame d s)).of (judgeFrame_keeps d s))

theorem drain_keeps (d : DrainEnv) (s : State) : Keeps s (drain d s) :=
  (finishDrain_keeps d (drainWork d s)).of (drainWork_keeps d s)

/-! ## `Machine/Start` -/

/-- What is volatile is at its reset value, where every invariant holds. -/
theorem afterReset_keeps (s : State) (cause : Nat) : Keeps s (afterReset s cause) where
  pending := rfl
  now := le_rfl
  latched _ := latched_reset
  quiet _ := fun _ => rfl
  numbered _ := numbered_reset

theorem startBanks_keeps (s : State) : Keeps s (startBanks s) := by
  delta startBanks
  extract_lets u _ u0 fell u1 s1 s2 found x y s3 _
  have h1 : Keeps s s1 := (noteBanks_keeps _).of (.of_view rfl)
  have h2 : Keeps s1 s2 := .ite (raise_keeps s1 .upd uFALLBACK) (.refl s1)
  have h3 : Keeps s2 s3 := by
    clear_value s2 found
    unfold s3
    split
    · exact .of_view rfl
    · exact (raise_keeps _ .sys sSETTINGS_LOST).of (.of_view rfl)
  exact ((h1.trans h2).trans h3).upd rfl

theorem activateWaiting_keeps (s : State) : Keeps s (activateWaiting s) := by
  unfold activateWaiting
  dsimp only
  split
  · exact .foldl (.of_view rfl) (fun u a => switchPart_keeps u a _ _)
  · exact (openWindow_keeps _ _ _).of (.foldl (.of_view rfl) (fun u a => switchPart_keeps u a _ _))

theorem bootLane_keeps (fail : List Lane) (s : State) (l : Lane) : Keeps s (bootLane fail s l) :=
  .ite ((raiseAt_keeps _ Blk.vot vLANE_FAULT (some l)).of (.of_view rfl)) (.of_view rfl)

theorem loadStation_keeps (s : State) (st : Station) : Keeps s (loadStation s st) :=
  .of_view rfl

theorem loadMzp_keeps (env : StartEnv) (s : State) : Keeps s (loadMzp env s) := by
  unfold loadMzp
  dsimp only
  split
  · exact .ite ((noteBanks_keeps _).of (.of_view rfl)) (loadStation_keeps s _)
  · exact .of_view rfl

theorem checkPraline_keeps (env : StartEnv) (s : State) : Keeps s (checkPraline env s) :=
  .of_view rfl

theorem unwrapKeys_keeps (s : State) : Keeps s (unwrapKeys s) := by
  unfold unwrapKeys
  exact .ite ((raise_keeps _ Blk.prl pKEY_ABSENT).of (.of_view rfl)) (.ite (.of_view rfl) (.of_view rfl))

theorem startCommit_keeps (s : State) : Keeps s (startCommit s) := by
  unfold startCommit
  dsimp only
  split
  · exact .refl _
  · exact (evalCommit_keeps _).of (.of_view rfl)

/-- A stop of a module that has no frame in progress. -/
theorem stopped_keeps {s : State} (hw : s.work = none) (d : DpxBlk) (c : SecBlk) (y : SysBlk) :
    Keeps s { s with dpx := d, sec := c, sys := y } :=
  ⟨rfl, le_rfl, id, fun _ _ => hw, id⟩

theorem goKeyless_keeps {s : State} (hw : s.work = none) : Keeps s (goKeyless s) := stopped_keeps hw s.dpx _ _

theorem laneKeys_keeps (s : State) : Keeps s (laneKeys s) := by
  unfold laneKeys
  exact .foldl (.refl _) (fun u a => .ite (.refl _) ((raiseAt_keeps _ Blk.vot vLANE_FAULT (some a)).of (.of_view rfl)))

theorem inject_keeps (env : StartEnv) (s : State) : Keeps s (inject env s) :=
  .ite (.of_view rfl) ((raise_keeps _ Blk.vot vINJ_FAIL).of (.of_view rfl))

theorem coldStart_keeps (s : State) : Keeps s (coldStart s) := by
  unfold coldStart
  split
  · exact .refl s
  · exact (armGuards_keeps _).of (.noFrame rfl rfl)

theorem lanesVote_keeps (s : State) : Keeps s (lanesVote s) := by
  unfold lanesVote
  exact .foldl (.refl _) (fun u a => .ite (.refl _) ((laneTo_keeps u a LaneSt.voting).upd rfl))

theorem startPort_keeps (s : State) (c : Cluster) (st : PortSt) : Keeps s (startPort s c st) :=
  .ite (setFrn_keeps s c _) (.refl _)

theorem anchorAtRole_keeps (s : State) : Keeps s (anchorAtRole s) :=
  .of_view rfl

theorem enterRole_keeps (s : State) : Keeps s (enterRole s) := by
  delta enterRole
  extract_lets _ _ _ s0
  have h0 : Keeps s s0 := .of_view rfl
  clear_value s0
  have hport : ∀ u p k, Keeps s u → Keeps s (startPort u p k) := fun u p k h => (startPort_keeps u p k).of h
  have hframe : ∀ u, Keeps s u → ∀ f : FrmBlk, Keeps s { u with frm := f } := fun _ h _ => h.upd rfl
  have hrole : ∀ d : DpxBlk, Keeps s { s0 with dpx := d } := fun _ => h0.upd rfl
  split
  · exact hport _ _ _ (hport _ _ _ (hframe _ ((lanesVote_keeps _).of ((coldStart_keeps _).of (hrole _))) _))
  · exact hport _ _ _ (hport _ _ _ ((anchorAtRole_keeps _).of (hrole _)))
  · exact (anchorAtRole_keeps _).of (hrole _)

theorem loadNumbers_keeps (s : State) : Keeps s (loadNumbers s) :=
  (raise_keeps _ Blk.evr rTIME_HOLD).of (.of_view rfl)

theorem startRecord_keeps (cause : Nat) (s : State) : Keeps s (startRecord cause s) :=
  svcRec_keeps s 18 0 _

theorem spend_keeps (s : State) (d : Nat) : Keeps s (spend s d) := ⟨rfl, Nat.le_add_right _ _, id, id, id⟩

theorem unwrapped_keeps (env : StartEnv) (s : State) : Keeps s (unwrapped env s) :=
  (unwrapKeys_keeps _).of ((checkPraline_keeps env _).of ((loadMzp_keeps env _).of (.of_view rfl)))

theorem committed_keeps (cause : Nat) (s : State) : Keeps s (committed cause s) :=
  (startRecord_keeps cause _).of ((startCommit_keeps _).of (.of_view rfl))

theorem afterInjection_keeps (env : StartEnv) (s : State) : Keeps s (afterInjection env s) :=
  .ite (laneKeys_keeps s) ((inject_keeps env _).of ((laneKeys_keeps _).of (.of_view rfl)))

theorem finishLanes_keeps (env : StartEnv) {s : State} (hidle : Idle s) : Keeps s (finishLanes env s) := by
  have hspent : Keeps s (spend (afterInjection env s) env.duration) := (spend_keeps _ _).of (afterInjection_keeps env s)
  exact .ite (stopped_keeps hidle.work _ s.sec _)
    (.ite ((goKeyless_keeps ((laneKeys_stays s).idle hidle).work).of (laneKeys_keeps s))
        (.ite hspent ((enterRole_keeps _).of hspent)))

theorem startLanes_keeps (env : StartEnv) (cause : Nat) {s : State} (hidle : Idle s) : Keeps s (startLanes env cause s) := by
  obtain ⟨hunwrapped, hloaded⟩ := unwrapped_leads env s
  obtain ⟨hcommitted, -, -⟩ := committed_leads cause hloaded
  rw [startLanes_eq]
  exact (finishLanes_keeps env (hcommitted.idle (hunwrapped.idle hidle))).of
      ((committed_keeps cause _).of (unwrapped_keeps env s))

theorem resumeWindow_keeps (s : State) : Keeps s (resumeWindow s) := by
  unfold resumeWindow
  split
  · exact .ite (openWindow_keeps s _ _) (.refl _)
  · exact .refl _

theorem fieldAtStart_keeps (env : StartEnv) (s : State) : Keeps s (fieldAtStart env s) :=
  .ite ((raise_keeps _ Blk.lio lCONVERTER).of (.of_view rfl)) (.of_view rfl)

theorem startService_keeps (env : StartEnv) (s : State) : Keeps s (startService env s) := by
  delta startService
  extract_lets _ s0 s1 _ s2 _ c s3 s4 _ s5 _ s6 _
  have h0 : Keeps s s0 := (fieldAtStart_keeps env _).of (.of_view rfl)
  have h1 : Keeps s0 s1 := .ite (.refl s0) (raise_keeps s0 .pwr wRAIL)
  have h2 : Keeps s1 s2 := .ite (.refl s1) ((raise_keeps _ .sec eKEY_STORE).of (.of_view rfl))
  have h3 : Keeps s2 s3 := .ite (.of_view rfl) (.of_view rfl)
  have h4 : Keeps s3 s4 := .ite (raise_keeps s3 .sec eTAMPER) (.refl s3)
  have h5 : Keeps s4 s5 := (startBanks_keeps _).of (.of_view rfl)
  clear_value s0 s1 s2 s3 s4 s5
  have h6 : Keeps s5 s6 := .ite (.of_view rfl) ((raise_keeps _ .bst bPOST_FAIL).of (.of_view rfl))
  clear_value s6
  have hboot := Keeps.foldl (h6.upd (u := { s6 with sys := { s6.sys with step := 4 } }) rfl)
      (bootLane_keeps env.bootFail) (l := Lane.all)
  exact (resumeWindow_keeps _).of ((((((h0.trans h1).trans h2).trans h3).trans h4).trans h5).trans hboot)

/-- What a start finds after a reset, with the activations that waited for it dropped. -/
theorem startUp_keeps (env : StartEnv) (cause : Nat) (s : State) : Keeps s (startUp env cause s) := by
  delta startUp
  extract_lets s0 _
  have h0 : Keeps s s0 := afterReset_keeps s cause
  have hidle : Idle s0 := afterReset_idle s cause
  clear_value s0
  have hleads := ((upd_leads s0 { s0.upd with atRestart := [] }).stays (loadNumbers_stays _)).trans (startService_leads env _)
  exact (startLanes_keeps env cause (hleads.idle hidle)).of
      ((startService_keeps env _).of ((loadNumbers_keeps _).of (h0.upd rfl)))

theorem keepLane_keeps (v : VotBlk) (s : State) (l : Lane) : Keeps s (keepLane v s l) :=
  .ite ((raiseAt_keeps _ Blk.vot vLANE_FAULT (some l)).of (.of_view rfl)) (.of_view rfl)

theorem coldRestart_keeps (env : StartEnv) (s : State) : Keeps s (coldRestart env s) := by
  delta coldRestart
  extract_lets s0 boot _ s1 s2 s3 s4 _
  have h0 : Keeps s s0 := (loadNumbers_keeps _).of (afterReset_keeps s 3)
  have hidle : Idle s0 := (loadNumbers_stays _).idle (afterReset_idle s 3)
  have h1 : Keeps s0 s1 := .of_view rfl
  have h2 : Keeps s1 s2 := (activateWaiting_keeps _).of (startBanks_keeps s1)
  have h3 : Keeps s2 s3 := .ite (raise_keeps s2 .sec eTAMPER) (.refl s2)
  have h4 : Keeps s3 s4 := .ite (.foldl (.refl s3) (bootLane_keeps env.bootFail))
    (.foldl (.refl s3) (keepLane_keeps s.vot))
  have hleads1 : Leads _ s0 s1 := post_leads s0 s.bst.post
  have hleads2 : Leads id s1 s2 := (startBanks_leads s1).trans (activateWaiting_leads _)
  have hstays3 : Stays s2 s3 := raiseIf_stays s2.sec.tamper s2 .sec eTAMPER
  have hstays4 : Stays s3 s4 := .ite _ (.foldl (bootLane_stays env.bootFail) _ s3) (.foldl (keepLane_stays s.vot) _ s3)
  clear_value s0 s1 s2 s3 s4
  have hlast := ((hleads1.trans hleads2).stays (hstays3.trans hstays4)).stays
    (((peerRecord_stays s4 (env.peerRecord.getD 0)).trans (fieldAtStart_stays env _)).trans (resumeWindow_stays _))
  have hservice := (resumeWindow_keeps _).of ((fieldAtStart_keeps env _).of
    (h4.upd (u := { s4 with dpx := { s4.dpx with peerRecord := env.peerRecord.getD 0 } }) rfl))
  exact (startLanes_keeps env 3 (hlast.idle hidle)).of ((((h0.trans h1).trans h2).trans h3).trans hservice)

/-! ## `Machine/Power` -/

theorem execPowerOn_goes (env : StartEnv) (now : Nat) (s : State) : Goes s (execPowerOn env now s) :=
  .ite (.next (later_keeps s now)) (.next ((startUp_keeps env 1 _).of ((later_keeps s now).upd rfl)))

theorem measureX1_keeps (s : State) (x1 : Nat) : Keeps s (measureX1 s x1) :=
  .of_view rfl

theorem execHoldup_goes (x1 now : Nat) (s : State) : Goes s (execHoldup x1 now s) :=
  .ite (.next ((measureX1_keeps (later s now) x1).of (later_keeps s now)))
      (.next ((writeRtc_keeps _).of ((setDebug_keeps _ Dbg.d0 none).of
      ((startFlush_keeps _).of ((svcRec_keeps _ 17 1 _).of
      ((raise_keeps _ Blk.pwr wHOLDUP).of (((measureX1_keeps (later s now) x1).of (later_keeps s now)).upd rfl)))))))

theorem execX1Return_goes (x1 now : Nat) (s : State) : Goes s (execX1Return x1 now s) :=
  .ite (.next ((lower_keeps _ Blk.pwr wHOLDUP).of (((measureX1_keeps (later s now) x1).of (later_keeps s now)).upd rfl)))
      (.next ((measureX1_keeps (later s now) x1).of (later_keeps s now)))

theorem execHoldupSafeStop_goes (now : Nat) (s : State) : Goes s (execHoldupSafeStop now s) :=
  .ite (.next ((markShutdown_keeps _).of ((startFlush_keeps _).of ((safeStop_keeps _).of ((later_keeps s now).upd rfl)))))
      (.next (later_keeps s now))

theorem execHoldupZeroise_goes (now : Nat) (s : State) : Goes s (execHoldupZeroise now s) :=
  .ite (.next ((zeroisePlain_keeps _).of ((later_keeps s now).upd rfl))) (.next (later_keeps s now))

theorem execBackup_goes (now : Nat) (s : State) : Goes s (execBackup now s) :=
  .ite (.next (((afterReset_keeps (later s now) _).of (later_keeps s now)).upd rfl)) (.next (later_keeps s now))

theorem execBackupDomainLoss_goes (now : Nat) (s : State) : Goes s (execBackupDomainLoss now s) :=
  .ite (.next (later_keeps s now)) (.next ((later_keeps s now).upd rfl))

theorem execTamper_goes (now : Nat) (s : State) : Goes s (execTamper now s) :=
  .ite (.next ((later_keeps s now).upd rfl)) (.ite (.next ((later_keeps s now).upd rfl))
      (.next ((raise_keeps _ Blk.sec eTAMPER).of ((zeroisePlain_keeps _).of ((later_keeps s now).upd rfl)))))

theorem closeRecorder_keeps (s : State) : Keeps s (closeRecorder s) :=
  ((commitBatch_keeps _).of ((startFlush_keeps (commitBatch s)).of (commitBatch_keeps s))).upd rfl

theorem execS1Release_goes (pressed : Nat) (env : StartEnv) (now : Nat) (s : State) :
    Goes s (execS1Release pressed env now s) :=
  .ite (.next ((later_keeps s now).upd rfl)) (.next ((startUp_keeps env 4 _).of
      ((closeRecorder_keeps _).of ((later_keeps s now).upd rfl))))

theorem execS1Stuck_goes (now : Nat) (s : State) : Goes s (execS1Stuck now s) :=
  .ite (.next ((later_keeps s now).upd rfl)) (.next ((raise_keeps _ Blk.sys sS1_STUCK).of
      (((later_keeps s now).upd rfl).upd rfl)))

theorem execS1Rearm_goes (now : Nat) (s : State) : Goes s (execS1Rearm now s) :=
  .next ((lower_keeps _ Blk.sys sS1_STUCK).of ((later_keeps s now).upd rfl))

theorem execCellMeasurement_goes (mv : Nat) (s : State) : Goes s (execCellMeasurement mv s) :=
  .next ((setLive_keeps _ Blk.pwr wCELL_LOW _).of (.of_view rfl))

theorem execX1Range_goes (x1 now : Nat) (s : State) : Goes s (execX1Range x1 now s) :=
  .next ((setLive_keeps _ Blk.pwr wX1_RANGE _).of ((measureX1_keeps (later s now) x1).of (later_keeps s now)))

theorem execTemp_goes (tenths : Int) (s : State) : Goes s (execTemp tenths s) :=
  .next ((setLive_keeps _ Blk.sys sTEMP _).of (.of_view rfl))

theorem execRail_goes (now : Nat) (s : State) : Goes s (execRail now s) :=
  .next ((raise_keeps (later s now) Blk.pwr wRAIL).of (later_keeps s now))

theorem execTimebaseLoss_goes (now : Nat) (s : State) : Goes s (execTimebaseLoss now s) :=
  .next ((raise_keeps (later s now) Blk.frm fTIMEBASE).of (later_keeps s now))

theorem execOpticInserted_goes (conn : Nat) (qualified : Bool) (s : State) : Goes s (execOpticInserted conn qualified s) :=
  .ite (.next (.refl _)) (.next (.of_view rfl))

theorem execSvcWdog_goes (now : Nat) (s : State) : Goes s (execSvcWdog now s) :=
  .next ((pulse_keeps _ Blk.sys sSVC_WDOG).of (((setDebug_keeps _ Dbg.d0 none).of ((later_keeps s now).upd rfl)).upd rfl))

/-! ## `Machine/Update` -/

theorem noteRefusal_keeps (s : State) (st : Status) : Keeps s (noteRefusal s st) :=
  .ite ((raise_keeps _ Blk.upd uTRANSFER_ERR).of (.of_view rfl)) (.refl _)

theorem updReply_keeps (s : State) (src : Src) (opc : Nat) (st : Status) (body : Bytes) :
    Keeps s (updReply s src opc st body) :=
  (reply_keeps _ src opc st body).of (noteRefusal_keeps s st)

theorem updAnswerNow_keeps (s : State) (src : Src) (opc : Nat) (st : Status) (body : Bytes) :
    Keeps s (updAnswerNow s src opc st body) :=
  (answerNow_keeps _ src opc st body).of (noteRefusal_keeps s st)

theorem updLaneReply_keeps (s : State) (src : Src) (opc : Nat) (st : Status) (body : Bytes) :
    Keeps s (updLaneReply s src opc st body) :=
  (laneAnswer_keeps _ src opc st body).of (noteRefusal_keeps s st)

theorem setInactive_keeps (s : State) (part : Part) (f : Bank → Bank) : Keeps s (setInactive s part f) :=
  setPairs_keeps s part _

theorem openTransfer_keeps (s : State) (part : Part) (onB : Bool) (header : Bytes) :
    Keeps s (openTransfer s part onB header).2 := by
  have hupd : ∀ t, Keeps s t → ∀ x : UpdBlk, Keeps s { t with upd := x } := fun _ h _ => h.upd rfl
  have hbank : Keeps s (bankRewritten (setInactive (takeFree s).2 part fun _ => { state := .receiving }) part) :=
    (bankRewritten_keeps _ part).of ((setInactive_keeps _ part _).of (takeFree_keeps s))
  exact (bankRecord_keeps _ part _ _).of (hupd _ hbank _)

theorem rowUpdBegin_keeps (src : Src) (part bank : Nat) (header : Bytes) (s : State) :
    Keeps s (rowUpdBegin src part bank header s) := by
  refine gated_keeps s src 0xC0 _ fun t => ?_
  dsimp only
  split
  · exact updReply_keeps t src 192 Status.badLen []
  · split
    · exact updReply_keeps t src 192 Status.badLen []
    · split
      · exact updReply_keeps t src 192 Status.busy []
      · split
        · exact updReply_keeps t src 192 _ []
        · split
          · exact .ite (updReply_keeps t src 192 Status.done _) (updReply_keeps t src 192 Status.busy [])
          · exact (updReply_keeps _ src 192 Status.done _).of (openTransfer_keeps t _ (bank == 1) header)

theorem execUpdBegin_goes (src : Src) (part bank : Nat) (header : Bytes) (s : State) :
    Goes s (execUpdBegin src part bank header s) :=
  .next (rowUpdBegin_keeps src part bank header s)

theorem writeBlock_keeps (s : State) (t : UpdTransfer) (src : Src) (num crc : Nat) (data : Bytes) :
    Keeps s (writeBlock s t src num crc data) :=
  .of_view rfl

theorem rowUpdBlock_keeps (src : Src) (xid num : Nat) (data : Bytes) (crc : Nat) (s : State) :
    Keeps s (rowUpdBlock src xid num data crc s) := by
  refine gated_keeps s src 0xC1 _ fun t => ?_
  split
  · exact updReply_keeps t src 193 Status.busy []
  · split
    · exact updReply_keeps t src 193 _ []
    · exact .ite (updReply_keeps t src 193 _ []) (.ite (updReply_keeps t src 193 Status.badLen [])
        (.ite (updReply_keeps t src 193 _ []) (.ite (updReply_keeps t src 193 Status.done [])
        (writeBlock_keeps t _ src num crc data))))

theorem execUpdBlock_goes (src : Src) (xid num : Nat) (data : Bytes) (crc : Nat) (s : State) :
    Goes s (execUpdBlock src xid num data crc s) :=
  .next (rowUpdBlock_keeps src xid num data crc s)

theorem execBlockNote_goes (xid num : Nat) (readback : Bytes) (s : State) : Goes s (execBlockNote xid num readback s) := by
  unfold execBlockNote
  dsimp only
  split
  · exact .next (.refl _)
  · split
    · exact .next (.refl _)
    · exact .ite (.next (.refl _)) (.ite (.next (.foldl (.of_view rfl) (fun u a => updReply_keeps u a 193 Status.done [])))
        (.next (.foldl (.of_view rfl) (fun u a => updReply_keeps u a 193 _ []))))

theorem rowUpdBitmap_keeps (src : Src) (xid first : Nat) (s : State) : Keeps s (rowUpdBitmap src xid first s) := by
  refine gated_keeps s src 0xC2 _ fun t => ?_
  dsimp only
  split
  · exact updReply_keeps t src 194 _ []
  · exact .ite (updReply_keeps t src 194 _ []) (.ite (updReply_keeps t src 194 Status.badLen [])
      (updReply_keeps t src 194 Status.done _))

theorem execUpdBitmap_goes (src : Src) (xid first : Nat) (s : State) : Goes s (execUpdBitmap src xid first s) :=
  .next (rowUpdBitmap_keeps src xid first s)

theorem dropTransfer_keeps (s : State) (t : UpdTransfer) : Keeps s (dropTransfer s t) :=
  (bankRecord_keeps _ t.part BankSt.empty _).of ((setInactive_keeps _ t.part _).of (.of_view rfl))

theorem rowUpdAbort_keeps (src : Src) (xid : Nat) (s : State) : Keeps s (rowUpdAbort src xid s) := by
  refine gated_keeps s src 0xC6 _ fun t => ?_
  dsimp only
  split
  · exact updReply_keeps t src 198 _ []
  · exact .ite (updReply_keeps t src 198 _ []) ((updReply_keeps _ src 198 Status.done []).of ((dropTransfer_keeps t _).upd rfl))

theorem execUpdAbort_goes (src : Src) (xid : Nat) (s : State) : Goes s (execUpdAbort src xid s) :=
  .next (rowUpdAbort_keeps src xid s)

theorem rowUpdVerify_keeps (src : Src) (xid : Nat) (s : State) : Keeps s (rowUpdVerify src xid s) := by
  refine gated_keeps s src 0xC3 _ fun t => ?_
  dsimp only
  split
  · exact updReply_keeps t src 195 Status.busy []
  · split
    · exact updReply_keeps t src 195 _ []
    · split
      · exact updReply_keeps t src 195 _ []
      · exact (updReply_keeps _ src 195 _ []).of (.of_view rfl)

theorem execUpdVerify_goes (src : Src) (xid : Nat) (s : State) : Goes s (execUpdVerify src xid s) :=
  .next (rowUpdVerify_keeps src xid s)

theorem bankVerified_keeps (s : State) (t : UpdTransfer) (b : Bank) : Keeps s (bankVerified s t b) :=
  .ite ((switchPart_keeps _ Part.ocf _ _).of ((bankRecord_keeps _ t.part _ _).of
      ((setInactive_keeps _ t.part (fun _ => b)).of (.of_view rfl))))
      ((bankRecord_keeps _ t.part _ _).of ((setInactive_keeps _ t.part (fun _ => b)).of (.of_view rfl)))

theorem execVerifyEnd_goes (told : ImageSays) (now : Nat) (s : State) : Goes s (execVerifyEnd told now s) := by
  unfold execVerifyEnd
  dsimp only
  split
  · split
    · exact .next ((later_keeps s now).upd rfl)
    · split
      · exact .next (((dropTransfer_keeps (later s now) _).of (later_keeps s now)).upd rfl)
      · exact .next (((bankVerified_keeps (later s now) _ _).of (later_keeps s now)).upd rfl)
  · exact .next (later_keeps s now)

theorem restartService_keeps (s : State) : Keeps s (restartService s) :=
  ((setDebug_keeps _ Dbg.d0 none).of (.of_view rfl)).upd rfl

theorem loadIdle_keeps (s : State) : Keeps s (loadIdle s) := by
  delta loadIdle
  extract_lets s1
  have h1 : Keeps s s1 := by
    unfold s1
    split
    · exact .ite (.refl s) (loadStation_keeps s _)
    · exact .refl s
  clear_value s1
  split
  · exact h1.upd rfl
  · exact h1

theorem bootIdle_keeps (s : State) : Keeps s (bootIdle s) :=
  .of_view rfl

theorem activateIdle_keeps (s : State) (ps : List Part) : Keeps s (activateIdle s ps) := by
  unfold activateIdle
  exact .ite ((openWindow_keeps _ Part.lfw false).of ((bootIdle_keeps _).of
      (.foldl (.of_view rfl) (fun u a => switchPart_keeps u a _ _))))
      ((openWindow_keeps _ Part.mzp _).of ((loadIdle_keeps _).of
      (.foldl (.of_view rfl) (fun u a => switchPart_keeps u a _ _))))

theorem rowUpdActivate_keeps (src : Src) (part unit delay : Nat) (s : State) :
    Keeps s (rowUpdActivate src part unit delay s) := by
  refine gated_keeps s src 0xC4 _ fun t => ?_
  dsimp only
  split
  · exact updReply_keeps t src 196 Status.badLen []
  · split
    · exact .ite ((updReply_keeps _ src 196 _ []).of (.ite (unreadable_keeps t _) (.refl _)))
        ((updLaneReply_keeps _ src 196 _ []).of (.ite (unreadable_keeps t _) (.refl _)))
    · split
      · exact (updLaneReply_keeps _ src 196 _ []).of (.of_view rfl)
      · exact (updLaneReply_keeps _ src 196 _ _).of (.of_view rfl)
      · exact (updLaneReply_keeps _ src 196 _ []).of (.of_view rfl)
      · exact (activateIdle_keeps _ _).of (updLaneReply_keeps t src 196 _ [])
      · exact (restartService_keeps _).of ((openWindow_keeps _ Part.svc false).of
          ((switchPart_keeps _ Part.svc _ _).of (updLaneReply_keeps t src 196 _ [])))
      · exact (switchPart_keeps _ _ _ _).of (updLaneReply_keeps t src 196 _ [])
      · exact .refl _

theorem execUpdActivate_goes (src : Src) (part unit delay now : Nat) (s : State) :
    Goes s (execUpdActivate src part unit delay now s) :=
  .next ((rowUpdActivate_keeps src part unit delay (later s now)).of (later_keeps s now))

theorem execLaneBoot_goes (lane : Lane) (ok : Bool) (now : Nat) (s : State) : Goes s (execLaneBoot lane ok now s) :=
  .ite (.next (later_keeps s now)) (.ite (.next ((later_keeps s now).upd rfl))
      (.ite (.next ((laneFails_keeps (later s now) lane).of (later_keeps s now)))
      (.next ((raiseAt_keeps _ Blk.vot vLANE_FAULT (some lane)).of ((later_keeps s now).upd rfl)))))

theorem execPreload_goes (lane : Lane) (ok : Bool) (s : State) : Goes s (execPreload lane ok s) :=
  .ite (.next (.refl _)) (.ite (.next (.of_view rfl)) (.next
      ((noteBanks_keeps _).of ((bankRecord_keeps _ Part.mzp BankSt.bad _).of
      ((setInactive_keeps _ Part.mzp _).of (.of_view rfl))))))

theorem execExchangeAbandon_goes (now : Nat) (s : State) : Goes s (execExchangeAbandon now s) := by
  unfold execExchangeAbandon
  dsimp only
  split
  · exact .next (later_keeps s now)
  · exact .ite (.next (later_keeps s now)) (.next ((bankRecord_keeps _ Part.mzp _ _).of ((later_keeps s now).upd rfl)))

theorem execHealthy_goes (now : Nat) (s : State) : Goes s (execHealthy now s) := by
  unfold execHealthy
  dsimp only
  split
  · exact .next (later_keeps s now)
  · exact .ite (.next ((later_keeps s now).upd rfl)) (.next (later_keeps s now))

theorem rowUpdConfirm_keeps (src : Src) (part : Nat) (s : State) : Keeps s (rowUpdConfirm src part s) := by
  unfold rowUpdConfirm
  split
  · exact gated_keeps s src 197 _ (fun t => updReply_keeps t src 197 Status.badLen [])
  · exact gated_keeps s src 197 _ (fun t => .ite ((updLaneReply_keeps (confirmPart t) src 197 Status.done []).of
      (confirmPart_keeps t)) (updLaneReply_keeps t src 197 _ []))

theorem execUpdConfirm_goes (src : Src) (part : Nat) (s : State) : Goes s (execUpdConfirm src part s) :=
  .next (rowUpdConfirm_keeps src part s)

theorem fallBackIdle_keeps (s : State) (ps : List Part) (auto : Bool) : Keeps s (fallBackIdle s ps auto) := by
  delta fallBackIdle
  extract_lets s1 s2 _
  have h1 : Keeps s s1 := .foldl (.refl s) (fun u p => switchPart_keeps u p .confirmed (leftState auto))
  have h2 : Keeps s1 s2 := .ite (bootIdle_keeps s1) (loadIdle_keeps s1)
  clear_value s1 s2
  exact (tellFallback_keeps _ auto).of ((closeWindow_keeps _).of ((h1.trans h2).upd rfl))

theorem fallBackAtRestart_keeps (s : State) (ps : List Part) (auto : Bool) : Keeps s (fallBackAtRestart s ps auto) :=
  (tellFallback_keeps _ auto).of (.of_view rfl)

theorem fallBack_keeps (env : StartEnv) (s : State) (p : Part) (auto : Bool) : Keeps s (fallBack env s p auto) :=
  .ite ((restartService_keeps _).of ((tellFallback_keeps _ auto).of
      ((closeWindow_keeps _).of ((switchPart_keeps s Part.svc _ (leftState auto)).upd rfl))))
      (.ite ((tellFallback_keeps _ auto).of (switchPart_keeps s Part.ocf _ (leftState auto)))
      (.ite (fallBackIdle_keeps s _ auto) (.ite (.ite (fallBackAtRestart_keeps s _ auto)
      (.ite ((startUp_keeps env 2 _).of ((closeRecorder_keeps _).of (fallBackAtRestart_keeps s _ auto)))
      ((fallBackAtRestart_keeps s _ auto).upd rfl))) (.ite (lfwFallback_keeps s auto)
      ((tellFallback_keeps _ auto).of (.of_view rfl))))))

theorem rowUpdFallback_keeps (src : Src) (part : Nat) (env : StartEnv) (s : State) :
    Keeps s (rowUpdFallback src part env s) := by
  unfold rowUpdFallback
  split
  · exact gated_keeps s src 199 _ (fun t => updReply_keeps t src 199 Status.badLen [])
  · exact gated_keeps s src 199 _ (fun t => .ite (updAnswerNow_keeps t src 199 Status.order [])
      (.ite (.ite ((fallBack_keeps env _ _ true).of (updAnswerNow_keeps t src 199 _ [])) (updAnswerNow_keeps t src 199 _ []))
      (.ite ((fallBack_keeps env _ _ false).of (updAnswerNow_keeps t src 199 _ [])) (updAnswerNow_keeps t src 199 _ []))))

theorem execUpdFallback_goes (src : Src) (part : Nat) (env : StartEnv) (now : Nat) (s : State) :
    Goes s (execUpdFallback src part env now s) :=
  .next ((rowUpdFallback_keeps src part env (later s now)).of (later_keeps s now))

theorem execConfirmWindowExpiry_goes (env : StartEnv) (now : Nat) (s : State) : Goes s (execConfirmWindowExpiry env now s) := by
  unfold execConfirmWindowExpiry
  dsimp only
  split
  · exact .next (later_keeps s now)
  · exact .ite (.next (later_keeps s now)) (.next ((fallBack_keeps env (later s now) _ true).of (later_keeps s now)))

theorem execSvcRestartEnd_goes (ok : Bool) (now : Nat) (s : State) : Goes s (execSvcRestartEnd ok now s) := by
  have hlater := later_keeps s now
  unfold execSvcRestartEnd
  extract_lets s0 _ s1
  change Keeps s s0 at hlater
  have h1 : Keeps s s1 := hlater.upd rfl
  clear_value s0 s1
  split
  · exact .next hlater
  · extract_lets s2 _
    have h2 : Keeps s s2 := .ite ((startRecord_keeps 5 s1).of h1) h1
    clear_value s2
    exact .ite (.next ((sendWaiting_keeps s2).of h2))
      (.ite (.next ((fallBack_keeps {} _ .svc true).of ((unreadable_keeps s2 .svc).of h2)))
        (.next ((raise_keeps _ .sys sSETTINGS_LOST).of (h2.upd rfl))))

theorem sendPackage_keeps (c : Cluster) (pkg : Nat) (image : Bytes) (s : State) (node : Nat) :
    Keeps s (sendPackage c pkg image s node) := by
  unfold sendPackage
  dsimp only
  split
  · exact .refl _
  · exact (sendService_keeps _ c node 3 pkg []).of (.foldl (setNode_keeps s c node _)
      (fun u a => sendOcfBlock_keeps u c node pkg image a))

theorem rowOcfDistribute_keeps (src : Src) (pkg : Nat) (mask : BitVec 256) (s : State) :
    Keeps s (rowOcfDistribute src pkg mask s) := by
  refine gated_keeps s src 0xC8 _ fun t => ?_
  dsimp only
  split
  · exact updLaneReply_keeps t src 200 _ []
  · exact .ite (updReply_keeps t src 200 Status.badLen [])
      (.foldl (updLaneReply_keeps t src 200 _ []) (sendPackage_keeps _ pkg _))

theorem execOcfDistribute_goes (src : Src) (pkg : Nat) (mask : BitVec 256) (s : State) :
    Goes s (execOcfDistribute src pkg mask s) :=
  .next (rowOcfDistribute_keeps src pkg mask s)

/-! ## `Machine/Witness` -/

theorem noteBeat_keeps (s : State) (n beat : Nat) : Keeps s (noteBeat s n beat) :=
  .of_view rfl

theorem sendWitness_keeps (s : State) (opc : Nat) (payload : State → Bytes) (n : Nat) : Keeps s (sendWitness s opc payload n) :=
  (sendVital_keeps _ n 2 opc 0 _ (cmdKsel s.cfg) s.dpx.beat _).of (.of_view rfl)

theorem sendStatus_keeps (s : State) : Keeps s (sendStatus s) := by
  unfold sendStatus
  exact .ite (.foldl (.of_view rfl) (fun u a => sendWitness_keeps u 75 statusBody a)) (.refl _)

theorem askGrant_keeps (s : State) (reason : Nat) : Keeps s (askGrant s reason) := by
  unfold askGrant
  exact .ite (.foldl (.of_view rfl) (fun u a => sendWitness_keeps u 72 _ a)) (.of_view rfl)

theorem giveGrant_keeps (s : State) (entry unit wframe : Nat) : Keeps s (giveGrant s entry unit wframe) :=
  (sendStatus_keeps _).of ((sendWitness_keeps _ 73 _ entry).of (.of_view rfl))

theorem refuseGrant_keeps (s : State) (entry why : Nat) : Keeps s (refuseGrant s entry why) :=
  sendWitness_keeps s 74 _ entry

theorem windowRequest_keeps (s : State) (entry unit wframe : Nat) : Keeps s (windowRequest s entry unit wframe) :=
  .of_view rfl

theorem execGrantRequest_goes (p : GrantReqIn) (now : Nat) (s : State) : Goes s (execGrantRequest p now s) := by
  unfold execGrantRequest
  dsimp only
  split
  · exact .next (later_keeps s now)
  · split
    · exact .next ((noteBeat_keeps _ p.src.entry p.beat).of ((hearFrom_keeps (later s now) p.src.entry).of (later_keeps s now)))
    · split
      · exact .next ((refuseGrant_keeps _ p.src.entry 3).of
          ((noteBeat_keeps _ p.src.entry p.beat).of ((hearFrom_keeps (later s now) p.src.entry).of (later_keeps s now))))
      · split
        · split
          · exact .next ((giveGrant_keeps _ p.src.entry p.unit p.wframe).of
              ((noteBeat_keeps _ p.src.entry p.beat).of ((hearFrom_keeps (later s now) p.src.entry).of (later_keeps s now))))
          · exact .next ((refuseGrant_keeps _ p.src.entry _).of
              ((noteBeat_keeps _ p.src.entry p.beat).of ((hearFrom_keeps (later s now) p.src.entry).of (later_keeps s now))))
        · exact .next (.ite ((windowRequest_keeps _ p.src.entry p.unit p.wframe).of
            ((noteBeat_keeps _ p.src.entry p.beat).of ((hearFrom_keeps (later s now) p.src.entry).of (later_keeps s now))))
            ((refuseGrant_keeps _ p.src.entry 1).of ((noteBeat_keeps _ p.src.entry p.beat).of
            ((hearFrom_keeps (later s now) p.src.entry).of (later_keeps s now)))))
        · exact .next (.ite ((giveGrant_keeps _ p.src.entry p.unit p.wframe).of
            ((noteBeat_keeps _ p.src.entry p.beat).of ((hearFrom_keeps (later s now) p.src.entry).of (later_keeps s now))))
            ((refuseGrant_keeps _ p.src.entry 2).of ((noteBeat_keeps _ p.src.entry p.beat).of
            ((hearFrom_keeps (later s now) p.src.entry).of (later_keeps s now)))))
        · exact .next ((noteBeat_keeps _ p.src.entry p.beat).of
            ((hearFrom_keeps (later s now) p.src.entry).of (later_keeps s now)))

theorem execStartWindowEnd_goes (now : Nat) (s : State) : Goes s (execStartWindowEnd now s) := by
  unfold execStartWindowEnd
  dsimp only
  split
  · exact .next (later_keeps s now)
  · split
    · exact .next (later_keeps s now)
    · split
      · split
        · exact .next (.foldl ((giveGrant_keeps _ _ _ _).of ((later_keeps s now).upd rfl))
            (fun u a => refuseGrant_keeps u a.entry 3))
        · exact .next (.foldl ((later_keeps s now).upd rfl) (fun u a => refuseGrant_keeps u a.entry 3))
      · split
        · exact .next (.foldl ((giveGrant_keeps _ _ _ _).of ((later_keeps s now).upd rfl))
            (fun u a => refuseGrant_keeps u a.entry 1))
        · exact .next (.foldl ((later_keeps s now).upd rfl) (fun u a => refuseGrant_keeps u a.entry 1))

theorem execWitnessStartEnd_goes (now : Nat) (s : State) : Goes s (execWitnessStartEnd now s) :=
  .ite (.next ((later_keeps s now).upd rfl)) (.next (later_keeps s now))

theorem statusOfUnit_keeps (s : State) (p : WitIn) (unit : Nat) : Keeps s (statusOfUnit s p unit) :=
  (lower_keeps _ Blk.dpx dWITNESS_DOWN).of (.of_view rfl)

theorem statusOfWitness_keeps (s : State) (p : WitIn) : Keeps s (statusOfWitness s p) := by
  delta statusOfWitness
  extract_lets d mine sentAt away lease s1 s2
  have h1 : Keeps s s1 := (lower_keeps _ .dpx dWITNESS_DOWN).of (.of_view rfl)
  clear_value s1
  have h2 : Keeps s1 s2 := .ite (raise_keeps s1 .dpx dROLE_CONFLICT) (.refl s1)
  clear_value s2
  exact .ite ((h1.trans h2).upd rfl) (h1.trans h2)

theorem execWitnessStatus_goes (p : WitIn) (now : Nat) (s : State) : Goes s (execWitnessStatus p now s) := by
  unfold execWitnessStatus
  dsimp only
  split
  · exact .next (later_keeps s now)
  · split
    · exact .next ((noteBeat_keeps _ p.entry p.beat).of ((hearFrom_keeps (later s now) p.entry).of (later_keeps s now)))
    · split
      · split
        · exact .next ((statusOfUnit_keeps _ p _).of ((noteBeat_keeps _ p.entry p.beat).of
            ((hearFrom_keeps (later s now) p.entry).of (later_keeps s now))))
        · exact .next ((noteBeat_keeps _ p.entry p.beat).of ((hearFrom_keeps (later s now) p.entry).of (later_keeps s now)))
      · exact .ite (.next ((statusOfWitness_keeps _ p).of ((noteBeat_keeps _ p.entry p.beat).of
          ((hearFrom_keeps (later s now) p.entry).of (later_keeps s now)))))
          (.next ((noteBeat_keeps _ p.entry p.beat).of ((hearFrom_keeps (later s now) p.entry).of (later_keeps s now))))

theorem execWitnessDown_goes (now : Nat) (s : State) : Goes s (execWitnessDown now s) :=
  .ite (.next ((raise_keeps (later s now) Blk.dpx dWITNESS_DOWN).of (later_keeps s now))) (.next (later_keeps s now))

theorem repeatRequest_keeps (s : State) : Keeps s (repeatRequest s) := by
  unfold repeatRequest
  split
  · exact .ite (askGrant_keeps s 1) (.refl _)
  · exact askGrant_keeps s _
  · exact .refl _

theorem reachStep15_keeps (s : State) : Keeps s (reachStep15 s) :=
  .ite (.of_view rfl) (.refl _)

theorem execBeat_goes (now : Nat) (s : State) : Goes s (execBeat now s) :=
  .ite (.next (later_keeps s now)) (.ite (.next (.ite ((sendStatus_keeps (later s now)).of (later_keeps s now))
      (later_keeps s now))) (.next ((reachStep15_keeps _).of
      ((repeatRequest_keeps _).of ((sendStatus_keeps _).of ((later_keeps s now).upd rfl))))))

theorem execLeaseLapse_goes (now : Nat) (s : State) : Goes s (execLeaseLapse now s) :=
  .ite (.next (later_keeps s now)) (.next (((safeStop_keeps _).of
      ((relinquish_keeps (later s now)).of (later_keeps s now))).upd rfl))

/-! ## `Machine/Duplex` -/

theorem heardPeer_keeps (s : State) : Keeps s (heardPeer s) :=
  (lower_keeps _ Blk.dpx dPEER_DOWN).of (.of_view rfl)

theorem noteRecord_keeps (s : State) (n : Nat) : Keeps s (noteRecord s n) :=
  .ite (.refl _) (.of_view rfl)

theorem execWaferSegment_goes (p : SegIn) (now : Nat) (s : State) : Goes s (execWaferSegment p now s) :=
  .ite (.next (later_keeps s now)) (.ite (.next ((heardPeer_keeps (later s now)).of (later_keeps s now)))
      (.next (((heardPeer_keeps (later s now)).of (later_keeps s now)).upd rfl)))

theorem waferBad_keeps (s : State) : Keeps s (waferBad s) :=
  (raise_keeps _ Blk.dpx dWAFER_BAD).of (.of_view rfl)

theorem execWaferSegmentTimeout_goes (now : Nat) (s : State) : Goes s (execWaferSegmentTimeout now s) := by
  unfold execWaferSegmentTimeout
  dsimp only
  split
  · exact .ite (.next ((waferBad_keeps (later s now)).of (later_keeps s now))) (.next (later_keeps s now))
  · exact .next (later_keeps s now)

theorem followExchange_keeps (s : State) (st : Station) (verified : Bool) : Keeps s (followExchange s st verified) :=
  ((retryRefused_keeps _).of (switchPart_keeps s Part.mzp _ _)).upd rfl

theorem acceptWafer_keeps (s : State) (w : Wafer) : Keeps s (acceptWafer s w) := by
  unfold acceptWafer
  dsimp only
  split
  · exact (reachStep15_keeps _).of (.ite ((askGrant_keeps _ 3).of
      (.ite ((pushX9_keeps _ _).of ((noteRecord_keeps _ w.frame).of (.of_view rfl)))
      ((noteRecord_keeps _ w.frame).of (.of_view rfl)))) (.ite
      ((pushX9_keeps _ _).of ((noteRecord_keeps _ w.frame).of (.of_view rfl)))
      ((noteRecord_keeps _ w.frame).of (.of_view rfl))))
  · exact (reachStep15_keeps _).of (.ite ((askGrant_keeps _ 3).of ((noteRecord_keeps _ w.frame).of (.of_view rfl)))
      ((noteRecord_keeps _ w.frame).of (.of_view rfl)))

theorem execXbrWinDone_goes (now : Nat) (s : State) : Goes s (execXbrWinDone now s) := by
  unfold execXbrWinDone
  dsimp only
  split
  · exact .next (later_keeps s now)
  · split
    · exact .next (later_keeps s now)
    · split
      · exact .next ((waferBad_keeps (later s now)).of (later_keeps s now))
      · split
        · exact .next ((acceptWafer_keeps (later s now) _).of (later_keeps s now))
        · exact .next ((acceptWafer_keeps _ _).of ((followExchange_keeps (later s now) _ _).of (later_keeps s now)))
        · exact .next ((acceptWafer_keeps (later s now) _).of (later_keeps s now))
        · exact .next ((later_keeps s now).upd rfl)
        · exact .next ((waferBad_keeps (later s now)).of (later_keeps s now))

theorem rowAck_keeps (frame : Nat) (acode : BitVec 64) (s : State) : Keeps s (rowAck frame acode s) := by
  unfold rowAck
  dsimp only
  split
  · exact .refl _
  · split
    · exact .ite ((heardPeer_keeps s).upd rfl) (heardPeer_keeps s)
    · exact heardPeer_keeps s

theorem execWaferAcknowledgement_goes (frame : Nat) (acode : BitVec 64) (now : Nat) (s : State) :
    Goes s (execWaferAcknowledgement frame acode now s) :=
  .next ((rowAck_keeps frame acode (later s now)).of (later_keeps s now))

theorem rowHeartbeat_keeps (h : HeartIn) (s : State) : Keeps s (rowHeartbeat h s) :=
  .ite (.refl _) (.ite (heardPeer_keeps s) (.ite ((raise_keeps _ Blk.dpx dROLE_CONFLICT).of
      ((setLive_keeps _ Blk.dpx _ _).of ((heardPeer_keeps s).upd rfl)))
      ((setLive_keeps _ Blk.dpx _ _).of ((heardPeer_keeps s).upd rfl))))

theorem execHeartbeat_goes (h : HeartIn) (now : Nat) (s : State) : Goes s (execHeartbeat h now s) :=
  .next ((rowHeartbeat_keeps h (later s now)).of (later_keeps s now))

theorem execHeartbeatSend_goes (now : Nat) (s : State) : Goes s (execHeartbeatSend now s) :=
  .ite (.next (later_keeps s now)) (.ite (.next ((pushX9_keeps _ _).of ((later_keeps s now).upd rfl)))
      (.next ((later_keeps s now).upd rfl)))

theorem execPeerDown_goes (now : Nat) (s : State) : Goes s (execPeerDown now s) :=
  .ite (.next (later_keeps s now)) (.next (.ite ((raise_keeps _ Blk.dpx _).of
      ((raise_keeps _ Blk.dpx dPEER_DOWN).of ((later_keeps s now).upd rfl)))
      ((raise_keeps _ Blk.dpx dPEER_DOWN).of ((later_keeps s now).upd rfl))))

theorem execWaferMiss_goes (now : Nat) (s : State) : Goes s (execWaferMiss now s) := by
  unfold execWaferMiss
  dsimp only
  split
  · exact .next (later_keeps s now)
  · exact .ite (.next (later_keeps s now)) (.next (.ite ((askGrant_keeps _ 1).of ((later_keeps s now).upd rfl))
      ((later_keeps s now).upd rfl)))

theorem execGrantRefuse_goes (why now : Nat) (s : State) : Goes s (execGrantRefuse why now s) := by
  unfold execGrantRefuse
  dsimp only
  split
  · exact .next (later_keeps s now)
  · split
    · exact .next ((later_keeps s now).upd rfl)
    · exact .next ((later_keeps s now).upd rfl)
    · exact .next ((later_keeps s now).upd rfl)
    · exact .next (later_keeps s now)

theorem rootPort_keeps (s : State) (c : Cluster) : Keeps s (rootPort s c) :=
  (setFrn_keeps _ c _).of (startPort_keeps s c PortSt.cold)

theorem grantCold_keeps (s : State) (gepoch : Nat) : Keeps s (grantCold s gepoch) := by
  delta grantCold
  extract_lets _ s1 s2 _
  have h1 : Keeps s s1 := .of_view rfl
  have h2 : Keeps s1 s2 := (prlSwitch_keeps _).of ((lanesVote_keeps _).of (coldStart_keeps s1))
  clear_value s1 s2
  exact (sendStatus_keeps _).of ((rootPort_keeps _ .c1).of ((rootPort_keeps _ .c0).of ((h1.trans h2).upd rfl)))

theorem takeConfig_keeps (s : State) (w : Wafer) : Keeps s (takeConfig s w) :=
  .of_view rfl

theorem takePraline_keeps (s : State) (w : Wafer) (x : Inter) : Keeps s (takePraline s w x) :=
  (setLive_keeps _ .prl pCRUMB_CORRUPT _).of ((armGuards_keeps _).of (.noFrame rfl rfl))

theorem keepDelays_keeps (s : State) (c : Cluster) : Keeps s (keepDelays s c) := by
  delta keepDelays
  extract_lets n keep
  clear_value n keep
  have hfree : Keeps s { s with free := n + 1024 } := .of_view rfl
  exact hfree.trans (setFrn_keeps _ c _)

theorem portToRun_keeps (s : State) (c : Cluster) : Keeps s (portToRun s c) :=
  .ite (.refl _) ((keepDelays_keeps _ c).of (setFrn_keeps s c _))

theorem continueWindow_keeps (s : State) (at_ : Option Nat) : Keeps s (continueWindow s at_) := by
  unfold continueWindow
  split
  · exact .refl _
  · exact .ite (.refl _) ((openWindow_keeps _ Part.mzp false).of (setPairs_keeps s Part.mzp _))

theorem takeover_keeps (s : State) (gepoch : Nat) (w : Wafer) : Keeps s (takeover s gepoch w) :=
  (sendStatus_keeps _).of ((portToRun_keeps _ Cluster.c1).of
      ((portToRun_keeps _ Cluster.c0).of ((continueWindow_keeps _ s.dpx.followed).of
      ((prlSwitch_keeps _).of ((lanesVote_keeps _).of ((noteRecord_keeps _ _).of
      ((takePraline_keeps _ w _).of ((takeConfig_keeps _ w).of ((raise_keeps _ Blk.dpx dTAKEOVER).of (.of_view rfl))))))))))

theorem grantVoid_keeps (s : State) (gepoch : Nat) : Keeps s (grantVoid s gepoch) := by
  have hdpx : ∀ t, Keeps s t → ∀ d : DpxBlk, Keeps s { t with dpx := d } := fun _ h _ => h.upd rfl
  have hfree : Keeps s (takeFree (takeFree s).2).2 := (takeFree_keeps _).of (takeFree_keeps s)
  exact (sendStatus_keeps _).of ((svcRec_keeps _ _ _ _).of (hdpx _ hfree _))

theorem execGrant_goes (p : GrantIn) (now : Nat) (s : State) : Goes s (execGrant p now s) := by
  have hlater := later_keeps s now
  unfold execGrant
  extract_lets s0 fresh
  change Keeps s s0 at hlater
  clear_value fresh s0
  split
  · exact .next hlater
  next n _ =>
    extract_lets s1 _ _
    have h1 : Keeps s s1 := (noteBeat_keeps _ n p.beat).of ((hearFrom_keeps s0 n).of hlater)
    clear_value s1
    have hstatus : ∀ d : DpxBlk, Keeps s (sendStatus { s1 with dpx := d }) := fun _ => (sendStatus_keeps _).of (h1.upd rfl)
    refine .ite (.next hlater) (.ite (.next h1) (.ite (.next (hstatus _)) ?_))
    split
    · exact .next ((grantCold_keeps s1 p.gepoch).of h1)
    · exact .next ((grantVoid_keeps s1 p.gepoch).of h1)
    next w _ _ => exact .ite (.next ((takeover_keeps s1 p.gepoch w).of h1)) (.next (hstatus _))

theorem execTakeoverFirstTick_goes (now : Nat) (s : State) : Goes s (execTakeoverFirstTick now s) := by
  unfold execTakeoverFirstTick
  dsimp only
  split
  · exact .next (later_keeps s now)
  · exact .ite (.next (later_keeps s now)) (.next ((duoStart_keeps _).of ((later_keeps s now).upd rfl)))

theorem idleLane_keeps (s : State) (l : Lane) : Keeps s (idleLane s l) :=
  .ite (.refl _) (((laneTo_keeps _ l LaneSt.fenced).of (.ite ((setDue_keeps (unmark s l) l s.now).of (unmark_keeps s l))
      (.refl _))).upd rfl)

theorem followPort_keeps (s : State) (c : Cluster) : Keeps s (followPort s c) :=
  (setFrn_keeps _ c _).of (startPort_keeps s c PortSt.follow)

theorem standbyFallBack_keeps (s : State) : Keeps s (standbyFallBack s) :=
  .ite (.refl _) ((loadIdle_keeps _).of (.ite ((bootIdle_keeps _).of ((closeWindow_keeps _).of (.of_view rfl)))
      ((closeWindow_keeps _).of (.of_view rfl))))

theorem execOldActiveToStandby_goes (now : Nat) (s : State) : Goes s (execOldActiveToStandby now s) := by
  have hlater := later_keeps s now
  unfold execOldActiveToStandby
  refine .ite (.next hlater) (.next ?_)
  refine (followPort_keeps _ .c1).of ((followPort_keeps _ .c0).of ((standbyFallBack_keeps _).of
    (.foldl ((duoReset_keeps _).of ((lower_keeps _ .dpx dPARTNER_NOT_READY).of (hlater.trans ?_)))
        idleLane_keeps)))
  exact .noFrame rfl rfl

/-! ## `Machine/Session` -/

theorem senderOf_keeps (s : State) (src : Src) (net : NetAddr) (kslot : Nat) {a : Src} {t : State}
    (h : senderOf s src net kslot = some (a, t)) : Keeps s t := by
  unfold senderOf at h
  dsimp only at h
  split at h
  · split at h
    · cases h
    · obtain ⟨-, rfl⟩ := Prod.mk.inj (Option.some.inj h)
      exact .of_view rfl
  · split at h
    · cases h
    · obtain ⟨-, rfl⟩ := Prod.mk.inj (Option.some.inj h)
      exact .refl s

theorem openRow_keeps (src : Src) (net : NetAddr) (kslot : Nat) (f : Src → State → State) (s : State)
    (hf : ∀ src t, Keeps t (f src t)) : Keeps s (openRow src net kslot f s) := by
  unfold openRow
  split
  · exact .refl s
  next a s1 hsender =>
    refine (gated_keeps s1 a 0x80 _ fun u => ?_).of (senderOf_keeps s src net kslot hsender)
    split
    · exact .ite ((reply_keeps u a 0x80 _ []).upd rfl) (reply_keeps u a 0x80 _ [])
    · exact hf a u

theorem rowSessionOpen_keeps (src : Src) (net : NetAddr) (kslot : Nat) (s : State) : Keeps s (rowSessionOpen src net kslot s) := by
  have hgiven : ∀ (t : State) (n : Nat) (c : SecBlk), Keeps t { t with free := n, sec := c } := fun _ _ _ => .of_view rfl
  exact openRow_keeps src net kslot _ s fun _ _ => (reply_keeps _ _ 128 .done _).of (hgiven _ _ _)

theorem execSessionOpen_goes (src : Src) (net : NetAddr) (kslot now : Nat) (s : State) :
    Goes s (execSessionOpen src net kslot now s) :=
  .next ((rowSessionOpen_keeps src net kslot (later s now)).of (later_keeps s now))

theorem authFail_keeps (s : State) (entry : Nat) : Keeps s (authFail s entry) :=
  (raise_keeps _ Blk.sec eAUTH_FAIL).of (.of_view rfl)

theorem rowSessionOpenProof_keeps (src : Src) (net : NetAddr) (kslot : Nat) (chal : BitVec 128) (proof : BitVec 64)
    (s : State) : Keeps s (rowSessionOpenProof src net kslot chal proof s) := by
  refine openRow_keeps src net kslot _ s fun a t => ?_
  have hsec : ∀ u, Keeps t u → ∀ c : SecBlk, Keeps t { u with sec := c } := fun _ h _ => h.upd rfl
  extract_lets fresh _ s1
  have h1 : Keeps t s1 := hsec t (.refl t) _
  clear_value s1
  exact .ite ((reply_keeps _ a 128 .done []).of (hsec s1 h1 _))
    ((reply_keeps _ a 128 .notAuth []).of ((authFail_keeps s1 a.entry).of h1))

theorem execSessionOpenProof_goes (src : Src) (net : NetAddr) (kslot : Nat) (chal : BitVec 128) (proof : BitVec 64)
    (now : Nat) (s : State) : Goes s (execSessionOpenProof src net kslot chal proof now s) :=
  .next ((rowSessionOpenProof_keeps src net kslot chal proof (later s now)).of (later_keeps s now))

theorem closeSession_keeps (s : State) : Keeps s (closeSession s) :=
  (setDebug_keeps _ Dbg.d0 none).of (.of_view rfl)

theorem rowSessionClose_keeps (src : Src) (s : State) : Keeps s (rowSessionClose src s) :=
  gated_keeps s src 129 _ (fun t => (closeSession_keeps _).of (reply_keeps t src 129 Status.done []))

theorem execSessionClose_goes (src : Src) (s : State) : Goes s (execSessionClose src s) :=
  .next (rowSessionClose_keeps src s)

theorem execSessionTimeout_goes (now : Nat) (s : State) : Goes s (execSessionTimeout now s) := by
  unfold execSessionTimeout
  dsimp only
  split
  · exact .ite (.next ((closeSession_keeps (later s now)).of (later_keeps s now))) (.next (later_keeps s now))
  · exact .next (later_keeps s now)

theorem execAuthLockoutEnd_goes (entry now : Nat) (s : State) : Goes s (execAuthLockoutEnd entry now s) :=
  .next ((later_keeps s now).upd rfl)

/-! ## `Machine/Maint` -/

theorem laneRow_keeps (src : Src) (opc : Nat) (f : State → Status × State) (s : State) (hf : ∀ t, Keeps t (f t).2) :
    Keeps s (laneRow src opc f s) :=
  gated_keeps s src opc _ fun t => .ite (reply_keeps t src opc .badLen []) ((laneAnswer_keeps _ src opc _ []).of (hf t))

theorem refuse_keeps (s : State) (st : Status) : Keeps s (refuse s st).2 :=
  .refl _

theorem rowRegRead_keeps (src : Src) (addr count : Nat) (s : State) : Keeps s (rowRegRead src addr count s) := by
  refine gated_keeps s src 0x82 _ fun t => ?_
  have hread := readMany_keeps t addr count
  exact .ite (reply_keeps t src 130 Status.badLen []) ((reply_keeps _ src 130 Status.done _).of hread)

theorem execRegReadCmd_goes (src : Src) (addr count : Nat) (s : State) : Goes s (execRegReadCmd src addr count s) :=
  .next (rowRegRead_keeps src addr count s)

theorem writeMany_keeps (wr : Writer) (ws : List Word) (s : State) (a : Nat) : Keeps s (writeMany wr s a ws) := by
  induction ws generalizing s a with
  | nil => exact .refl s
  | cons w ws ih => exact (ih _ _).of (.getD (fun u h => laneWrite_keeps s wr a w h) (.refl s))

theorem rowRegWrite_keeps (src : Src) (addr : Nat) (words : List Word) (s : State) :
    Keeps s (rowRegWrite src addr words s) := by
  refine laneRow_keeps src 0x83 _ s fun t => ?_
  have hwrite := writeMany_keeps { addr := src.addr } words t addr
  exact .iteSnd (refuse_keeps t Status.badLen) hwrite

theorem execRegWriteCmd_goes (src : Src) (addr : Nat) (words : List Word) (s : State) :
    Goes s (execRegWriteCmd src addr words s) :=
  .next (rowRegWrite_keeps src addr words s)

theorem rowCommit_keeps (src : Src) (s : State) : Keeps s (rowCommit src s) :=
  gated_keeps s src 132 _ (fun _ => .of_view rfl)

theorem execCommit_goes (src : Src) (s : State) : Goes s (execCommit src s) :=
  .next (rowCommit_keeps src s)

theorem rowStageDiscard_keeps (src : Src) (s : State) : Keeps s (rowStageDiscard src s) :=
  laneRow_keeps src 133 _ s (fun t => discardStaged_keeps t)

theorem execStageDiscard_goes (src : Src) (s : State) : Goes s (execStageDiscard src s) :=
  .next (rowStageDiscard_keeps src s)

theorem rowPartnerStage_keeps (src : Src) (entry : Nat) (words : List Word) (s : State) :
    Keeps s (rowPartnerStage src entry words s) := by
  unfold rowPartnerStage
  dsimp only
  exact laneRow_keeps src 134 _ s (fun t => .iteSnd (refuse_keeps t Status.badLen) (.of_view rfl))

theorem execPartnerStage_goes (src : Src) (entry : Nat) (words : List Word) (s : State) :
    Goes s (execPartnerStage src entry words s) :=
  .next (rowPartnerStage_keeps src entry words s)

theorem rowSettingsSave_keeps (src : Src) (s : State) : Keeps s (rowSettingsSave src s) :=
  gated_keeps s src 135 _ (fun t => .ite (reply_keeps t src 135 _ [])
      ((reply_keeps _ src 135 Status.done []).of (.of_view rfl)))

theorem execSettingsSave_goes (src : Src) (s : State) : Goes s (execSettingsSave src s) :=
  .next (rowSettingsSave_keeps src s)

theorem rowLaneOut_keeps (src : Src) (lane : Lane) (s : State) : Keeps s (rowLaneOut src lane s) :=
  laneRow_keeps src 136 _ s (fun t => .iteSnd (.of_view rfl) (refuse_keeps t _))

theorem execLaneOut_goes (src : Src) (lane : Lane) (s : State) : Goes s (execLaneOut src lane s) :=
  .next (rowLaneOut_keeps src lane s)

theorem rowLaneIn_keeps (src : Src) (lane : Lane) (s : State) : Keeps s (rowLaneIn src lane s) := by
  unfold rowLaneIn
  dsimp only
  exact laneRow_keeps src 137 _ s (fun t => .iteSnd (.of_view rfl) (refuse_keeps t _))

theorem execLaneIn_goes (src : Src) (lane : Lane) (s : State) : Goes s (execLaneIn src lane s) :=
  .next (rowLaneIn_keeps src lane s)

theorem rowDuoExtend_keeps (src : Src) (hours : Nat) (s : State) : Keeps s (rowDuoExtend src hours s) :=
  laneRow_keeps src 138 _ s (fun t => .iteSnd (refuse_keeps t Status.badLen)
      (.iteSnd ((limitMoved_keeps _).of (.of_view rfl)) (refuse_keeps t _)))

theorem execDuoExtend_goes (src : Src) (hours : Nat) (s : State) : Goes s (execDuoExtend src hours s) :=
  .next (rowDuoExtend_keeps src hours s)

theorem rowLioRestart_keeps (src : Src) (s : State) : Keeps s (rowLioRestart src s) :=
  laneRow_keeps src 139 _ s fun t =>
    have hrestart : ∀ f, Keeps t (Status.done, updVital t f).2 := updVital_keeps t
    .iteSnd (refuse_keeps t .badState) (hrestart _)

theorem execLioRestart_goes (src : Src) (s : State) : Goes s (execLioRestart src s) :=
  .next (rowLioRestart_keeps src s)

theorem rowSwitchover_keeps (src : Src) (s : State) : Keeps s (rowSwitchover src s) :=
  laneRow_keeps src 140 _ s (fun t => .iteSnd (.of_view rfl) (refuse_keeps t _))

theorem execSwitchover_goes (src : Src) (s : State) : Goes s (execSwitchover src s) :=
  .next (rowSwitchover_keeps src s)

theorem rowDebug_keeps (src : Src) (level lane : Nat) (s : State) : Keeps s (rowDebug src level lane s) := by
  refine laneRow_keeps src _ _ s fun t => ?_
  dsimp only
  split
  · exact .refl t
  · exact .iteSnd (refuse_keeps t Status.badLen) (.iteSnd (refuse_keeps t _) (.of_view rfl))

theorem execDebug_goes (src : Src) (level lane : Nat) (s : State) : Goes s (execDebug src level lane s) :=
  .next (rowDebug_keeps src level lane s)

theorem rowLifecycle_keeps (src : Src) (target serial : Nat) (s : State) : Keeps s (rowLifecycle src target serial s) := by
  refine laneRow_keeps src _ _ s fun t => ?_
  dsimp only
  split
  · exact .refl t
  · exact .iteSnd (refuse_keeps t Status.refused) (.iteSnd (.of_view rfl) (refuse_keeps t _))

theorem execLifecycle_goes (src : Src) (target serial : Nat) (s : State) : Goes s (execLifecycle src target serial s) :=
  .next (rowLifecycle_keeps src target serial s)

theorem rowKeyLoad_keeps (src : Src) (kt ix sl : Nat) (epub wrapped : Bytes) (s : State) :
    Keeps s (rowKeyLoad src kt ix sl epub wrapped s) := by
  refine gated_keeps s src 0x8F _ fun t => ?_
  dsimp only
  split
  · exact reply_keeps t src 143 Status.badLen []
  · split
    · exact reply_keeps t src 143 _ []
    · split
      · exact (reply_keeps _ src 143 Status.refused []).of ((raise_keeps _ Blk.sec eAUTH_FAIL).of (.of_view rfl))
      · exact (reply_keeps _ src 143 Status.done []).of (.of_view rfl)

theorem execKeyLoad_goes (src : Src) (ktype index slot : Nat) (epub wrapped : Bytes) (now : Nat) (s : State) :
    Goes s (execKeyLoad src ktype index slot epub wrapped now s) :=
  .next ((rowKeyLoad_keeps src ktype index slot epub wrapped (later s now)).of (later_keeps s now))

theorem rowKeyErase_keeps (src : Src) (kt ix sl : Nat) (s : State) : Keeps s (rowKeyErase src kt ix sl s) :=
  gated_keeps s src 143 _ (fun t => .ite (reply_keeps t src 143 Status.badLen [])
      (.ite (reply_keeps t src 143 _ []) ((reply_keeps _ src 143 Status.done []).of (.of_view rfl))))

theorem execKeyErase_goes (src : Src) (ktype index slot : Nat) (s : State) : Goes s (execKeyErase src ktype index slot s) :=
  .next (rowKeyErase_keeps src ktype index slot s)

theorem rowTimeSet_keeps (src : Src) (time : Nat) (s : State) : Keeps s (rowTimeSet src time s) :=
  gated_keeps s src 144 _ (fun t => .ite (reply_keeps t src 144 _ [])
      ((reply_keeps _ src 144 Status.done []).of (stepTime_keeps t TimeSrc.set ↑time)))

theorem execTimeSet_goes (src : Src) (time now : Nat) (s : State) : Goes s (execTimeSet src time now s) :=
  .next ((rowTimeSet_keeps src time (later s now)).of (later_keeps s now))

theorem rowRestart_keeps (src : Src) (cold : Bool) (env : StartEnv) (s : State) : Keeps s (rowRestart src cold env s) :=
  gated_keeps s src 145 _ (fun t => .ite ((coldRestart_keeps env _).of
      ((closeRecorder_keeps _).of (reply_keeps t src 145 Status.done [])))
      ((startUp_keeps env 2 _).of ((closeRecorder_keeps _).of (reply_keeps t src 145 Status.done []))))

theorem execRestartModule_goes (src : Src) (env : StartEnv) (now : Nat) (s : State) :
    Goes s (execRestartModule src env now s) :=
  .next ((rowRestart_keeps src false env (later s now)).of (later_keeps s now))

theorem execRestartCold_goes (src : Src) (env : StartEnv) (now : Nat) (s : State) : Goes s (execRestartCold src env now s) :=
  .next ((rowRestart_keeps src true env (later s now)).of (later_keeps s now))

theorem rearmTamper_keeps (env : StartEnv) (s : State) : Keeps s (rearmTamper env s) := by
  delta rearmTamper
  extract_lets c life s1
  have h1 : Keeps s s1 := .of_view rfl
  clear_value s1
  exact (startUp_keeps env 2 _).of ((closeRecorder_keeps _).of ((configRecord_keeps s1).of h1))

theorem rowTamperRearm_keeps (src : Src) (serial : Nat) (closed : Bool) (env : StartEnv) (s : State) :
    Keeps s (rowTamperRearm src serial closed env s) :=
  (gated_keeps _ src 146 _ (fun t => .ite (reply_keeps t src 146 Status.refused [])
      (.ite (reply_keeps t src 146 _ []) (.ite (reply_keeps t src 146 Status.notAuth [])
      ((rearmTamper_keeps env _).of (reply_keeps t src 146 Status.done [])))))).of (.of_view rfl)

theorem execTamperRearm_goes (src : Src) (serial : Nat) (closed : Bool) (env : StartEnv) (now : Nat) (s : State) :
    Goes s (execTamperRearm src serial closed env now s) :=
  .next ((rowTamperRearm_keeps src serial closed env (later s now)).of (later_keeps s now))

/-! ## `Machine/Requests` -/

theorem after_keeps (s : State) (o : Out) (h : Goes s o) : Keeps s (after s o) := by
  obtain ⟨t, rfl, ht⟩ := h
  exact ht

theorem queryPacket_keeps (src : Src) (conn opc : Nat) (pl : Bytes) (s : State) : Keeps s (queryPacket src conn opc pl s) := by
  unfold queryPacket
  dsimp only
  split
  · exact after_keeps s _ (execIdentity_goes _ _)
  · exact after_keeps s _ (execStatus_goes _ _)
  · exact after_keeps s _ (execObjectRead_goes _ _ _ _)
  · exact after_keeps s _ (execRouteRead_goes _ _ _ _)
  · exact after_keeps s _ (execCrumbRead_goes _ _ _ _)
  · exact after_keeps s _ (execEventRead_goes _ _ _ _ _)
  · exact after_keeps s _ (execSubscribe_goes _ _ _)
  · exact after_keeps s _ (execTimeRead_goes _ _ _)
  · exact after_keeps s _ (execEcho_goes _ _ _)
  · exact after_keeps s _ (execPortCounters_goes _ _ _)
  · exact after_keeps s _ (execLaneDiag_goes _ _ _ _ _)

theorem badParam_keeps (src : Src) (opc : Nat) (s : State) : Keeps s (badParam src opc s) :=
  gated_keeps s src opc _ (fun t => reply_keeps t src opc Status.badLen [])

theorem laneParam_keeps (src : Src) (opc n : Nat) (f : Lane → State → State) (s : State) (hf : ∀ l t, Keeps t (f l t)) :
    Keeps s (laneParam src opc n f s) := by
  unfold laneParam
  split
  · exact hf _ _
  · exact badParam_keeps src opc s

theorem maintPacket_keeps (src : Src) (net : NetAddr) (env : StartEnv) (closed : Bool) (opc : Nat) (pl : Bytes) (s : State) :
    Keeps s (maintPacket src net env closed opc pl s) := by
  unfold maintPacket
  dsimp only
  split
  · exact .ite (rowSessionOpen_keeps src net (fieldAt pl 0 1) s) (rowSessionOpenProof_keeps src net (fieldAt pl 0 1) _ _ s)
  · exact rowSessionClose_keeps src s
  · exact rowRegRead_keeps src (fieldAt pl 0 4) (fieldAt pl 4 2) s
  · exact rowRegWrite_keeps src (fieldAt pl 0 4) _ s
  · exact rowCommit_keeps src s
  · exact rowStageDiscard_keeps src s
  · exact rowPartnerStage_keeps src (fieldAt pl 0 1) _ s
  · exact rowSettingsSave_keeps src s
  · exact laneParam_keeps src 136 (fieldAt pl 0 1) (rowLaneOut src) s fun l t => rowLaneOut_keeps src l t
  · exact laneParam_keeps src 137 (fieldAt pl 0 1) (rowLaneIn src) s fun l t => rowLaneIn_keeps src l t
  · exact rowDuoExtend_keeps src (fieldAt pl 0 1) s
  · exact rowLioRestart_keeps src s
  · exact rowSwitchover_keeps src s
  · exact rowDebug_keeps src (fieldAt pl 0 1) (fieldAt pl 1 1) s
  · exact rowLifecycle_keeps src (fieldAt pl 0 1) (fieldAt pl 2 8) s
  · exact .ite (rowKeyLoad_keeps src (fieldAt pl 0 1) (fieldAt pl 1 1) (fieldAt pl 2 1) (slice pl 4 97) _ s)
      (rowKeyErase_keeps src (fieldAt pl 0 1) (fieldAt pl 1 1) (fieldAt pl 2 1) s)
  · exact rowTimeSet_keeps src (fieldAt pl 0 8) s
  · exact .ite (rowRestart_keeps src _ env s) (badParam_keeps src 145 s)
  · exact rowTamperRearm_keeps src (fieldAt pl 0 8) closed env s

theorem updatePacket_keeps (src : Src) (env : StartEnv) (opc : Nat) (pl : Bytes) (s : State) :
    Keeps s (updatePacket src env opc pl s) := by
  unfold updatePacket
  dsimp only
  split
  · exact rowUpdBegin_keeps src (fieldAt pl 0 1) (fieldAt pl 1 1) (slice pl 4 64) s
  · exact rowUpdBlock_keeps src (fieldAt pl 0 4) (fieldAt pl 4 4) _ (fieldAt pl 8 4) s
  · exact rowUpdBitmap_keeps src (fieldAt pl 0 4) (fieldAt pl 4 4) s
  · exact rowUpdVerify_keeps src (fieldAt pl 0 4) s
  · exact rowUpdActivate_keeps src (fieldAt pl 0 1) (fieldAt pl 1 1) (fieldAt pl 2 2) s
  · exact rowUpdConfirm_keeps src (fieldAt pl 0 1) s
  · exact rowUpdAbort_keeps src (fieldAt pl 0 4) s
  · exact rowUpdFallback_keeps src (fieldAt pl 0 1) env s
  · exact rowOcfDistribute_keeps src (fieldAt pl 0 4) _ s

theorem plainPacket_keeps (src : Src) (net : NetAddr) (env : StartEnv) (closed : Bool) (p : Pkt) (s : State) :
    Keeps s (plainPacket src net env closed p s) := by
  unfold plainPacket
  dsimp only
  split
  · exact gated_keeps s src p.opc _ (fun t => .ite ((countOther_keeps _).of (countVital_keeps t _))
      ((reply_keeps _ src p.opc _ []).of ((countVital_keeps t _).upd rfl)))
  · split
    · exact gated_keeps s src p.opc _ (fun t => reply_keeps t src p.opc Status.badLen [])
    · split
      · exact queryPacket_keeps src net.conn p.opc p.payload s
      · exact queryPacket_keeps src net.conn p.opc p.payload s
      · exact maintPacket_keeps src net env closed p.opc p.payload s
      · exact updatePacket_keeps src env p.opc p.payload s
      · exact .refl _

theorem witnessTake_keeps (s : State) (entry : Nat) (p : Pkt) : Keeps s (witnessTake s entry p) := by
  unfold witnessTake
  dsimp only
  split
  · exact after_keeps s _ (execGrantRequest_goes _ _ _)
  · exact after_keeps s _ (execGrant_goes _ _ _)
  · exact .ite (after_keeps s _ ((execGrantRefuse_goes _ _ _).of (noteBeat_keeps s entry _))) (.refl _)
  · exact after_keeps s _ (execWitnessStatus_goes _ _ _)

theorem witnessPacket_keeps (s : State) (entry : Nat) (p : Pkt) : Keeps s (witnessPacket s entry p) := by
  unfold witnessPacket
  dsimp only
  split
  · exact .refl _
  · split
    · exact countVital_keeps s _
    · exact .ite (countVital_keeps s _) (.ite (countVital_keeps s Status.stale)
        (.ite ((countOk_keeps _).of ((witnessTake_keeps _ entry p).of ((hearFrom_keeps _ entry).of (updInter_keeps s _))))
        ((hearFrom_keeps _ entry).of (updInter_keeps s _))))

theorem peerPayload_keeps (s : State) (data : Bytes) : Keeps s (peerPayload s data) := by
  unfold peerPayload
  dsimp only
  split
  · exact .refl _
  · split
    · exact .ite (rowAck_keeps _ _ s) (.refl _)
    · exact rowHeartbeat_keeps _ s
    · exact .refl _

theorem goneReply_keeps (s : State) (i : QItem) (p : Pkt) : Keeps s (goneReply s i p) := by
  have hfree := takeFree_keeps s
  unfold goneReply
  dsimp only
  split
  next x hx => exact hfree.trans (.frame (fun hq => quietAt_next hx hq _) rfl)
  · exact ((tellTaken_keeps _ _ p.opc .notAuth).of hfree).upd rfl

theorem otherItem_keeps (s : State) (i : QItem) (p : Pkt) : Keeps s (otherItem s i p) := by
  unfold otherItem
  dsimp only
  split
  · exact goneReply_keeps s i p
  · split
    · exact witnessPacket_keeps s _ p
    · exact .refl _
    · exact .refl _
    · exact plainPacket_keeps _ _ _ true p s

/-! ## `Machine/Frame` -/

theorem checkTimebase_keeps (env : TickEnv) (s : State) : Keeps s (checkTimebase env s) :=
  .ite (.refl _) (setLive_keeps s Blk.frm fTIMEBASE _)

theorem countEqual_keeps (bad : List Inst) (s : State) (i : Inst) : Keeps s (countEqual bad s i) :=
  .ite (.of_view rfl) (.refl _)

theorem compareInsts_keeps (bad : List Inst) (s : State) : Keeps s (compareInsts bad s) :=
  (instSource_keeps _).of (.foldl (voteInsts_keeps bad s) (countEqual_keeps bad))

theorem takeReq_keeps (s : State) (r : VReq) : Keeps s (takeReq s r) := by
  unfold takeReq
  split
  · exact onWork_keeps s _
  · exact onWork_keeps s _

theorem takeInbox_keeps (p : State × Intake) (r : VReq) : Keeps p.1 (takeInbox p r).1 := by
  unfold takeInbox
  dsimp only
  exact .iteFst (.of_view rfl) (takeReq_keeps p.1 r)

theorem vitalItem_keeps (s : State) (i : QItem) (p : Pkt) : Keeps s (vitalItem s i p) := by
  unfold vitalItem
  split
  next n x _ hx =>
    have hwork : ∀ y : Inter, Keeps s { s with work := some y } := fun y => .frame (fun hq => quietAt_next hx hq _) rfl
    dsimp only
    split
    · exact (takeReq_keeps _ _).of ((countVital_keeps _ _).of (hwork _))
    · exact .ite ((countOther_keeps _).of (hwork _)) ((countVital_keeps _ _).of (hwork _))
    · have htake := fun r : VReq => (takeReq_keeps (hearFrom { s with work := some (checkVital s n p x).2 } n) r).of
        ((hearFrom_keeps _ n).of (hwork _))
      exact .ite ((countOk_keeps _).of (htake _)) (htake _)
  · exact goneReply_keeps s i p
  · exact .refl s

theorem takeItem_keeps (p : State × Intake) (i : QItem) : Keeps p.1 (takeItem p i).1 := by
  unfold takeItem
  dsimp only
  exact .iteFst (.iteFst (.refl _) (peerPayload_keeps p.1 i.data))
      (.iteFst (.refl _) (.iteFst (vitalItem_keeps p.1 i (pktOf i.data)) (otherItem_keeps p.1 i (pktOf i.data))))

theorem takeInputs_keeps (s : State) : Keeps s (takeInputs s) := by
  have hinbox : ∀ (l : List VReq) (p : State × Intake), Keeps p.1 (l.foldl takeInbox p).1 := by
    intro l
    induction l with
    | nil => exact fun p => .refl p.1
    | cons r l ih => exact fun p => (ih _).of (takeInbox_keeps p r)
  have hitems : ∀ (l : List QItem) (p : State × Intake), Keeps p.1 (l.foldl takeItem p).1 := by
    intro l
    induction l with
    | nil => exact fun p => .refl p.1
    | cons i l ih => exact fun p => (ih _).of (takeItem_keeps p i)
  unfold takeInputs
  exact Keeps.upd ((hitems _ _).of ((hinbox _ _).of ((touchQueue_keeps s 0).upd rfl))) rfl

theorem rearmGuards_keeps (s : State) : Keeps s (rearmGuards s) := by
  refine (setLive_keeps _ .prl pGUARD_TRIP _).of ((armGuards_keeps _).of (.foldl (.refl s) (fun u n => ?_)))
  split
  · exact .ite ((frameRec_keeps _ _ _ _).of (.of_view rfl)) (.refl u)
  · exact .refl u

theorem computeFrame_keeps (env : TickEnv) (st : Station) (fin : FrameIn) (s : State) : Keeps s (computeFrame env st fin s) := by
  delta computeFrame
  extract_lets _ s1 s2 s3
  have h1 : Keeps s s1 := (setLive_keeps _ .prl pREQ_SINGLE _).of (.of_view rfl)
  have h2 : Keeps s1 s2 := onWork_keeps s1 _
  have h3 : Keeps s2 s3 := rearmGuards_keeps s2
  clear_value s1 s2 s3
  exact ((h1.trans h2).trans h3).upd rfl

theorem firstFrame_keeps (s : State) : Keeps s (firstFrame s) :=
  .ite (.of_view rfl) (.refl _)

theorem openFrame_keeps (env : TickEnv) (s : State) : Keeps s (openFrame env s) :=
  .ite (freezeInputs_keeps s) ((firstFrame_keeps _).of ((freezeInputs_keeps s).upd rfl))

theorem runFrame_keeps (env : TickEnv) (s : State) : Keeps s (runFrame env s) := by
  have hvoted : Keeps s (duoStart (compareInsts env.outInst (checkTimebase env s))) :=
    (duoStart_keeps _).of ((compareInsts_keeps _ _).of (checkTimebase_keeps env s))
  unfold runFrame
  dsimp only
  split
  · exact hvoted
  next st _ =>
    have hopen := (openFrame_keeps env _).of hvoted
    refine .ite hvoted ?_
    split
    · exact hopen
    next hruns =>
      have hwork := (startWork_keeps _ (Bool.eq_false_iff.mpr hruns)).of hopen
      have hinputs : ∀ u (d : DpxBlk), Keeps s u → Keeps s (takeInputs { u with dpx := d }) := fun _ _ h =>
        (takeInputs_keeps _).of (h.upd rfl)
      exact .ite (hinputs _ _ hwork) ((computeFrame_keeps env st _ _).of (hinputs _ _ hwork))

theorem idleTick_keeps (s : State) : Keeps s (idleTick s) := by
  have htaken : Keeps s { touchQueue s 0 with xbr := setQueue (touchQueue s 0).xbr 0 (consume fun _ => true) } :=
    (touchQueue_keeps s 0).trans (.queue (consume_numbered _))
  exact (writeImage_keeps _).of ((serviceDrain_keeps _).of
      ((idleTest_keeps _).of ((drainCommit_keeps _).of ((freezeLocal_keeps _).of
    (.foldl htaken (fun u i => .ite (peerPayload_keeps u _) (.ite (dropPend_keeps u _) (otherItem_keeps u i _))))))))

theorem handOver_keeps (s : State) : Keeps s (handOver s) :=
  .ite (.refl _) ((sendStatus_keeps _).of ((relinquish_keeps s).upd rfl))

theorem releaseFrame_keeps (s : State) : Keeps s (releaseFrame s) := by
  delta releaseFrame
  extract_lets s1 _
  have h1 : Keeps s s1 := (updVital_keeps _ _).of (sendFrame_keeps s)
  clear_value s1
  exact (handOver_keeps _).of (h1.upd rfl)

theorem execReleasePoint_goes (now : Nat) (s : State) : Goes s (execReleasePoint now s) :=
  .ite (.next ((releaseFrame_keeps (later s now)).of (later_keeps s now))) (.next (later_keeps s now))

theorem upsetPtr_keeps (s : State) (e : PtrUpset) : Keeps s (upsetPtr s e) := by
  refine .queue fun u h => ?_
  split
  · exact numbered_of_subset h rfl (List.Subset.refl _)
  · exact numbered_of_subset h rfl (List.Subset.refl _)

theorem execFrameTick_goes (now : Nat) (env : TickEnv) (s : State) : Goes s (execFrameTick now env s) := by
  unfold execFrameTick
  dsimp only
  split
  · split
    · exact .ite (.next ((runFrame_keeps env _).of (.ite ((releaseFrame_keeps _).of
        (.foldl (later_keeps s now) upsetPtr_keeps))
        (.foldl (later_keeps s now) upsetPtr_keeps))))
        (.next (.foldl (later_keeps s now) upsetPtr_keeps))
    · exact .next (.foldl (later_keeps s now) upsetPtr_keeps)
  · exact .ite (.next ((idleTick_keeps _).of (.foldl (later_keeps s now) upsetPtr_keeps)))
      (.next (.foldl (later_keeps s now) upsetPtr_keeps))

theorem execLanePublish_goes (lane : Lane) (now : Nat) (dev : PubDev) (s : State) :
    Goes s (execLanePublish lane now dev s) := by
  unfold execLanePublish
  dsimp only
  split
  · exact .next (later_keeps s now)
  · exact .ite (.next (later_keeps s now)) (.next (.ite ((raiseAt_keeps _ Blk.vot vSIG_FAIL (some lane)).of
      ((later_keeps s now).upd rfl)) ((later_keeps s now).upd rfl)))

theorem drainAround_keeps (d : DrainEnv) (s : State) : Keeps s (drainAround d s) :=
  .ite ((finishDrain_keeps d _).of ((drainWork_keeps d _).of (.ite (releaseFrame_keeps s) (.refl _))))
      (.ite ((finishDrain_keeps d _).of ((releaseFrame_keeps (drainWork d s)).of (drainWork_keeps d s)))
      ((finishDrain_keeps d (drainWork d s)).of (drainWork_keeps d s)))

theorem endVoted_keeps (d : DrainEnv) (st : Station) (x : Inter) (v : OutVec) (a b : Lane) (s : State) :
    Keeps s (endVoted d st x v a b s) := by
  delta endVoted
  extract_lets done y out s1 _ s2 _ s3
  have h1 : Keeps s s1 := .getD (fun _ h => emit_keeps s st y a b h) (.refl s)
  clear_value s1 out
  have h2 : Keeps s1 s2 := .of_view rfl
  clear_value s2
  have h3 : Keeps s2 s3 := .ite ((raise_keeps _ .frm fOVERRUN).of (.of_view rfl)) (.refl s2)
  have hall := (h1.trans h2).trans h3
  exact .ite (raise_keeps s .prl _) (.ite hall ((drainAround_keeps d _).of ((commitFrame_keeps s3 y v _).of hall)))

theorem execVoteInstant_goes (now : Nat) (env : VoteEnv) (d : DrainEnv) (s : State) : Goes s (execVoteInstant now env d s) := by
  have hlater := later_keeps s now
  unfold execVoteInstant
  dsimp only
  split
  · exact .next hlater
  next x _ =>
    refine .ite (.next hlater) ?_
    have hvote := (vote_keeps { later s now with frm := { (later s now).frm with phase := .vote } } env x.counter).of
        (hlater.upd rfl)
    split
    next s1 heq =>
      rw [heq] at hvote
      exact .next ((noMajority_keeps _).of (hvote.upd rfl))
    next s1 a b heq =>
      have hs1 : Keeps s s1 := by rwa [heq] at hvote
      exact .ite (.next hs1) (.next ((endVoted_keeps d _ _ _ a b s1).of hs1))

theorem execOverrun_goes (now : Nat) (s : State) : Goes s (execOverrun now s) :=
  .ite (.next ((raise_keeps _ Blk.frm fOVERRUN).of ((later_keeps s now).upd rfl))) (.next (later_keeps s now))

theorem execWatchdog_goes (now : Nat) (s : State) : Goes s (execWatchdog now s) :=
  .ite (.next ((raise_keeps (later s now) Blk.frm fWATCHDOG).of (later_keeps s now))) (.next (later_keeps s now))

theorem execShadowFramesMatched_goes (lane : Lane) (s : State) : Goes s (execShadowFramesMatched lane s) :=
  .ite (.next ((laneTo_keeps s lane LaneSt.voting).upd rfl)) (.next (.refl _))

theorem execInstanceIn_goes (inst : Inst) (s : State) : Goes s (execInstanceIn inst s) :=
  .ite (.next ((instSource_keeps _).of ((countDuo_keeps _).of ((countDuo_keeps s).upd rfl)))) (.next (.refl _))

theorem execPralineDuoLimit_goes (now : Nat) (s : State) : Goes s (execPralineDuoLimit now s) :=
  .ite (.next ((raise_keeps _ Blk.prl pDUO_LIMIT).of ((countDuo_keeps (later s now)).of (later_keeps s now))))
      (.next ((countDuo_keeps (later s now)).of (later_keeps s now)))

theorem execDuoLimit_goes (now : Nat) (s : State) : Goes s (execDuoLimit now s) := by
  have hlater := later_keeps s now
  unfold execDuoLimit
  extract_lets s0 _ s1
  change Keeps s s0 at hlater
  clear_value s0
  have h1 : Keeps s s1 := (raise_keeps _ .vot vDUO_LIMIT).of (hlater.upd rfl)
  clear_value s1
  split
  · exact .next hlater
  · exact .ite (.next hlater) (.ite (.next (h1.upd rfl)) (.next (h1.upd rfl)))

theorem execDuoSwitchoverTimeout_goes (now : Nat) (s : State) : Goes s (execDuoSwitchoverTimeout now s) := by
  unfold execDuoSwitchoverTimeout
  dsimp only
  split
  · exact .next (later_keeps s now)
  · exact .ite (.next (later_keeps s now)) (.next ((later_keeps s now).upd rfl))

theorem execLaneFault_goes (lane : Lane) (present : Bool) (now : Nat) (s : State) : Goes s (execLaneFault lane present now s) :=
  .ite (.next ((laneFence_keeps _ lane).of ((raiseAt_keeps _ Blk.vot vLANE_FAULT (some lane)).of
      ((later_keeps s now).upd rfl)))) (.ite (.next ((later_keeps s now).upd rfl))
      (.next ((lower_keeps _ Blk.vot vLANE_FAULT).of ((later_keeps s now).upd rfl))))

theorem scrubTable_keeps (bad : List Inst) (s : State) (i : Inst) : Keeps s (scrubTable bad s i) :=
  .ite ((instOut_keeps _ i).of (.of_view rfl)) (.of_view rfl)

theorem execTableScrub_goes (bad : List Inst) (now : Nat) (s : State) : Goes s (execTableScrub bad now s) :=
  .next ((instSource_keeps _).of (.foldl (later_keeps s now) (scrubTable_keeps bad)))

/-! ## `Machine/Interlock` -/

theorem atTick_keeps (s : State) (f : Station → Prt → FrameIn → Inter → Inter) : Keeps s (atTick s f) := by
  unfold atTick
  split
  · exact .ite (.of_view rfl) (.refl _)
  · exact .refl _

theorem execTimerExpiry_goes (num now : Nat) (s : State) : Goes s (execTimerExpiry num now s) :=
  .next ((atTick_keeps (later s now) _).of (later_keeps s now))

theorem execMoveTimerExpiry_goes (obj now : Nat) (s : State) : Goes s (execMoveTimerExpiry obj now s) :=
  .next ((atTick_keeps (later s now) _).of (later_keeps s now))

theorem execCloseTimerExpiry_goes (obj now : Nat) (s : State) : Goes s (execCloseTimerExpiry obj now s) :=
  .next ((atTick_keeps (later s now) _).of (later_keeps s now))

theorem execSettlePeriodEnd_goes (obj now : Nat) (s : State) : Goes s (execSettlePeriodEnd obj now s) :=
  .next ((atTick_keeps (later s now) _).of (later_keeps s now))

theorem execBoundaryAgeLimit_goes (obj now : Nat) (s : State) : Goes s (execBoundaryAgeLimit obj now s) :=
  .next ((atTick_keeps (later s now) _).of (later_keeps s now))

theorem execWaitLimitExpiry_goes (route now : Nat) (s : State) : Goes s (execWaitLimitExpiry route now s) :=
  .next ((atTick_keeps (later s now) _).of (later_keeps s now))

theorem execApproachLockExpiry_goes (route now : Nat) (s : State) : Goes s (execApproachLockExpiry route now s) :=
  .next ((atTick_keeps (later s now) _).of (later_keeps s now))

theorem execOverlapExpiry_goes (route now : Nat) (s : State) : Goes s (execOverlapExpiry route now s) :=
  .next ((atTick_keeps (later s now) _).of (later_keeps s now))

theorem execEmergencyReleaseExpiry_goes (route now : Nat) (s : State) : Goes s (execEmergencyReleaseExpiry route now s) :=
  .next ((atTick_keeps (later s now) _).of (later_keeps s now))

/-! ## `Machine/Packets` -/

theorem onPort_keeps (s : State) (conn : Nat) (f : PortCount → PortCount) : Keeps s (onPort s conn f) :=
  .of_view rfl

theorem takeFragment_keeps (s : State) (d : DatagramIn) (ident off : Nat) (more : Bool) :
    Keeps s (takeFragment s d ident off more).2 := by
  unfold takeFragment
  dsimp only
  split
  · exact .of_view rfl
  · split
    · exact .of_view rfl
    · split
      · exact .of_view rfl
      · exact .of_view rfl

theorem fromStore?_keeps (s : State) (n : Nat) (p : Pkt) {t : State} (h : fromStore? s n p = some t) : Keeps s t := by
  unfold fromStore? at h
  dsimp only at h
  split at h
  · obtain rfl := Option.some.inj h
    have hcount := fun conn : Nat => (countReply_keeps { s with cmd := { s.cmd with dup := satAdd 65535 1 s.cmd.dup } } conn).of
      (.of_view (s := s) rfl)
    have hsent : ∀ u, Keeps s u → ∀ l, Keeps s { u with sent := l } := fun _ hu _ => hu.upd rfl
    exact hsent _ (hcount _) _
  · split at h
    · obtain rfl := Option.some.inj h
      exact .of_view rfl
    · cases h

theorem noRoom_keeps (s : State) (conn : Nat) : Keeps s (noRoom s conn) := by
  delta noRoom
  extract_lets s1 _
  have h1 : Keeps s s1 := onPort_keeps s conn _
  clear_value s1
  exact (raise_keeps _ .cmd cQUEUE_FULL).of (h1.upd rfl)

theorem pushCmd_keeps (s : State) (d : DatagramIn) (bs : Bytes) : Keeps s { s with xbr := pushCmd s.xbr d bs } := by
  have haddress : ∀ u, NumberedQueue u → NumberedQueue { u with items := u.items.dropLast ++ u.items.getLast?.toList.map fun i
      =>
      { i with ip := d.ip, udpp := d.udpp } } := fun _ h => numbered_mapLast h _ fun _ => rfl
  exact (pushQueue_keeps s 0 d.conn bs).trans (Keeps.queue (s := { s with xbr := pushQueue s.xbr 0 d.conn bs }) (q := 0)
      haddress)

theorem queueVital_keeps (s : State) (d : DatagramIn) (n : Nat) (p : Pkt) (bs : Bytes) : Keeps s (queueVital s d n p bs) := by
  unfold queueVital
  split
  next t hstored =>
    split at hstored
    · cases hstored
    · exact fromStore?_keeps s n p hstored
  · have htouch := touchQueue_keeps s 0
    exact .ite (onPort_keeps s _ _) (.ite (.refl s) (.ite ((noRoom_keeps _ _).of htouch)
        ((htouch.trans (pushCmd_keeps _ d bs)).upd rfl)))

theorem queuePlain_keeps (s : State) (d : DatagramIn) (n : Nat) (bs : Bytes) : Keeps s (queuePlain s d n bs) := by
  have htouch := (touchQueue_keeps _ 0).of (hearFrom_keeps s n)
  exact .ite (htouch.trans (pushCmd_keeps _ d bs)) ((noRoom_keeps _ _).of htouch)

theorem passOn_keeps (s : State) (d : DatagramIn) (env : StartEnv) (n : Nat) (p : Pkt) (bs : Bytes) :
    Keeps s (passOn s d env n p bs) := by
  unfold passOn
  dsimp only
  split
  · split
    · exact .refl _
    · exact .ite (countOther_keeps s) ((reply_keeps (countOther s) (srcOf n p) p.opc _ []).of (countOther_keeps s))
    · exact queueVital_keeps s d n p bs
  · split
    · exact .ite (.refl _) (witnessPacket_keeps s n p)
    · exact countOther_keeps s
  · exact .ite (queuePlain_keeps s d n bs) (plainPacket_keeps (srcOf n p) _ env d.closed p s)

theorem checkPacket_keeps (s : State) (d : DatagramIn) (env : StartEnv) (n : Nat) (q : Partner) (bs : Bytes) :
    Keeps s (checkPacket s d env n q bs) :=
  .ite ((countOther_keeps _).of (onPort_keeps s d.conn _))
      (.ite (.ite (countOther_keeps s) (.ite (.refl _) (reply_keeps s _ ((pktOf bs).opc) Status.badLen [])))
      (.ite (.ite (.of_view rfl) ((reply_keeps _ _ ((pktOf bs).opc) Status.badCrc []).of (.of_view rfl)))
      (.ite ((countOther_keeps _).of (onPort_keeps s d.conn _))
      (.ite (.ite (countOther_keeps s) ((reply_keeps (countOther s) _ ((pktOf bs).opc) Status.notAuth []).of
      (countOther_keeps s))) (.ite (.ite (.refl _) (reply_keeps s _ ((pktOf bs).opc) Status.badOpc []))
      (passOn_keeps s d env n (pktOf bs) bs))))))

theorem wholeDatagram_keeps (s : State) (d : DatagramIn) (env : StartEnv) (bs : Bytes) :
    Keeps s (wholeDatagram s d env bs) := by
  delta wholeDatagram
  extract_lets s1 p s2 _
  have h1 : Keeps s s1 := onPort_keeps s d.conn _
  have h2 : Keeps s1 s2 := (countOther_keeps _).of (onPort_keeps s1 d.conn _)
  clear_value s2 s1
  split
  · exact (checkPacket_keeps s1 d env _ _ bs).of h1
  · exact .ite ((checkPacket_keeps s1 d env 33 _ bs).of h1) ((raise_keeps _ .cmd cUNKNOWN_SRC).of ((h1.trans h2).upd rfl))

theorem execDatagram_goes (d : DatagramIn) (env : StartEnv) (now : Nat) (s : State) : Goes s (execDatagram d env now s) := by
  have hlater := later_keeps s now
  unfold execDatagram
  refine .ite (.next hlater) ?_
  split
  · exact .next ((wholeDatagram_keeps _ d env _).of hlater)
  next ident off more _ =>
    have hfrag := (takeFragment_keeps (later s now) d ident off more).of hlater
    split
    next bs s1 heq => exact .next ((wholeDatagram_keeps s1 d env bs).of (by rwa [heq] at hfrag))
    next s1 heq => exact .next (by rwa [heq] at hfrag)

theorem execReassemblyTimeout_goes (conn ident now : Nat) (s : State) : Goes s (execReassemblyTimeout conn ident now s) :=
  .next ((later_keeps s now).upd rfl)

theorem execPendingExpiry_goes (entry seq : Nat) (s : State) : Goes s (execPendingExpiry entry seq s) :=
  .next (.of_view rfl)

theorem execPartnerSilent_goes (entry now : Nat) (s : State) : Goes s (execPartnerSilent entry now s) :=
  .ite (.next (later_keeps s now)) (.next ((raise_keeps _ Blk.cmd _).of ((later_keeps s now).upd rfl)))

/-! ## `Machine/ProofTest` -/

theorem execProofTestDue_goes (lane : Lane) (now : Nat) (s : State) : Goes s (execProofTestDue lane now s) := by
  unfold execProofTestDue
  dsimp only
  split
  · exact .next (later_keeps s now)
  · exact .ite (.next (later_keeps s now)) (.next ((idleTest_keeps _).of ((later_keeps s now).upd rfl)))

theorem execPtLate_goes (lane : Lane) (now : Nat) (s : State) : Goes s (execPtLate lane now s) := by
  unfold execPtLate
  dsimp only
  split
  · exact .next (later_keeps s now)
  · exact .ite (.next (later_keeps s now)) (.next ((raiseAt_keeps _ Blk.bst bPT_LATE (some lane)).of
      ((later_keeps s now).upd rfl)))

theorem noteTest_keeps (s : State) (l : Lane) (r : LastTest) : Keeps s (noteTest s l r) :=
  .of_view rfl

theorem rewrapLane_keeps (s : State) (l : Lane) : Keeps s (rewrapLane s l) :=
  .of_view rfl

theorem rekeyLane_keeps (s : State) (l : Lane) : Keeps s (rekeyLane s l) :=
  .ite (.refl _) (.of_view rfl)

theorem unkeyLane_keeps (s : State) (l : Lane) (step : Nat) : Keeps s (unkeyLane s l step) :=
  .ite (.refl _) (.of_view rfl)

theorem testSources_keeps (s : State) (l : Lane) : Keeps s (testSources s l) :=
  (setLiveAt_keeps _ Blk.bst bPT_HOLD (some l) _).of ((setLiveAt_keeps _ Blk.bst bKEYZ_FAIL (some l) _).of
      ((setLiveAt_keeps _ Blk.bst bRESTORE_FAIL (some l) _).of (setLiveAt_keeps s Blk.bst bPT_FAIL (some l) _)))

theorem afterPass_keeps (s : State) (l : Lane) : Keeps s (afterPass s l) :=
  .ite ((setDue_keeps _ l s.now).of (((unmark_keeps _ l).of (laneTo_keeps s l LaneSt.fenced)).upd rfl)) (.of_view rfl)

theorem reloadLane_keeps (s : State) (l : Lane) (again : Bool) : Keeps s (reloadLane s l again) :=
  .ite (.of_view rfl) (.refl _)

theorem tellRetry_keeps (s : State) (again : Bool) : Keeps s (tellRetry s again) :=
  .ite ((raise_keeps _ Blk.bst bPT_RETRY).of (.of_view rfl)) (.refl _)

theorem testPasses_keeps (s : State) (l : Lane) (dur : Nat) : Keeps s (testPasses s l dur) := by
  delta testPasses
  extract_lets again s1 clean s2
  have h1 : Keeps s s1 := noteTest_keeps s l _
  clear_value s1
  have h2 : Keeps s s2 := h1.upd rfl
  exact (afterPass_keeps _ l).of ((tellRetry_keeps _ again).of ((testSources_keeps _ l).of
    ((rekeyLane_keeps _ l).of ((rewrapLane_keeps _ l).of ((reloadLane_keeps s2 l again).of h2)))))

theorem testFails_keeps (s : State) (l : Lane) (f : TestFailure) (dur : Nat) : Keeps s (testFails s l f dur) :=
  .ite ((testSources_keeps _ l).of ((unkeyLane_keeps _ l f.step).of
      (((laneTo_keeps _ l LaneSt.fenced).of (noteTest_keeps s l _)).upd rfl)))
      ((startTest_keeps _ l true _).of ((testSources_keeps _ l).of
      ((unkeyLane_keeps _ l f.step).of (((laneTo_keeps _ l LaneSt.fenced).of (noteTest_keeps s l _)).upd rfl))))

theorem execProofTestEnd_goes (lane : Lane) (res : TestResult) (now : Nat) (s : State) :
    Goes s (execProofTestEnd lane res now s) := by
  unfold execProofTestEnd
  dsimp only
  split
  · exact .next (later_keeps s now)
  · split
    · exact .next ((idleTest_keeps _).of ((testFails_keeps (later s now) lane _ _).of (later_keeps s now)))
    · exact .next ((idleTest_keeps _).of ((testPasses_keeps (later s now) lane _).of (later_keeps s now)))

/-! ## Every command -/

theorem exec_goes (i : Instr) (s : State) : Goes s (exec i s) := by
  cases i with
  | frameTick now env => exact execFrameTick_goes now env s
  | lanePublish lane now dev => exact execLanePublish_goes lane now dev s
  | voteInstant now env d => exact execVoteInstant_goes now env d s
  | releasePoint now => exact execReleasePoint_goes now s
  | overrun now => exact execOverrun_goes now s
  | watchdog now => exact execWatchdog_goes now s
  | shadowFramesMatched lane => exact execShadowFramesMatched_goes lane s
  | instanceIn inst => exact execInstanceIn_goes inst s
  | pralineDuoLimit now => exact execPralineDuoLimit_goes now s
  | duoLimit now => exact execDuoLimit_goes now s
  | duoSwitchoverTimeout now => exact execDuoSwitchoverTimeout_goes now s
  | laneFault lane present now => exact execLaneFault_goes lane present now s
  | tableScrub bad now => exact execTableScrub_goes bad now s
  | timerExpiry num now => exact execTimerExpiry_goes num now s
  | moveTimerExpiry obj now => exact execMoveTimerExpiry_goes obj now s
  | closeTimerExpiry obj now => exact execCloseTimerExpiry_goes obj now s
  | settlePeriodEnd obj now => exact execSettlePeriodEnd_goes obj now s
  | boundaryAgeLimit obj now => exact execBoundaryAgeLimit_goes obj now s
  | waitLimitExpiry route now => exact execWaitLimitExpiry_goes route now s
  | approachLockExpiry route now => exact execApproachLockExpiry_goes route now s
  | overlapExpiry route now => exact execOverlapExpiry_goes route now s
  | emergencyReleaseExpiry route now => exact execEmergencyReleaseExpiry_goes route now s
  | proofTestDue lane now => exact execProofTestDue_goes lane now s
  | proofTestEnd lane res now => exact execProofTestEnd_goes lane res now s
  | ptLate lane now => exact execPtLate_goes lane now s
  | fieldCycleStart c env => exact execFieldCycleStart_goes c env s
  | offsetCorrection c now => exact execOffsetCorrection_goes c now s
  | uplink c node copyA copyB now => exact execUplink_goes c node copyA copyB now s
  | syncFrame c arr now => exact execSyncFrame_goes c arr now s
  | dropout c node => exact execDropout_goes c node s
  | returnToAbsent c node => exact execReturnToAbsent_goes c node s
  | rangeReply c chan data late now => exact execRangeReply_goes c chan data late now s
  | rangingWindowTimeout c chan => exact execRangingWindowTimeout_goes c chan s
  | ack c data => exact execAck_goes c data s
  | ocfState c data => exact execOcfState_goes c data s
  | diagReply c data => exact execDiagReply_goes c data s
  | configSetRepeat c node => exact execConfigSetRepeat_goes c node s
  | ocfRestart c node => exact execOcfRestart_goes c node s
  | guardianViolation c chan now => exact execGuardianViolation_goes c chan now s
  | guardianBlockedExpiry c chan => exact execGuardianBlockedExpiry_goes c chan s
  | barrierDownstreamFrame f now => exact execBarrierDownstreamFrame_goes f now s
  | restartEnd now => exact execRestartEnd_goes now s
  | barrierUpstreamFrame fault now => exact execBarrierUpstreamFrame_goes fault now s
  | barrierLoss up now => exact execBarrierLoss_goes up now s
  | keyRoundRepeat now => exact execKeyRoundRepeat_goes now s
  | toffeeExpiry now => exact execToffeeExpiry_goes now s
  | filtExpiry input now => exact execFiltExpiry_goes input now s
  | discrepancyExpiry chan now => exact execDiscrepancyExpiry_goes chan now s
  | axleCount pair levels now => exact execAxleCount_goes pair levels now s
  | shuntTest input ok => exact execShuntTest_goes input ok s
  | locationTest bank bad aborted => exact execLocationTest_goes bank bad aborted s
  | offPulse out ok now => exact execOffPulse_goes out ok now s
  | tripChannelTest chan res now => exact execTripChannelTest_goes chan res now s
  | degx chan now => exact execDegx_goes chan now s
  | degxOpen chan now => exact execDegxOpen_goes chan now s
  | outputFault out trip short now => exact execOutputFault_goes out trip short now s
  | faultClassification bank high now => exact execFaultClassification_goes bank high now s
  | supplySag x2 now => exact execSupplySag_goes x2 now s
  | x2Loss now => exact execX2Loss_goes now s
  | converter now => exact execConverter_goes now s
  | restartTestsEnd res now => exact execRestartTestsEnd_goes res now s
  | x2Return x2 now => exact execX2Return_goes x2 now s
  | x2WithinRange x2 now => exact execX2WithinRange_goes x2 now s
  | converterRecovery now => exact execConverterRecovery_goes now s
  | inputChange input level now => exact execInputChange_goes input level now s
  | discrepancyFaultClear chan now => exact execDiscrepancyFaultClear_goes chan now s
  | comparatorDisagreement input now => exact execComparatorDisagreement_goes input now s
  | datagram d env now => exact execDatagram_goes d env now s
  | reassemblyTimeout conn ident now => exact execReassemblyTimeout_goes conn ident now s
  | pendingExpiry entry seq => exact execPendingExpiry_goes entry seq s
  | partnerSilent entry now => exact execPartnerSilent_goes entry now s
  | routeSet src route wait => exact execRouteSet_goes src route wait s
  | routeCancel src route => exact execRouteCancel_goes src route s
  | emergencyRelease src route => exact execEmergencyRelease_goes src route s
  | pointMove src group target pos => exact execPointMove_goes src group target pos s
  | sectionRestore src obj => exact execSectionRestore_goes src obj s
  | blockSet src onRoute target => exact execBlockSet_goes src onRoute target s
  | blockClear src onRoute target => exact execBlockClear_goes src onRoute target s
  | guardAck src guard => exact execGuardAck_goes src guard s
  | stationCmd src code arg => exact execStationCmd_goes src code arg s
  | boundaryState src msg => exact execBoundaryState_goes src msg s
  | grantRequest p now => exact execGrantRequest_goes p now s
  | startWindowEnd now => exact execStartWindowEnd_goes now s
  | witnessStartEnd now => exact execWitnessStartEnd_goes now s
  | grant p now => exact execGrant_goes p now s
  | takeoverFirstTick now => exact execTakeoverFirstTick_goes now s
  | grantRefuse why now => exact execGrantRefuse_goes why now s
  | witnessStatus p now => exact execWitnessStatus_goes p now s
  | beat now => exact execBeat_goes now s
  | leaseLapse now => exact execLeaseLapse_goes now s
  | waferSegment g now => exact execWaferSegment_goes g now s
  | waferSegmentTimeout now => exact execWaferSegmentTimeout_goes now s
  | waferAcknowledgement frame acode now => exact execWaferAcknowledgement_goes frame acode now s
  | heartbeat h now => exact execHeartbeat_goes h now s
  | heartbeatSend now => exact execHeartbeatSend_goes now s
  | waferMiss now => exact execWaferMiss_goes now s
  | oldActiveToStandby now => exact execOldActiveToStandby_goes now s
  | peerDown now => exact execPeerDown_goes now s
  | witnessDown now => exact execWitnessDown_goes now s
  | identity src => exact execIdentity_goes src s
  | status src => exact execStatus_goes src s
  | objectRead src first count => exact execObjectRead_goes src first count s
  | routeRead src first count => exact execRouteRead_goes src first count s
  | crumbRead src first count => exact execCrumbRead_goes src first count s
  | eventRead src start maxb minsev => exact execEventRead_goes src start maxb minsev s
  | subscribe src period => exact execSubscribe_goes src period s
  | timeRead src now => exact execTimeRead_goes src now s
  | sessionOpen src net kslot now => exact execSessionOpen_goes src net kslot now s
  | sessionOpenProof src net kslot chal proof now => exact execSessionOpenProof_goes src net kslot chal proof now s
  | sessionClose src => exact execSessionClose_goes src s
  | sessionTimeout now => exact execSessionTimeout_goes now s
  | authLockoutEnd entry now => exact execAuthLockoutEnd_goes entry now s
  | regReadCmd src addr count => exact execRegReadCmd_goes src addr count s
  | regWriteCmd src addr words => exact execRegWriteCmd_goes src addr words s
  | commit src => exact execCommit_goes src s
  | stageDiscard src => exact execStageDiscard_goes src s
  | partnerStage src entry words => exact execPartnerStage_goes src entry words s
  | settingsSave src => exact execSettingsSave_goes src s
  | laneOut src lane => exact execLaneOut_goes src lane s
  | laneIn src lane => exact execLaneIn_goes src lane s
  | duoExtend src hours => exact execDuoExtend_goes src hours s
  | lioRestart src => exact execLioRestart_goes src s
  | switchover src => exact execSwitchover_goes src s
  | debug src level lane => exact execDebug_goes src level lane s
  | lifecycle src target serial => exact execLifecycle_goes src target serial s
  | keyLoad src ktype index slot epub wrapped now => exact execKeyLoad_goes src ktype index slot epub wrapped now s
  | keyErase src ktype index slot => exact execKeyErase_goes src ktype index slot s
  | timeSet src time now => exact execTimeSet_goes src time now s
  | restartModule src env now => exact execRestartModule_goes src env now s
  | restartCold src env now => exact execRestartCold_goes src env now s
  | tamperRearm src serial closed env now => exact execTamperRearm_goes src serial closed env now s
  | updBegin src part bank header => exact execUpdBegin_goes src part bank header s
  | updBlock src xid num data crc => exact execUpdBlock_goes src xid num data crc s
  | blockNote xid num readback => exact execBlockNote_goes xid num readback s
  | updBitmap src xid first => exact execUpdBitmap_goes src xid first s
  | updVerify src xid => exact execUpdVerify_goes src xid s
  | verifyEnd told now => exact execVerifyEnd_goes told now s
  | updActivate src part unit delay now => exact execUpdActivate_goes src part unit delay now s
  | laneBoot lane ok now => exact execLaneBoot_goes lane ok now s
  | preload lane ok => exact execPreload_goes lane ok s
  | exchangeAbandon now => exact execExchangeAbandon_goes now s
  | healthy now => exact execHealthy_goes now s
  | confirmWindowExpiry env now => exact execConfirmWindowExpiry_goes env now s
  | updConfirm src part => exact execUpdConfirm_goes src part s
  | updAbort src xid => exact execUpdAbort_goes src xid s
  | updFallback src part env now => exact execUpdFallback_goes src part env now s
  | ocfDistribute src pkg mask => exact execOcfDistribute_goes src pkg mask s
  | svcRestartEnd ok now => exact execSvcRestartEnd_goes ok now s
  | echo src data => exact execEcho_goes src data s
  | portCounters src conn => exact execPortCounters_goes src conn s
  | laneDiag src lane start maxb => exact execLaneDiag_goes src lane start maxb s
  | flatchClear src blk mask => exact execFlatchClear_goes src blk mask s
  | xbrQack q iseq => exact execXbrQack_goes q iseq s
  | xbrQpush q conn data master => exact execXbrQpush_goes q conn data master s
  | xbrQflush q => exact execXbrQflush_goes q s
  | semAcquire n master now => exact execSemAcquire_goes n master now s
  | semRelease n master => exact execSemRelease_goes n master s
  | semaphoreTimeout n now => exact execSemaphoreTimeout_goes n now s
  | xbrWinDone now => exact execXbrWinDone_goes now s
  | transferTimeout addr write => exact execTransferTimeout_goes addr write s
  | registerWrite acc writer addr word now => exact execRegisterWrite_goes acc writer addr word now s
  | frmPhclr word => exact execFrmPhclr_goes word s
  | prlCclr word => exact execPrlCclr_goes word s
  | votClr word => exact execVotClr_goes word s
  | bstClr word => exact execBstClr_goes word s
  | frnClr c word => exact execFrnClr_goes c word s
  | lioClr word => exact execLioClr_goes word s
  | cmdClr word => exact execCmdClr_goes word s
  | xbrClr word => exact execXbrClr_goes word s
  | dpxClr word => exact execDpxClr_goes word s
  | evrClr word => exact execEvrClr_goes word s
  | pwrClr word => exact execPwrClr_goes word s
  | bridgeEcc addr now => exact execBridgeEcc_goes addr now s
  | eventRecordTaken now => exact execEventRecordTaken_goes now s
  | flush now => exact execFlush_goes now s
  | flushEnd ok now => exact execFlushEnd_goes ok now s
  | segmentCopy ok => exact execSegmentCopy_goes ok s
  | mark now => exact execMark_goes now s
  | ptpSync domain utc now => exact execPtpSync_goes domain utc now s
  | ptpUnlock now => exact execPtpUnlock_goes now s
  | rtcWrite now => exact execRtcWrite_goes now s
  | powerOn env now => exact execPowerOn_goes env now s
  | holdup x1 now => exact execHoldup_goes x1 now s
  | x1Return x1 now => exact execX1Return_goes x1 now s
  | holdupSafeStop now => exact execHoldupSafeStop_goes now s
  | holdupZeroise now => exact execHoldupZeroise_goes now s
  | backup now => exact execBackup_goes now s
  | tamper now => exact execTamper_goes now s
  | cellMeasurement mv => exact execCellMeasurement_goes mv s
  | s1Release pressed env now => exact execS1Release_goes pressed env now s
  | s1Stuck now => exact execS1Stuck_goes now s
  | s1Rearm now => exact execS1Rearm_goes now s
  | svcWdog now => exact execSvcWdog_goes now s
  | temp tenths => exact execTemp_goes tenths s
  | rail now => exact execRail_goes now s
  | opticInserted conn qualified => exact execOpticInserted_goes conn qualified s
  | timebaseLoss now => exact execTimebaseLoss_goes now s
  | x1Range x1 now => exact execX1Range_goes x1 now s
  | backupDomainLoss now => exact execBackupDomainLoss_goes now s

/-- A step that answers a next state has run its command, or idled on an empty queue. -/
theorem step_cases {s t : State} (ht : step s = .next t) :
    t = s ∨ ∃ c rest, s.pending = c :: rest ∧ Keeps { s with pending := rest } t := by
  cases hp : s.pending with
  | nil =>
    rw [step_nil s hp] at ht
    cases ht
    exact .inl rfl
  | cons c rest =>
    obtain ⟨u, hexec, hkeeps⟩ := exec_goes c { s with pending := rest }
    rw [step_cons s c rest hp, hexec] at ht
    cases ht
    exact .inr ⟨c, rest, rfl, hkeeps⟩

/-- Settles O1: the step is written so. -/
theorem stepTakesTheFrontCommand : Obligations.StepTakesTheFrontCommand :=
  ⟨fun c rest s => step_cons s c rest, step_nil⟩

/-- Settles O2: each command follows the rules above, which leave the queue of commands and never take time back. -/
theorem everyCommandCompletes : Obligations.EveryCommandCompletes := by
  intro i s
  obtain ⟨t, hexec, hkeeps⟩ := exec_goes i s
  exact ⟨t, hexec, hkeeps.pending, hkeeps.now⟩

/-- Settles O3: no command of the 199 can leave a live source without its sticky bit. -/
theorem everyStepKeepsStickyBits : Obligations.EveryStepKeepsStickyBits := by
  intro s t h ht
  obtain rfl | ⟨c, rest, -, hkeeps⟩ := step_cases ht
  · exact h
  · exact hkeeps.latched h

/-- Settles O4: a command that gives a module a frame finds it running, and a stop takes the frame with it. -/
theorem everyStepKeepsStoppedQuiet : Obligations.EveryStepKeepsStoppedQuiet := by
  intro s t h ht
  obtain rfl | ⟨c, rest, -, hkeeps⟩ := step_cases ht
  · exact h
  · exact hkeeps.quiet h

/-- Settles O5: an item enters a queue under that queue's next number, and the number after 65,535 is 1. -/
theorem everyStepKeepsQueueNumbers : Obligations.EveryStepKeepsQueueNumbers := by
  intro s t h ht
  obtain rfl | ⟨c, rest, -, hkeeps⟩ := step_cases ht
  · exact h
  · exact hkeeps.numbered h

end Sys2Proof.Proofs.Invariants

/-! PROOFS. The exchange bridge (R300 to R311, R320) and the interrupt lines (R325): acknowledges, pushes and flushes of the queues,
the semaphores, and the accesses that end in an error. -/

namespace Sys2Proof.Proofs.Bridge

open Sys2Proof Sys2Proof.Machine Sys2Proof.Safety
open Sys2Proof.Proofs.RegisterWrites (exec_service_ends answeredOnes onesOf)

/-! ## Interrupt lines -/

/-- Two words of sources and enables share a bit (R325). -/
theorem and_ne_zero_iff (x : BitVec 16) (y : Word) :
    ((x &&& y.setWidth 16) != 0) = true ↔ ∃ n, n < 16 ∧ x.getLsbD n = true ∧ y.getLsbD n = true := by
  have hzero : x &&& y.setWidth 16 = 0 ↔ ∀ n, n < 16 → (x &&& y.setWidth 16).getLsbD n = false :=
    ⟨fun h n _ => by rw [h]; exact BitVec.getLsbD_zero,
      fun h => BitVec.eq_of_getLsbD_eq fun n hn => (h n hn).trans BitVec.getLsbD_zero.symm⟩
  rw [bne_iff_ne, ne_eq, hzero]
  constructor
  · intro h
    by_contra hno
    refine h fun n hn => Bool.eq_false_iff.mpr fun hboth => hno ⟨n, hn, ?_⟩
    simpa [hn] using hboth
  · rintro ⟨n, hn, hx, hy⟩ h
    have hboth := h n hn
    rw [BitVec.getLsbD_and, BitVec.getLsbD_setWidth, hx, hy] at hboth
    simp [hn] at hboth

/-- Settles O7, by the shared bit of the two words. -/
theorem interruptLineFollowsEnabledStickyBits : Obligations.InterruptLineFollowsEnabledStickyBits := fun s b =>
  ⟨and_ne_zero_iff (faultOf s.faults b).latch (faultOf s.faults b).ien, fun t h => by simp only [irqLine, h]⟩

/-! ## Accesses that end in an error -/

theorem accessError_ends (s : State) (a cause : Nat) (wr : Bool) : EndsInError s (accessError s a cause wr) a cause wr := rfl

theorem unlessFenced_fenced {s : State} (h : s.xbr.fenced = true) (a : Nat) (f : State → State) :
    EndsInError s (unlessFenced s a f) a 8 true := by
  rw [unlessFenced, if_pos h]
  exact accessError_ends s a 8 true

theorem unlessFenced_free {s : State} (h : s.xbr.fenced = false) (a : Nat) (f : State → State) : unlessFenced s a f = f s := by
  rw [unlessFenced, h, if_neg Bool.false_ne_true]

theorem transferCause?_fenced {s : State} (h : s.xbr.fenced = true) (x : Transfer) (a : Nat) : transferCause? s x a = some 8 := by
  simp only [transferCause?, h, if_true]

/-- The words that a transfer in error answers: a read's count of them (R301). -/
theorem onesOf_eq (x : Transfer) : onesOf x = if x.write then [] else List.replicate x.count 0xFFFFFFFF := by
  cases hw : x.write <;> simp [onesOf, Transfer.size, hw]

/-- Settles O15: each access is asked for under `unlessFenced`, and a transfer finds cause 8 before any other. -/
theorem fencedBridgeRefusesEveryAccess : Obligations.FencedBridgeRefusesEveryAccess := by
  intro s h
  have hlater : ∀ now, (later s now).xbr.fenced = true := fun _ => h
  refine ⟨fun q iseq => ⟨_, rfl, unlessFenced_fenced h _ _⟩, fun q conn data master hm => ?_,
    fun q => ⟨_, rfl, unlessFenced_fenced h _ _⟩,
    fun n master now => ⟨_, rfl, unlessFenced_fenced (hlater now) _ _⟩, fun n master => ⟨_, rfl, unlessFenced_fenced h _ _⟩,
    fun x master addr w now => ?_⟩
  · simp only [exec, execXbrQpush, if_neg hm]
    split
    · exact ⟨_, rfl, unlessFenced_fenced h _ _⟩
    · exact ⟨_, rfl, unlessFenced_fenced h _ _⟩
  · have hends := exec_service_ends master w (transferCause?_fenced (hlater now) x addr)
    rwa [answeredOnes, onesOf_eq] at hends

/-- Raising a source that is not live sets its sticky bit (R326). -/
theorem raiseAt_dead_isLatched {s : State} {b : Blk} {n : Nat} (lane : Option Lane) (hn : n < 16) (h : isLive s b n = false) :
    isLatched (raiseAt s b n lane) b n = true := by
  have hlatch := (raiseAt_bits s b n lane h b).2.1
  rw [if_pos rfl] at hlatch
  rw [isLatched, hlatch, BitVec.getLsbD_or, srcBit_get _ _ hn]
  simp

/-- Settles O16: the timeout's error and the ECC error's, then the raising of `BRIDGE_ECC`. -/
theorem bridgeErrorsAreCountedAndFence : Obligations.BridgeErrorsAreCountedAndFence := by
  intro s
  refine ⟨fun addr write => ⟨_, rfl, accessError_ends s addr 4 write⟩, fun addr now hdead => ?_⟩
  let u := accessError (later s now) addr 5 false
  have hu : isLive u .xbr xBRIDGE_ECC = false := hdead
  refine ⟨u, raise u .xbr xBRIDGE_ECC, accessError_ends _ _ _ _, rfl, raise_frame u _ _, raise_isLive u _ _ (by decide),
    raiseAt_dead_isLatched none (by decide) hu, fun hsev => ?_⟩
  have hsevu : sevOf u.cfg .xbr xBRIDGE_ECC = .fence := hsev
  simp only [raise, raiseAt, hu, hsevu, react, fenceUnit, Bool.false_eq_true, if_false]

/-! ## The queues -/

/-- An access to a queue whose pointers agree leaves the module (R311). -/
theorem touchQueue_agree {s : State} {q : Nat} (h : pointersAgree (queueOf s.xbr q) = true) : touchQueue s q = s := if_pos h

/-- What a push, an acknowledge or a flush of a queue, with the reset of a queue whose pointers disagree, can change and nothing
else (R308 to R311). -/
def FlushFrame (s t : State) : Prop :=
  t = { s with cmd := { s.cmd with pend := t.cmd.pend }
               xbr := { s.xbr with q0 := t.xbr.q0, q1 := t.xbr.q1, q2 := t.xbr.q2, q3 := t.xbr.q3, q4 := t.xbr.q4, q5 := t.xbr.q5
                                   port := t.xbr.port, portCut := t.xbr.portCut, sawQptr := t.xbr.sawQptr } }

theorem FlushFrame.trans {s t u : State} (h : FlushFrame s t) (g : FlushFrame t u) : FlushFrame s u := by
  unfold FlushFrame at *
  rw [g, h]

/-- What a change of one queue leaves. -/
theorem setQueue_frame (s : State) (q : Nat) (f : Queue → Queue) : QueueFrame s { s with xbr := setQueue s.xbr q f } := by
  unfold setQueue
  split <;> rfl

theorem setQueue_flushFrame (s : State) (q : Nat) (f : Queue → Queue) : FlushFrame s { s with xbr := setQueue s.xbr q f } := by
  unfold setQueue
  split <;> rfl

theorem setQueue_otherQueues (s : State) {q : Nat} (f : Queue → Queue) (hq : q ≤ 5) :
    OtherQueues s { s with xbr := setQueue s.xbr q f } q := fun _ hp hne => setQueue_other s.xbr q _ f hq hp hne

theorem otherQueues_trans {s t u : State} {q : Nat} (h : OtherQueues s t q) (g : OtherQueues t u q) : OtherQueues s u q :=
  fun p hp hne => (g p hp hne).trans (h p hp hne)

theorem dropPending_eq (q : Nat) (s : State) :
    dropPending q s = { s with cmd := { s.cmd with pend := if q = 0 then [] else s.cmd.pend } } := by
  unfold dropPending
  split <;> rfl

theorem flushQueue_eq (x : XbrBlk) (q : Nat) : flushQueue x q = { setQueue x q (consume fun _ => true) with
    port := if q = 0 then [] else x.port, portCut := if q = 0 then x.portCut || !x.port.isEmpty else x.portCut } := by
  unfold flushQueue setQueue
  split
  next => rfl
  all_goals
    split
    · simp_all
    · simp_all

/-- A queue whose items go and whose pointers are rewritten, the items counted as lost (R311, R319). -/
def resetQueue (u : Queue) : Queue :=
  { consume (fun _ => true) u with wr := {}, rd := {}, loss := satAdd 255 u.items.length u.loss }

@[simp] theorem consume_all_items (u : Queue) : (consume (fun _ => true) u).items = [] := by simp [consume]

@[simp] theorem resetQueue_items (u : Queue) : (resetQueue u).items = [] := consume_all_items u

theorem pointersAgree_resetQueue (u : Queue) : pointersAgree (resetQueue u) = true := by
  simp only [pointersAgree, resetQueue]
  decide

/-- An access to a queue whose pointers disagree resets it (R311). -/
theorem touchQueue_disagree {s : State} {q : Nat} (h : pointersAgree (queueOf s.xbr q) = false) :
    touchQueue s q = dropPending q { s with xbr := { setQueue (flushQueue s.xbr q) q fun v =>
      { v with wr := {}, rd := {}, loss := satAdd 255 (queueOf s.xbr q).items.length v.loss } with sawQptr := true } } :=
  if_neg (by simp [h])

theorem flushQueue_queue (x : XbrBlk) {q : Nat} (hq : q ≤ 5) :
    queueOf (flushQueue x q) q = consume (fun _ => true) (queueOf x q) := by
  rw [flushQueue_eq]
  exact setQueue_same x q _ hq

theorem flushQueue_otherQueues (s : State) {q : Nat} (hq : q ≤ 5) : OtherQueues s { s with xbr := flushQueue s.xbr q } q := by
  rw [flushQueue_eq]
  exact setQueue_otherQueues s _ hq

theorem flushQueue_flushFrame (s : State) (q : Nat) : FlushFrame s { s with xbr := flushQueue s.xbr q } := by
  rw [flushQueue_eq]
  exact (setQueue_flushFrame s q _).trans rfl

theorem dropPending_flushFrame (q : Nat) (s : State) : FlushFrame s (dropPending q s) := by
  rw [dropPending_eq]
  rfl

theorem dropPending_xbr (q : Nat) (s : State) : (dropPending q s).xbr = s.xbr := by rw [dropPending_eq]

/-- What an access does to its queue: nothing, or the reset (R311). -/
theorem touchQueue_queue (s : State) {q : Nat} (hq : q ≤ 5) : queueOf (touchQueue s q).xbr q =
    if pointersAgree (queueOf s.xbr q) then queueOf s.xbr q else resetQueue (queueOf s.xbr q) := by
  cases h : pointersAgree (queueOf s.xbr q) with
  | true => rw [touchQueue_agree h, if_pos rfl]
  | false =>
    rw [touchQueue_disagree h, dropPending_xbr, if_neg Bool.false_ne_true]
    refine (setQueue_same _ q _ hq).trans ?_
    rw [flushQueue_queue _ hq]
    rfl

theorem touchQueue_otherQueues (s : State) {q : Nat} (hq : q ≤ 5) : OtherQueues s (touchQueue s q) q := by
  cases h : pointersAgree (queueOf s.xbr q) with
  | true => rw [touchQueue_agree h]; exact fun _ _ _ => rfl
  | false =>
    rw [touchQueue_disagree h]
    intro p hp hne
    rw [dropPending_xbr]
    exact (setQueue_other _ q p _ hq hp hne).trans (flushQueue_otherQueues s hq p hp hne)

theorem touchQueue_flushFrame (s : State) (q : Nat) : FlushFrame s (touchQueue s q) := by
  cases h : pointersAgree (queueOf s.xbr q) with
  | true => rw [touchQueue_agree h]; rfl
  | false =>
    rw [touchQueue_disagree h]
    have hsaw : ∀ u, FlushFrame s u → FlushFrame s { u with xbr := { u.xbr with sawQptr := true } } := fun _ h => h.trans rfl
    exact (hsaw _ ((flushQueue_flushFrame s q).trans (setQueue_flushFrame _ q _))).trans (dropPending_flushFrame q _)

theorem touchQueue_sawQptr (s : State) (q : Nat) :
    (touchQueue s q).xbr.sawQptr = (s.xbr.sawQptr || !pointersAgree (queueOf s.xbr q)) := by
  cases h : pointersAgree (queueOf s.xbr q) with
  | true => simp [touchQueue_agree h]
  | false => simp [touchQueue_disagree h, dropPending_xbr]

/-! ## Acknowledge (R308) -/

theorem exec_xbrQack {s : State} (hf : s.xbr.fenced = false) (q iseq : Nat) :
    exec (.xbrQack q iseq) s = .next (ackQueue s q iseq) := congrArg _ (unlessFenced_free hf _ _)

theorem ackQueue_head {s : State} {q iseq : Nat} {i : QItem} {rest : List QItem} (hq : q ≤ 5)
    (hitems : (queueOf (touchQueue s q).xbr q).items = i :: rest) (hi : i.iseq = iseq) :
    ackQueue s q iseq = { touchQueue s q with xbr := setQueue (touchQueue s q).xbr q consumeHead } := by
  simp only [ackQueue, hitems, hq, hi, and_self, if_true]

theorem ackQueue_refused {s : State} {q iseq : Nat} (hq : q ≤ 5)
    (hitems : ∀ i rest, (queueOf (touchQueue s q).xbr q).items = i :: rest → i.iseq ≠ iseq) :
    ackQueue s q iseq = accessError (touchQueue s q) 0x60060 9 true := by
  simp only [ackQueue, if_pos hq]
  split
  next i rest h => exact if_neg fun hboth => hitems i rest h hboth.2
  · rfl

/-- Settles O11: the head goes by `ackQueue_head`, any other number is refused, and a reset queue has no head. -/
theorem queueAcknowledgeConsumesHead : Obligations.QueueAcknowledgeConsumesHead := by
  intro s q iseq hf hq
  refine ⟨fun i rest hagree hitems hi => ?_, fun hagree hitems => ?_, fun hdisagree => ?_⟩
  · refine ⟨_, (exec_xbrQack hf q iseq).trans (congrArg _ (ackQueue_head hq (by rwa [touchQueue_agree hagree]) hi)), ?_⟩
    rw [touchQueue_agree hagree, setQueue_same _ q _ hq]
    refine ⟨by simp [consumeHead, hitems], rfl, rfl, setQueue_otherQueues s _ hq, setQueue_frame s q _⟩
  · refine ⟨_, (exec_xbrQack hf q iseq).trans (congrArg _ (ackQueue_refused hq (by rwa [touchQueue_agree hagree]))), ?_⟩
    rw [touchQueue_agree hagree]
    exact accessError_ends s _ _ _
  · have hqueue := touchQueue_queue s hq
    rw [hdisagree, if_neg Bool.false_ne_true] at hqueue
    have hempty : (queueOf (touchQueue s q).xbr q).items = [] := by rw [hqueue, resetQueue_items]
    have hcount : (touchQueue s q).xbr.errCnt = s.xbr.errCnt := by rw [touchQueue_flushFrame s q]
    refine ⟨_, (exec_xbrQack hf q iseq).trans (congrArg _ (ackQueue_refused hq (by simp [hempty]))), hempty, ?_, ?_, ?_,
      touchQueue_otherQueues s hq, (touchQueue_sawQptr s q).trans (by simp [hdisagree]), rfl,
      congrArg (fun n => (n + 1) % 2 ^ 32) hcount⟩
    · exact (congrArg pointersAgree hqueue).trans (pointersAgree_resetQueue _)
    · exact (congrArg Queue.loss hqueue :)
    · exact (congrArg Queue.nextSeq hqueue :)

/-! ## Flush (R310) -/

/-- The flush of one queue, as `flushQueues` makes it of each that its mask names. -/
def flushed (s : State) (q : Nat) : State := dropPending q { touchQueue s q with xbr := flushQueue (touchQueue s q).xbr q }

theorem flushQueues_one (s : State) {q : Nat} (hq : q ≤ 5) : flushQueues s (2 ^ q) = flushed s q := by
  interval_cases q <;> rfl

theorem exec_xbrQflush {s : State} (hf : s.xbr.fenced = false) {q : Nat} (hq : q ≤ 5) :
    exec (.xbrQflush q) s = .next (flushed s q) := by
  refine congrArg _ ((unlessFenced_free hf _ _).trans ?_)
  rw [if_pos hq, flushQueues_one s hq]

theorem flushed_flushFrame (s : State) (q : Nat) : FlushFrame s (flushed s q) :=
  ((touchQueue_flushFrame s q).trans (flushQueue_flushFrame _ q)).trans (dropPending_flushFrame q _)

theorem flushed_xbr (s : State) (q : Nat) : (flushed s q).xbr = flushQueue (touchQueue s q).xbr q := dropPending_xbr q _

theorem flushed_queue (s : State) {q : Nat} (hq : q ≤ 5) : queueOf (flushed s q).xbr q = consume (fun _ => true)
    (if pointersAgree (queueOf s.xbr q) then queueOf s.xbr q else resetQueue (queueOf s.xbr q)) := by
  rw [flushed_xbr, flushQueue_queue _ hq, touchQueue_queue s hq]

theorem flushed_otherQueues (s : State) {q : Nat} (hq : q ≤ 5) : OtherQueues s (flushed s q) q := by
  refine otherQueues_trans (touchQueue_otherQueues s hq) fun p hp hne => ?_
  rw [flushed_xbr]
  exact flushQueue_otherQueues (touchQueue s q) hq p hp hne

theorem setQueue_port (x : XbrBlk) (q : Nat) (f : Queue → Queue) : (setQueue x q f).port = x.port
    ∧ (setQueue x q f).portCut = x.portCut ∧ (setQueue x q f).sawQptr = x.sawQptr := by
  unfold setQueue
  split <;> exact ⟨rfl, rfl, rfl⟩

theorem flushQueue_port (x : XbrBlk) (q : Nat) : (flushQueue x q).port = (if q = 0 then [] else x.port)
    ∧ (q ≠ 0 → (flushQueue x q).portCut = x.portCut) ∧ (flushQueue x q).sawQptr = x.sawQptr := by
  rw [flushQueue_eq]
  exact ⟨rfl, fun hq => if_neg hq, (setQueue_port x q _).2.2⟩

/-- The item in port 0 and the pending set are those of CMD_IN (R310). -/
theorem touchQueue_port {s : State} {q : Nat} (hq : q ≠ 0) :
    (touchQueue s q).xbr.port = s.xbr.port ∧ (touchQueue s q).xbr.portCut = s.xbr.portCut
      ∧ (touchQueue s q).cmd.pend = s.cmd.pend := by
  cases h : pointersAgree (queueOf s.xbr q) with
  | true => rw [touchQueue_agree h]; exact ⟨rfl, rfl, rfl⟩
  | false => simp [touchQueue_disagree h, dropPending_eq, flushQueue_port, setQueue_port, hq]

theorem flushed_pend (s : State) (q : Nat) : (flushed s q).cmd = { s.cmd with pend := if q = 0 then [] else s.cmd.pend } := by
  have hcmd : (flushed s q).cmd = { s.cmd with pend := (flushed s q).cmd.pend } := by rw [flushed_flushFrame s q]
  have hpend : (flushed s q).cmd.pend = if q = 0 then [] else (touchQueue s q).cmd.pend := by rw [flushed, dropPending_eq]
  rw [hcmd, hpend]
  split
  · rfl
  next hq => rw [(touchQueue_port hq).2.2]

/-- Settles O13: the items go by `consume`, and what a flush leaves stands by its frame. -/
theorem queueFlushEmptiesOneQueue : Obligations.QueueFlushEmptiesOneQueue := by
  intro s q hf hq
  have hqueue := flushed_queue s hq
  obtain ⟨hport, hcut, hsaw⟩ := flushQueue_port (touchQueue s q).xbr q
  rw [← flushed_xbr] at hport hcut hsaw
  refine ⟨_, exec_xbrQflush hf hq, ?_, ?_, ?_, hsaw.trans (touchQueue_sawQptr s q), hport.trans ?_,
    fun hne => (hcut hne).trans (touchQueue_port hne).2.1, flushed_otherQueues s hq, flushed_pend s q, ?_⟩
  · rw [hqueue, consume_all_items]
  · rw [hqueue]
    split <;> rfl
  · rw [hqueue]
    split <;> rfl
  · split
    · rfl
    next hne => exact (touchQueue_port hne).1
  · unfold QueueFrame
    rw [flushed_flushFrame s q]

/-! ## Push (R307, R309) -/

theorem pushQueue_otherQueues (s : State) {q : Nat} (conn : Nat) (data : Bytes) (hq : q ≤ 5) :
    OtherQueues s { s with xbr := pushQueue s.xbr q conn data } q := by
  unfold pushQueue
  split
  · exact setQueue_otherQueues s _ hq
  · exact setQueue_otherQueues s _ hq

theorem pushQueue_frame {s : State} {q : Nat} (conn : Nat) {data : Bytes} (h : queueRoom s.xbr q data.length = true) :
    QueueFrame s { s with xbr := pushQueue s.xbr q conn data } := by
  rw [pushQueue, if_pos h]
  exact setQueue_frame s q _

/-- A push without room notes the loss for the drain. -/
theorem pushQueue_lossFrame {s : State} {q : Nat} (conn : Nat) {data : Bytes} (h : queueRoom s.xbr q data.length = false) :
    (pushQueue s.xbr q conn data).sawQloss = true
      ∧ QueueFrame s { s with xbr := { pushQueue s.xbr q conn data with sawQloss := s.xbr.sawQloss } } := by
  rw [pushQueue, h, if_neg Bool.false_ne_true]
  refine ⟨rfl, ?_⟩
  unfold setQueue
  split <;> rfl

/-- The lengths that R309 allows a payload of CMD_IN. -/
def CmdLength (conn n : Nat) : Prop := if conn = 9 then 24 ≤ n ∧ n ≤ 28 else 28 ≤ n ∧ n ≤ 8220

/-- Port 0 as a service push leaves it. -/
def portEnded (s : State) : State := { s with xbr := { s.xbr with port := [], portCut := false } }

/-- A service push finds semaphore 0 held by its master and a length that is allowed, or not. -/
theorem servicePush_admits (s : State) (master conn n : Nat) :
    (!(match s.xbr.sems[0]? with | some m => m.req && m.owner == master | none => false)
        || !decide (if conn = 9 then 24 ≤ n ∧ n ≤ 28 else 28 ≤ n ∧ n ≤ 8220)) = true
      ↔ ¬ (HeldBy s 0 master ∧ CmdLength conn n) := by
  have hheld : (match s.xbr.sems[0]? with | some m => m.req && m.owner == master | none => false) = true ↔ HeldBy s 0 master := by
    unfold HeldBy
    cases s.xbr.sems[0]? with
    | none => simp
    | some m => simp
  rw [← hheld, CmdLength, Bool.or_eq_true, Bool.not_eq_true', Bool.not_eq_true', decide_eq_false_iff_not, ← Bool.not_eq_true,
    not_and_or]

section
variable {s : State} {master conn : Nat} {data : Bytes} (hagree : pointersAgree s.xbr.q0 = true)
include hagree

theorem touchQueue_portEnded : touchQueue (portEnded s) 0 = portEnded s := touchQueue_agree (q := 0) hagree

theorem servicePush_refused (h : ¬ (HeldBy s 0 master ∧ CmdLength conn data.length)) :
    servicePush s master conn data = accessError (portEnded s) 0x60064 9 true := by
  refine (if_pos ((servicePush_admits s master conn data.length).mpr h)).trans ?_
  exact congrArg (accessError · 0x60064 9 true) (touchQueue_portEnded hagree)

theorem servicePush_room (h : HeldBy s 0 master ∧ CmdLength conn data.length) (hroom : queueRoom s.xbr 0 data.length = true) :
    servicePush s master conn data = { portEnded s with xbr := pushQueue (portEnded s).xbr 0 conn data } := by
  refine (if_neg (mt (servicePush_admits s master conn data.length).mp (not_not.mpr h))).trans ?_
  have htouch : touchQueue { s with xbr := { s.xbr with port := [], portCut := false } } 0 = portEnded s :=
    touchQueue_portEnded hagree
  have hport : queueRoom (portEnded s).xbr 0 data.length = true := hroom
  simp only [htouch]
  exact if_neg (by simp [hport])

theorem servicePush_full (h : HeldBy s 0 master ∧ CmdLength conn data.length) (hroom : queueRoom s.xbr 0 data.length = false) :
    servicePush s master conn data =
      raise (accessError { portEnded s with cmd := { s.cmd with full := satAdd 65535 1 s.cmd.full, sawFull := true } } 0x60064 9 true)
        .cmd cQUEUE_FULL := by
  refine (if_neg (mt (servicePush_admits s master conn data.length).mp (not_not.mpr h))).trans ?_
  have htouch : touchQueue { s with xbr := { s.xbr with port := [], portCut := false } } 0 = portEnded s :=
    touchQueue_portEnded hagree
  have hport : queueRoom (portEnded s).xbr 0 data.length = false := hroom
  simp only [htouch]
  exact if_pos (by simp [hport])

end

theorem exec_lanePush {q : Nat} (h1 : 1 ≤ q) (h5 : q ≤ 5) (s : State) (conn : Nat) (data : Bytes) :
    exec (.xbrQpush q conn data 0) s = .next (pushTo s q conn data) := by
  simp only [exec, execXbrQpush, h1, h5, and_self, if_true]

theorem exec_servicePush {s : State} {master : Nat} (hm : 1 ≤ master) (hf : s.xbr.fenced = false) (conn : Nat) (data : Bytes) :
    exec (.xbrQpush 0 conn data master) s = .next (servicePush s master conn data) :=
  (if_neg (Nat.one_le_iff_ne_zero.mp hm)).trans ((if_pos rfl).trans (congrArg _ (unlessFenced_free hf _ _)))

theorem pushTo_agree {s : State} {q : Nat} (h : pointersAgree (queueOf s.xbr q) = true) (conn : Nat) (data : Bytes) :
    pushTo s q conn data = { s with xbr := pushQueue s.xbr q conn data } := by
  rw [pushTo, touchQueue_agree h]

/-- Settles O12: a push is `pushQueue`, after the checks of R309 where the service processor makes it. -/
theorem queuePushTakesOrCountsLoss : Obligations.QueuePushTakesOrCountsLoss := by
  intro s q conn data master took s0 allowed hagree
  refine ⟨fun h1 h5 hroom => ?_, fun h1 h5 hroom => ?_, ?_, ?_, ?_⟩
  · obtain ⟨hitems, hnext, -⟩ := pushQueue_room s.xbr q conn data h5 hroom
    refine ⟨_, (exec_lanePush h1 h5 s conn data).trans (congrArg _ (pushTo_agree hagree conn data)), ⟨hitems, hnext, ?_⟩, ?_⟩
    · exact pushQueue_otherQueues s conn data h5
    · exact pushQueue_frame conn hroom
  · obtain ⟨hitems, hloss⟩ := pushQueue_full s.xbr q conn data h5 hroom
    obtain ⟨hsaw, hframe⟩ := pushQueue_lossFrame conn hroom
    exact ⟨_, (exec_lanePush h1 h5 s conn data).trans (congrArg _ (pushTo_agree hagree conn data)), hitems, hloss, hsaw,
      pushQueue_otherQueues s conn data h5, hframe⟩
  all_goals
    rintro rfl hm hf
  · intro hheld hlength hlen
    have hroom : queueRoom s.xbr 0 data.length = true := decide_eq_true hlen
    obtain ⟨hitems, hnext, -⟩ := pushQueue_room (portEnded s).xbr 0 conn data (Nat.zero_le 5) hroom
    refine ⟨_, (exec_servicePush hm hf conn data).trans (congrArg _ (servicePush_room hagree ⟨hheld, hlength⟩ hroom)),
      ⟨hitems, hnext, fun p hp hne => ?_⟩, pushQueue_frame (s := portEnded s) conn hroom⟩
    have hother := pushQueue_otherQueues (portEnded s) conn data (Nat.zero_le 5) p hp hne
    exact hother.trans (by unfold queueOf portEnded; rfl)
  · intro hrefused
    exact ⟨_, (exec_servicePush hm hf conn data).trans (congrArg _ (servicePush_refused hagree hrefused)),
      accessError_ends s0 _ _ _⟩
  · intro hheld hlength hlen
    have hroom : queueRoom s.xbr 0 data.length = false := decide_eq_false (Nat.not_lt.mpr hlen)
    refine ⟨_, (exec_servicePush hm hf conn data).trans (congrArg _ (servicePush_full hagree ⟨hheld, hlength⟩ hroom)),
      ?_, ?_, ?_, raise_isLive _ _ _ (by decide)⟩
    all_goals
      rw [raise_frame _ .cmd cQUEUE_FULL]
      rfl

/-! ## Semaphores (R303) -/

/-- The word that an acquire writes: REQ and the OWNER. -/
theorem acquireWord {master : Nat} (h : master ≤ 255) :
    fieldOf (mkWord [(31, 1), (0, master % 256)]) 0 8 = master ∧ (mkWord [(31, 1), (0, master % 256)]).getLsbD 31 = true := by
  have hlow : master % 256 = master := Nat.mod_eq_of_lt (Nat.lt_succ_of_le h)
  have hword : mkWord [(31, 1), (0, master % 256)] = BitVec.ofNat 32 (2 ^ 31) ||| BitVec.ofNat 32 master := by
    simp [mkWord, hlow]
  rw [hword]
  refine ⟨?_, by simp⟩
  have hsmall : master % 2 ^ 32 = master := Nat.mod_eq_of_lt (by omega)
  rw [fieldOf, BitVec.toNat_or, BitVec.toNat_ofNat, BitVec.toNat_ofNat, hsmall, Nat.shiftRight_zero, Nat.or_mod_two_pow]
  simpa using hlow

/-- The word that a release writes: the OWNER alone. -/
theorem releaseWord {master : Nat} (h : master ≤ 255) :
    fieldOf (mkWord [(0, master % 256)]) 0 8 = master ∧ (mkWord [(0, master % 256)]).getLsbD 31 = false := by
  have hlow : master % 256 = master := Nat.mod_eq_of_lt (Nat.lt_succ_of_le h)
  have hword : mkWord [(0, master % 256)] = BitVec.ofNat 32 master := by simp [mkWord, hlow]
  have hsmall : master % 2 ^ 32 = master := Nat.mod_eq_of_lt (by omega)
  rw [hword]
  refine ⟨?_, ?_⟩
  · rw [fieldOf, BitVec.toNat_ofNat, hsmall, Nat.shiftRight_zero]
    exact hlow
  · rw [BitVec.getLsbD, BitVec.toNat_ofNat, hsmall]
    exact Nat.testBit_lt_two_pow (by omega)

theorem exec_semAcquire {s : State} (hf : s.xbr.fenced = false) (n master now : Nat) :
    exec (.semAcquire n master now) s = .next (writeSem (later s now) n (mkWord [(31, 1), (0, master % 256)])) :=
  congrArg _ (unlessFenced_free (s := later s now) hf _ _)

theorem exec_semRelease {s : State} (hf : s.xbr.fenced = false) (n master : Nat) :
    exec (.semRelease n master) s = .next (writeSem s n (mkWord [(0, master % 256)])) :=
  congrArg _ (unlessFenced_free hf _ _)

section
variable {s : State} {n master : Nat} (h255 : master ≤ 255)
include h255

theorem acquire_unheld (h1 : 1 ≤ master) (h : Unheld s n) : writeSem s n (mkWord [(31, 1), (0, master % 256)]) =
    { s with xbr := { s.xbr with sems := s.xbr.sems.set n { req := true, owner := master, takenAt := s.now } } } := by
  obtain ⟨m, hm, hreq⟩ := h
  obtain ⟨howner, hbit⟩ := acquireWord h255
  simp only [writeSem, hm, howner, hbit, hreq, if_neg (Nat.one_le_iff_ne_zero.mp h1), if_true, Bool.false_eq_true, if_false]

theorem acquire_held (h : ∃ m, HeldBy s n m) : writeSem s n (mkWord [(31, 1), (0, master % 256)]) = s := by
  obtain ⟨_, m, hm, hreq, -⟩ := h
  obtain ⟨howner, hbit⟩ := acquireWord h255
  simp only [writeSem, hm, howner, hbit, hreq, if_true, ite_self]

theorem release_held (h1 : 1 ≤ master) (h : HeldBy s n master) : writeSem s n (mkWord [(0, master % 256)]) =
    { s with xbr := { s.xbr with sems := s.xbr.sems.set n {} } } := by
  obtain ⟨m, hm, hreq, hmaster⟩ := h
  obtain ⟨howner, hbit⟩ := releaseWord h255
  simp only [writeSem, hm, howner, hbit, hreq, hmaster, if_neg (Nat.one_le_iff_ne_zero.mp h1), and_self, if_true, Bool.false_eq_true,
    if_false]

theorem release_other (h : ∃ m, m ≠ master ∧ HeldBy s n m) : writeSem s n (mkWord [(0, master % 256)]) = s := by
  obtain ⟨k, hne, m, hm, hreq, rfl⟩ := h
  obtain ⟨howner, hbit⟩ := releaseWord h255
  simp only [writeSem, hm, howner, hbit, hne, and_false, Bool.false_eq_true, if_false, ite_self]

end

/-- Settles O14: acquire and release write REQ and OWNER, and the time limit is the timeout's own. -/
theorem semaphoresAreTakenAndReleased : Obligations.SemaphoresAreTakenAndReleased := by
  intro s n master now hn h1 h255
  refine ⟨fun hf hun => (exec_semAcquire hf n master now).trans (congrArg _ (acquire_unheld (s := later s now) h255 h1 hun)),
    fun hf hheld => (exec_semAcquire hf n master now).trans (congrArg _ (acquire_held (s := later s now) h255 hheld)),
    fun hf hheld => (exec_semRelease hf n master).trans (congrArg _ (release_held h255 h1 hheld)),
    fun hf hother => (exec_semRelease hf n master).trans (congrArg _ (release_other h255 hother)), fun m hm hreq hlate => ?_⟩
  have hlater : (later s now).xbr.sems[n]? = some m := hm
  simp only [exec, execSemaphoreTimeout, hlater]
  exact if_pos ⟨hreq, hlate⟩

end Sys2Proof.Proofs.Bridge

/-! PROOFS. A raising and a clearing (R284, R326 to R338), and the evaluation of a COMMIT (R313 to R315). -/

namespace Sys2Proof.Proofs.Raising

open Sys2Proof Sys2Proof.Machine Sys2Proof.Safety
open Sys2Proof.Proofs.Frames (NoteFrame faultRec_noteFrame faults_noteFrame)
open Sys2Proof.Proofs.Grant (laneTo_lanesFrame)
open Sys2Proof.Proofs.LanesAndInstances (fencedLane_in laneFence_same)
open Sys2Proof.Proofs.ServiceFrames (sendSvc_sentOnly)
open Sys2Proof.Proofs.Bridge (raiseAt_dead_isLatched)

theorem sourceCount_le (b : Blk) : sourceCount b ≤ 16 := by cases b <;> decide

/-- The bit of a source is no other source's. -/
theorem srcBit_other {n k : Nat} (h : k ≠ n) : (srcBit n).getLsbD k = false := by
  by_cases hk : k < 16
  · rw [srcBit_get n k hk]
    exact decide_eq_false h.symm
  · exact BitVec.getLsbD_of_ge _ _ (Nat.not_lt.mp hk)

/-! ## The record of a raising -/

theorem frameRec_fenced (s : State) (ty sev : Nat) (body : Bytes) : (frameRec s ty sev body).xbr.fenced = s.xbr.fenced := by
  unfold frameRec
  dsimp only
  split
  · unfold pushRec
    dsimp only
    rw [pushTo_evt]
    split <;> rfl
  · rw [svcRec_frame s ty sev _]

theorem faultRec_fenced (s : State) (b : Blk) (n : Nat) (sev : Sev) : (faultRec s b n sev).xbr.fenced = s.xbr.fenced := by
  have htold : ∀ (p : Prop) [Decidable p], (if p then s else tellAt s b n s.now 0).xbr.fenced = s.xbr.fenced := by
    intro p _
    split <;> rfl
  unfold faultRec
  dsimp only
  split
  · rw [svcRec_frame]
    exact htold _
  · exact (frameRec_fenced _ _ _ _).trans (htold _)
  · split
    · split
      · rfl
      · exact frameRec_fenced _ _ _ _
    · exact frameRec_fenced _ _ _ _

/-- A raising of a source that is not live is its record, and then the reaction of its severity. -/
theorem raiseAt_dead {s : State} {b : Blk} {n : Nat} (lane : Option Lane) (h : isLive s b n = false) :
    ∃ u, NoteFrame s u ∧ u.xbr.fenced = s.xbr.fenced ∧ raiseAt s b n lane = react u b n (sevOf s.cfg b n) lane := by
  unfold raiseAt
  rw [h, if_neg Bool.false_ne_true]
  extract_lets f sev g s1
  exact ⟨faultRec s1 b n sev, (faults_noteFrame s _).trans (faultRec_noteFrame s1 b n sev), faultRec_fenced s1 b n sev, rfl⟩

/-! ## The units that FENCE fences (R337) -/

/-- The fence unit of the source's block is fenced. -/
def UnitFenced (s t : State) (b : Blk) (n : Nat) (lane : Option Lane) : Prop :=
  (b = .prl → t.prl.fenced = true) ∧ (b = .frn → (frnOf t (if n < 8 then .c0 else .c1)).fenced = true)
    ∧ (b = .lio → t.lio.vital.fence = true) ∧ (b = .cmd → t.cmd.fenced = true) ∧ (b = .xbr → t.xbr.fenced = true)
    ∧ ∀ l, (b = .vot ∨ b = .bst) → lane = some l → isVoting s.vot l = true → (laneOf t.vot l).state = .fenced

theorem prlFence_fenced (s : State) : (prlFence s).prl.fenced = true := by
  unfold prlFence
  split
  · assumption
  · unfold prlSwitch
    split <;> rfl

theorem frnFence_fenced (s : State) (c : Cluster) : (frnOf (frnFence s c) c).fenced = true := by
  unfold frnFence
  split
  · assumption
  · cases c <;> dsimp only <;> split <;> rfl

theorem laneFence_fenced {s : State} {l : Lane} (h : isVoting s.vot l = true) : (laneOf (laneFence s l).vot l).state = .fenced := by
  rw [laneFence_same, fencedLane_in (.inl (of_decide_eq_true h))]

theorem fenceUnit_fenced (s : State) (b : Blk) (n : Nat) (lane : Option Lane) : UnitFenced s (fenceUnit s b n lane) b n lane := by
  refine ⟨?_, ?_, ?_, ?_, ?_, ?_⟩
  · rintro rfl
    exact prlFence_fenced s
  · rintro rfl
    exact frnFence_fenced s _
  · rintro rfl
    rfl
  · rintro rfl
    rfl
  · rintro rfl
    rfl
  · rintro l (rfl | rfl) rfl h
    · exact laneFence_fenced h
    · exact laneFence_fenced h

theorem laneFence_sys (s : State) (l : Lane) : (laneFence s l).sys = s.sys := by
  have hto : (laneTo s l .fenced).sys = s.sys := by rw [laneTo_lanesFrame s l .fenced]
  unfold laneFence duoStart
  dsimp only
  split
  · split <;> exact hto
  · rfl

theorem frnFence_sys (s : State) (c : Cluster) : (frnFence s c).sys = s.sys := by
  unfold frnFence
  dsimp only
  cases c
  all_goals
    split
    · rfl
    · split <;> rfl

theorem fenceUnit_sys (s : State) (b : Blk) (n : Nat) (lane : Option Lane) : (fenceUnit s b n lane).sys = s.sys := by
  cases b
  case vot | bst =>
    cases lane with
    | none => rfl
    | some l => exact laneFence_sys s l
  case prl =>
    unfold fenceUnit prlFence prlSwitch
    dsimp only
    split
    · rfl
    · split <;> rfl
  case frn => exact frnFence_sys s _
  all_goals rfl

/-! ## The stop (R334) -/

/-- The stop of a module that runs, with the flush that it starts. -/
theorem safeStop_runs {s : State} (h : s.sys.stopped = false) : safeStop s = relinquish (startFlush (stopFrames s)) :=
  if_neg (by simp [h])

theorem safeStop_unitFenced {s t : State} {b : Blk} {n : Nat} {lane : Option Lane} (h : UnitFenced s t b n lane) :
    UnitFenced s (safeStop t) b n lane := by
  unfold safeStop
  split
  · exact h
  · have hflush := startFlush_frame (stopFrames t)
    generalize startFlush (stopFrames t) = u at hflush
    obtain ⟨hprl, hfrn, hlio, hcmd, hxbr, hlane⟩ := h
    unfold UnitFenced relinquish
    rw [hflush]
    refine ⟨hprl, fun hb => ?_, hlio, hcmd, hxbr, hlane⟩
    rw [← hfrn hb]
    split <;> rfl

/-- What the stop leaves of a module that ran. -/
theorem safeStop_ends {s : State} (h : s.sys.stopped = false) :
    let t := safeStop s
    t.work = none ∧ t.dpx.granted = false ∧ t.frm.nextTick = none ∧ t.frm.voted = false ∧ t.lio.vital.back = none
      ∧ t.lio.vital.stopped = true ∧ t.frn0.back = [] ∧ t.frn1.back = [] ∧ t.frn0.stopPending = true ∧ t.frn1.stopPending = true := by
  have hflush := startFlush_frame (stopFrames s)
  rw [safeStop_runs h]
  generalize startFlush (stopFrames s) = u at hflush
  unfold relinquish
  rw [hflush]
  exact ⟨rfl, rfl, rfl, rfl, rfl, rfl, rfl, rfl, rfl, rfl⟩

/-- Settles O10: the bits by `raiseAt_bits`, what stands by `raiseAt_frame`, and the rest by the reaction of each severity. -/
theorem raisingLatchesAndReacts : Obligations.RaisingLatchesAndReacts := by
  intro s b n lane hn t sev
  have hn16 : n < 16 := hn.trans_le (sourceCount_le b)
  refine ⟨raiseAt_live s b n lane, fun hdead => ⟨raiseAt_isLive s b n lane hn16, raiseAt_dead_isLatched lane hn16 hdead, ?_,
    raiseAt_frame s b n lane, ?_, ?_, ?_⟩⟩
  · intro c k hne
    obtain ⟨hlive, hlatch, -⟩ := raiseAt_bits s b n lane hdead c
    by_cases hc : c = b
    · subst hc
      have hk : k ≠ n := fun hk => hne ⟨rfl, hk⟩
      simp only [isLive, isLatched, t, hlive, hlatch, if_true, BitVec.getLsbD_or, srcBit_other hk, Bool.or_false, and_self]
    · simp only [isLive, isLatched, t, hlive, hlatch, if_neg hc, and_self]
  all_goals
    obtain ⟨u, hnote, hfenced, ht⟩ := raiseAt_dead lane hdead
    change t = react u b n sev lane at ht
  · intro hsev
    have htu : t = u := by
      rw [ht]
      obtain h | h := hsev <;> rw [h] <;> rfl
    rw [htu, hnote]
    exact ⟨rfl, rfl, rfl, rfl, rfl, rfl, hfenced, rfl, rfl, rfl, rfl⟩
  · intro hsev
    have hvot : u.vot = s.vot := by rw [hnote]
    have hunit := fenceUnit_fenced u b n lane
    unfold UnitFenced at hunit
    rw [hvot] at hunit
    rw [ht]
    obtain h | h := hsev
    · rw [h]
      exact hunit
    · rw [h]
      exact safeStop_unitFenced (s := s) hunit
  · intro hsev
    have hsys : (fenceUnit u b n lane).sys = s.sys := (fenceUnit_sys u b n lane).trans (by rw [hnote])
    rw [ht, hsev]
    exact ⟨safeStop_stopped _, fun hruns => safeStop_ends (hsys ▸ hruns)⟩

/-! ## A clearing (R327, R328) -/

/-- What the clearing of sticky bits of block `b` leaves: live bits, enables, every other sub-block, and all but a record. -/
def LatchFrame (b : Blk) (s t : State) : Prop :=
  (∀ c, (faultOf t.faults c).live = (faultOf s.faults c).live ∧ (faultOf t.faults c).ien = (faultOf s.faults c).ien
    ∧ (c ≠ b → faultOf t.faults c = faultOf s.faults c)) ∧ RaiseFrame s t

theorem LatchFrame.refl (b : Blk) (s : State) : LatchFrame b s s := ⟨fun _ => ⟨rfl, rfl, fun _ => rfl⟩, RaiseFrame.refl s⟩

theorem LatchFrame.trans {b : Blk} {s t u : State} (h : LatchFrame b s t) (g : LatchFrame b t u) : LatchFrame b s u := by
  refine ⟨fun c => ?_, h.2.trans g.2⟩
  obtain ⟨hlive, hien, hother⟩ := h.1 c
  obtain ⟨glive, gien, gother⟩ := g.1 c
  exact ⟨glive.trans hlive, gien.trans hien, fun hc => (gother hc).trans (hother hc)⟩

theorem LatchFrame.isLive {b : Blk} {s t : State} (h : LatchFrame b s t) (c : Blk) (n : Nat) : isLive t c n = isLive s c n := by
  rw [Machine.isLive, (h.1 c).1, Machine.isLive]

/-- Whether a mask clears the sticky bit of a source: its bit is 1 and the source is not live. -/
def clears (s : State) (b : Blk) (w : Word) (n : Nat) : Bool := w.getLsbD n && !isLive s b n

theorem clearLatchBit_clears {s : State} {b : Blk} {w : Word} {k : Nat} (wr : Writer)
    (h : (w.getLsbD k && isLatched s b k && !isLive s b k) = true) : LatchFrame b s (clearLatchBit b wr w s k)
      ∧ ∀ n, isLatched (clearLatchBit b wr w s k) b n = (isLatched s b n && !(srcBit k).getLsbD n) := by
  have hfaults : (clearLatchBit b wr w s k).faults
      = setFault s.faults b { faultOf s.faults b with latch := (faultOf s.faults b).latch &&& ~~~ srcBit k } := by
    rw [clearLatchBit, if_pos h]
    exact frameRec_faults _ _ _ _
  refine ⟨⟨fun c => ?_, ?_⟩, fun n => ?_⟩
  · rw [hfaults]
    by_cases hc : c = b
    · subst hc
      simp
    · simp [setFault_other _ _ _ _ hc]
  · rw [clearLatchBit, if_pos h]
    exact (faults_frame s _).trans (frameRec_frame _ _ _ _)
  · rw [isLatched, hfaults, setFault_same, isLatched, BitVec.getLsbD_and, BitVec.getLsbD_not]
    by_cases hn : n < 16
    · simp [hn]
    · simp [BitVec.getLsbD_of_ge _ _ (Nat.not_lt.mp hn)]

theorem clearLatchBit_frame (s : State) (b : Blk) (wr : Writer) (w : Word) (k : Nat) : LatchFrame b s (clearLatchBit b wr w s k) := by
  by_cases h : (w.getLsbD k && isLatched s b k && !isLive s b k) = true
  · exact (clearLatchBit_clears wr h).1
  · rw [clearLatchBit, if_neg h]
    exact .refl b s

/-- One source of the block: its sticky bit goes where the mask clears it, and no other's. -/
theorem clearLatchBit_isLatched (s : State) (b : Blk) (wr : Writer) (w : Word) {k : Nat} (hk : k < 16) (n : Nat) :
    isLatched (clearLatchBit b wr w s k) b n = (isLatched s b n && !(decide (k = n) && clears s b w n)) := by
  by_cases h : (w.getLsbD k && isLatched s b k && !isLive s b k) = true
  · rw [(clearLatchBit_clears wr h).2]
    by_cases hkn : k = n
    · subst hkn
      rw [srcBit_get _ _ hk]
      simp_all [clears]
    · rw [srcBit_other (Ne.symm hkn)]
      simp [hkn]
  · rw [clearLatchBit, if_neg h]
    by_cases hkn : k = n
    · subst hkn
      unfold clears
      revert h
      cases isLatched s b k <;> cases w.getLsbD k <;> cases isLive s b k <;> simp
    · simp [hkn]

theorem clearLatchBits (b : Blk) (wr : Writer) (w : Word) (l : List Nat) (hl : ∀ k ∈ l, k < 16) (s : State) :
    LatchFrame b s (l.foldl (clearLatchBit b wr w) s)
      ∧ ∀ n, isLatched (l.foldl (clearLatchBit b wr w) s) b n = (isLatched s b n && !(decide (n ∈ l) && clears s b w n)) := by
  induction l generalizing s with
  | nil => exact ⟨.refl b s, fun n => by simp⟩
  | cons k l ih =>
    have hone := clearLatchBit_frame s b wr w k
    obtain ⟨hframe, hlatched⟩ := ih (fun j hj => hl j (List.mem_cons_of_mem k hj)) (clearLatchBit b wr w s k)
    refine ⟨hone.trans hframe, fun n => ?_⟩
    have hclears : clears (clearLatchBit b wr w s k) b w n = clears s b w n := by rw [clears, hone.isLive, clears]
    rw [List.foldl_cons, hlatched, hclears, clearLatchBit_isLatched s b wr w (hl k List.mem_cons_self)]
    by_cases hkn : k = n
    · subst hkn
      cases isLatched s b k <;> cases clears s b w k <;> simp
    · simp [hkn, Ne.symm hkn]

/-- Settles O20: the mask is taken source by source, by `clearLatchBits`. -/
theorem stickyBitClearsOnlyWithoutItsCause : Obligations.StickyBitClearsOnlyWithoutItsCause := by
  intro s src b mask
  refine ⟨fun hlife => ?_, fun hlife => if_pos hlife⟩
  obtain ⟨⟨hbits, hframe⟩, hlatched⟩ := clearLatchBits b { addr := src.addr } mask (List.range (sourceCount b))
    (fun k hk => (List.mem_range.mp hk).trans_le (sourceCount_le b)) s
  refine ⟨_, if_neg hlife, fun n hn => ?_, fun n hn => ?_, hbits, hframe⟩
  · rw [writeLatch, hlatched, decide_eq_true (List.mem_range.mpr hn), clears]
    cases mask.getLsbD n <;> cases isLive s b n <;> simp
  · rw [writeLatch, hlatched, decide_eq_false (by simpa using hn)]
    simp

/-! ## The evaluation of a COMMIT (R313 to R315) -/

/-- What a COMMIT applies, and the frame that it holds. -/
def commitView (s : State) : Cfg × List (StReg × Word) × List (Nat × Partner) × List Partner × Nat × Nat :=
  (s.cfg, s.staged, s.stagedPartners, s.cmd.partners, s.core.counter, s.xbr.cgen)

theorem commitView_raise {s t : State} (h : RaiseFrame s t) : commitView t = commitView s := by
  rw [commitView, h]
  rfl

theorem commitView_foldl {α : Type} {f : State → α → State} (hf : ∀ s a, commitView (f s a) = commitView s) (l : List α) (s : State) :
    commitView (l.foldl f s) = commitView s := by
  induction l generalizing s with
  | nil => rfl
  | cons a l ih => exact (ih _).trans (hf s a)

theorem commitView_setFrn (s : State) (c : Cluster) (f : FrnBlk → FrnBlk) : commitView (setFrn s c f) = commitView s := by
  cases c <;> rfl

theorem commitView_sendSvc (s : State) (c : Cluster) (w : SvcOut) : commitView (sendSvc s c w) = commitView s := by
  rw [commitView, sendSvc_sentOnly s c w]
  rfl

theorem commitView_sendService (s : State) (c : Cluster) (node code ref : Nat) (content : Bytes) :
    commitView (sendService s c node code ref content) = commitView s := by
  unfold sendService
  split
  · rfl
  · exact (commitView_sendSvc _ c _).trans ((commitView_setFrn _ c _).trans (commitView_setFrn s c _))

theorem commitView_sendConfigSet (s : State) (param value : Nat) : commitView (sendConfigSet s param value) = commitView s :=
  (commitView_foldl (fun u _ => commitView_sendService u .c1 _ _ _ _) _ _).trans
    (commitView_foldl (fun u _ => commitView_sendService u .c0 _ _ _ _) _ s)

theorem commitView_reactRaised (old : Cfg) (s : State) (b : Blk) : commitView (reactRaised old s b) = commitView s := by
  refine commitView_foldl (fun u n => ?_) _ s
  split
  · have hrec := commitView_raise (faultRec_frame u b n (sevOf u.cfg b n))
    dsimp only
    split
    · exact (commitView_raise (react_frame _ _ _ _ _)).trans hrec
    · exact (commitView_foldl (fun v l => commitView_raise (react_frame v _ _ _ _)) _ _).trans hrec
  · rfl

theorem commitView_retryRefused (s : State) : commitView (retryRefused s) = commitView s :=
  (commitView_setFrn _ .c1 _).trans (commitView_setFrn s .c0 _)

/-- Everything staged is in effect (R315). -/
theorem commitView_applyStaged (s : State) : commitView (applyStaged s)
    = (stagedCfg s, [], [], stagedTable s, s.core.counter, (s.xbr.cgen + 1) % 256) := by
  have hsend : ∀ (p : Prop) [Decidable p] (u : State) (n v : Nat), commitView (if p then sendConfigSet u n v else u) = commitView u := by
    intro p _ u n v
    split
    · exact commitView_sendConfigSet u n v
    · rfl
  have hdue : ∀ (p : Prop) [Decidable p] (u : State) (b : BstBlk), commitView (if p then { u with bst := b } else u) = commitView u := by
    intro p _ u b
    split <;> rfl
  unfold applyStaged
  refine (commitView_foldl (commitView_reactRaised s.cfg) _ _).trans ((commitView_retryRefused _).trans ?_)
  exact (hdue _ _ _).trans ((hsend _ _ _ _).trans (hsend _ _ _ _))

/-- The state in which a COMMIT has ended with a result, before its record. -/
def commitEnded (s : State) (r a : Nat) : State :=
  { s with xbr := { s.xbr with cpend := false, cresult := r, cadr := a, cfc := s.core.counter % 2 ^ 24 } }

theorem evalCommit_nothing {s : State} (h : anythingStaged s = false) : RaiseFrame (commitEnded s 2 0) (evalCommit s) := by
  rw [evalCommit, if_pos (by simp [h])]
  exact frameRec_frame _ _ _ _

theorem evalCommit_fails {s : State} {a : Nat} (h : anythingStaged s = true) (hc : commitCheck s = some a) :
    RaiseFrame (commitEnded s 1 a) (evalCommit s) := by
  simp only [evalCommit, h, hc, Bool.not_true, Bool.false_eq_true, if_false]
  exact frameRec_frame _ _ _ _

theorem evalCommit_applies {s : State} (h : anythingStaged s = true) (hc : commitCheck s = none) :
    RaiseFrame (commitEnded (applyStaged s) 0 0) (evalCommit s) := by
  simp only [evalCommit, h, hc, Bool.not_true, Bool.false_eq_true, if_false]
  exact frameRec_frame _ _ _ _

theorem mem_stRegs (r : StReg) : r ∈ StReg.all := by cases r <;> decide

theorem anythingStaged_eq_false (s : State) : anythingStaged s = false
    ↔ (∀ r, stagedOf s r = cfgGet s.cfg r) ∧ ∀ p ∈ s.stagedPartners, tableEntry s p.1 = p.2 := by
  have hregs : (stagedRegs s).isEmpty = true ↔ ∀ r, stagedOf s r = cfgGet s.cfg r := by
    simp [stagedRegs, List.filter_eq_nil_iff, mem_stRegs]
  rw [← hregs]
  simp [anythingStaged]

theorem commitCheck_least {s : State} {a : Nat} (h : commitCheck s = some a) {r : StReg}
    (hr : rangeFails s r = true ∨ fenceFails s r = true) : a ≤ r.addr := by
  refine (List.min?_eq_some_iff.mp h).2 _ ?_
  simp only [List.mem_append, List.mem_map, List.mem_filter]
  exact .inl (.inl ⟨r, ⟨mem_stRegs r, by simpa using hr⟩, rfl⟩)

theorem commitCheck_none {s : State} (h : commitCheck s = none) (r : StReg) : rangeFails s r = false ∧ fenceFails s r = false := by
  rw [commitCheck, List.min?_eq_none_iff] at h
  have hmap := (List.append_eq_nil_iff.mp (List.append_eq_nil_iff.mp h).1).1
  simpa using List.filter_eq_nil_iff.mp (List.map_eq_nil_iff.mp hmap) r (mem_stRegs r)

/-- What the record of a COMMIT's end leaves of it. -/
theorem commitEnded_shows {u t : State} {r a : Nat} (h : RaiseFrame (commitEnded u r a) t) :
    t.xbr.cpend = false ∧ t.xbr.cfc = u.core.counter % 2 ^ 24 ∧ t.xbr.cresult = r ∧ t.xbr.cadr = a ∧ commitView t = commitView u := by
  refine ⟨?_, ?_, ?_, ?_, (commitView_raise h).trans rfl⟩
  all_goals
    rw [h]
    rfl

/-- Settles O39: the evaluation ends in one of three ways, and `commitView` is what each applies. -/
theorem commitIsAllOrNothing : Obligations.CommitIsAllOrNothing := by
  intro s t
  have hnothing := anythingStaged_eq_false s
  cases hstaged : anythingStaged s with
  | false =>
    obtain ⟨hregs, hentries⟩ := hnothing.mp hstaged
    obtain ⟨hpend, hcfc, hresult, -, hview⟩ := commitEnded_shows (evalCommit_nothing hstaged)
    obtain ⟨hcfg, hst, hsp, hpart, -, hcgen⟩ := by simpa only [commitView, Prod.mk.injEq] using hview
    refine ⟨hpend, hcfc, fun _ _ => ⟨hresult, hcfg, hpart, hst, hcgen, hsp⟩, ?_⟩
    rintro (⟨r, hr⟩ | ⟨p, hp, hne⟩)
    · exact absurd (hregs r) hr
    · exact absurd (hentries p hp) hne
  | true =>
    have hsome : ¬ ((∀ r, stagedOf s r = cfgGet s.cfg r) ∧ ∀ p ∈ s.stagedPartners, tableEntry s p.1 = p.2) :=
      fun hno => absurd (hnothing.mpr hno) (by simp [hstaged])
    cases hcheck : commitCheck s with
    | some a =>
      obtain ⟨hpend, hcfc, hresult, hadr, hview⟩ := commitEnded_shows (evalCommit_fails hstaged hcheck)
      obtain ⟨hcfg, hst, hsp, hpart, -, hcgen⟩ := by simpa only [commitView, Prod.mk.injEq] using hview
      refine ⟨hpend, hcfc, fun hregs hentries => absurd ⟨hregs, hentries⟩ hsome, fun _ => ⟨?_, fun hnone => by cases hnone⟩⟩
      rintro b hb
      obtain rfl := Option.some.inj hb
      exact ⟨hresult, hadr, hcfg, hpart, hst, hsp, hcgen, fun r hr => commitCheck_least hcheck hr⟩
    | none =>
      obtain ⟨hpend, hcfc, hresult, -, hview⟩ := commitEnded_shows (evalCommit_applies hstaged hcheck)
      rw [commitView_applyStaged] at hview
      have hcount : (applyStaged s).core.counter = s.core.counter :=
        congrArg (fun v => v.2.2.2.2.1) (commitView_applyStaged s)
      obtain ⟨hcfg, hst, hsp, hpart, -, hcgen⟩ := by simpa only [commitView, Prod.mk.injEq] using hview
      refine ⟨hpend, hcfc.trans (by rw [hcount]), fun hregs hentries => absurd ⟨hregs, hentries⟩ hsome,
        fun _ => ⟨fun a ha => (by cases ha), fun _ => ⟨hresult, fun r => ?_, hpart, hst, hsp, hcgen, commitCheck_none hcheck⟩⟩⟩
      exact congrArg (cfgGet · r) hcfg

end Sys2Proof.Proofs.Raising

/-! PROOFS. Power failure, the seal, S1, the service watchdog and the recorder's own rows (R393 to R397, R401, R412 to R415, R423). -/

namespace Sys2Proof.Proofs.Power

open Sys2Proof Sys2Proof.Machine Sys2Proof.Safety
open Sys2Proof.Proofs.Frames (lower_isLive_other isLive_congr)
open Sys2Proof.Proofs.Raising (safeStop_ends)

/-! ## The debug level at D0 -/

/-- Debug level D0 ends with its halts released and `DEBUG_OPEN` not live (R411). -/
theorem setDebug_d0 (s : State) (l : Option Lane) : setDebug s .d0 l =
    lower { s with sec := { s.sec with dbg := .d0, dlane := none, wantDbg := none }, vot := (releaseHalts s).vot } .sec eDEBUG_OPEN := rfl

/-! ## The seal (R415) -/

/-- Settles O25, by the power state: the raising of `TAMPER` comes after the keys are gone. -/
theorem brokenSealErasesEveryKey : Obligations.BrokenSealErasesEveryKey := by
  intro s now
  refine ⟨fun hpower => ?_, fun hbackup => ?_, fun hoff => if_pos hoff⟩
  · have hoff : s.pwr.power ≠ .off := by rintro h; simp [h] at hpower
    have hbackup : s.pwr.power ≠ .backup := by rintro h; simp [h] at hpower
    let u := zeroisePlain { later s now with sec := { s.sec with sealBroken := true, tamper := true, kek := false } }
    have hframe := raise_frame u .sec eTAMPER
    refine ⟨raise u .sec eTAMPER, (if_neg hoff).trans (if_neg hbackup), ?_, ?_, ?_, raise_isLive u .sec eTAMPER (by decide),
      fun hdead hsev => raise_stops u .sec eTAMPER hdead hsev, ?_⟩
    · rw [hframe]
      rfl
    · rw [hframe]
      rfl
    · rw [hframe]
      rfl
    · have hsec : (raise u .sec eTAMPER).sec = u.sec := by rw [hframe]
      rw [hsec]
      exact hframe
  · have hoff : s.pwr.power ≠ .off := by simp [hbackup]
    exact (if_neg hoff).trans (if_pos hbackup)

/-! ## S1, the service watchdog and the optics (R423, R430) -/

theorem exec_s1Stuck {s : State} (now : Nat) (hmask : s.sys.s1mask = false) (hrun : s.pwr.power = .run) :
    exec (.s1Stuck now) s = .next (raise { later s now with sys := { s.sys with s1down := true, s1mask := true } } .sys sS1_STUCK) :=
  if_neg (by simp [later, hmask, hrun])

/-- The service processor's watchdog, before its source is raised. -/
def watchdogState (s : State) (now : Nat) : State :=
  { setDebug { later s now with
      sec := { s.sec with session := none, chal := none }
      evr := { s.evr with buffer := [], flushing := none, again := false, next := s.evr.journal } } .d0 none with
    sys := { s.sys with wdogAt := some (max s.now now), cause := 5 }
    upd := { s.upd with svcAt := some (max s.now now) } }

theorem exec_svcWdog (s : State) (now : Nat) : exec (.svcWdog now) s = .next (pulse (watchdogState s now) .sys sSVC_WDOG) := rfl

/-- Settles O27: the two S1 rows and the watchdog raise or lower a source on the state that they set. -/
theorem s1WatchdogAndOpticActOnTheirOwn : Obligations.S1WatchdogAndOpticActOnTheirOwn := by
  intro s now
  refine ⟨fun hmask hrun => ?_, ⟨_, rfl, lower_isLive _ _ _ (by decide), rfl⟩, ?_, fun conn qualified h5 h9 => ?_, fun pressed env h => ?_⟩
  · refine ⟨_, exec_s1Stuck now hmask hrun, ?_, ?_, raise_isLive _ _ _ (by decide), raise_frame _ _ _⟩
    all_goals rw [raise_frame _ .sys sS1_STUCK]
  · have hframe := pulse_frame (watchdogState s now) .sys sSVC_WDOG
    refine ⟨_, exec_svcWdog s now, ?_, ?_, ?_, ?_, ?_, ?_, ?_, pulse_isLive _ _ _ (by decide), ?_⟩
    all_goals
      try unfold RaiseFrame
      rw [hframe]
      rfl
  · have hconn : ¬ (conn < 5 ∨ 9 < conn) := by omega
    refine ⟨if qualified then s.sys.optics.filter (· != conn) ++ [conn] else s.sys.optics.filter (· != conn), if_neg hconn, ?_,
      fun c hc => ?_⟩
    · cases qualified <;> simp
    · cases qualified <;> simp [hc]
  · exact if_pos h

/-! ## The hourly MARK (R393, R394) -/

theorem exec_mark {s : State} {now : Nat} (hrun : svcRuns s = true) (hdue : s.evr.markAt + 3600000000 ≤ max s.now now) :
    exec (.mark now) s = .next (svcRec { later s now with evr := { s.evr with markAt := max s.now now } } 0x15 0 []) := by
  refine if_pos ?_
  rw [Bool.and_eq_true, decide_eq_true_iff]
  exact ⟨hdue, hrun⟩

/-- An ACTIVE module that has relinquished and whose last frame is in its drain, with the recorder open: its role is shown ACTIVE
until the drain's end, and STANDBY from then on. -/
def relinquishing : State :=
  { dpx := { role := .active, relinquished := true }, frm := { drainEnd := 5 }, evr := { next := 1 } }

/-- The same module one hour later, as MARK finds it. -/
def relinquishedLater : State :=
  { later relinquishing 3600000000 with evr := { relinquishing.evr with markAt := max relinquishing.now 3600000000 } }

/-- Refutes O21: the MARK record carries the MSW of its time of formation, and the drain ends between the state before and that
time, so that the record shows STANDBY where the MSW before shows ACTIVE. -/
theorem not_recordsAreTakenInOrder : ¬ Obligations.RecordsAreTakenInOrder := by
  intro h
  have hroom : CanRecord relinquishing 16 := by
    unfold CanRecord
    decide
  have hdue : relinquishing.evr.markAt + 3600000000 ≤ max relinquishing.now 3600000000 := by decide
  obtain ⟨t, hexec, -, ⟨hkept, -⟩, -⟩ := (h relinquishing 3600000000 rfl).2 hdue hroom
  rw [exec_mark rfl hdue] at hexec
  obtain rfl := Host.Outcome.next.inj hexec
  obtain ⟨hformed, -⟩ := svcRec_kept relinquishedLater 0x15 0 [] hroom
  have hlast := List.append_cancel_left (hformed.symm.trans hkept)
  have hmsw : msw relinquishedLater = msw relinquishing := 
    congrArg (fun k : Kept => k.r.msw) (List.head_eq_of_cons_eq hlast)
  exact absurd hmsw (by decide)

/-! ## Power failure (R412 to R414) -/

/-- The state in which HOLDUP has begun, before its source is raised. -/
def holdupBegun (s : State) (x1 now : Nat) : State :=
  { measureX1 (later s now) x1 with pwr := { (measureX1 (later s now) x1).pwr with
      power := .holdup, huAt := some (max s.now now), huStopped := false, zeroised := false, hucnt := satAdd 255 1 s.pwr.hucnt } }

/-- The record of HOLDUP, written with the whole buffer. -/
def holdupNoted (s : State) (x1 now : Nat) : State :=
  let u := raise (holdupBegun s x1 now) .pwr wHOLDUP
  let wf := if s.dpx.role = .alone then s.image.frame else s.dpx.wframe
  startFlush (svcRec u 0x11 1 (be 6 wf ++ be 2 s.pwr.pcc))

theorem exec_holdup {s : State} {x1 : Nat} (now : Nat) (hrun : s.pwr.power = .run) (hlow : x1 < 160) :
    exec (.holdup x1 now) s = .next (writeRtc (setDebug (holdupNoted s x1 now) .d0 none)) :=
  if_neg (by simp [measureX1, later, hrun, hlow])

theorem holdupNoted_frame (s : State) (x1 now : Nat) : RaiseFrame (holdupBegun s x1 now) (holdupNoted s x1 now) :=
  ((raise_frame _ _ _).trans (svcRec_frame _ _ _ _).raise).trans (startFlush_frame _).raise

theorem holdupNoted_isLive (s : State) (x1 now : Nat) : isLive (holdupNoted s x1 now) .pwr wHOLDUP = true := by
  have hfaults : (holdupNoted s x1 now).faults = (raise (holdupBegun s x1 now) .pwr wHOLDUP).faults :=
    (SvcFrame.faults (startFlush_frame _)).trans (SvcFrame.faults (svcRec_frame _ _ _ _))
  rw [isLive_congr hfaults]
  exact raise_isLive _ _ _ (by decide)

theorem writeRtc_base {s : State} {b : Int} (h : s.evr.base = some b) :
    writeRtc s = { s with evr := { s.evr with rtc := some (b + 1000 * s.now), rtcAt := s.now } } := by
  simp only [writeRtc, utcNow?, h, Option.map_some]

/-- Writing the RTC touches the RTC only. -/
theorem writeRtc_eq (s : State) :
    writeRtc s = { s with evr := { s.evr with rtc := (writeRtc s).evr.rtc, rtcAt := (writeRtc s).evr.rtcAt } } := by
  unfold writeRtc
  split <;> rfl

theorem heldUp_of {s : State} {us u n : Nat} (hpower : s.pwr.power = .holdup) (hu : s.pwr.huAt = some u) (h : u + us ≤ max s.now n) :
    heldUp (later s n) us = true := by
  have hlater : (later s n).pwr.power = .holdup ∧ (later s n).pwr.huAt = some u := ⟨hpower, hu⟩
  simp only [heldUp, hlater.1, hlater.2, decide_true, Bool.true_and]
  exact decide_eq_true h

/-- HOLDUP's last steps: debug level D0, and the RTC. -/
theorem holdupEnds (u : State) : writeRtc (setDebug u .d0 none) =
    { u with
      sec := { u.sec with dbg := .d0, dlane := none, wantDbg := none }, vot := (releaseHalts u).vot
      faults := (lower u .sec eDEBUG_OPEN).faults
      evr := { u.evr with rtc := (writeRtc (setDebug u .d0 none)).evr.rtc, rtcAt := (writeRtc (setDebug u .d0 none)).evr.rtcAt } } :=
  (writeRtc_eq _).trans rfl

theorem holdup_runs {s : State} {x1 : Nat} (now : Nat) (hrun : s.pwr.power = .run) (hlow : x1 < 160) :
    ∃ t, exec (.holdup x1 now) s = .next t
      ∧ t.pwr = { s.pwr with x1 := x1, x1min := min s.pwr.x1min x1, power := .holdup, huAt := some (max s.now now), huStopped := false,
                             zeroised := false, hucnt := min 255 (s.pwr.hucnt + 1) }
      ∧ isLive t .pwr wHOLDUP = true ∧ t.sec = { s.sec with dbg := .d0, dlane := none, wantDbg := none }
      ∧ (∀ b, s.evr.base = some b → t.evr.rtc = some (b + 1000 * ((max s.now now : Nat) : Int)) ∧ t.evr.rtcAt = max s.now now)
      ∧ RaiseFrame { s with now := max s.now now, pwr := t.pwr, sec := t.sec, evr := { s.evr with rtc := t.evr.rtc, rtcAt := t.evr.rtcAt } }
          t := by
  have hnoted := holdupNoted_frame s x1 now
  have hlive := holdupNoted_isLive s x1 now
  refine ⟨_, exec_holdup now hrun hlow, ?_⟩
  generalize holdupNoted s x1 now = u at hnoted hlive
  have hends := holdupEnds u
  have hsec : u.sec = s.sec := by
    rw [hnoted]
    rfl
  have hpwr : u.pwr = (holdupBegun s x1 now).pwr := by rw [hnoted]
  refine ⟨?_, ?_, ?_, fun b hb => ?_, ?_⟩
  · rw [hends]
    exact hpwr
  · have hfaults : (writeRtc (setDebug u .d0 none)).faults = (lower u .sec eDEBUG_OPEN).faults := by rw [hends]
    rw [isLive_congr hfaults, lower_isLive_other _ _ _ (by decide)]
    exact hlive
  · rw [hends, hsec]
  · have hbase : (setDebug u .d0 none).evr.base = some b := by
      rw [setDebug_d0, hnoted]
      exact hb
    have hnow : (setDebug u .d0 none).now = max s.now now := by
      rw [setDebug_d0, hnoted]
      rfl
    rw [writeRtc_base hbase, hnow]
    exact ⟨rfl, rfl⟩
  · generalize writeRtc (setDebug u .d0 none) = t at hends
    unfold RaiseFrame
    rw [hends, hnoted]
    rfl

/-- Marking the recorder closed touches the two marks only. -/
theorem markShutdown_eq (s : State) :
    markShutdown s = { s with evr := { s.evr with mark := (markShutdown s).evr.mark, closed := (markShutdown s).evr.closed } } := by
  unfold markShutdown
  split <;> rfl

theorem markShutdown_marks {s : State} (hpower : s.pwr.power = .holdup) (hstopped : s.pwr.huStopped = true)
    (hflush : s.evr.flushing = none) (hbuffer : s.evr.buffer = []) :
    (markShutdown s).evr.mark = true ∧ (markShutdown s).evr.closed = true := by
  rw [markShutdown, if_pos ⟨hpower, hstopped, hflush, hbuffer⟩]
  exact ⟨rfl, rfl⟩

/-- The stop 20 ms after X1 failed, with the flush that it starts. -/
def holdupStopped (s : State) (now : Nat) : State :=
  startFlush (safeStop { later s now with pwr := { s.pwr with huStopped := true } })

theorem holdupStopped_frame (s : State) (now : Nat) :
    RaiseFrame { later s now with pwr := { s.pwr with huStopped := true } } (holdupStopped s now) :=
  (safeStop_frame _).trans (startFlush_frame _).raise

theorem holdupStopped_stops (s : State) (now : Nat) : (holdupStopped s now).sys.stopped = true ∧ (s.sys.stopped = false →
    (holdupStopped s now).work = none ∧ (holdupStopped s now).dpx.granted = false ∧ (holdupStopped s now).frm.nextTick = none) := by
  have hflush := startFlush_frame (safeStop { later s now with pwr := { s.pwr with huStopped := true } })
  rw [holdupStopped, hflush]
  refine ⟨safeStop_stopped _, fun hruns => ?_⟩
  obtain ⟨hwork, hgranted, hframe, -⟩ := safeStop_ends (s := { later s now with pwr := { s.pwr with huStopped := true } }) hruns
  exact ⟨hwork, hgranted, hframe⟩

theorem holdup_stops {s : State} {now : Nat} (hheld : heldUp (later s now) 20000 = true) (hhold : s.pwr.power = .holdup)
    (hruns : s.pwr.huStopped = false) :
    ∃ t, exec (.holdupSafeStop now) s = .next t ∧ t.sys.stopped = true ∧ t.pwr = { s.pwr with huStopped := true }
      ∧ (s.sys.stopped = false → t.work = none ∧ t.dpx.granted = false ∧ t.frm.nextTick = none)
      ∧ (t.evr.flushing = none → t.evr.buffer = [] → t.evr.mark = true ∧ t.evr.closed = true)
      ∧ RaiseFrame { s with now := max s.now now, pwr := t.pwr, evr := { s.evr with mark := t.evr.mark, closed := t.evr.closed } } t := by
  have hexec : exec (.holdupSafeStop now) s = .next (markShutdown (holdupStopped s now)) := by
    refine if_pos ?_
    rw [hheld, show (later s now).pwr.huStopped = false from hruns]
    rfl
  have hframe := holdupStopped_frame s now
  obtain ⟨hstop, hends⟩ := holdupStopped_stops s now
  refine ⟨_, hexec, ?_⟩
  generalize holdupStopped s now = v at hframe hstop hends
  have hpwr : v.pwr = { s.pwr with huStopped := true } := by rw [hframe]
  have hmarked := markShutdown_eq v
  refine ⟨?_, ?_, ?_, fun hflush hbuffer => ?_, ?_⟩
  · rw [hmarked]
    exact hstop
  · rw [hmarked]
    exact hpwr
  · rw [hmarked]
    exact hends
  · rw [hmarked] at hflush hbuffer
    exact markShutdown_marks (by rw [hpwr]; exact hhold) (by rw [hpwr]) hflush hbuffer
  · generalize markShutdown v = t at hmarked
    unfold RaiseFrame
    rw [hmarked, hframe]
    rfl

/-- Settles O24: HOLDUP by `holdup_runs`; each later step takes its row where the power state and the time are those of its step. -/
theorem powerFailureRunsItsSteps : Obligations.PowerFailureRunsItsSteps := by
  intro s now n
  refine ⟨fun x1 hrun hlow => holdup_runs now hrun hlow, fun x1 hhold hruns hhigh => ?_, fun u hhold hu => ⟨?_, ?_, ?_⟩, fun hbackup => ?_⟩
  · refine ⟨_, if_pos ⟨hhold, by simpa [measureX1, later] using hruns, hhigh⟩, lower_isLive _ _ _ (by decide), rfl⟩
  · intro hruns hlate
    exact holdup_stops (heldUp_of hhold hu hlate) hhold hruns
  · intro hstopped hplain hlate
    have hheld : heldUp (later s now) 25000 = true := heldUp_of hhold hu hlate
    refine if_pos ?_
    rw [hheld, show (later s now).pwr.huStopped = true from hstopped, show (later s now).pwr.zeroised = false from hplain]
    rfl
  · intro hstopped hlate
    have hheld : heldUp (later s now) 30000 = true := heldUp_of hhold hu hlate
    refine ⟨_, if_pos ?_, rfl, rfl, rfl, rfl, rfl, rfl, rfl, rfl, rfl, rfl, rfl, rfl, rfl, rfl, rfl, rfl, rfl, rfl, rfl⟩
    rw [hheld, show (later s now).pwr.huStopped = true from hstopped]
    rfl
  · exact if_neg (not_not.mpr hbackup)

end Sys2Proof.Proofs.Power

/-! PROOFS. The maintenance session (R409, R411): who is let in, the challenge and its proof, and the ends of a session. -/

namespace Sys2Proof.Proofs.Sessions

open Sys2Proof Sys2Proof.Machine Sys2Proof.Safety
open Sys2Proof.Proofs.LaneCommands (gated_pass reply_replies)
open Sys2Proof.Proofs.Gate (gateOf_empty)
open Sys2Proof.Proofs.Power (setDebug_d0)

/-! ## The requests to open -/

section
variable {s : State} {src : Src} {net : NetAddr} {kslot : Nat} (hguest : guestEntry s net kslot = none)
  (hgate : gateOf s src 0x80 = .pass) (f : Src → State → State)
include hguest hgate

theorem senderOf_partner : senderOf s src net kslot = some (src, s) := by
  have haddr : (partnerAt s src.entry).addr ≠ 0xFFFF := fun h => by simp [gateOf_empty h] at hgate
  simp only [senderOf, hguest, if_neg haddr]

theorem openRow_refused {st : Status} (hrefused : openRefusal (hearFrom s src.entry) src net kslot = some st) :
    Replies (hearFrom s src.entry) (openRow src net kslot f s) src 0x80 st [] := by
  have hreply := reply_replies (hearFrom s src.entry) src 0x80 st []
  simp only [openRow, senderOf_partner hguest hgate, gated_pass hgate, hrefused]
  split
  · unfold Replies at hreply ⊢
    rw [hreply]
    rfl
  · exact hreply

theorem openRow_admitted (hadmitted : openRefusal (hearFrom s src.entry) src net kslot = none) :
    openRow src net kslot f s = f src (hearFrom s src.entry) := by
  simp only [openRow, senderOf_partner hguest hgate, gated_pass hgate, hadmitted]

end

/-! ## The checks before the proof -/

theorem openRefusal_kslot {s : State} {src : Src} {net : NetAddr} {kslot : Nat} (h : 2 < kslot) :
    openRefusal s src net kslot = some .badLen := if_pos h

section
variable {s : State} {src : Src} {net : NetAddr} {kslot : Nat} (hk : kslot ≤ 2)
include hk

theorem openRefusal_notAuth (h : kslotOk s kslot = false ∨ isLockedOut s src.entry = true) :
    openRefusal s src net kslot = some .notAuth := by
  rw [openRefusal, if_neg (Nat.not_lt.mpr hk), if_pos]
  obtain h | h := h <;> simp [h]

variable (hok : kslotOk s kslot = true) (hfree : isLockedOut s src.entry = false)
include hok hfree

theorem openRefusal_busy (h : heldByOther s src net = true) : openRefusal s src net kslot = some .busy := by
  simp [openRefusal, Nat.not_lt.mpr hk, hok, hfree, h]

theorem openRefusal_none (h : heldByOther s src net = false) : openRefusal s src net kslot = none := by
  simp [openRefusal, Nat.not_lt.mpr hk, hok, hfree, h]

end

/-! ## The proof -/

/-- The challenge is that of this partner and not older than 30 s. -/
def FreshChallenge (s : State) (src : Src) (chal : BitVec 128) : Prop :=
  ∃ g, s.sec.chal = some { entry := src.entry, addr := src.addr, value := chal, givenAt := g } ∧ s.now ≤ g + 30000000

/-- The proof is the one of a key under which this partner may prove. -/
def GoodProof (s : State) (src : Src) (kslot : Nat) (chal : BitVec 128) (proof : BitVec 64) : Prop :=
  ∃ k ∈ proofKeys s src.entry kslot, proofOf s k chal src.addr = proof

/-- What the second request looks at (R409). -/
def proves (s : State) (src : Src) (kslot : Nat) (chal : BitVec 128) (proof : BitVec 64) : Bool :=
  (match s.sec.chal with
    | some k => k.entry == src.entry && k.addr == src.addr && k.value == chal && decide (s.now ≤ k.givenAt + 30000000)
    | none => false) && (proofKeys s src.entry kslot).any fun k => proofOf s k chal src.addr == proof

theorem proves_iff (s : State) (src : Src) (kslot : Nat) (chal : BitVec 128) (proof : BitVec 64) :
    proves s src kslot chal proof = true ↔ FreshChallenge s src chal ∧ GoodProof s src kslot chal proof := by
  have hgood : ((proofKeys s src.entry kslot).any fun k => proofOf s k chal src.addr == proof) = true
      ↔ GoodProof s src kslot chal proof := by simp [GoodProof]
  rw [proves, Bool.and_eq_true, hgood, FreshChallenge]
  refine and_congr_left fun _ => ?_
  cases s.sec.chal with
  | none => simp
  | some k =>
    obtain ⟨entry, addr, value, givenAt⟩ := k
    simp only [Bool.and_eq_true, beq_iff_eq, decide_eq_true_eq, Option.some.injEq, Chal.mk.injEq]
    constructor
    · rintro ⟨⟨⟨rfl, rfl⟩, rfl⟩, h⟩
      exact ⟨givenAt, ⟨rfl, rfl, rfl, rfl⟩, h⟩
    · rintro ⟨g, ⟨rfl, rfl, rfl, rfl⟩, h⟩
      exact ⟨⟨⟨rfl, rfl⟩, rfl⟩, h⟩

/-! ## A failed authentication -/

/-- The security block after a failed authentication, before its source is raised. -/
def failedSec (s : State) (entry : Nat) : SecBlk :=
  let c := s.sec
  let recent := (entry, s.now) :: c.failures.filter fun f => s.now < f.2 + 600000000
  let full := 5 ≤ (recent.filter (·.1 == entry)).length
  { c with
    failures := if full then recent.filter (·.1 != entry) else recent
    locked := if full then (entry, s.now) :: c.locked.filter (·.1 != entry) else c.locked
    failCount := satAdd 65535 1 c.failCount, lastFail := some entry, authAt := some s.now }

theorem authFail_eq (s : State) (entry : Nat) : authFail s entry = raise { s with sec := failedSec s entry } .sec eAUTH_FAIL := rfl

theorem authFail_sec (s : State) (entry : Nat) : (authFail s entry).sec = failedSec s entry := by
  rw [authFail_eq, raise_frame { s with sec := failedSec s entry } .sec eAUTH_FAIL]

theorem authFail_frame (s : State) (entry : Nat) : RaiseFrame { s with sec := (authFail s entry).sec } (authFail s entry) := by
  rw [authFail_sec]
  exact raise_frame _ _ _

theorem authFail_isLive (s : State) (entry : Nat) : isLive (authFail s entry) .sec eAUTH_FAIL = true := raise_isLive _ _ _ (by decide)

/-- The fifth failure within 10 min locks the partner out. -/
theorem authFail_locks {s : State} {entry : Nat}
    (h : 4 ≤ (s.sec.failures.filter fun f => f.1 == entry && decide (s.now < f.2 + 600000000)).length) :
    isLockedOut (authFail s entry) entry = true := by
  have hnow : (authFail s entry).now = s.now := by
    rw [authFail_frame s entry]
  have hfull : 5 ≤ (((entry, s.now) :: s.sec.failures.filter fun f => s.now < f.2 + 600000000).filter (·.1 == entry)).length := by
    rw [List.filter_cons_of_pos (by simp), List.filter_filter, List.length_cons]
    exact Nat.succ_le_succ h
  have hlocked : (entry, s.now) ∈ (authFail s entry).sec.locked := by
    rw [authFail_sec, failedSec]
    dsimp only
    rw [if_pos hfull]
    exact List.mem_cons_self
  refine List.any_eq_true.mpr ⟨_, hlocked, ?_⟩
  rw [hnow, beq_self_eq_true, Bool.true_and]
  exact decide_eq_true (Nat.lt_add_of_pos_right (by decide))

/-! ## The rows -/

/-- The state with a challenge given, before the reply. -/
def challenged (u : State) (src : Src) : State :=
  { u with free := u.free + 1
           sec := { u.sec with chal := some { entry := src.entry, addr := src.addr, value := Config.challenge u.free, givenAt := u.now } } }

/-- The state with a session open, before the reply. -/
def opened (u : State) (src : Src) (net : NetAddr) (kslot : Nat) : State :=
  { u with sec := { u.sec with
      chal := none, guestBound := u.sec.guestBound || src.entry == 31
      session := some { entry := src.entry, addr := (partnerAt u src.entry).addr, ip := net.ip, udpp := net.udpp, kslot := kslot
                        lastAt := u.now } } }

/-- The state after a proof that fails, before the reply. -/
def refusedProof (u : State) (src : Src) : State := authFail { u with sec := { u.sec with chal := none } } src.entry

theorem refusedProof_shows (u : State) (src : Src) :
    (refusedProof u src).sec.session = u.sec.session ∧ (refusedProof u src).sec.chal = none
      ∧ (refusedProof u src).sec.failCount = min 65535 (u.sec.failCount + 1) ∧ (refusedProof u src).sec.lastFail = some src.entry
      ∧ isLive (refusedProof u src) .sec eAUTH_FAIL = true := by
  refine ⟨?_, ?_, ?_, ?_, authFail_isLive _ _⟩
  all_goals
    rw [refusedProof, authFail_sec]
    rfl

theorem refusedProof_locks {u : State} {src : Src}
    (h : 4 ≤ (u.sec.failures.filter fun f => f.1 == src.entry && decide (u.now < f.2 + 600000000)).length) :
    isLockedOut (refusedProof u src) src.entry = true := authFail_locks h

theorem refusedProof_frame (u : State) (src : Src) : RaiseFrame { u with sec := (refusedProof u src).sec } (refusedProof u src) :=
  authFail_frame { u with sec := { u.sec with chal := none } } src.entry

section
variable {s : State} {src : Src} {net : NetAddr} {kslot : Nat} {now : Nat} (hguest : guestEntry (later s now) net kslot = none)
  (hgate : gateOf (later s now) src 0x80 = .pass)
include hguest hgate

/-- A request that the checks refuse is answered with their status, whichever request it is. -/
theorem both_refused {st : Status} (h : openRefusal (hearFrom (later s now) src.entry) src net kslot = some st) :
    SvcReply (.sessionOpen src net kslot now) s (hearFrom (later s now) src.entry) src 0x80 st []
      ∧ ∀ chal proof, SvcReply (.sessionOpenProof src net kslot chal proof now) s (hearFrom (later s now) src.entry) src 0x80 st [] :=
  ⟨⟨_, rfl, openRow_refused hguest hgate _ h⟩, fun _ _ => ⟨_, rfl, openRow_refused hguest hgate _ h⟩⟩

variable (hadmitted : openRefusal (hearFrom (later s now) src.entry) src net kslot = none)
include hadmitted

theorem firstRequest : SvcReply (.sessionOpen src net kslot now) s (challenged (hearFrom (later s now) src.entry) src) src 0x80 .done
    (be 16 (Config.challenge (hearFrom (later s now) src.entry).free).toNat) := by
  refine ⟨_, rfl, ?_⟩
  unfold rowSessionOpen
  rw [openRow_admitted hguest hgate _ hadmitted]
  exact reply_replies (challenged (hearFrom (later s now) src.entry) src) src 0x80 .done _

theorem secondRequest (chal : BitVec 128) (proof : BitVec 64) :
    exec (.sessionOpenProof src net kslot chal proof now) s = .next (
      if proves (hearFrom (later s now) src.entry) src kslot chal proof then
        reply (opened (hearFrom (later s now) src.entry) src net kslot) src 0x80 .done []
      else reply (refusedProof (hearFrom (later s now) src.entry) src) src 0x80 .notAuth []) := by
  refine congrArg Host.Outcome.next ?_
  unfold rowSessionOpenProof
  rw [openRow_admitted hguest hgate _ hadmitted]
  rfl

end

/-! ## The ends of a session -/

theorem closeSession_eq (s : State) : closeSession s = lower { s with
    sec := { s.sec with session := none, dbg := .d0, dlane := none, wantDbg := none }
    vot := (releaseHalts s).vot } .sec eDEBUG_OPEN := rfl

theorem releaseHalts_state (s : State) (l : Lane) : (laneOf (releaseHalts s).vot l).state = (laneOf s.vot l).state := by
  cases l <;> rfl

theorem closeSession_isLive (s : State) : isLive (closeSession s) .sec eDEBUG_OPEN = false := lower_isLive _ _ _ (by decide)

theorem sessionTimeout_ends {s : State} {now : Nat} {k : Session} (hk : s.sec.session = some k)
    (hlate : k.lastAt + 60000000 * fieldOf s.cfg.secCtl 0 8 ≤ (later s now).now) :
    exec (.sessionTimeout now) s = .next (closeSession (later s now)) := by
  have hms : k.lastAt + 1000 * sessionMs (later s now).cfg ≤ (later s now).now := by
    have hcfg : sessionMs (later s now).cfg = 60000 * fieldOf s.cfg.secCtl 0 8 := rfl
    omega
  have hsession : (later s now).sec.session = some k := hk
  change execSessionTimeout now s = _
  simp only [execSessionTimeout, hsession, if_pos hms]

/-- The lockouts of others and those younger than 10 min stand. -/
theorem mem_lockoutsLeft {locked : List (Nat × Nat)} {entry now : Nat} {p : Nat × Nat} :
    p ∈ locked.filter (fun f => f.1 != entry || decide (now < f.2 + 600000000))
      ↔ p ∈ locked ∧ ¬ (p.1 = entry ∧ p.2 + 600000000 ≤ now) := by
  simp only [List.mem_filter, Bool.or_eq_true, bne_iff_ne, decide_eq_true_eq, not_and_or, Nat.not_le]

/-- Settles O37: the checks before the proof for both requests, then the proof, and the ends by `closeSession`. -/
theorem sessionsOpenUnderProofOnly : Obligations.SessionsOpenUnderProofOnly := by
  intro s src net kslot now v u
  refine ⟨fun hguest hgate => ?_, fun hgate => ?_, fun k hk hlate => ?_, fun entry => ?_⟩
  · intro both
    have hrefused : ∀ {st}, openRefusal u src net kslot = some st → both st := both_refused hguest hgate
    refine ⟨fun hslot => hrefused (openRefusal_kslot hslot), fun hslot =>
      ⟨fun h => hrefused (openRefusal_notAuth hslot h), fun hok hfree =>
        ⟨fun hheld => hrefused (openRefusal_busy hslot hok hfree hheld), fun hother => ?_⟩⟩⟩
    have hadmitted := openRefusal_none hslot (s := u) hok hfree hother
    refine ⟨⟨_, firstRequest hguest hgate hadmitted⟩, fun chal proof => ?_⟩
    intro fresh good
    have hexec := secondRequest hguest hgate hadmitted chal proof
    have hproves : proves u src kslot chal proof = true ↔ fresh ∧ good := proves_iff u src kslot chal proof
    refine ⟨fun hfresh hgood => ⟨_, hexec, ?_⟩, fun hbad => ⟨refusedProof u src, ⟨_, hexec, ?_⟩, ?_⟩⟩
    · rw [if_pos (hproves.mpr ⟨hfresh, hgood⟩)]
      exact reply_replies (opened u src net kslot) src 0x80 .done []
    · rw [if_neg (mt hproves.mp hbad)]
      exact reply_replies (refusedProof u src) src 0x80 .notAuth []
    · obtain ⟨hsession, hchal, hcount, hlast, hlive⟩ := refusedProof_shows u src
      exact ⟨hsession, hchal, hcount, hlast, hlive, fun h => refusedProof_locks (u := u) h, refusedProof_frame u src⟩
  · let w := reply (hearFrom s src.entry) src 0x81 .done []
    have hreply : Replies (hearFrom s src.entry) w src 0x81 .done [] := reply_replies _ src 0x81 .done []
    refine ⟨w, closeSession w, congrArg Host.Outcome.next (gated_pass hgate _), hreply, rfl, closeSession_isLive w, fun l => ?_⟩
    have hvot : w.vot = s.vot := by
      rw [hreply]
      rfl
    exact (releaseHalts_state w l).trans (by rw [hvot])
  · exact ⟨closeSession v, sessionTimeout_ends hk hlate, closeSession_isLive v, rfl⟩
  · exact ⟨_, rfl, rfl, fun p => mem_lockoutsLeft⟩

end Sys2Proof.Proofs.Sessions

/-! PROOFS. Keys and calendar time by command (R416 to R418, R402): the wrapping counters, the blobs, KEY_LOAD,
KEY_ERASE and TIME_SET. -/

namespace Sys2Proof.Proofs.Keys

open Sys2Proof Sys2Proof.Machine Sys2Proof.Safety
open Sys2Proof.Proofs.LaneCommands (gated_pass reply_replies)

/-! ## The wrapping counter of a key -/

theorem bumpCounter_same (c : SecBlk) (kt ix sl : Nat) : keyCounter (bumpCounter c kt ix sl) kt ix sl = keyCounter c kt ix sl + 1 := by
  conv_lhs => rw [keyCounter, bumpCounter]
  simp

theorem bumpCounter_other (c : SecBlk) {kt ix sl a b d : Nat} (h : ¬ (a = kt ∧ b = ix ∧ d = sl)) :
    keyCounter (bumpCounter c kt ix sl) a b d = keyCounter c a b d := by
  have hhead : (kt == a && ix == b && sl == d) = false := by
    simp only [Bool.and_eq_false_iff, beq_eq_false_iff_ne, ne_eq]
    grind
  have hrest : ∀ k : Nat × Nat × Nat × Nat, ((k.1 == a && k.2.1 == b && k.2.2.1 == d) = true) →
      (!(k.1 == kt && k.2.1 == ix && k.2.2.1 == sl)) = true := by
    intro k
    simp only [Bool.and_eq_true, beq_iff_eq, Bool.not_eq_true', Bool.and_eq_false_iff, beq_eq_false_iff_ne]
    grind
  rw [keyCounter, bumpCounter, keyCounter]
  dsimp only
  rw [List.find?_cons_of_neg (by simp [hhead]), List.find?_filter]
  congr 2
  refine congrArg (List.find? · c.counters) (funext fun k => ?_)
  have hk := hrest k
  revert hk
  cases (k.1 == a && k.2.1 == b && k.2.2.1 == d) <;> simp

/-! ## The blobs of a place -/

/-- The blob is of the place. -/
def AtPlace (kt ix sl : Nat) (b : Blob) : Prop := b.ktype = kt ∧ b.index = ix ∧ b.slot = sl

theorem mem_otherBlobs {bs : List Blob} {kt ix sl : Nat} {b : Blob} :
    b ∈ bs.filter (fun j => !(j.ktype == kt && j.index == ix && j.slot == sl)) ↔ b ∈ bs ∧ ¬ AtPlace kt ix sl b := by
  simp only [List.mem_filter, AtPlace, Bool.not_eq_true', Bool.and_eq_false_iff, beq_eq_false_iff_ne, not_and_or, or_assoc, ne_eq]

theorem mem_otherKeys {ks : List PlainKey} {kt ix sl : Nat} {k : PlainKey} :
    k ∈ ks.filter (fun j => !sameKey kt ix sl j) ↔ k ∈ ks ∧ ¬ (k.ktype = kt ∧ k.index = ix ∧ k.slot = sl) := by
  simp only [List.mem_filter, sameKey, Bool.not_eq_true', Bool.and_eq_false_iff, beq_eq_false_iff_ne, not_and_or, or_assoc, ne_eq]

theorem mem_putKey (ks : List PlainKey) (k : PlainKey) : k ∈ putKey ks k := List.mem_append_right _ (List.mem_singleton.mpr rfl)

/-! ## The rows -/

/-- The security block that KEY_LOAD of this key leaves. -/
def loadedSec (c : SecBlk) (kt ix sl : Nat) (k : Key) : SecBlk :=
  let c1 := bumpCounter c kt ix sl
  let b : Blob := { ktype := kt, index := ix, slot := sl, ctr := keyCounter c1 kt ix sl, gen := c.kekGen, key := k }
  { c1 with blobs := c1.blobs.filter (fun j => !(j.ktype == kt && j.index == ix && j.slot == sl)) ++ [b]
            coming := putKey c.coming { ktype := kt, index := ix, slot := sl, key := k }, going := c.going.filter (· != (kt, ix, sl)) }

/-- The security block that KEY_ERASE leaves. -/
def erasedSec (c : SecBlk) (kt ix sl : Nat) : SecBlk :=
  let c1 := bumpCounter c kt ix sl
  { c1 with blobs := c.blobs.filter fun j => !(j.ktype == kt && j.index == ix && j.slot == sl)
            coming := c.coming.filter fun k => !sameKey kt ix sl k
            going := c.going.filter (· != (kt, ix, sl)) ++ [(kt, ix, sl)] }

section
variable {s : State} {src : Src} {kt ix sl : Nat} {epub wrapped : Bytes} (hgate : gateOf s src 0x8F = .pass)
include hgate

theorem keyLoad_badLen (h : keyPlace kt ix sl = false ∨ epub.length ≠ 97 ∨ wrapped.length ≠ 40) :
    rowKeyLoad src kt ix sl epub wrapped s = reply (hearFrom s src.entry) src 0x8F .badLen [] := by
  rw [rowKeyLoad, gated_pass hgate]
  exact if_pos (by simpa using h)

theorem keyErase_badLen (h : keyPlace kt ix sl = false) :
    rowKeyErase src kt ix sl s = reply (hearFrom s src.entry) src 0x8F .badLen [] := by
  rw [rowKeyErase, gated_pass hgate]
  exact if_pos (by simpa using h)

variable (hplace : keyPlace kt ix sl = true)
include hplace

theorem keyErase_badState (huse : keyInUse s kt sl = true) :
    rowKeyErase src kt ix sl s = reply (hearFrom s src.entry) src 0x8F .badState [] := by
  rw [rowKeyErase, gated_pass hgate, if_neg (by simp [hplace])]
  exact if_pos huse

theorem keyErase_done (huse : keyInUse s kt sl = false) : rowKeyErase src kt ix sl s =
    reply { hearFrom s src.entry with sec := erasedSec (hearFrom s src.entry).sec kt ix sl } src 0x8F .done [] := by
  rw [rowKeyErase, gated_pass hgate, if_neg (by simp [hplace])]
  exact if_neg (Bool.eq_false_iff.mp huse)

variable (hepub : epub.length = 97) (hwrapped : wrapped.length = 40)
include hepub hwrapped

theorem keyLoad_badState (huse : keyInUse s kt sl = true) :
    rowKeyLoad src kt ix sl epub wrapped s = reply (hearFrom s src.entry) src 0x8F .badState [] := by
  rw [rowKeyLoad, gated_pass hgate, if_neg (by simp [hplace, hepub, hwrapped])]
  exact if_pos huse

variable (huse : keyInUse s kt sl = false)
include huse

theorem keyLoad_refused (hunwrap : unwrapKey s.sys.serial epub wrapped = none) : rowKeyLoad src kt ix sl epub wrapped s =
    reply (raise { hearFrom s src.entry with sec := { (hearFrom s src.entry).sec with authAt := some s.now } } .sec eAUTH_FAIL)
      src 0x8F .refused [] := by
  have hunwrap : unwrapKey (hearFrom s src.entry).sys.serial epub wrapped = none := hunwrap
  rw [rowKeyLoad, gated_pass hgate, if_neg (by simp [hplace, hepub, hwrapped])]
  refine (if_neg (Bool.eq_false_iff.mp huse)).trans ?_
  rw [hunwrap]
  rfl

theorem keyLoad_done {k : Key} (hunwrap : unwrapKey s.sys.serial epub wrapped = some k) : rowKeyLoad src kt ix sl epub wrapped s =
    reply { hearFrom s src.entry with sec := loadedSec (hearFrom s src.entry).sec kt ix sl k } src 0x8F .done [] := by
  have hunwrap : unwrapKey (hearFrom s src.entry).sys.serial epub wrapped = some k := hunwrap
  rw [rowKeyLoad, gated_pass hgate, if_neg (by simp [hplace, hepub, hwrapped])]
  refine (if_neg (Bool.eq_false_iff.mp huse)).trans ?_
  rw [hunwrap]
  rfl

end

/-! ## What the rows leave -/

theorem svcReply_reply {c : Instr} {s u x : State} {src : Src} {opc : Nat} {st : Status} {body : Bytes} (hexec : exec c s = .next x)
    (hrow : x = reply u src opc st body) : SvcReply c s u src opc st body :=
  ⟨x, hexec, hrow ▸ reply_replies u src opc st body⟩

theorem mem_loaded_atPlace {c : SecBlk} {kt ix sl : Nat} {k : Key} (b : Blob) :
    b ∈ (loadedSec c kt ix sl k).blobs ∧ AtPlace kt ix sl b ↔
      b = { ktype := kt, index := ix, slot := sl, ctr := keyCounter c kt ix sl + 1, gen := c.kekGen, key := k } := by
  rw [loadedSec, List.mem_append, mem_otherBlobs, List.mem_singleton, bumpCounter_same]
  constructor
  · rintro ⟨⟨-, hother⟩ | rfl, hplace⟩
    · exact absurd hplace hother
    · rfl
  · rintro rfl
    exact ⟨.inr rfl, rfl, rfl, rfl⟩

theorem mem_loaded_other {c : SecBlk} {kt ix sl : Nat} {k : Key} {b : Blob} (h : ¬ AtPlace kt ix sl b) :
    b ∈ (loadedSec c kt ix sl k).blobs ↔ b ∈ c.blobs := by
  rw [loadedSec, List.mem_append, mem_otherBlobs, List.mem_singleton]
  constructor
  · rintro (⟨hmem, -⟩ | rfl)
    · exact hmem
    · exact absurd ⟨rfl, rfl, rfl⟩ h
  · exact fun hmem => .inl ⟨hmem, h⟩

theorem not_mem_loaded_going {c : SecBlk} {kt ix sl : Nat} {k : Key} : (kt, ix, sl) ∉ (loadedSec c kt ix sl k).going := by
  simp [loadedSec]

/-! ## Calendar time -/

section
variable {s : State} {src : Src} {time : Nat} (hgate : gateOf s src 0x90 = .pass)
include hgate

theorem timeSet_badState (hlock : s.evr.lock = true) :
    rowTimeSet src time s = reply (hearFrom s src.entry) src 0x90 .badState [] := by
  rw [rowTimeSet, gated_pass hgate]
  exact if_pos hlock

theorem timeSet_done (hlock : s.evr.lock = false) :
    rowTimeSet src time s = reply (stepTime (hearFrom s src.entry) .set time) src 0x90 .done [] := by
  rw [rowTimeSet, gated_pass hgate]
  exact if_neg (Bool.eq_false_iff.mp hlock)

end

/-- A step of calendar time sets it and forms the TIME record. -/
theorem stepTime_shows (s : State) (src : TimeSrc) (utc : Int) :
    (stepTime s src utc).evr.base = some (utc - 1000 * s.now) ∧ (stepTime s src utc).evr.tsrc = src
      ∧ SvcFrame { s with evr := { s.evr with base := (stepTime s src utc).evr.base, tsrc := (stepTime s src utc).evr.tsrc } }
          (stepTime s src utc) := by
  have hframe : SvcFrame { s with evr := { s.evr with base := some (utc - 1000 * s.now), tsrc := src } } (stepTime s src utc) :=
    svcRec_frame _ _ _ _
  generalize stepTime s src utc = t at hframe
  have hbase : t.evr.base = some (utc - 1000 * s.now) := by rw [hframe]
  have hsrc : t.evr.tsrc = src := by rw [hframe]
  rw [hbase, hsrc]
  exact ⟨rfl, rfl, hframe⟩

/-- Settles O41: each command by its row, whose refusals come before what it leaves. -/
theorem keysAreLoadedAndErasedByTheirCounters : Obligations.KeysAreLoadedAndErasedByTheirCounters := by
  intro s src now v u w
  refine ⟨fun hgate kt ix sl epub wrapped => ⟨fun h => svcReply_reply rfl (keyLoad_badLen hgate h), fun hplace hepub hwrapped =>
    ⟨fun huse => svcReply_reply rfl (keyLoad_badState hgate hplace hepub hwrapped huse), fun huse =>
      ⟨fun hno => ?_, fun k hk => ?_⟩⟩⟩,
    fun hgate kt ix sl => ⟨fun h => svcReply_reply rfl (keyErase_badLen hgate h), fun hplace =>
      ⟨fun huse => svcReply_reply rfl (keyErase_badState hgate hplace huse), fun huse => ?_⟩⟩,
    fun hgate time => ⟨fun hlock => svcReply_reply rfl (timeSet_badState hgate hlock), fun hlock => ?_⟩⟩
  · exact ⟨_, svcReply_reply rfl (keyLoad_refused hgate hplace hepub hwrapped huse hno), raise_isLive _ _ _ (by decide),
      raise_frame ..⟩
  · exact ⟨{ u with sec := loadedSec u.sec kt ix sl k }, svcReply_reply rfl (keyLoad_done hgate hplace hepub hwrapped huse hk),
      bumpCounter_same .., mem_loaded_atPlace, fun b => mem_loaded_other, fun a b c => bumpCounter_other _, mem_putKey ..,
      not_mem_loaded_going, rfl⟩
  · exact ⟨{ w with sec := erasedSec w.sec kt ix sl }, svcReply_reply rfl (keyErase_done hgate hplace huse), bumpCounter_same ..,
      fun b hb => (mem_otherBlobs.mp hb).2, fun b hb => mem_otherBlobs.trans (and_iff_left hb),
      List.mem_append_right _ (List.mem_singleton.mpr rfl), fun k hk => (mem_otherKeys.mp hk).2, rfl⟩
  · exact ⟨stepTime u .set time, svcReply_reply rfl (timeSet_done hgate hlock), stepTime_shows u .set time⟩

end Sys2Proof.Proofs.Keys

/-! PROOFS. The witness's start window (R350) with a request whose entry a COMMIT has emptied since. -/

namespace Sys2Proof.Proofs.StartWindow

open Sys2Proof Sys2Proof.Machine Sys2Proof.Safety

/-- A witness whose start window is over; entry 1, which asked in it, has lost its address since and kept its connector
and its key. -/
def emptied : State := { State.reset with
  now := 2000000
  cmd := { partners := [{}, { conn := 10 }] }
  sec := { State.reset.sec with plain := [{ ktype := 5, index := 1, slot := 0, key := 9 }] }
  dpx := { role := .witness, windowAt := some 0, windowReqs := [{ entry := 1, unit := 1, wframe := 0 }] } }

/-- The connector that a packet leaves by. -/
def connOf : Sent → Option Nat
  | .packet d => some d.conn
  | _ => none

/-- What the window's end has sent, by connector. -/
def connsAfterWindow (s : State) : List (Option Nat) :=
  match exec (.startWindowEnd s.now) s with
  | .next t => t.sent.map connOf
  | _ => []

/-- The one packet that leaves carries the DST of an empty entry and goes where the first empty entry points. -/
theorem emptied_sends : connsAfterWindow emptied = [some 0] := by decide +kernel

theorem emptied_canSend : CanSendTo { emptied with dpx := { emptied.dpx with windowAt := none, windowReqs := [] } } 1 := by
  unfold CanSendTo CanPush
  decide

theorem connOf_mem_of_witnessSent {s t : State} {n opc : Nat} {body : Bytes} (h : WitnessSent s t n opc body) :
    some (tableEntry s n).conn ∈ t.sent.map connOf := by
  obtain ⟨p, -, -, -, hmem⟩ := h
  exact List.mem_map.mpr ⟨_, hmem, rfl⟩

/-- Refutes O47: the GRANT at the window's end to an entry without an address does not leave by that entry's connector. -/
theorem not_witnessDecides : ¬ Obligations.WitnessDecides := by
  intro h
  obtain ⟨-, hwindow, -⟩ := h emptied 2000000
  obtain ⟨hgrants, -⟩ := hwindow 0 rfl rfl (by decide)
  obtain ⟨honly, -⟩ := hgrants rfl rfl
  obtain ⟨t, hexec, hsent, -⟩ := honly _ rfl
  have hconn := connOf_mem_of_witnessSent (hsent emptied_canSend)
  have hsends := emptied_sends
  have hnow : exec (.startWindowEnd emptied.now) emptied = .next t := hexec
  simp only [connsAfterWindow, hnow] at hsends
  rw [hsends] at hconn
  exact absurd hconn (by decide)

end Sys2Proof.Proofs.StartWindow

/-! PROOFS. What leaves through PKT_OUT (R306 to R309, R348): a push into a served queue, and a packet of the witness protocol. -/

namespace Sys2Proof.Proofs.Sends

open Sys2Proof Sys2Proof.Machine Sys2Proof.Safety Sys2Proof.Proofs.Frames
open Sys2Proof.Proofs.Bridge (touchQueue_agree touchQueue_queue pointersAgree_resetQueue resetQueue_items consume_all_items
  touchQueue_flushFrame FlushFrame)

/-! ## A push into a served PKT_OUT -/

theorem pointersAgree_advanced {u : Queue} (h : pointersAgree u = true) (items : List QItem) (seq n : Nat) :
    pointersAgree { u with items := items, nextSeq := seq, wr := u.wr.advance n } = true := by
  simp only [pointersAgree, QPtr.advance, beq_self_eq_true, Bool.true_and, Bool.and_eq_true] at h ⊢
  exact h.2

theorem pointersAgree_touched (s : State) : pointersAgree (touchQueue s 1).xbr.q1 = true := by
  have hq : (touchQueue s 1).xbr.q1 = _ := touchQueue_queue s (q := 1) (by decide)
  rw [hq]
  split
  next h => exact h
  next => exact pointersAgree_resetQueue _

theorem sentOf_congr {s t : State} (h : t.cmd.partners = s.cmd.partners) (i : QItem) : sentOf t i = sentOf s i := by
  simp only [sentOf, outTo, tableEntry, h]

theorem touchQueue_partners (s : State) (q : Nat) : (touchQueue s q).cmd.partners = s.cmd.partners := by
  have h := touchQueue_flushFrame s q
  unfold FlushFrame at h
  rw [h]

/-- PKT_OUT is served (R308, R320, R375). -/
def Served (s : State) : Prop := s.xbr.fenced = false ∧ svcRuns s = true

/-- What waits in a served queue leaves. -/
theorem sendWaiting_sends {s : State} (hserved : Served s) (hagree : pointersAgree s.xbr.q1 = true) :
    (sendWaiting s).sent = s.sent ++ s.xbr.q1.items.map (sentOf s) ∧ (sendWaiting s).xbr.q1.items = [] := by
  obtain ⟨hfenced, hruns⟩ := hserved
  have htouch : touchQueue s 1 = s := touchQueue_agree (q := 1) hagree
  rw [sendWaiting, if_neg (by simp [hfenced, hruns]), htouch]
  exact ⟨rfl, consume_all_items _⟩

/-- What has been pushed into PKT_OUT where it has room, before it is served. -/
def queued (s : State) (conn : Nat) (d : Datagram) : State :=
  let t := touchQueue s 1
  let u := t.xbr.q1
  { t with xbr := { t.xbr with q1 := { u with
      items := u.items ++ [{ iseq := u.nextSeq, conn := conn, data := d.data, ip := d.ip, udpp := d.udpp, via := d.conn }]
      nextSeq := nextIseq u.nextSeq, wr := u.wr.advance (itemBytes d.data.length / 8) } } }

theorem pushOut_room {s : State} (hroom : (touchQueue s 1).xbr.q1.items.length < 256) (conn : Nat) (d : Datagram) :
    pushOut s conn d = sendWaiting (queued s conn d) := by
  have hqueue : queueRoom (touchQueue s 1).xbr 1 d.data.length = true := decide_eq_true hroom
  simp only [pushOut, pushQueue, hqueue, if_true, setQueue, queued, List.dropLast_concat, List.getLast?_concat, Option.toList_some,
    List.map_cons, List.map_nil]

theorem touched_served {s : State} (h : Served s) (conn : Nat) (d : Datagram) : Served (queued s conn d) := by
  obtain ⟨hfenced, hruns⟩ := h
  have ht := touchQueue_out s
  refine ⟨?_, ?_⟩
  · change (touchQueue s 1).xbr.fenced = false
    rw [ht]
    exact hfenced
  · change svcRuns (touchQueue s 1) = true
    rw [ht]
    exact hruns

/-- A push into a served PKT_OUT with room leaves at once, behind what waited there. -/
theorem pushOut_sends {s : State} (hserved : Served s) (hroom : (touchQueue s 1).xbr.q1.items.length < 256) (conn : Nat) (d : Datagram) :
    (pushOut s conn d).sent = s.sent ++ (touchQueue s 1).xbr.q1.items.map (sentOf s)
        ++ [sentOf s { iseq := (touchQueue s 1).xbr.q1.nextSeq, conn := conn, data := d.data, ip := d.ip, udpp := d.udpp, via := d.conn }]
      ∧ (pushOut s conn d).xbr.q1.items = [] := by
  have hsame : sentOf (queued s conn d) = sentOf s := funext (sentOf_congr (touchQueue_partners s 1))
  have hsent : (queued s conn d).sent = s.sent := by
    change (touchQueue s 1).sent = s.sent
    rw [touchQueue_out s]
  obtain ⟨hleft, hempty⟩ := sendWaiting_sends (touched_served hserved conn d)
    (pointersAgree_advanced (pointersAgree_touched s) _ _ _)
  rw [pushOut_room hroom]
  refine ⟨?_, hempty⟩
  rw [hleft, hsame, hsent, queued]
  simp only [List.map_append, List.map_cons, List.map_nil, List.append_assoc]

/-- The comparison of the pointers leaves the items, or takes them all (R311). -/
theorem touched_room {s : State} (h : s.xbr.q1.items.length < 256) : (touchQueue s 1).xbr.q1.items.length < 256 := by
  have hq : (touchQueue s 1).xbr.q1 = _ := touchQueue_queue s (q := 1) (by decide)
  rw [hq]
  split
  · exact h
  · rw [resetQueue_items]
    decide

/-- A packet with its connector leaves as it is. -/
theorem sentOf_packet (s : State) (iseq : Nat) {d : Datagram} (h : d.conn ≠ 0) :
    sentOf s { iseq := iseq, conn := 0, data := d.data, ip := d.ip, udpp := d.udpp, via := d.conn } = .packet d := by
  have hnone : (List.range 32).find? (fun n => d.conn = 0 && (tableEntry s n).addr == fieldAt d.data 14 2) = none := by
    simp [h]
  simp only [sentOf, outTo, hnone, ne_eq, Nat.zero_ne_add_one]
  rfl

/-! ## A packet of the witness protocol -/

/-- How many vital packets have left to an entry since the beat (R278). -/
def outCount (s : State) (n : Nat) : Nat := ((s.cmd.vitalOut.find? (·.1 == n)).map (·.2)).getD 0

/-- One more packet to an entry is counted. -/
def counted (s : State) (n : Nat) : State :=
  { s with cmd := { s.cmd with vitalOut := (n, outCount s n + 1) :: s.cmd.vitalOut.filter (·.1 != n) } }

/-- A formed vital packet leaves as a datagram. -/
theorem formVital_forms {s : State} {entry slot : Nat} {k : Key} (hkey : plainKey? s 5 entry slot = some k) (hroom : outCount s entry < 64)
    (ver opc tag dst counter : Nat) (payload : Bytes) : ∃ p : Pkt, p.opc = opc ∧ p.dst = dst ∧ p.payload = payload
      ∧ formVital s entry ver opc tag dst slot counter payload = (counted s entry, some {
          conn := (partnerAt s entry).conn, ip := (partnerAt s entry).ip, udpp := (partnerAt s entry).udpp, data := pktBytes p }) := by
  have hcount : ¬ 64 ≤ ((s.cmd.vitalOut.find? (·.1 == entry)).map (·.2)).getD 0 := Nat.not_le.mpr hroom
  let p : Pkt := { ver := ver, opc := opc, tag := tag, seq := vitalSeq counter (outCount s entry), src := ownAddr s.cfg
                   dst := dst, safety := 0, payload := payload }
  refine ⟨{ p with safety := safetyOf k p }, rfl, rfl, rfl, ?_⟩
  simp only [formVital, hkey, ge_iff_le, if_neg hcount]
  rfl

/-- To count one more packet to an entry leaves the other counts. -/
theorem outCount_counted_other (s : State) {m n : Nat} (h : n ≠ m) : outCount (counted s m) n = outCount s n := by
  have hfind : (s.cmd.vitalOut.filter (·.1 != m)).find? (·.1 == n) = s.cmd.vitalOut.find? (·.1 == n) := by
    rw [List.find?_filter]
    congr 1
    funext p
    by_cases hp : p.1 = n
    · simp [hp, h]
    · simp [hp]
  rw [outCount, counted, List.find?_cons_of_neg (by simpa using h.symm), hfind]
  rfl

theorem outCount_counted (s : State) (m n : Nat) : outCount (counted s m) n ≤ outCount s n + 1 := by
  by_cases hn : n = m
  · subst hn
    simp [outCount, counted]
  · rw [outCount_counted_other s hn]
    exact Nat.le_succ _

/-- What goes through PKT_OUT: only the bridge and what has left change. -/
theorem sendWaiting_through (s : State) : sendWaiting s = { s with sent := (sendWaiting s).sent, xbr := (sendWaiting s).xbr } := by
  unfold sendWaiting
  split
  · rfl
  · rw [touchQueue_out]

theorem pushOut_through (s : State) (conn : Nat) (d : Datagram) :
    pushOut s conn d = { s with sent := (pushOut s conn d).sent, xbr := (pushOut s conn d).xbr } := by
  unfold pushOut
  dsimp only
  rw [sendWaiting_through, touchQueue_out]

/-- The packet of the witness protocol that is formed where the entry has a key and the beat room. -/
theorem sendWitness_forms {s : State} {n : Nat} {k : Key} (hkey : plainKey? s 5 n (cmdKsel s.cfg) = some k) (hroom : outCount s n < 64)
    (opc : Nat) (payload : State → Bytes) : ∃ p : Pkt, p.opc = opc ∧ p.dst = (tableEntry s n).addr ∧ p.payload.drop 8 = payload s
      ∧ sendWitness s opc payload n = pushOut (counted (takeFree s).2 n) 0 {
          conn := (partnerAt s n).conn, ip := (partnerAt s n).ip, udpp := (partnerAt s n).udpp, data := pktBytes p } := by
  obtain ⟨p, hopc, hdst, hpayload, hform⟩ := formVital_forms (s := (takeFree s).2) (entry := n) hkey hroom 2 opc 0 (tableEntry s n).addr
    s.dpx.beat (be 6 ((beatFrom? s n).getD (takeFree s).1.toNat) ++ be 1 (cmdKsel s.cfg) ++ be 1 0 ++ payload s)
  refine ⟨p, hopc, hdst, ?_, ?_⟩
  · rw [hpayload]
    exact List.drop_left' rfl
  · simp only [sendWitness, sendVital, hform]
    rfl

theorem sendWitness_none {s : State} {n : Nat} (h : plainKey? s 5 n (cmdKsel s.cfg) = none ∨ 64 ≤ outCount s n) (opc : Nat)
    (payload : State → Bytes) : sendWitness s opc payload n = (takeFree s).2 := by
  have hform : ∀ ver tag dst counter bs,
      formVital (takeFree s).2 n ver opc tag dst (cmdKsel s.cfg) counter bs = ((takeFree s).2, none) := by
    intro ver tag dst counter bs
    obtain hkey | hfull := h
    · have hkey : plainKey? (takeFree s).2 5 n (cmdKsel s.cfg) = none := hkey
      simp only [formVital, hkey]
    · have hfull : 64 ≤ (((takeFree s).2.cmd.vitalOut.find? (·.1 == n)).map (·.2)).getD 0 := hfull
      simp only [formVital, ge_iff_le, if_pos hfull]
      split <;> rfl
  simp only [sendWitness, sendVital, hform]

/-- A packet of the witness protocol to an entry with a key leaves by the entry's connector. -/
theorem sendWitness_sent {s : State} {n : Nat} (haddr : (tableEntry s n).addr ≠ 0xFFFF)
    (hkey : (plainKey? s 5 n (cmdKsel s.cfg)).isSome = true) (hroom : outCount s n < 64) (hpush : CanPush s n) (opc : Nat)
    (payload : State → Bytes) : WitnessSent s (sendWitness s opc payload n) n opc (payload s) := by
  obtain ⟨k, hk⟩ := Option.isSome_iff_exists.mp hkey
  obtain ⟨hfenced, hruns, hlength, hconn⟩ := hpush
  obtain ⟨p, hopc, hdst, hpayload, hsend⟩ := sendWitness_forms hk hroom opc payload
  have hpartner : partnerAt s n = tableEntry s n := if_pos haddr
  have hserved : Served (counted (takeFree s).2 n) := ⟨hfenced, hruns⟩
  have hleft := (pushOut_sends hserved (touched_room hlength) 0 { conn := (partnerAt s n).conn, ip := (partnerAt s n).ip
                                                                  udpp := (partnerAt s n).udpp, data := pktBytes p }).1
  rw [← hsend, sentOf_packet _ _ (by rwa [hpartner]), hpartner] at hleft
  refine ⟨p, hopc, hpayload, hdst, ?_⟩
  rw [hleft]
  exact List.mem_append_right _ (List.mem_singleton.mpr rfl)

/-- What one packet leaves of the room for the next: PKT_OUT keeps room, and at most one packet more is counted. -/
theorem sendWitness_leaves {s : State} (hserved : Served s) (hlength : s.xbr.q1.items.length < 256) (opc : Nat) (payload : State → Bytes)
    (m : Nat) : (sendWitness s opc payload m).xbr.q1.items.length < 256
      ∧ ∀ n, outCount (sendWitness s opc payload m) n ≤ outCount s n + 1 := by
  by_cases h : plainKey? s 5 m (cmdKsel s.cfg) = none ∨ 64 ≤ outCount s m
  · rw [sendWitness_none h]
    exact ⟨hlength, fun n => Nat.le_succ _⟩
  · obtain ⟨hkey, hroom⟩ := not_or.mp h
    obtain ⟨k, hk⟩ := Option.ne_none_iff_exists'.mp hkey
    obtain ⟨p, -, -, -, hsend⟩ := sendWitness_forms hk (Nat.not_le.mp hroom) opc payload
    have hserved' : Served (counted (takeFree s).2 m) := hserved
    rw [hsend]
    constructor
    · rw [(pushOut_sends hserved' (touched_room hlength) 0 _).2]
      decide
    · intro n
      rw [outCount, pushOut_through]
      exact outCount_counted (takeFree s).2 m n

theorem sendWitness_count_other (s : State) (opc : Nat) (payload : State → Bytes) {m n : Nat} (hne : n ≠ m) :
    outCount (sendWitness s opc payload m) n = outCount s n := by
  by_cases h : plainKey? s 5 m (cmdKsel s.cfg) = none ∨ 64 ≤ outCount s m
  · rw [sendWitness_none h]
    rfl
  · obtain ⟨hkey, hroom⟩ := not_or.mp h
    obtain ⟨k, hk⟩ := Option.ne_none_iff_exists'.mp hkey
    obtain ⟨p, -, -, -, hsend⟩ := sendWitness_forms hk (Nat.not_le.mp hroom) opc payload
    rw [hsend, outCount, pushOut_through]
    exact outCount_counted_other (takeFree s).2 hne

theorem sendWitness_dpx (s : State) (opc : Nat) (payload : State → Bytes) (n : Nat) : (sendWitness s opc payload n).dpx = s.dpx := by
  by_cases h : plainKey? s 5 n (cmdKsel s.cfg) = none ∨ 64 ≤ outCount s n
  · rw [sendWitness_none h]
    rfl
  · obtain ⟨hkey, hroom⟩ := not_or.mp h
    obtain ⟨k, hk⟩ := Option.ne_none_iff_exists'.mp hkey
    obtain ⟨p, -, -, -, hsend⟩ := sendWitness_forms hk (Nat.not_le.mp hroom) opc payload
    rw [hsend, pushOut_through]
    rfl

/-! ## One packet to each of several entries -/

theorem witnessSent_mono {s t u : State} {n opc : Nat} {body : Bytes} (h : WitnessSent s t n opc body) (hmore : t.sent <+: u.sent) :
    WitnessSent s u n opc body := by
  obtain ⟨p, hopc, hbody, hdst, hmem⟩ := h
  exact ⟨p, hopc, hbody, hdst, hmore.subset hmem⟩

theorem witnessSent_congr {s s' t : State} {n opc : Nat} {body : Bytes} (htable : tableEntry s' n = tableEntry s n)
    (h : WitnessSent s' t n opc body) : WitnessSent s t n opc body := by
  unfold WitnessSent at *
  rwa [htable] at h

/-- A packet of the witness protocol has gone to each entry of a list that has a key. -/
theorem foldl_sendWitness_sent (opc : Nat) (payload : State → Bytes) (hpayload : ∀ s t, WitnessFrame s t → payload t = payload s)
    {n : Nat} (l : List Nat) (s : State) (hn : n ∈ l) (haddr : (tableEntry s n).addr ≠ 0xFFFF)
    (hkey : (plainKey? s 5 n (cmdKsel s.cfg)).isSome = true) (hroom : outCount s n < 64) (hpush : CanPush s n) (hnodup : l.Nodup) :
    WitnessSent s (l.foldl (fun s m => sendWitness s opc payload m) s) n opc (payload s) := by
  induction l generalizing s with
  | nil => exact absurd hn List.not_mem_nil
  | cons m l ih =>
    have hrest := foldl_witnessFrame (fun s m => sendWitness s opc payload m) (fun s m => sendWitness_frame s opc payload m) l
      (sendWitness s opc payload m)
    obtain ⟨hm, hnodup⟩ := List.nodup_cons.mp hnodup
    rcases List.mem_cons.mp hn with rfl | hn
    · exact witnessSent_mono (sendWitness_sent haddr hkey hroom hpush opc payload) hrest.1
    · obtain ⟨hfenced, hruns, hlength, hconn⟩ := hpush
      have hframe := sendWitness_frame s opc payload m
      obtain ⟨hlength', -⟩ := sendWitness_leaves ⟨hfenced, hruns⟩ hlength opc payload m
      have hcount : outCount (sendWitness s opc payload m) n = outCount s n :=
        sendWitness_count_other s opc payload fun h => hm (h ▸ hn)
      have hsame := hpayload _ _ hframe
      rw [List.foldl_cons, ← hsame]
      generalize sendWitness s opc payload m = t at hframe hlength' hcount ih
      have ht := hframe.2
      have htable : tableEntry t n = tableEntry s n := by
        rw [ht]
        rfl
      refine witnessSent_congr htable (ih t hn ?_ ?_ (by rwa [hcount]) ⟨?_, ?_, hlength', ?_⟩ hnodup)
      · rwa [htable]
      · rw [ht]
        exact hkey
      · rw [ht]
        exact hfenced
      · rw [ht]
        exact hruns
      · rwa [htable]

end Sys2Proof.Proofs.Sends

/-! PROOFS. Beats, leases and heartbeats (R346 to R352, R363). -/

namespace Sys2Proof.Proofs.Beats

open Sys2Proof Sys2Proof.Machine Sys2Proof.Safety Sys2Proof.Proofs.Frames Sys2Proof.Proofs.Sends
open Sys2Proof.Proofs.Bridge (touchQueue_queue resetQueue_items)
open Sys2Proof.Proofs.Raising (safeStop_ends safeStop_runs)
open Sys2Proof.Proofs.BarrierUp (raise_isLive_other setLive_isLive_other)

/-! ## Statuses and requests -/

/-- What a packet of the witness protocol leaves of the state that the next one is formed in. -/
structure SameParty (s t : State) : Prop where
  on : onWitness t = onWitness s
  entries : witnessEntries t = witnessEntries s
  asked : witnesses t = witnesses s
  entry : ∀ n, tableEntry t n = tableEntry s n
  key : ∀ n, plainKey? t 5 n (cmdKsel t.cfg) = plainKey? s 5 n (cmdKsel s.cfg)
  request : ∀ r, requestBody r t = requestBody r s
  status : statusBody t = statusBody s

theorem sameParty_of_frame {s t : State} (h : WitnessFrame s t) : SameParty s t := by
  obtain ⟨-, ht⟩ := h
  rw [ht]
  exact ⟨rfl, rfl, rfl, fun _ => rfl, fun _ => rfl, fun _ => rfl, rfl⟩

/-- What packets to several entries leave of the room for the next. -/
theorem foldl_sendWitness_leaves (opc : Nat) (payload : State → Bytes) (l : List Nat) (s : State) (hserved : Served s)
    (hlength : s.xbr.q1.items.length < 256) :
    (l.foldl (fun s m => sendWitness s opc payload m) s).xbr.q1.items.length < 256
      ∧ ∀ n, outCount (l.foldl (fun s m => sendWitness s opc payload m) s) n ≤ outCount s n + l.length := by
  induction l generalizing s with
  | nil => exact ⟨hlength, fun n => Nat.le_refl _⟩
  | cons m l ih =>
    obtain ⟨hlength', hcount⟩ := sendWitness_leaves hserved hlength opc payload m
    have hserved' : Served (sendWitness s opc payload m) := by
      obtain ⟨hfenced, hruns⟩ := hserved
      obtain ⟨-, ht⟩ := sendWitness_frame s opc payload m
      rw [ht]
      exact ⟨hfenced, hruns⟩
    obtain ⟨hroom, hsum⟩ := ih _ hserved' hlength'
    refine ⟨hroom, fun n => ?_⟩
    have h1 := hsum n
    have h2 := hcount n
    rw [List.length_cons]
    rw [List.foldl_cons]
    omega

theorem witnessEntries_length (s : State) : (witnessEntries s).length ≤ 32 := List.length_filter_le _ _

theorem witnessEntries_nodup (s : State) : (witnessEntries s).Nodup := List.nodup_range.filter _

theorem witnessEntries_addr {s : State} {n : Nat} (h : n ∈ witnessEntries s) : (tableEntry s n).addr ≠ 0xFFFF := by
  obtain ⟨-, h⟩ := List.mem_filter.mp h
  simp only [Bool.and_eq_true, bne_iff_ne] at h
  exact h.1

/-! ## The beat (R348) -/

/-- The state with the beat advanced and the count of vital packets of the beat begun anew. -/
def ticked (s : State) : State :=
  { s with dpx := { s.dpx with beat := (s.dpx.beat + 1) % 2 ^ 48, beatAt := s.now }
           cmd := { s.cmd with vitalOut := s.cmd.vitalOut.filter fun p => !(witnessEntries s).contains p.1 } }

theorem outCount_ticked {s : State} {n : Nat} (h : n ∈ witnessEntries s) : outCount (ticked s) n = 0 := by
  have hnone : (s.cmd.vitalOut.filter fun p => !(witnessEntries s).contains p.1).find? (·.1 == n) = none := by
    rw [List.find?_eq_none]
    intro p hp heq
    obtain ⟨-, hp⟩ := List.mem_filter.mp hp
    rw [eq_of_beq heq, List.contains_iff_mem.mpr h] at hp
    exact absurd hp (by decide)
  rw [outCount, ticked]
  dsimp only
  rw [hnone]
  rfl

theorem sendStatus_on {s : State} (h : onWitness s = true) : sendStatus s =
    (witnessEntries s).foldl (fun s n => sendWitness s 0x4B statusBody n) { s with dpx := { s.dpx with statusDue := false } } := if_pos h

theorem foldl_sendWitness_dpx (opc : Nat) (payload : State → Bytes) (l : List Nat) (s : State) :
    (l.foldl (fun s n => sendWitness s opc payload n) s).dpx = s.dpx := by
  induction l generalizing s with
  | nil => rfl
  | cons n l ih => exact (ih _).trans (sendWitness_dpx s opc payload n)

theorem sendStatus_due {s : State} (h : onWitness s = true) : (sendStatus s).dpx.statusDue = false := by
  rw [sendStatus_on h, foldl_sendWitness_dpx]

theorem askGrant_again {s : State} {r : Nat} (h : s.dpx.asking = some r) :
    askGrant s r = if onWitness s then (witnesses s).foldl (fun s n => sendWitness s 0x48 (requestBody r) n) s else s := by
  have hsame : { s with dpx := { s.dpx with asking := some r } } = s := by
    rw [← h]
  simp only [askGrant, hsame]

/-- A request leaves to each witness with a key. -/
theorem askGrant_sent {s : State} {r n : Nat} (h : s.dpx.asking = some r) (hon : onWitness s = true) (hn : n ∈ witnesses s)
    (hkey : (plainKey? s 5 n (cmdKsel s.cfg)).isSome = true) (hroom : outCount s n < 64) (hpush : CanPush s n) :
    WitnessSent s (askGrant s r) n 0x48 (requestBody r s) := by
  rw [askGrant_again h, if_pos hon]
  exact foldl_sendWitness_sent 0x48 (requestBody r) (fun s t h => (sameParty_of_frame h).request r) (witnesses s) s hn
    (witnessEntries_addr (List.mem_filter.mp hn).1) hkey hroom hpush ((witnessEntries_nodup s).filter _)

theorem askGrant_frame {s : State} {r : Nat} (h : s.dpx.asking = some r) : WitnessFrame s (askGrant s r) := by
  rw [askGrant_again h]
  split
  · exact foldl_witnessFrame _ (fun s n => sendWitness_frame s _ _ n) _ _
  · exact witnessFrame_refl s

theorem repeatRequest_asks {s : State} {r : Nat} (h : s.dpx.asking = some r) (hmiss : r = 1 → 3 ≤ s.dpx.miss) :
    repeatRequest s = askGrant s r := by
  unfold repeatRequest
  split
  next hone =>
    cases h.symm.trans hone
    exact if_pos (hmiss rfl)
  next hsome =>
    cases h.symm.trans hsome
    rfl
  next hnone => cases h.symm.trans hnone

theorem askGrant_dpx {s : State} {r : Nat} (h : s.dpx.asking = some r) : (askGrant s r).dpx = s.dpx := by
  rw [askGrant_again h]
  split
  · exact foldl_sendWitness_dpx _ _ _ _
  · rfl

theorem repeatRequest_dpx (s : State) : (repeatRequest s).dpx = s.dpx := by
  unfold repeatRequest
  split
  next h =>
    split
    · exact askGrant_dpx h
    · rfl
  next h => exact askGrant_dpx h
  next => rfl

theorem repeatRequest_frame (s : State) : WitnessFrame s (repeatRequest s) := by
  unfold repeatRequest
  split
  next h =>
    split
    · exact askGrant_frame h
    · exact witnessFrame_refl s
  next h => exact askGrant_frame h
  next => exact witnessFrame_refl s

theorem reachStep15_eq (s : State) : reachStep15 s = { s with sys := { s.sys with step := (reachStep15 s).sys.step } } := by
  unfold reachStep15
  split <;> rfl

theorem exec_beat {s : State} {now : Nat} (hready : (later s now).sys.ready = true)
    (hdue : (later s now).dpx.beatAt + 10000 ≤ (later s now).now) :
    exec (.beat now) s = .next (reachStep15 (repeatRequest (sendStatus (ticked (later s now))))) := by
  change execBeat now s = _
  rw [execBeat]
  simp only [hready, Bool.not_true, Bool.false_eq_true, if_false, if_neg (Nat.not_lt.mpr hdue)]
  rfl

theorem exec_beat_early {s : State} {now : Nat} (hready : (later s now).sys.ready = true)
    (hearly : (later s now).now < (later s now).dpx.beatAt + 10000) (hdue : (later s now).dpx.statusDue = true) :
    exec (.beat now) s = .next (sendStatus (later s now)) := by
  change execBeat now s = _
  rw [execBeat]
  simp only [hready, Bool.not_true, Bool.false_eq_true, if_false, if_pos hearly, hdue, if_true]

section
variable {v : State} (hon : onWitness v = true) {n : Nat} (hn : n ∈ witnessEntries v)
  (hkey : (plainKey? v 5 n (cmdKsel v.cfg)).isSome = true) (hpush : CanPush v n)
include hon hn hkey hpush

/-- At the beat the status leaves to each entry with a key. -/
theorem beat_status : WitnessSent v (repeatRequest (sendStatus (ticked v))) n 0x4B (statusBody (ticked v)) := by
  refine witnessSent_mono ?_ (repeatRequest_frame _).1
  rw [sendStatus_on (s := ticked v) hon]
  refine witnessSent_congr (s' := { ticked v with dpx := { (ticked v).dpx with statusDue := false } }) rfl ?_
  refine foldl_sendWitness_sent 0x4B statusBody (fun s t h => (sameParty_of_frame h).status) (witnessEntries (ticked v)) _ hn
    (witnessEntries_addr hn) hkey ?_ hpush (witnessEntries_nodup _)
  have hcount : outCount { ticked v with dpx := { (ticked v).dpx with statusDue := false } } n = 0 := outCount_ticked hn
  rw [hcount]
  decide

/-- At the beat a request that waits leaves to the witness. -/
theorem beat_request {r : Nat} (hasking : v.dpx.asking = some r) (hmiss : r = 1 → 3 ≤ v.dpx.miss) (hkind : entryKind v n = 2) :
    WitnessSent v (repeatRequest (sendStatus (ticked v))) n 0x48 (requestBody r (ticked v)) := by
  have hframe := sendStatus_frame (ticked v)
  obtain ⟨hon', -, hasked, hentry, hkey', hrequest, -⟩ := sameParty_of_frame hframe
  obtain ⟨hfenced, hruns, hlength, hconn⟩ := hpush
  have hleaves := foldl_sendWitness_leaves 0x4B statusBody (witnessEntries (ticked v))
    { ticked v with dpx := { (ticked v).dpx with statusDue := false } } ⟨hfenced, hruns⟩ hlength
  rw [← sendStatus_on (s := ticked v) hon] at hleaves
  obtain ⟨hlength', hcount⟩ := hleaves
  have hcount' : outCount (sendStatus (ticked v)) n ≤ 32 :=
    (hcount n).trans (by
      have hzero : outCount { ticked v with dpx := { (ticked v).dpx with statusDue := false } } n = 0 := outCount_ticked hn
      have hlen := witnessEntries_length (ticked v)
      omega)
  rw [← hrequest r]
  generalize sendStatus (ticked v) = u at *
  have hu := hframe.2
  have hasking' : u.dpx.asking = some r := by
    rw [hu]
    exact hasking
  have hmiss' : u.dpx.miss = v.dpx.miss := by
    rw [hu]
    rfl
  rw [repeatRequest_asks hasking' (by rwa [hmiss'])]
  refine witnessSent_congr (hentry n) (askGrant_sent hasking' (hon'.trans hon) ?_ ?_ (by omega) ⟨?_, ?_, hlength', ?_⟩)
  · rw [hasked]
    exact List.mem_filter.mpr ⟨hn, beq_iff_eq.mpr hkind⟩
  · rw [hkey']
    exact hkey
  · rw [hu]
    exact hfenced
  · rw [hu]
    exact hruns
  · rw [hentry]
    exact hconn

end

/-- WITNESS_STATUS of a unit at a beat (R349). -/
theorem statusBody_ticked {v : State} (hrole : v.dpx.role ≠ .witness) : statusBody (ticked v) =
    be 6 ((v.dpx.beat + 1) % 2 ^ 48) ++ be 1 (shownRole v).code
      ++ be 1 (bit (standbyReady v) + 2 * bit v.sys.stopped + 4 * bit v.dpx.granted + 8 * bit v.dpx.formerActive)
      ++ be 6 v.dpx.wframe ++ be 1 (min v.dpx.miss 255) ++ be 1 (fieldOf v.cfg.dpxCtl 16 8) ++ be 4 v.dpx.gepoch := by
  have hlease : leaseUs v.cfg / 1000 = fieldOf v.cfg.dpxCtl 16 8 := Nat.mul_div_cancel_left _ (by decide)
  have hrole' : (ticked v).dpx.role ≠ .witness := hrole
  simp only [statusBody, if_neg hrole']
  rw [← hlease]
  rfl

/-- What the beat changes: its counter, what leaves, and the step of the start-up. -/
theorem beat_frame (v : State) : let t := reachStep15 (repeatRequest (sendStatus (ticked v)))
    t.dpx.beat = (v.dpx.beat + 1) % 2 ^ 48 ∧ t.dpx.beatAt = v.now
      ∧ t = { v with free := t.free, sent := t.sent, cmd := { v.cmd with vitalOut := t.cmd.vitalOut }
                     dpx := { v.dpx with beat := t.dpx.beat, beatAt := v.now, statusDue := t.dpx.statusDue }
                     sys := { v.sys with step := t.sys.step }, xbr := throughOut v.xbr t.xbr } := by
  intro t
  have hstep : t = _ := reachStep15_eq _
  clear_value t
  have hframe := (witnessFrame_trans (sendStatus_frame (ticked v)) (repeatRequest_frame _)).2
  generalize repeatRequest (sendStatus (ticked v)) = u at hframe hstep
  have hbeat : t.dpx.beat = (v.dpx.beat + 1) % 2 ^ 48 := by
    rw [hstep, hframe]
    rfl
  have hat : t.dpx.beatAt = v.now := by
    rw [hstep, hframe]
    rfl
  refine ⟨hbeat, hat, ?_⟩
  rw [hstep, hframe]
  rfl

theorem beat_due {v : State} (hon : onWitness v = true) : (reachStep15 (repeatRequest (sendStatus (ticked v)))).dpx.statusDue = false := by
  rw [reachStep15_eq]
  have hsent := sendStatus_due (s := ticked v) hon
  generalize sendStatus (ticked v) = u at hsent
  change (repeatRequest u).dpx.statusDue = false
  rw [repeatRequest_dpx, hsent]

/-! ## The witness's status at a unit (R349, R352) -/

theorem exec_witnessStatus {s : State} {now : Nat} {p : WitIn} (hon : onWitness (later s now) = true)
    (hrole : (later s now).dpx.role ≠ .witness) (hentry : p.entry ∈ witnessEntries (later s now))
    (hkind : entryKind (later s now) p.entry = p.kind) : exec (.witnessStatus p now) s = .next
      (if beatFresh (later s now) p.fref = true ∧ p.kind = 2 then
        statusOfWitness (noteBeat (hearFrom (later s now) p.entry) p.entry p.beat) p
      else noteBeat (hearFrom (later s now) p.entry) p.entry p.beat) := by
  have hcontains : (witnessEntries (later s now)).contains p.entry = true := List.contains_iff_mem.mpr hentry
  change execWitnessStatus p now s = _
  rw [execWitnessStatus]
  generalize later s now = v at *
  have hrole' : (noteBeat (hearFrom v p.entry) p.entry p.beat).dpx.role ≠ .witness := hrole
  simp only [hon, hcontains, hkind, Bool.not_true, Bool.false_eq_true, ne_eq, not_true_eq_false, or_self, if_false, if_neg hrole']
  cases beatFresh v p.fref with
  | false => simp
  | true =>
    by_cases h2 : p.kind = 2
    · simp [h2]
    · simp [h2]

theorem beatFresh_iff (s : State) (fref : Nat) : beatFresh s fref = true ↔ fref ≤ s.dpx.beat ∧ s.dpx.beat ≤ fref + 5 := by
  simp only [beatFresh, Bool.and_eq_true, decide_eq_true_eq]
  omega

/-- The state with the witness's status taken, before a conflict is looked at. -/
def told (u : State) (p : WitIn) : State :=
  let mine := u.dpx.granted && p.hl == ownHolder u && p.gepoch == u.dpx.gepoch
  lower { u with dpx := { u.dpx with
    witAt := some u.now, holder := p.hl
    leaseAt := if mine then some (max (u.dpx.beatAt - 10000 * (u.dpx.beat - p.fref)) (u.dpx.leaseAt.getD 0)) else u.dpx.leaseAt } }
    .dpx dWITNESS_DOWN

/-- The two units' claims do not go together (R352). -/
def Conflict (u : State) (p : WitIn) : Prop := u.dpx.granted = true ∧ (p.hl = 2 - ownKind u.cfg ∨ u.dpx.gepoch < p.gepoch)

/-- The ports' sync frames are to end (R352). -/
def muted (u : State) : State := { u with frn0 := { u.frn0 with muteDue := true }, frn1 := { u.frn1 with muteDue := true } }

theorem statusOfWitness_eq (u : State) (p : WitIn) : statusOfWitness u p =
    let w := if u.dpx.granted && (p.hl == partnerHolder u || decide (u.dpx.gepoch < p.gepoch)) then raise (told u p) .dpx dROLE_CONFLICT
      else told u p
    if u.dpx.relinquished && p.hl == partnerHolder u then muted w else w := rfl

section
variable {u : State} {p : WitIn}

theorem conflict_iff : (u.dpx.granted && (p.hl == partnerHolder u || decide (u.dpx.gepoch < p.gepoch))) = true ↔ Conflict u p := by
  simp [Conflict, partnerHolder]

theorem statusOfWitness_calm (h : ¬ Conflict u p) : statusOfWitness u p =
    if u.dpx.relinquished && p.hl == partnerHolder u then muted (told u p) else told u p := by
  rw [statusOfWitness_eq]
  simp only [if_neg (mt conflict_iff.mp h)]

theorem raise_holder (s : State) (b : Blk) (n : Nat) : (raise s b n).dpx.holder = s.dpx.holder := by
  rw [raise_frame s b n]

theorem statusOfWitness_conflict (h : Conflict u p) :
    isLive (statusOfWitness u p) .dpx dROLE_CONFLICT = true ∧ (statusOfWitness u p).dpx.holder = p.hl := by
  have hlive : isLive (raise (told u p) .dpx dROLE_CONFLICT) .dpx dROLE_CONFLICT = true := raise_isLive _ _ _ (by decide)
  have hholder : (raise (told u p) .dpx dROLE_CONFLICT).dpx.holder = p.hl := raise_holder _ _ _
  rw [statusOfWitness_eq]
  simp only [if_pos (conflict_iff.mpr h)]
  generalize raise (told u p) .dpx dROLE_CONFLICT = w at *
  split
  · exact ⟨hlive, hholder⟩
  · exact ⟨hlive, hholder⟩

end

/-! ## The leases (R352) -/

theorem witnessLease_iff (s : State) :
    witnessLease s = true ↔ ∃ a, s.dpx.leaseAt = some a ∧ s.now ≤ a + 1000 * fieldOf s.cfg.dpxCtl 16 8 := by
  cases h : s.dpx.leaseAt with
  | none => simp [witnessLease, h]
  | some a =>
    simp only [witnessLease, h, Option.some.injEq, exists_eq_left']
    exact decide_eq_true_iff

theorem peerLease_iff (s : State) : peerLease s = true ↔ ∃ a, s.dpx.ackAt = some a ∧ s.now ≤ a + 3 * expectedUs s.cfg := by
  cases h : s.dpx.ackAt with
  | none => simp [peerLease, h]
  | some a => simp only [peerLease, h, decide_eq_true_eq, Option.some.injEq, exists_eq_left']

theorem exec_leaseLapse_stands {s : State} {now : Nat} (h : witnessLease (later s now) = true ∨ peerLease (later s now) = true) :
    exec (.leaseLapse now) s = .next (later s now) := if_pos (.inr (.inr h))

theorem exec_leaseLapse_lapses {s : State} {now : Nat} (hgranted : (later s now).dpx.granted = true)
    (hrole : (later s now).dpx.role = .active) (hwitness : ¬ witnessLease (later s now) = true) (hpeer : ¬ peerLease (later s now) = true) :
    exec (.leaseLapse now) s = .next (muted (safeStop (relinquish (later s now)))) :=
  if_neg fun h => by
    obtain h | h | h | h := h
    · rw [hgranted] at h
      exact absurd h (by decide)
    · exact h hrole
    · exact hwitness h
    · exact hpeer h

/-- The stop after the relinquishing. -/
theorem isolated_shows {v : State} (hgranted : v.dpx.granted = true) (hrole : v.dpx.role = .active) :
    let t := safeStop (relinquish v)
    t.dpx.granted = false ∧ t.dpx.relinquished = true ∧ t.dpx.statusDue = true ∧ t.sys.stopped = true
      ∧ (v.sys.stopped = false → t.work = none ∧ t.lio.vital.stopped = true) := by
  intro t
  have hdpx : (relinquish v).dpx.granted = false ∧ (relinquish v).dpx.relinquished = true ∧ (relinquish v).dpx.statusDue = true := by
    simp [relinquish, hgranted, hrole]
  obtain ⟨hgranted', hgone, hdue⟩ := hdpx
  cases hstopped : v.sys.stopped with
  | true =>
    have ht : t = relinquish v := if_pos hstopped
    rw [ht]
    exact ⟨hgranted', hgone, hdue, hstopped, fun h => nomatch h⟩
  | false =>
    have hruns : (relinquish v).sys.stopped = false := hstopped
    obtain ⟨hwork, hnone, -, -, -, hvital, -⟩ := safeStop_ends hruns
    have hstays : t.dpx.relinquished = true ∧ t.dpx.statusDue = true := by
      have hflush := startFlush_frame (stopFrames (relinquish v))
      have ht : t = relinquish (startFlush (stopFrames (relinquish v))) := safeStop_runs hruns
      rw [ht]
      generalize startFlush (stopFrames (relinquish v)) = u at hflush
      have hsame : u.dpx = (relinquish v).dpx := by
        rw [hflush]
        rfl
      simp [relinquish, hsame, hgranted, hrole]
    exact ⟨hnone, hstays.1, hstays.2, safeStop_stopped _, fun _ => ⟨hwork, hvital⟩⟩

theorem isolated_frame (v : State) : RaiseFrame (muted v) (muted (safeStop (relinquish v))) := by
  have hframe := (relinquish_frame v).trans (safeStop_frame _)
  generalize safeStop (relinquish v) = t at hframe
  unfold RaiseFrame at *
  rw [hframe]
  rfl

/-! ## The downs (R363) -/

theorem exec_witnessDown {s : State} {now : Nat} (hready : (later s now).sys.ready = true) (hrole : (later s now).dpx.role ≠ .alone)
    (hlate : (later s now).dpx.witAt.getD ((later s now).dpx.startedAt.getD 0) + 1000 * fieldOf (later s now).cfg.dpxCtl 16 8
      ≤ (later s now).now) : exec (.witnessDown now) s = .next (raise (later s now) .dpx dWITNESS_DOWN) :=
  if_pos ⟨hready, hrole, hlate⟩

/-- A partner that is silent is not ready. -/
def unheard (v : State) : State := raise { v with dpx := { v.dpx with peerReady := false } } .dpx dPEER_DOWN

theorem exec_peerDown_early {s : State} {now : Nat}
    (hearly : (later s now).now < (later s now).dpx.peerAt.getD ((later s now).dpx.startedAt.getD 0) + 30000) :
    exec (.peerDown now) s = .next (later s now) := if_pos (.inr (.inr hearly))

theorem exec_peerDown_late {s : State} {now : Nat} (hready : (later s now).sys.ready = true)
    (hrole : (later s now).dpx.role = .active ∨ (later s now).dpx.role = .standby)
    (hlate : (later s now).dpx.peerAt.getD ((later s now).dpx.startedAt.getD 0) + 30000 ≤ (later s now).now) :
    exec (.peerDown now) s = .next (if (later s now).dpx.role = .active ∧ (!(later s now).dpx.relinquished) = true then
      raise (unheard (later s now)) .dpx dPARTNER_NOT_READY else unheard (later s now)) := by
  refine if_neg fun h => ?_
  obtain h | ⟨hactive, hstandby⟩ | h := h
  · rw [hready] at h
    exact absurd h (by decide)
  · exact hrole.elim hactive hstandby
  · exact absurd h (Nat.not_lt.mpr hlate)

/-! ## Heartbeats and acknowledgements (R346) -/

theorem heardPeer_eq (s : State) : heardPeer s = lower { s with dpx := { s.dpx with peerAt := some s.now } } .dpx dPEER_DOWN := rfl

theorem heardPeer_isLive (s : State) : isLive (heardPeer s) .dpx dPEER_DOWN = false := lower_isLive _ _ _ (by decide)

theorem heartbeat_refused {v : State} {h : HeartIn} (hbad : h.crcOk = false ∨ h.unit ≠ 1 - ownKind v.cfg) :
    rowHeartbeat h v = v := by
  refine if_pos (.inr ?_)
  obtain hcrc | hunit := hbad
  · exact .inl (by simp [hcrc])
  · exact .inr hunit

/-- The state with what a heartbeat tells of the partner. -/
def partnerTold (v : State) (h : HeartIn) : State :=
  let s := heardPeer v
  { s with dpx := { s.dpx with peerReady := h.ready, peerMsw := h.msw, peerGranted := h.granted, peerFrame := h.wframe } }

/-- The state with PARTNER_NOT_READY as the partner's readiness has it. -/
def partnerJudged (v : State) (h : HeartIn) : State :=
  setLive (partnerTold v h) .dpx dPARTNER_NOT_READY ((v.dpx.role = .active && !v.dpx.relinquished) && !h.ready)

theorem heartbeat_taken {v : State} (hpeer : onPeer v = true) {h : HeartIn} (hcrc : h.crcOk = true) (hunit : h.unit = 1 - ownKind v.cfg)
    (hfenced : v.xbr.fenced = false) : rowHeartbeat h v =
      if (v.dpx.role = .active && !v.dpx.relinquished) && (h.msw / 0x2000 % 4 == Role.code .active && h.granted && h.msw / 0x400 % 2 == 0)
      then raise (partnerJudged v h) .dpx dROLE_CONFLICT else partnerJudged v h := by
  have hfenced' : ¬ (heardPeer v).xbr.fenced = true := by
    rw [heardPeer_eq]
    exact Bool.eq_false_iff.mp hfenced
  rw [rowHeartbeat, if_neg (by simp [hpeer, hcrc, hunit])]
  exact if_neg hfenced'

theorem partnerJudged_shows (v : State) (h : HeartIn) :
    isLive (partnerJudged v h) .dpx dPEER_DOWN = false
      ∧ (isLive (partnerJudged v h) .dpx dPARTNER_NOT_READY = true ↔ v.dpx.role = .active ∧ v.dpx.relinquished = false ∧ h.ready = false)
      ∧ RaiseFrame { v with dpx := { v.dpx with
          peerAt := some v.now, peerReady := h.ready, peerMsw := h.msw, peerGranted := h.granted, peerFrame := h.wframe } }
          (partnerJudged v h) := by
  refine ⟨?_, ?_, ?_⟩
  · exact (setLive_isLive_other _ _ _ (by decide) (by decide)).trans (heardPeer_isLive v)
  · rw [partnerJudged, setLive_isLive _ _ _ _ (by decide)]
    simp [and_assoc]
  · have hframe := setLive_frame (partnerTold v h) .dpx dPARTNER_NOT_READY ((v.dpx.role = .active && !v.dpx.relinquished) && !h.ready)
    exact RaiseFrame.trans (t := partnerTold v h) rfl hframe

/-- What a heartbeat leaves, whether it raises ROLE_CONFLICT or not. -/
theorem conflictRaised_shows {s t : State} (hframe : RaiseFrame s t) (on : Bool) {a b : Prop}
    (hdown : isLive t .dpx dPEER_DOWN = false) (hready : isLive t .dpx dPARTNER_NOT_READY = true ↔ a ∧ b) :
    let u := if on then raise t .dpx dROLE_CONFLICT else t
    isLive u .dpx dPEER_DOWN = false ∧ RaiseFrame s u ∧ (isLive u .dpx dPARTNER_NOT_READY = true ↔ a ∧ b)
      ∧ (on = true → isLive u .dpx dROLE_CONFLICT = true) := by
  intro u
  cases on with
  | false => exact ⟨hdown, hframe, hready, fun h => nomatch h⟩
  | true =>
    refine ⟨?_, hframe.trans (raise_frame _ _ _), ?_, fun _ => raise_isLive _ _ _ (by decide)⟩
    · exact (raise_isLive_other t (by decide) (.inr (by decide))).trans hdown
    · have hother : isLive u .dpx dPARTNER_NOT_READY = isLive t .dpx dPARTNER_NOT_READY :=
        raise_isLive_other t (by decide) (.inr (by decide))
      rw [hother, hready]

theorem rowAck_shows {v : State} (hpeer : onPeer v = true) (hfenced : v.xbr.fenced = false) {key : Key}
    (hkey : plainKey? v 4 0 0 = some key) (frame : Nat) (acode : BitVec 64) : let t := rowAck frame acode v
    t = { v with dpx := { v.dpx with peerAt := some v.now, ackAt := t.dpx.ackAt }, faults := t.faults }
      ∧ isLive t .dpx dPEER_DOWN = false
      ∧ t.dpx.ackAt = if v.dpx.role = .active ∧ v.dpx.formed.isSome = true ∧ frame ≤ v.dpx.wframe
          ∧ acode = (cmac key (be 6 frame ++ be 1 (1 - ownKind v.cfg))).extractLsb' 64 64 then some v.now else v.dpx.ackAt := by
  intro t
  have hkey' : plainKey? (heardPeer v) 4 0 0 = some key := hkey
  have ht : t = if v.dpx.role = .active ∧ v.dpx.formed.isSome = true ∧ frame ≤ v.dpx.wframe
      ∧ acode = (cmac key (be 6 frame ++ be 1 (1 - ownKind v.cfg))).extractLsb' 64 64
      then { heardPeer v with dpx := { (heardPeer v).dpx with ackAt := some v.now } } else heardPeer v := by
    have hrow : t = rowAck frame acode v := rfl
    rw [hrow, rowAck, if_neg (by simp [hpeer])]
    dsimp only
    rw [hkey']
    refine if_congr (and_congr_right fun _ => ⟨fun ⟨_, h⟩ => h, fun h => ⟨?_, h⟩⟩) rfl rfl
    change (!v.xbr.fenced) = true
    rw [hfenced]
    rfl
  clear_value t
  subst ht
  split
  · exact ⟨rfl, heardPeer_isLive v, rfl⟩
  · exact ⟨rfl, heardPeer_isLive v, rfl⟩

/-! ## A heartbeat sent (R312, R346) -/

theorem be_succ (n v : Nat) : be (n + 1) v = be n (v / 256) ++ [BitVec.ofNat 8 v] := by
  rw [be, List.range_succ, List.map_append, be]
  refine congrArg₂ _ (List.map_congr_left fun k hk => ?_) (by simp)
  have hlt : k < n := List.mem_range.mp hk
  have hexp : 8 * (n + 1 - 1 - k) = 8 + 8 * (n - 1 - k) := by omega
  rw [hexp, Nat.shiftRight_add, Nat.shiftRight_eq_div_pow v 8]

/-- The big-endian value of a field is its value cut to the field. -/
theorem beVal_be (n v : Nat) : beVal (be n v) = v % 256 ^ n := by
  induction n generalizing v with
  | zero => simp [be, beVal, Nat.mod_one]
  | succ n ih =>
    have hsplit : beVal (be (n + 1) v) = beVal (be n (v / 256)) * 256 + v % 256 := by
      rw [be_succ, beVal, List.foldl_append]
      rfl
    rw [hsplit, ih, pow_succ, Nat.mul_comm (256 ^ n) 256, Nat.mod_mul]
    omega

/-- The heartbeat that leaves with a payload of X9. -/
theorem sentOf_heartbeat (s : State) (iseq via unit wframe m : Nat) (ready granted : Bool) :
    sentOf s { iseq := iseq, conn := 9, via := via
               data := x9Payload 3 unit wframe (be 2 m ++ be 1 (bit ready + 2 * bit granted) ++ be 1 0) }
      = .heartbeat (wframe % 2 ^ 48) (m % 2 ^ 16) ready granted := by
  have hframe : fieldAt (x9Payload 3 unit wframe (be 2 m ++ be 1 (bit ready + 2 * bit granted) ++ be 1 0)) 2 6 = wframe % 2 ^ 48 :=
    beVal_be 6 wframe
  have hmsw : fieldAt (x9Payload 3 unit wframe (be 2 m ++ be 1 (bit ready + 2 * bit granted) ++ be 1 0)) 16 2 = m % 2 ^ 16 := beVal_be 2 m
  have hflags : fieldAt (x9Payload 3 unit wframe (be 2 m ++ be 1 (bit ready + 2 * bit granted) ++ be 1 0)) 18 1
      = (bit ready + 2 * bit granted) % 256 ^ 1 := beVal_be 1 _
  have hkind : fieldAt (x9Payload 3 unit wframe (be 2 m ++ be 1 (bit ready + 2 * bit granted) ++ be 1 0)) 0 1 = 3 := rfl
  have hready : ((bit ready + 2 * bit granted) % 256 ^ 1 % 2 == 1) = ready
      ∧ ((bit ready + 2 * bit granted) % 256 ^ 1 / 2 % 2 == 1) = granted := by
    cases ready <;> cases granted <;> decide
  simp only [sentOf, hkind, hframe, hmsw, hflags, hready.1, hready.2]
  rfl

theorem exec_heartbeatSend {s : State} {now : Nat} (hpeer : onPeer (later s now) = true)
    (hdue : ∀ a, (later s now).dpx.hbAt = some a → a + 10000 ≤ (later s now).now) (hx9 : x9On (later s now) = true)
    (htwo : twoLanes (later s now) = true) : exec (.heartbeatSend now) s = .next (
      pushX9 { later s now with dpx := { (later s now).dpx with hbAt := some (later s now).now } }
        (x9Payload 3 (ownKind (later s now).cfg) (later s now).dpx.wframe
          (be 2 (msw (later s now)) ++ be 1 (bit (standbyReady (later s now)) + 2 * bit (later s now).dpx.granted) ++ be 1 0))) := by
  change execHeartbeatSend now s = _
  rw [execHeartbeatSend]
  generalize later s now = v at *
  have hdue' : (match v.dpx.hbAt with
    | some t => decide (t + 10000 ≤ v.now)
    | none => true) = true := by
    cases h : v.dpx.hbAt with
    | none => rfl
    | some a => exact decide_eq_true (hdue a h)
  have hnot : ¬ ((!onPeer v) = true ∨ (!match v.dpx.hbAt with
    | some t => decide (t + 10000 ≤ v.now)
    | none => true) = true) := by
    simp [hpeer, hdue']
  refine (if_neg hnot).trans (if_pos ?_)
  exact Bool.and_eq_true_iff.mpr ⟨hx9, htwo⟩

/-- What leaves with a payload of X9 through a served PKT_OUT in which nothing waits. -/
theorem pushX9_alone {s : State} (hserved : Served s) (hempty : s.xbr.q1.items = []) (payload : Bytes) : ∃ iseq,
    (pushX9 s payload).sent = s.sent ++ [sentOf s { iseq := iseq, conn := 9, data := payload, via := 9 }]
      ∧ (pushX9 s payload).xbr = throughOut s.xbr (pushX9 s payload).xbr := by
  have htouched : (touchQueue s 1).xbr.q1.items = [] := by
    have hq : (touchQueue s 1).xbr.q1 = _ := touchQueue_queue s (q := 1) (by decide)
    rw [hq]
    split
    · exact hempty
    · exact resetQueue_items _
  have hsends := (pushOut_sends hserved (by rw [htouched]; decide) 9 { conn := 9, ip := 0, udpp := 0, data := payload }).1
  rw [htouched, List.map_nil, List.append_nil] at hsends
  refine ⟨_, hsends, ?_⟩
  have hframe := (pushOut_frame s 9 { conn := 9, ip := 0, udpp := 0, data := payload }).2
  change pushX9 s payload = _ at hframe
  generalize pushX9 s payload = t at hframe
  rw [hframe]
  rfl

theorem pushX9_through {s : State} {payload : Bytes} {xbr : XbrBlk} (hxbr : (pushX9 s payload).xbr = throughOut xbr (pushX9 s payload).xbr)
    {sent : List Sent} (hsent : (pushX9 s payload).sent = sent) :
    pushX9 s payload = { s with sent := sent, xbr := throughOut xbr (pushX9 s payload).xbr } := by
  rw [← hsent, ← hxbr]
  exact pushOut_through s 9 { conn := 9, ip := 0, udpp := 0, data := payload }

theorem x9On_served {s : State} (h : x9On s = true) : Served s := by
  simp only [x9On, Bool.and_eq_true, Bool.not_eq_true'] at h
  exact ⟨h.1.2, h.2⟩

theorem afterStep15_sent {s t : State} {n opc : Nat} {body : Bytes} (h : WitnessSent s t n opc body) :
    WitnessSent s (reachStep15 t) n opc body := by
  rw [reachStep15_eq]
  exact h

theorem told_eq (u : State) (p : WitIn) : told u p = { u with
    dpx := { u.dpx with
      witAt := some u.now, holder := p.hl
      leaseAt := if u.dpx.granted = true ∧ p.hl = ownKind u.cfg + 1 ∧ p.gepoch = u.dpx.gepoch then
          some (max (u.dpx.beatAt - 10000 * (u.dpx.beat - p.fref)) (u.dpx.leaseAt.getD 0)) else u.dpx.leaseAt }
    faults := (told u p).faults } := by
  have hmine : (u.dpx.granted && p.hl == ownHolder u && p.gepoch == u.dpx.gepoch) = true
      ↔ u.dpx.granted = true ∧ p.hl = ownKind u.cfg + 1 ∧ p.gepoch = u.dpx.gepoch := by
    simp only [Bool.and_eq_true, beq_iff_eq, ownHolder, and_assoc]
  conv_lhs => rw [told]
  simp only [hmine]
  rfl

/-- Settles O48: the beat by what `sendWitness` sends to each entry, the leases by `execLeaseLapse`, and each row of the
peer protocol by its own lemma. -/
theorem beatsAndLeasesHoldTheGrant : Obligations.BeatsAndLeasesHoldTheGrant := by
  intro s now v d I wl pl both
  have hwl : witnessLease v = true ↔ wl := witnessLease_iff v
  have hpl : peerLease v = true ↔ pl := peerLease_iff v
  refine ⟨fun hready hdue => ?_,
    fun hready hearly hdue hon => ⟨_, exec_beat_early hready hearly hdue, sendStatus_due hon, sendStatus_frame v⟩,
    fun p hon hrole hentry hkind => ?_, fun h => exec_leaseLapse_stands (h.imp hwl.mpr hpl.mpr), fun hgranted hactive hnowl hnopl => ?_,
    fun hready hrole hlate => ⟨_, exec_witnessDown hready hrole hlate, raise_isLive _ _ _ (by decide), raise_frame _ _ _⟩,
    fun hready hboth => ⟨exec_peerDown_early, fun hlate => ?_⟩, fun hpeer => ⟨fun h => ⟨fun hbad =>
      congrArg Host.Outcome.next (heartbeat_refused hbad), fun hcrc hunit hfenced => ?_⟩, fun hdue hx9 htwo hempty => ?_,
      fun frame acode key hfenced hkey => ?_⟩⟩
  · obtain ⟨hbeat, hat, hframe⟩ := beat_frame v
    refine ⟨_, exec_beat hready hdue, hbeat, hat, fun hon hrole => ⟨beat_due hon, fun n hn hkey hpush =>
      ⟨?_, fun r hasking hmiss hkind => ?_⟩⟩, hframe⟩
    · rw [hbeat, ← statusBody_ticked hrole]
      exact afterStep15_sent (beat_status hon hn hkey hpush)
    · rw [hbeat]
      exact afterStep15_sent (beat_request hon hn hkey hpush hasking hmiss hkind)
  · intro u fresh mine away conflict
    have hexec := exec_witnessStatus hon hrole hentry hkind
    refine ⟨fun h => ?_, fun hfresh hkind2 => ?_⟩
    · rw [hexec, if_neg]
      rintro ⟨hfresh, hkind2⟩
      exact h.elim (fun h => h ((beatFresh_iff v p.fref).mp hfresh)) fun h => h hkind2
    · rw [if_pos ⟨(beatFresh_iff v p.fref).mpr hfresh, hkind2⟩] at hexec
      have haway : (u.dpx.relinquished && p.hl == partnerHolder u) = true ↔ d.relinquished = true ∧ away := by
        rw [Bool.and_eq_true, beq_iff_eq]
        rfl
      refine ⟨statusOfWitness u p, told u p, hexec, told_eq u p, lower_isLive _ _ _ (by decide), fun hcalm hstays => ?_,
        fun hcalm hgone hleft => ?_, statusOfWitness_conflict (u := u) (p := p)⟩
      · rw [statusOfWitness_calm (u := u) (p := p) hcalm, if_neg (mt haway.mp hstays)]
      · rw [statusOfWitness_calm (u := u) (p := p) hcalm, if_pos (haway.mpr ⟨hgone, hleft⟩)]
        rfl
  · obtain ⟨hnone, hgone, hdue, hstopped, hended⟩ := isolated_shows hgranted hactive
    exact ⟨_, exec_leaseLapse_lapses hgranted hactive (mt hwl.mp hnowl) (mt hpl.mp hnopl), hnone, hgone, hstopped, hdue, hended,
      isolated_frame v⟩
  · refine ⟨_, exec_peerDown_late hready hboth hlate, ?_⟩
    have hdown : isLive (unheard v) .dpx dPEER_DOWN = true := raise_isLive _ _ _ (by decide)
    have hframe : RaiseFrame { v with dpx := { v.dpx with peerReady := false } } (unheard v) := raise_frame _ _ _
    split
    next => exact ⟨raise_keeps_live hdown, hframe.trans (raise_frame _ _ _), fun _ _ => raise_isLive _ _ _ (by decide)⟩
    next h => exact ⟨hdown, hframe, fun hactive hkept => absurd ⟨hactive, by rw [hkept]; rfl⟩ h⟩
  · obtain ⟨hdown, hready, hframe⟩ := partnerJudged_shows v h
    obtain ⟨hdown, hframe, hready, hconflict⟩ := conflictRaised_shows hframe
      ((v.dpx.role = .active && !v.dpx.relinquished) && (h.msw / 0x2000 % 4 == Role.code .active && h.granted && h.msw / 0x400 % 2 == 0))
      hdown hready
    refine ⟨_, congrArg Host.Outcome.next (heartbeat_taken hpeer hcrc hunit hfenced), hdown, hframe, hready,
      fun hactive hkept hrole hgranted hruns => hconflict ?_⟩
    simp [d, hactive, hkept, hrole, hgranted, hruns, Role.code]
  · obtain ⟨iseq, hsent, hxbr⟩ := pushX9_alone (s := { v with dpx := { d with hbAt := some v.now } }) (x9On_served hx9) hempty
      (x9Payload 3 (ownKind v.cfg) d.wframe (be 2 (msw v) ++ be 1 (bit (standbyReady v) + 2 * bit d.granted) ++ be 1 0))
    rw [sentOf_heartbeat] at hsent
    exact ⟨_, exec_heartbeatSend hpeer hdue hx9 htwo, pushX9_through hxbr hsent⟩
  · obtain ⟨ht, hdown, hack⟩ := rowAck_shows hpeer hfenced hkey frame acode
    exact ⟨_, rfl, ht, hdown, hack⟩

end Sys2Proof.Proofs.Beats

/-! PROOFS. The image banks (R364 to R369): what a change of a part's banks, its record, and a refusal of the update engine leave. -/

namespace Sys2Proof.Proofs.Banks

open Sys2Proof Sys2Proof.Machine Sys2Proof.Safety
open Sys2Proof.Proofs.LaneCommands (reply_replies)
open Sys2Proof.Proofs.Keys (svcReply_reply)
open Sys2Proof.Proofs.Frames (raise_keeps_live)

/-! ## The pairs of a part -/

theorem setPairs_pair (s : State) (p : Part) (f : BankPair → BankPair) {n : Nat} (hn : n < 7) :
    updPair (setPairs s p f).upd n = if n ∈ pairNums p then f (updPair s.upd n) else updPair s.upd n := by
  cases p
  all_goals
    interval_cases n
    all_goals rfl

/-- A change of pairs changes nothing else. -/
theorem setPairs_eq (s : State) (p : Part) (f : BankPair → BankPair) :
    setPairs s p f = { s with upd := pairsOf s.upd (setPairs s p f).upd } := by
  cases p <;> rfl

theorem pairNums_lt {p : Part} {n : Nat} (h : n ∈ pairNums p) : n < 7 := by
  cases p <;> simp [pairNums] at h <;> omega

theorem setBank_other (p : BankPair) (f : Bank → Bank) : otherBank (setBank p (!p.onB) f) = f (otherBank p) := by
  cases h : p.onB <;> simp [setBank, otherBank, h]

theorem setBank_active (p : BankPair) (f : Bank → Bank) : activeBank (setBank p (!p.onB) f) = activeBank p := by
  cases h : p.onB <;> simp [setBank, activeBank, h]

/-- A state with the same banks as after the inactive ones of a part have all become `b`. -/
theorem inactiveBecomes_of {s t : State} {p : Part} {f : Bank → Bank} {b : Bank} (hb : ∀ n ∈ pairNums p, f (otherBank (updPair s.upd n)) = b)
    (hpairs : ∀ n < 7, updPair t.upd n = updPair (setInactive s p f).upd n) : InactiveBecomes s t p b := by
  refine ⟨fun n hn => ?_, fun n hn hother => ?_⟩
  · rw [hpairs n (pairNums_lt hn), setInactive, setPairs_pair s p _ (pairNums_lt hn), if_pos hn]
    exact ⟨(setBank_other _ f).trans (hb n hn), setBank_active _ f⟩
  · rw [hpairs n hn, setInactive, setPairs_pair s p _ hn, if_neg hother]

/-- What the inactive banks of a part become depends on the banks only. -/
theorem setInactive_pairs {s t : State} (h : ∀ n < 7, updPair t.upd n = updPair s.upd n) (p : Part) (f : Bank → Bank) {n : Nat} (hn : n < 7) :
    updPair (setInactive t p f).upd n = updPair (setInactive s p f).upd n := by
  rw [setInactive, setInactive, setPairs_pair t p _ hn, setPairs_pair s p _ hn, h n hn]

/-! ## The record of a bank -/

theorem raiseFrame_upd {s t : State} (h : RaiseFrame s t) : t.upd = s.upd := by
  unfold RaiseFrame at h
  rw [h]

theorem bankRecord_frame (s : State) (p : Part) (st : BankSt) (img : Nat) :
    RaiseFrame { s with free := s.free + 1 } (bankRecord s p st img) := frameRec_frame _ _ _ _

theorem bankRecord_upd (s : State) (p : Part) (st : BankSt) (img : Nat) : (bankRecord s p st img).upd = s.upd :=
  raiseFrame_upd (s := { s with free := s.free + 1 }) (bankRecord_frame s p st img)

theorem bankRecord_isLive (s : State) (p : Part) (st : BankSt) (img : Nat) (b : Blk) (n : Nat) :
    isLive (bankRecord s p st img) b n = isLive s b n := by
  have hfaults : (bankRecord s p st img).faults = s.faults := frameRec_faults _ _ _ _
  rw [isLive, hfaults, isLive]

/-! ## Replies of the update engine -/

theorem noteRefusal_noted (u : State) (st : Status) : Noted u (noteRefusal u st) st := by
  refine ⟨fun h => if_neg h, fun h => ?_⟩
  have hraised : noteRefusal u st = raise { u with upd := { u.upd with errAt := some u.now } } .upd uTRANSFER_ERR := if_pos h
  rw [hraised]
  exact ⟨raise_isLive _ _ _ (by decide), raise_frame _ _ _⟩

theorem noteRefusal_none {st : Status} (h : ¬ IsUpdError st) (u : State) : noteRefusal u st = u := if_neg h

/-- A note leaves what is live. -/
theorem noteRefusal_keeps_live {s : State} {b : Blk} {n : Nat} (h : isLive s b n = true) (st : Status) : isLive (noteRefusal s st) b n = true := by
  unfold noteRefusal
  split
  · exact raise_keeps_live (s := { s with upd := { s.upd with errAt := some s.now } }) h
  · exact h

section
variable {c : Instr} {s u x : State} {src : Src} {opc : Nat} {st : Status} {body : Bytes} (hexec : exec c s = .next x)
include hexec

/-- A status that is no update error is replied without a note. -/
theorem svcReply_of_updReply (hrow : x = updReply u src opc st body) (hst : ¬ IsUpdError st) : SvcReply c s u src opc st body :=
  svcReply_reply hexec (hrow.trans (by rw [updReply, noteRefusal_none hst]))

theorem updRefused_of_updReply (hrow : x = updReply u src opc st []) : UpdRefused c s u src opc st :=
  ⟨noteRefusal u st, x, hexec, noteRefusal_noted u st, hrow ▸ reply_replies _ src opc st []⟩

end

theorem not_isUpdError_done : ¬ IsUpdError .done := by
  unfold IsUpdError
  decide

theorem not_isUpdError_accepted : ¬ IsUpdError .accepted := by
  unfold IsUpdError
  decide

theorem not_isUpdError_busy : ¬ IsUpdError .busy := by
  unfold IsUpdError
  decide

theorem not_isUpdError_badLen : ¬ IsUpdError .badLen := by
  unfold IsUpdError
  decide

end Sys2Proof.Proofs.Banks

/-! PROOFS. The transfer of an image (R370 to R372): UPD_BEGIN, UPD_BLOCK, BLOCK_NOTE, UPD_BITMAP and UPD_ABORT. -/

namespace Sys2Proof.Proofs.Transfers

open Sys2Proof Sys2Proof.Machine Sys2Proof.Safety Sys2Proof.Proofs.Banks
open Sys2Proof.Proofs.LaneCommands (gated_pass)

/-! ## UPD_BEGIN (R370) -/

/-- The identifier that a transfer gets. -/
def newXid (s : State) : Nat := if (takeFree s).1.toNat = 0 then 1 else (takeFree s).1.toNat

theorem newXid_range (s : State) : 1 ≤ newXid s ∧ newXid s < 2 ^ 32 := by
  have hlt := (takeFree s).1.isLt
  unfold newXid
  split
  · exact ⟨Nat.le_refl _, by decide⟩
  · exact ⟨by omega, hlt⟩

/-- A bank that is rewritten (R368, R385): its source BANK_BAD is looked at, and its settings are no longer unreadable. -/
theorem bankRewritten_shows (s : State) (p : Part) : let t := bankRewritten s p
    RaiseFrame { s with upd := { s.upd with incompat := if s.upd.incompat = some p then none else s.upd.incompat } } t
      ∧ (s.upd.incompat = some p → isLive t .upd uSETTINGS_INCOMPATIBLE = false) := by
  intro t
  have hbanks : RaiseFrame s (noteBanks s) := setLive_frame _ _ _ _
  have hupd : (noteBanks s).upd = s.upd := raiseFrame_upd hbanks
  by_cases h : s.upd.incompat = some p
  · have ht : t = lower { noteBanks s with upd := { s.upd with incompat := none } } .upd uSETTINGS_INCOMPATIBLE := by
      rw [← hupd]
      exact if_pos (by rw [hupd, h])
    rw [ht, if_pos h]
    refine ⟨RaiseFrame.trans (t := { noteBanks s with upd := { s.upd with incompat := none } }) ?_ (lower_frame _ _ _),
      fun _ => lower_isLive _ _ _ (by decide)⟩
    generalize noteBanks s = u at hbanks
    unfold RaiseFrame at *
    rw [hbanks]
  · have ht : t = noteBanks s := if_neg (by rw [hupd]; exact h)
    rw [ht, if_neg h]
    exact ⟨hbanks, fun hp => absurd hp h⟩

/-- A transfer that opens (R370). -/
theorem openTransfer_shows (u : State) (p : Part) (onB : Bool) (header : Bytes) : let x := (openTransfer u p onB header).2
    InactiveBecomes u x p { state := .receiving }
      ∧ RaiseFrame { u with free := u.free + 2, upd := { pairsOf u.upd x.upd with
          xfer := some { id := newXid u, part := p, onB := onB, header := header }, xst := 1, result := none
          lastXid := newXid u, incompat := if u.upd.incompat = some p then none else u.upd.incompat } } x
      ∧ (u.upd.incompat = some p → isLive x .upd uSETTINGS_INCOMPATIBLE = false) := by
  intro x
  let emptied := setInactive (takeFree u).2 p fun _ => { state := .receiving }
  have hemptied : emptied = { (takeFree u).2 with upd := pairsOf u.upd emptied.upd } := setPairs_eq _ _ _
  obtain ⟨hframe, hlive⟩ := bankRewritten_shows emptied p
  let opened : State := { bankRewritten emptied p with upd := { (bankRewritten emptied p).upd with
    xfer := some { id := newXid u, part := p, onB := onB, header := header }, xst := 1, result := none, lastXid := newXid u } }
  have hx : x = bankRecord opened p .receiving (hdrImgId header) := rfl
  have hincompat : emptied.upd.incompat = u.upd.incompat := by rw [hemptied]; rfl
  have hrecord := bankRecord_frame opened p .receiving (hdrImgId header)
  have hxupd : x.upd = opened.upd := bankRecord_upd _ _ _ _
  refine ⟨inactiveBecomes_of (f := fun _ => { state := .receiving }) (fun _ _ => rfl) fun n hn => ?_, ?_, fun h => ?_⟩
  · rw [hxupd]
    change updPair (bankRewritten emptied p).upd n = updPair emptied.upd n
    rw [raiseFrame_upd hframe]
    rfl
  · rw [← hx] at hrecord
    refine RaiseFrame.trans ?_ hrecord
    rw [hxupd]
    rw [hincompat] at hframe
    clear_value emptied
    simp only [opened]
    generalize bankRewritten emptied p = w at hframe
    unfold RaiseFrame at *
    rw [hframe, hemptied]
    rfl
  · rw [hx, bankRecord_isLive]
    exact hlive (hincompat.trans h)

section
variable {s : State} {src : Src} {part bank : Nat} {header : Bytes} (hgate : gateOf s src 0xC0 = .pass)
include hgate

theorem updBegin_badLen (h : Part.ofCode? part = none ∨ 1 < bank ∨ header.length ≠ 64) :
    rowUpdBegin src part bank header s = updReply (hearFrom s src.entry) src 0xC0 .badLen [] := by
  rw [rowUpdBegin, gated_pass hgate]
  split
  next => rfl
  next p hp => exact if_pos (h.resolve_left (by rw [hp]; exact Option.some_ne_none p))

variable {p : Part} (hpart : Part.ofCode? part = some p) (hbank : bank ≤ 1) (hlen : header.length = 64)
include hpart hbank hlen

theorem updBegin_busy (h : s.upd.verifying = true) :
    rowUpdBegin src part bank header s = updReply (hearFrom s src.entry) src 0xC0 .busy [] := by
  have hfits : ¬ (1 < bank ∨ header.length ≠ 64) := by simp [hlen, hbank]
  rw [rowUpdBegin, gated_pass hgate]
  simp only [hpart, if_neg hfits]
  exact if_pos h

theorem updBegin_checked (h : s.upd.verifying = false) : rowUpdBegin src part bank header s =
    match headerCheck s p (bank == 1) header with
    | some st => updReply (hearFrom s src.entry) src 0xC0 st []
    | none => match s.upd.xfer with
      | some t =>
        if t.header = header ∧ t.part = p ∧ t.onB = (bank == 1) then
          updReply (hearFrom s src.entry) src 0xC0 .done (be 4 t.id ++ be 4 t.have_.length)
        else updReply (hearFrom s src.entry) src 0xC0 .busy []
      | none => updReply (openTransfer (hearFrom s src.entry) p (bank == 1) header).2 src 0xC0 .done
          (be 4 (newXid (hearFrom s src.entry)) ++ be 4 0) := by
  have hfits : ¬ (1 < bank ∨ header.length ≠ 64) := by simp [hlen, hbank]
  rw [rowUpdBegin, gated_pass hgate]
  simp only [hpart, if_neg hfits]
  exact (if_neg (Bool.eq_false_iff.mp h)).trans rfl

end

/-! ## UPD_BLOCK (R371) -/

/-- No transfer is open under the identifier. -/
def NoTransfer (s : State) (xid : Nat) : Prop := ∀ t, s.upd.xfer = some t → t.id ≠ xid

section
variable {s : State} {src : Src} {xid num crc : Nat} {data : Bytes} (hgate : gateOf s src 0xC1 = .pass)
include hgate

theorem updBlock_busy (h : s.upd.verifying = true) :
    rowUpdBlock src xid num data crc s = updReply (hearFrom s src.entry) src 0xC1 .busy [] := by
  rw [rowUpdBlock, gated_pass hgate]
  exact if_pos h

variable (hidle : s.upd.verifying = false)
include hidle

theorem updBlock_noTransfer (h : NoTransfer s xid) :
    rowUpdBlock src xid num data crc s = updReply (hearFrom s src.entry) src 0xC1 .noTransfer [] := by
  rw [rowUpdBlock, gated_pass hgate]
  refine (if_neg (Bool.eq_false_iff.mp hidle)).trans ?_
  split
  next => rfl
  next t ht => exact if_pos (h t ht)

theorem updBlock_open {t : UpdTransfer} (hopen : s.upd.xfer = some t) (hid : t.id = xid) : rowUpdBlock src xid num data crc s =
    if nblkOf t.header ≤ num ∨ data.length ≠ blockLen t.header num then updReply (hearFrom s src.entry) src 0xC1 .badLen []
    else if (crc32c data).toNat ≠ crc then updReply (hearFrom s src.entry) src 0xC1 .blockCrc []
    else if t.have_.contains num then updReply (hearFrom s src.entry) src 0xC1 .done []
    else writeBlock (hearFrom s src.entry) t src num crc data := by
  have hhere : (hearFrom s src.entry).upd.xfer = some t := hopen
  rw [rowUpdBlock, gated_pass hgate]
  refine (if_neg (Bool.eq_false_iff.mp hidle)).trans ?_
  rw [hhere]
  exact if_neg (not_not.mpr hid)

end

/-! ## BLOCK_NOTE (R371) -/

theorem exec_blockNote {s : State} {t : UpdTransfer} {num : Nat} {readback b : Bytes} {a : Src} (hopen : s.upd.xfer = some t)
    (hblock : t.blocks.find? (·.1 == num) = some (num, b)) (hnote : t.notes.filter (·.1 == num) = [(num, a)]) :
    exec (.blockNote t.id num readback) s = .next (if crc32c readback = crc32c b then
      updReply { s with upd := { s.upd with
        xfer := some { t with notes := t.notes.filter (·.1 != num), have_ := num :: t.have_ }, result := none, xst := 1 } } a 0xC1 .done []
    else updReply { s with upd := { s.upd with
        xfer := some { t with notes := t.notes.filter (·.1 != num), blocks := t.blocks.filter (·.1 != num) } } } a 0xC1 .blockCrc []) := by
  change execBlockNote t.id num readback s = _
  simp only [execBlockNote, hopen, hblock, hnote, List.map_cons, List.map_nil, List.isEmpty_cons, ne_eq, not_true_eq_false,
    Bool.false_eq_true, or_self, if_false, List.foldl_cons, List.foldl_nil]
  split <;> rfl

/-! ## UPD_BITMAP (R372) -/

/-- The bits of a byte put together from its bits, the most significant first. -/
theorem getLsbD_packed (g : Nat → Bool) {i : Nat} (hi : i < 8) :
    (BitVec.ofNat 8 (((List.range 8).map fun j => if g j then 2 ^ (7 - j) else 0).foldl (· + ·) 0)).getLsbD (7 - i) = g i := by
  have hall : ∀ c0 c1 c2 c3 c4 c5 c6 c7 : Bool, ∀ k : Fin 8,
      (BitVec.ofNat 8 (([(c0, 128), (c1, 64), (c2, 32), (c3, 16), (c4, 8), (c5, 4), (c6, 2), (c7, 1)].map fun p =>
        if p.1 then p.2 else 0).foldl (· + ·) 0)).getLsbD (7 - k) = [c0, c1, c2, c3, c4, c5, c6, c7][k] := by
    decide +kernel
  have hhere := hall (g 0) (g 1) (g 2) (g 3) (g 4) (g 5) (g 6) (g 7) ⟨i, hi⟩
  interval_cases i
  all_goals exact hhere

theorem bitmapBytes_length (have_ : List Nat) (first k : Nat) : (bitmapBytes have_ first k).length = (k + 7) / 8 := by
  simp [bitmapBytes]

/-- Each bit of a bitmap says whether its block is held. -/
theorem bitmapBytes_bit {have_ : List Nat} {first k j : Nat} {y : Byte} (hy : (bitmapBytes have_ first k)[j / 8]? = some y) :
    y.getLsbD (7 - j % 8) = true ↔ j < k ∧ first + j ∈ have_ := by
  rw [bitmapBytes, List.getElem?_map, Option.map_eq_some_iff] at hy
  obtain ⟨m, hm, rfl⟩ := hy
  obtain ⟨hlt, rfl⟩ := List.getElem?_eq_some_iff.mp hm
  rw [List.getElem_range]
  have hbit := getLsbD_packed (fun i => decide (8 * (j / 8) + i < k ∧ have_.contains (first + (8 * (j / 8) + i)) = true)) (i := j % 8)
    (Nat.mod_lt _ (by decide))
  simp only [decide_eq_true_eq, Nat.div_add_mod] at hbit
  rw [hbit, decide_eq_true_eq, List.contains_iff_mem]

section
variable {s : State} {src : Src} {xid first : Nat} (hgate : gateOf s src 0xC2 = .pass)
include hgate

theorem updBitmap_noTransfer (h : NoTransfer s xid) :
    rowUpdBitmap src xid first s = updReply (hearFrom s src.entry) src 0xC2 .noTransfer [] := by
  rw [rowUpdBitmap, gated_pass hgate]
  split
  next => rfl
  next t ht => exact if_pos (h t ht)

theorem updBitmap_open {t : UpdTransfer} (hopen : s.upd.xfer = some t) (hid : t.id = xid) : rowUpdBitmap src xid first s =
    if nblkOf t.header ≤ first then updReply (hearFrom s src.entry) src 0xC2 .badLen []
    else updReply (hearFrom s src.entry) src 0xC2 .done (be 4 (nblkOf t.header) ++ be 4 first
      ++ be 2 (min (nblkOf t.header - first) 65376) ++ bitmapBytes t.have_ first (min (nblkOf t.header - first) 65376)) := by
  have hhere : (hearFrom s src.entry).upd.xfer = some t := hopen
  rw [rowUpdBitmap, gated_pass hgate, hhere]
  exact if_neg (not_not.mpr hid)

end

/-! ## UPD_ABORT (R372) -/

/-- A transfer that is dropped: its bank is EMPTY (R372, R374). -/
theorem dropTransfer_shows (u : State) (t : UpdTransfer) : let x := dropTransfer u t
    InactiveBecomes u x t.part {}
      ∧ RaiseFrame { u with free := u.free + 1, upd := { pairsOf u.upd x.upd with xfer := none, verifying := false } } x := by
  intro x
  let emptied := setInactive { u with upd := { u.upd with xfer := none, verifying := false } } t.part fun _ => {}
  have hemptied : emptied = { u with upd := pairsOf { u.upd with xfer := none, verifying := false } emptied.upd } := setPairs_eq _ _ _
  have hx : x = bankRecord emptied t.part .empty (hdrImgId t.header) := rfl
  have hxupd : x.upd = emptied.upd := bankRecord_upd _ _ _ _
  have hrecord := bankRecord_frame emptied t.part .empty (hdrImgId t.header)
  refine ⟨inactiveBecomes_of (f := fun _ => {}) (fun _ _ => rfl) fun n hn => ?_, ?_⟩
  · rw [hxupd]
    refine setInactive_pairs (s := u) (fun m hm => ?_) t.part _ hn
    interval_cases m
    all_goals rfl
  · rw [← hx] at hrecord
    rw [hxupd]
    clear_value emptied
    rw [hemptied] at hrecord
    exact hrecord

section
variable {s : State} {src : Src} {xid : Nat} (hgate : gateOf s src 0xC6 = .pass)
include hgate

theorem updAbort_noTransfer (h : NoTransfer s xid) :
    rowUpdAbort src xid s = updReply (hearFrom s src.entry) src 0xC6 .noTransfer [] := by
  rw [rowUpdAbort, gated_pass hgate]
  split
  next => rfl
  next t ht => exact if_pos (h t ht)

/-- The state with a transfer aborted, before the reply. -/
def aborted (u : State) (t : UpdTransfer) : State :=
  { dropTransfer u t with upd := { (dropTransfer u t).upd with xst := 0, result := none } }

theorem updAbort_open {t : UpdTransfer} (hopen : s.upd.xfer = some t) (hid : t.id = xid) :
    rowUpdAbort src xid s = updReply (aborted (hearFrom s src.entry) t) src 0xC6 .done [] := by
  have hhere : (hearFrom s src.entry).upd.xfer = some t := hopen
  rw [rowUpdAbort, gated_pass hgate, hhere]
  exact if_neg (not_not.mpr hid)

end

theorem aborted_shows (u : State) (t : UpdTransfer) : let x := aborted u t
    InactiveBecomes u x t.part {}
      ∧ RaiseFrame { u with free := u.free + 1, upd := { pairsOf u.upd x.upd with
          xfer := none, verifying := false, xst := 0, result := none } } x := by
  intro x
  obtain ⟨hbanks, hframe⟩ := dropTransfer_shows u t
  refine ⟨hbanks, ?_⟩
  simp only [x, aborted]
  generalize dropTransfer u t = w at hframe
  unfold RaiseFrame at *
  rw [hframe]
  rfl

/-- Settles O43: each command by its row, whose checks come in the order of the statement. -/
theorem transfersFollowHeaderAndBlocks : Obligations.TransfersFollowHeaderAndBlocks := by
  intro s src u
  refine ⟨fun hgate part bank header => ⟨fun h => svcReply_of_updReply rfl (updBegin_badLen hgate h) not_isUpdError_badLen,
    fun p hpart hbank hlen => ⟨fun hver => svcReply_of_updReply rfl (updBegin_busy hgate hpart hbank hlen hver) not_isUpdError_busy,
      fun hidle => ?_⟩⟩,
    fun hgate xid num data crc => ⟨fun hver => svcReply_of_updReply rfl (updBlock_busy hgate hver) not_isUpdError_busy, fun hidle =>
      ⟨fun h => updRefused_of_updReply rfl (updBlock_noTransfer hgate hidle h), fun t hopen hid => ?_⟩⟩,
    fun t num readback a b hopen hblock hnote => ?_,
    fun hgate xid first => ⟨fun h => updRefused_of_updReply rfl (updBitmap_noTransfer hgate h), fun t hopen hid => ?_⟩,
    fun hgate xid => ⟨fun h => updRefused_of_updReply rfl (updAbort_noTransfer hgate h), fun t hopen hid => ?_⟩⟩
  · have hrow := updBegin_checked hgate hpart hbank hlen hidle
    refine ⟨fun st hst => updRefused_of_updReply rfl (by rw [hrow, hst]), fun hgood => ⟨fun t hopen hsame => ?_, fun t hopen hother => ?_,
      fun hnone => ?_⟩⟩
    · exact svcReply_of_updReply rfl (by rw [hrow, hgood, hopen]; exact if_pos hsame) not_isUpdError_done
    · exact svcReply_of_updReply rfl (by rw [hrow, hgood, hopen]; exact if_neg hother) not_isUpdError_busy
    · obtain ⟨hlow, hhigh⟩ := newXid_range u
      obtain ⟨hbanks, hframe, hread⟩ := openTransfer_shows u p (bank == 1) header
      exact ⟨newXid u, _, hlow, hhigh, svcReply_of_updReply rfl (by rw [hrow, hgood, hnone]) not_isUpdError_done, hbanks, hframe, hread⟩
  · have hrow := updBlock_open (num := num) (data := data) (crc := crc) hgate hidle hopen hid
    refine ⟨fun hbad => svcReply_of_updReply rfl (hrow.trans (if_pos hbad)) not_isUpdError_badLen, fun hnum hlen => ?_⟩
    have hfits : ¬ (nblkOf t.header ≤ num ∨ data.length ≠ blockLen t.header num) := by
      simp [hlen, hnum]
    rw [if_neg hfits] at hrow
    refine ⟨fun hcrc => updRefused_of_updReply rfl (hrow.trans (if_pos hcrc)), fun hcrc hheld => ?_, fun hcrc hnew => ?_⟩
    · rw [if_neg (not_not.mpr hcrc), if_pos (List.contains_iff_mem.mpr hheld)] at hrow
      exact svcReply_of_updReply rfl hrow not_isUpdError_done
    · rw [if_neg (not_not.mpr hcrc), if_neg (mt List.contains_iff_mem.mp hnew)] at hrow
      subst hid
      exact congrArg Host.Outcome.next hrow
  · have hexec := exec_blockNote (readback := readback) hopen hblock hnote
    refine ⟨fun hsame => ?_, fun hdiff => ?_⟩
    · rw [if_pos hsame] at hexec
      exact svcReply_of_updReply hexec rfl not_isUpdError_done
    · rw [if_neg hdiff] at hexec
      exact updRefused_of_updReply hexec rfl
  · have hrow := updBitmap_open (first := first) hgate hopen hid
    refine ⟨fun hbad => svcReply_of_updReply rfl (hrow.trans (if_pos hbad)) not_isUpdError_badLen, fun hin => ?_⟩
    rw [if_neg (Nat.not_le.mpr hin)] at hrow
    exact ⟨_, svcReply_of_updReply rfl hrow not_isUpdError_done, bitmapBytes_length _ _ _, fun j _ y hy => bitmapBytes_bit hy⟩
  · obtain ⟨hbanks, hframe⟩ := aborted_shows u t
    exact ⟨_, svcReply_of_updReply rfl (updAbort_open hgate hopen hid) not_isUpdError_done, hbanks, hframe⟩

end Sys2Proof.Proofs.Transfers

/-! PROOFS. The verification of an image (R373, R374, R382): UPD_VERIFY, VERIFY_END, and what a bank that passes carries. -/

namespace Sys2Proof.Proofs.Verify

open Sys2Proof Sys2Proof.Machine Sys2Proof.Safety Sys2Proof.Proofs.Banks
open Sys2Proof.Proofs.LaneCommands (gated_pass)
open Sys2Proof.Proofs.Transfers (dropTransfer_shows)

/-! ## UPD_VERIFY (R374) -/

/-- A transfer that is open or has just ended. -/
def Known (s : State) (xid : Nat) : Prop :=
  (∃ t, s.upd.xfer = some t ∧ t.id = xid) ∨ (s.upd.xfer = none ∧ s.upd.lastXid = xid ∧ s.upd.result.isSome = true)

theorem known_iff (s : State) (xid : Nat) :
    ((s.upd.xfer.map (·.id)).getD s.upd.lastXid == xid && (s.upd.xfer.isSome || s.upd.result.isSome)) = true ↔ Known s xid := by
  cases h : s.upd.xfer with
  | none => simp [Known, h]
  | some t => simp [Known, h]

section
variable {s : State} {src : Src} {xid : Nat} (hgate : gateOf s src 0xC3 = .pass)
include hgate

theorem updVerify_busy (h : s.upd.verifying = true) : rowUpdVerify src xid s = updReply (hearFrom s src.entry) src 0xC3 .busy [] := by
  rw [rowUpdVerify, gated_pass hgate]
  exact if_pos h

variable (hidle : s.upd.verifying = false)
include hidle

theorem updVerify_unknown (h : ¬ Known s xid) : rowUpdVerify src xid s = updReply (hearFrom s src.entry) src 0xC3 .noTransfer [] := by
  rw [rowUpdVerify, gated_pass hgate]
  refine (if_neg (Bool.eq_false_iff.mp hidle)).trans (if_pos ?_)
  rw [Bool.not_eq_true', Bool.eq_false_iff]
  exact mt (known_iff s xid).mp h

theorem updVerify_known (h : Known s xid) : rowUpdVerify src xid s =
    match s.upd.result with
    | some r => updReply (hearFrom s src.entry) src 0xC3 r []
    | none => updReply { hearFrom s src.entry with upd := { s.upd with verifying := true, xst := 2 } } src 0xC3 .accepted [] := by
  rw [rowUpdVerify, gated_pass hgate]
  refine (if_neg (Bool.eq_false_iff.mp hidle)).trans ((if_neg ?_).trans rfl)
  rw [Bool.not_eq_true', Bool.not_eq_false]
  exact (known_iff s xid).mpr h

end

/-! ## VERIFY_END (R374, R382) -/

/-- The verification has ended with a result. -/
def ended (s : State) (r : Status) (x : Nat) : State := { s with upd := { s.upd with verifying := false, result := some r, xst := x } }

theorem exec_verifyEnd {s : State} {t : UpdTransfer} (hver : s.upd.verifying = true) (hopen : s.upd.xfer = some t) (told : ImageSays) (now : Nat) :
    exec (.verifyEnd told now) s = .next (
      if t.have_.length < nblkOf t.header then ended (later s now) .incomplete 4
      else match verifiedBank s t told with
        | none => ended (dropTransfer (later s now) t) .signature 4
        | some b => ended (bankVerified (later s now) t b) .done 3) := by
  change execVerifyEnd told now s = _
  unfold execVerifyEnd
  dsimp only
  split
  next t' _ hxfer =>
    cases hopen.symm.trans hxfer
    split
    · rfl
    · change (match verifiedBank s t told with
        | none => Host.Outcome.next _
        | some b => Host.Outcome.next _) = _
      cases verifiedBank s t told <;> rfl
  next hnot => exact absurd hopen (hnot t hver)

/-- A transfer whose image does not pass (R374). -/
theorem failed_shows (u : State) (t : UpdTransfer) : let x := ended (dropTransfer u t) .signature 4
    InactiveBecomes u x t.part {}
      ∧ RaiseFrame { u with free := u.free + 1, upd := { pairsOf u.upd x.upd with
          xfer := none, verifying := false, result := some .signature, xst := 4 } } x := by
  intro x
  obtain ⟨hbanks, hframe⟩ := dropTransfer_shows u t
  refine ⟨hbanks, ?_⟩
  simp only [x, ended]
  generalize dropTransfer u t = w at hframe
  unfold RaiseFrame at *
  rw [hframe]
  rfl

/-- What a record of a bank may change of the rest, once the banks and the free words are told. -/
theorem bankRecord_rest {s t : State} (h : RaiseFrame { s with free := t.free, upd := t.upd } t) (p : Part) (st : BankSt) (img : Nat) :
    let x := bankRecord t p st img
    RaiseFrame { s with free := x.free, upd := x.upd } x := by
  intro x
  have hframe : RaiseFrame { t with free := t.free + 1 } x := bankRecord_frame t p st img
  have hupd : x.upd = t.upd := bankRecord_upd t p st img
  have hfree : x.free = t.free + 1 := by rw [hframe]
  rw [hupd, hfree]
  refine RaiseFrame.trans ?_ hframe
  unfold RaiseFrame at *
  rw [h]

theorem setPairs_rest {s t : State} (h : RaiseFrame { s with free := t.free, upd := t.upd } t) (p : Part) (f : BankPair → BankPair) :
    RaiseFrame { s with free := (setPairs t p f).free, upd := (setPairs t p f).upd } (setPairs t p f) := by
  rw [setPairs_eq]
  generalize (setPairs t p f).upd = y
  unfold RaiseFrame at *
  rw [h]

theorem switchPart_rest {s t : State} (h : RaiseFrame { s with free := t.free, upd := t.upd } t) (p : Part) (new old : BankSt) :
    let x := switchPart t p new old
    RaiseFrame { s with free := x.free, upd := x.upd } x := bankRecord_rest (setPairs_rest h p _) p new _

/-- The bank of a part that is switched to (R375, R383, R384). -/
theorem switchPair_active (new old : BankSt) (p : BankPair) : activeBank (switchPair new old p) = { otherBank p with state := new } := by
  cases h : p.onB <;> simp [switchPair, setBank, activeBank, otherBank, h]

theorem switchPart_pair (s : State) (p : Part) (new old : BankSt) {n : Nat} (hn : n < 7) :
    updPair (switchPart s p new old).upd n = if n ∈ pairNums p then switchPair new old (updPair s.upd n) else updPair s.upd n := by
  rw [switchPart, bankRecord_upd, setPairs_pair s p _ hn]

/-- The state with a verified bank put into place, recorded. -/
def verifiedIn (u : State) (t : UpdTransfer) (b : Bank) : State :=
  bankRecord (setInactive { u with upd := { u.upd with xfer := none } } t.part fun _ => b) t.part .verified (hdrImgId t.header)

theorem verifiedIn_inactive (u : State) (t : UpdTransfer) (b : Bank) : InactiveBecomes u (verifiedIn u t b) t.part b := by
  refine inactiveBecomes_of (f := fun _ => b) (fun _ _ => rfl) fun n hn => ?_
  rw [verifiedIn, bankRecord_upd]
  refine setInactive_pairs (s := u) (fun m hm => ?_) t.part _ hn
  interval_cases m
  all_goals rfl

theorem verifiedIn_xfer (u : State) (t : UpdTransfer) (b : Bank) : (verifiedIn u t b).upd.xfer = none := by
  rw [verifiedIn, bankRecord_upd, setInactive, setPairs_eq]
  rfl

theorem verifiedIn_rest (u : State) (t : UpdTransfer) (b : Bank) : let x := verifiedIn u t b
    RaiseFrame { u with free := x.free, upd := x.upd } x :=
  bankRecord_rest (setPairs_rest (t := { u with upd := { u.upd with xfer := none } }) rfl _ _) _ _ _

theorem bankVerified_eq (u : State) (t : UpdTransfer) (b : Bank) : bankVerified u t b =
    if t.part = .ocf then switchPart (verifiedIn u t b) .ocf .confirmed .previous else verifiedIn u t b := rfl

theorem switchPart_xfer (s : State) (p : Part) (new old : BankSt) : (switchPart s p new old).upd.xfer = s.upd.xfer := by
  rw [switchPart, bankRecord_upd, setPairs_eq]
  rfl

/-- A verification that passes (R374, R382). -/
theorem passed_shows (u : State) (t : UpdTransfer) (b : Bank) : let x := ended (bankVerified u t b) .done 3
    x.upd.xfer = none ∧ (t.part ≠ .ocf → InactiveBecomes u x t.part b) ∧ (t.part = .ocf → activeBank x.upd.ocf = { b with state := .confirmed })
      ∧ RaiseFrame { u with free := x.free, upd := x.upd } x := by
  intro x
  have hinactive := verifiedIn_inactive u t b
  have hrest := verifiedIn_rest u t b
  have hended : ∀ y : State, RaiseFrame { u with free := y.free, upd := y.upd } y →
      RaiseFrame { u with free := (ended y .done 3).free, upd := (ended y .done 3).upd } (ended y .done 3) := by
    intro y h
    unfold RaiseFrame ended at *
    rw [h]
  by_cases hpart : t.part = .ocf
  · have hx : x = ended (switchPart (verifiedIn u t b) .ocf .confirmed .previous) .done 3 := by
      rw [← if_pos hpart (t := switchPart (verifiedIn u t b) .ocf .confirmed .previous) (e := verifiedIn u t b), ← bankVerified_eq]
    rw [hx]
    refine ⟨?_, fun h => absurd hpart h, fun _ => ?_, hended _ (switchPart_rest hrest _ _ _)⟩
    · exact (switchPart_xfer _ _ _ _).trans (verifiedIn_xfer u t b)
    · have hpair := switchPart_pair (verifiedIn u t b) .ocf .confirmed .previous (n := 6) (by decide)
      rw [if_pos (by decide)] at hpair
      have hother := (hinactive.1 6 (by rw [hpart]; decide)).1
      have hactive := switchPair_active .confirmed .previous (updPair (verifiedIn u t b).upd 6)
      rw [← hpair, hother] at hactive
      exact hactive
  · have hx : x = ended (verifiedIn u t b) .done 3 := by
      rw [← if_neg hpart (t := switchPart (verifiedIn u t b) .ocf .confirmed .previous) (e := verifiedIn u t b), ← bankVerified_eq]
    rw [hx]
    refine ⟨verifiedIn_xfer u t b, fun _ => hinactive, fun h => absurd h hpart, hended _ hrest⟩

/-! ## What a bank that passes carries -/

theorem buildTarget_length {base : Bytes} {tlen : Nat} (n : Nat) {rest acc image : Bytes} (h : buildTarget base tlen n rest acc = some image) :
    image.length = tlen := by
  induction n generalizing rest acc with
  | zero =>
    rw [buildTarget] at h
    split at h
    next hdone =>
      cases h
      simp only [Bool.and_eq_true, beq_iff_eq] at hdone
      exact hdone.2
    next => cases h
  | succ n ih =>
    rw [buildTarget] at h
    split at h
    · split at h
      next hdone =>
        cases h
        exact hdone
      next => cases h
    · split at h
      next => exact ih h
      next => cases h

theorem verifiedBank_carries {s : State} {t : UpdTransfer} {told : ImageSays} {b : Bank} (h : verifiedBank s t told = some b) :
    b.state = .verified ∧ b.header = t.header ∧ b.keyId ∈ s.sec.imageKeys ∧ b.image.length = hdrTlen t.header
      ∧ b.content = contentOf b.image told ∧ signatureOk b.keyId (t.header ++ b.image) b.signature = true := by
  unfold verifiedBank at h
  extract_lets stream cut trailer base at h
  split at h
  next => cases h
  next image himage =>
    split at h
    next hsigned =>
      cases h
      simp only [Bool.and_eq_true, List.contains_iff_mem] at hsigned
      exact ⟨rfl, rfl, hsigned.1, buildTarget_length _ himage, rfl, hsigned.2⟩
    next => cases h

/-- Settles O44: UPD_VERIFY by its row, VERIFY_END by the two ends of a verification, and the bank by `verifiedBank`. -/
theorem onlySignedImagesAreVerified : Obligations.OnlySignedImagesAreVerified := by
  intro s src u
  refine ⟨fun hgate xid => ⟨fun hver => svcReply_of_updReply rfl (updVerify_busy hgate hver) not_isUpdError_busy, fun hidle =>
      ⟨fun h => updRefused_of_updReply rfl (updVerify_unknown hgate hidle h), fun h => ?_⟩⟩,
    fun t told now hver hopen => ?_, fun t told b h => verifiedBank_carries h⟩
  · have hrow := updVerify_known hgate hidle h
    refine ⟨fun r hr => updRefused_of_updReply rfl (by rw [hrow, hr]), fun hnone => ?_⟩
    exact svcReply_of_updReply rfl (by rw [hrow, hnone]) not_isUpdError_accepted
  · have hexec := exec_verifyEnd hver hopen told now
    refine ⟨fun hmissing => ?_, fun hwhole => ?_⟩
    · rw [if_pos hmissing] at hexec
      exact hexec
    · rw [if_neg (Nat.not_lt.mpr hwhole)] at hexec
      refine ⟨fun hfail => ?_, fun b hpass => ?_⟩
      · rw [hfail] at hexec
        obtain ⟨hbanks, hframe⟩ := failed_shows (later s now) t
        exact ⟨_, hexec, hbanks, hframe⟩
      · rw [hpass] at hexec
        obtain ⟨hxfer, hbanks, hocf, hframe⟩ := passed_shows (later s now) t b
        exact ⟨_, hexec, hxfer, rfl, rfl, rfl, hbanks, hocf, hframe⟩

end Sys2Proof.Proofs.Verify

/-! PROOFS. Activation (R375 to R379, R382, R384): UPD_ACTIVATE by its routes, LANE_BOOT, PRELOAD and EXCHANGE_ABANDON. -/

namespace Sys2Proof.Proofs.Activate

open Sys2Proof Sys2Proof.Machine Sys2Proof.Safety Sys2Proof.Proofs.Banks
open Sys2Proof.Proofs.LaneCommands (gated_pass reply_replies laneAnswer_answered tellTaken_recordFrame)
open Sys2Proof.Proofs.Frames (NoteFrame raise_cases raise_keeps_live lower_isLive_other RecordFrame frameRec_recordFrame isLive_congr)
open Sys2Proof.Proofs.Power (setDebug_d0)
open Sys2Proof.Proofs.Verify (switchPart_pair switchPair_active)

/-! ## What each step leaves -/

/-- What a change of banks with its record leaves: all but the banks, the free words, the recorder and the bridge. -/
def SwitchFrame (s t : State) : Prop := t = { s with free := t.free, upd := t.upd, evr := t.evr, xbr := t.xbr }

theorem SwitchFrame.trans {s t u : State} (h : SwitchFrame s t) (g : SwitchFrame t u) : SwitchFrame s u := by
  unfold SwitchFrame at *
  rw [g, h]

theorem bankRecord_switchFrame (s : State) (p : Part) (st : BankSt) (img : Nat) : SwitchFrame s (bankRecord s p st img) := by
  have h : RecordFrame (takeFree s).2 (bankRecord s p st img) := frameRec_recordFrame _ _ _ _
  unfold RecordFrame at h
  unfold SwitchFrame
  rw [h]
  rfl

theorem switchPart_frame (s : State) (p : Part) (new old : BankSt) : SwitchFrame s (switchPart s p new old) := by
  refine SwitchFrame.trans (t := setPairs s p (switchPair new old)) ?_ (bankRecord_switchFrame _ _ _ _)
  rw [setPairs_eq]
  rfl

/-- What an answer of the lanes leaves: all but what it sends, its record and what waits for the COMMIT. -/
def AnswerFrame (s t : State) : Prop := t = { s with evr := t.evr, xbr := t.xbr, sent := t.sent, cmd := t.cmd, work := t.work }

theorem laneAnswer_frame (u : State) (src : Src) (opc : Nat) (st : Status) (body : Bytes) :
    AnswerFrame u (laneAnswer u src opc st body) := by
  obtain ⟨hnone, hsome⟩ := laneAnswer_answered u src opc st body
  generalize laneAnswer u src opc st body = t at hnone hsome
  unfold AnswerFrame
  cases hwork : u.work with
  | none =>
    have ht := hnone hwork
    have htold := tellTaken_recordFrame u src opc st
    unfold RecordFrame at htold
    unfold Answers at ht
    rw [htold] at ht
    rw [ht]
  | some x =>
    obtain ⟨y, ht, -, -⟩ := hsome x hwork
    rw [ht]

/-- A source without a fence unit leaves the objects and the lanes as they are, whatever its severity (R333, R337). -/
theorem raise_unitless {s : State} {b : Blk} (n : Nat) (hunit : hasFenceUnit b = false) :
    (raise s b n).core = s.core ∧ (raise s b n).vot = s.vot := by
  have hstop : ∀ u, (safeStop u).core = u.core ∧ (safeStop u).vot = u.vot := by
    intro u
    unfold safeStop
    split
    · exact ⟨rfl, rfl⟩
    · have hflush := startFlush_frame (stopFrames u)
      generalize startFlush (stopFrames u) = w at hflush
      rw [hflush]
      exact ⟨rfl, rfl⟩
  obtain h | ⟨u, hnote, h⟩ := raise_cases s b n
  · rw [h]
    exact ⟨rfl, rfl⟩
  · have hu : u.core = s.core ∧ u.vot = s.vot := by
      rw [hnote]
      exact ⟨rfl, rfl⟩
    have hfence : fenceUnit u b n none = u := by
      cases b
      case upd | dpx | sec | evr | sys | pwr | frm => rfl
      all_goals cases hunit
    rw [h]
    cases sevOf s.cfg b n
    case safeStop =>
      rw [react, hfence]
      exact ⟨(hstop u).1.trans hu.1, (hstop u).2.trans hu.2⟩
    case fence => rwa [react, hfence]
    all_goals exact hu

/-- A window that opens (R382). -/
theorem openWindow_shows (s : State) (p : Part) (withPrt : Bool) : let t := openWindow s p withPrt
    t.upd = { s.upd with unconf := some { part := p, since := s.now, healthyFrom := s.now, withPrt := withPrt } }
      ∧ isLive t .upd uCONFIRM_PENDING = true ∧ t.dpx.held = s.dpx.held ∧ t.core = s.core ∧ t.vot = s.vot ∧ t.mzp = s.mzp ∧ t.now = s.now := by
  intro t
  obtain ⟨hcore, hvot⟩ := raise_unitless (s := { s with upd := { s.upd with
    unconf := some { part := p, since := s.now, healthyFrom := s.now, withPrt := withPrt } } }) (b := .upd) uCONFIRM_PENDING rfl
  have hlive : isLive t .upd uCONFIRM_PENDING = true := raise_isLive _ _ _ (by decide)
  have hframe : RaiseFrame { s with upd := { s.upd with
    unconf := some { part := p, since := s.now, healthyFrom := s.now, withPrt := withPrt } } } t := raise_frame _ _ _
  have hcore : t.core = s.core := hcore
  have hvot : t.vot = s.vot := hvot
  clear_value t
  refine ⟨?_, hlive, ?_, hcore, hvot, ?_, ?_⟩
  all_goals rw [hframe]

/-! ## The banks of a part that is switched (R375, R383, R384) -/

theorem switchPair_other {new old : BankSt} {p : BankPair} (h : (activeBank p).state = .confirmed ∨ (activeBank p).state = .unconfirmed) :
    otherBank (switchPair new old p) = { activeBank p with state := old } := by
  cases hb : p.onB with
  | true =>
    have h : p.b.state = .confirmed ∨ p.b.state = .unconfirmed := by simpa [activeBank, hb] using h
    simp [switchPair, setBank, otherBank, activeBank, hb, h]
  | false =>
    have h : p.a.state = .confirmed ∨ p.a.state = .unconfirmed := by simpa [activeBank, hb] using h
    simp [switchPair, setBank, otherBank, activeBank, hb, h]

/-- A part whose pairs have been switched, wherever else the state has changed. -/
theorem partSwitched_of_pairs {s t : State} {p : Part} {new old : BankSt}
    (h : ∀ n ∈ pairNums p, updPair t.upd n = switchPair new old (updPair s.upd n)) : PartSwitched s t p new old := by
  intro n hn
  rw [h n hn]
  exact ⟨switchPair_active new old _, switchPair_other⟩

theorem partSwitched_congr {s s' t : State} {p : Part} {new old : BankSt} (hupd : s'.upd = s.upd) (h : PartSwitched s' t p new old) :
    PartSwitched s t p new old := by
  unfold PartSwitched at *
  rwa [hupd] at h

theorem pairNums_disjoint {p q : Part} (h : p ≠ q) {n : Nat} (hp : n ∈ pairNums p) : n ∉ pairNums q := by
  cases p <;> cases q <;> simp_all [pairNums] <;> omega

/-- The parts of a list are switched one after the other. -/
def switchParts (s : State) (ps : List Part) (new old : BankSt) : State := ps.foldl (fun s q => switchPart s q new old) s

theorem switchParts_other {new old : BankSt} {ps : List Part} (s : State) {p : Part} (hp : p ∉ ps) {n : Nat} (hn : n ∈ pairNums p) :
    updPair (switchParts s ps new old).upd n = updPair s.upd n := by
  induction ps generalizing s with
  | nil => rfl
  | cons q ps ih =>
    rw [List.mem_cons, not_or] at hp
    obtain ⟨hq, hps⟩ := hp
    refine (ih (switchPart s q new old) hps).trans ?_
    rw [switchPart_pair s q new old (pairNums_lt hn), if_neg (pairNums_disjoint hq hn)]

theorem switchParts_pair {new old : BankSt} {ps : List Part} (hnodup : ps.Nodup) (s : State) {p : Part} (hp : p ∈ ps) {n : Nat}
    (hn : n ∈ pairNums p) : updPair (switchParts s ps new old).upd n = switchPair new old (updPair s.upd n) := by
  induction ps generalizing s with
  | nil => exact absurd hp List.not_mem_nil
  | cons q ps ih =>
    obtain ⟨hq, hps⟩ := List.nodup_cons.mp hnodup
    rcases List.mem_cons.mp hp with rfl | hin
    · refine (switchParts_other (switchPart s p new old) hq hn).trans ?_
      rw [switchPart_pair s p new old (pairNums_lt hn), if_pos hn]
    · refine (ih hps (switchPart s q new old) hin).trans ?_
      have hne : p ≠ q := by
        rintro rfl
        exact hq hin
      rw [switchPart_pair s q new old (pairNums_lt hn), if_neg (pairNums_disjoint hne hn)]

theorem switchParts_frame (s : State) (ps : List Part) (new old : BankSt) : SwitchFrame s (switchParts s ps new old) := by
  induction ps generalizing s with
  | nil => rfl
  | cons q ps ih => exact (switchPart_frame s q new old).trans (ih _)

/-! ## An activation in an idle module (R375, R381) -/

theorem loadIdle_eq (s : State) : loadIdle s =
    { s with mzp := (loadIdle s).mzp, prt := (loadIdle s).prt, frn0 := (loadIdle s).frn0, frn1 := (loadIdle s).frn1 } := by
  unfold loadIdle
  dsimp only
  split <;> repeat' split
  all_goals rfl

/-- The image of the active MZP bank is in use in an idle module. -/
theorem loadIdle_mzp {s : State} {st : Station} (h : bankStation? (activeBank s.upd.mzp) = some st) :
    (loadIdle s).mzp.map (·.imgId) = some st.imgId := by
  unfold loadIdle
  rw [h]
  dsimp only
  by_cases hsame : (s.mzp.map (·.imgId) == some st.imgId) = true
  · rw [if_pos hsame]
    split <;> exact eq_of_beq hsame
  · rw [if_neg hsame]
    split <;> rfl

/-- The idle routes of R375. -/
theorem routeOf_idle {s : State} {p : Part} {unit : Nat} {ps : List Part} (h : routeOf s p unit = .idle ps) :
    ps = [.lfw] ∨ ps = [.mzp] ∨ ps = [.mzp, .prt] := by
  unfold routeOf at h
  dsimp only at h
  repeat' split at h
  all_goals cases h
  all_goals simp

/-- What an idle module's activation leaves, before the lanes boot or the images are loaded. -/
def switchedIdle (a : State) (ps : List Part) : State := switchParts { a with dpx := { a.dpx with held := none } } ps .unconfirmed .previous

theorem activateIdle_eq (a : State) (ps : List Part) : activateIdle a ps =
    if ps.contains .lfw then openWindow (bootIdle (switchedIdle a ps)) .lfw false
    else openWindow (loadIdle (switchedIdle a ps)) .mzp (ps.contains .prt) := rfl

/-- What the clauses of the idle route say of the banks, the window, the wafer and the objects. -/
theorem idleWindow_shows {a w : State} {ps : List Part} (hnodup : ps.Nodup) {q : Part} {withPrt : Bool}
    (hupd : w.upd = (switchedIdle a ps).upd) (hheld : w.dpx = (switchedIdle a ps).dpx) (hcore : w.core = (switchedIdle a ps).core)
    (hnow : w.now = (switchedIdle a ps).now) : let t := openWindow w q withPrt
    (∀ p ∈ ps, PartSwitched a t p .unconfirmed .previous)
      ∧ (∃ x, t.upd.unconf = some x ∧ x.part = q ∧ x.since = a.now ∧ x.healthy = false)
      ∧ isLive t .upd uCONFIRM_PENDING = true ∧ t.dpx.held = none ∧ { t.core with lost := a.core.lost } = a.core := by
  intro t
  obtain ⟨htupd, hlive, htheld, htcore, -, -, -⟩ := openWindow_shows w q withPrt
  have hframe : SwitchFrame { a with dpx := { a.dpx with held := none } } (switchedIdle a ps) := switchParts_frame _ _ _ _
  have hcore' : t.core = a.core := by
    rw [htcore, hcore, hframe]
  have hnow' : w.now = a.now := by
    rw [hnow, hframe]
  refine ⟨fun p hp => partSwitched_of_pairs fun n hn => ?_, ⟨_, congrArg UpdBlk.unconf htupd, rfl, hnow', rfl⟩, hlive, ?_, ?_⟩
  · have hpair : updPair (switchedIdle a ps).upd n = switchPair .unconfirmed .previous (updPair a.upd n) := switchParts_pair hnodup _ hp hn
    rw [← hpair, ← hupd, htupd]
    have hlt := pairNums_lt hn
    interval_cases n
    all_goals rfl
  · rw [htheld, hheld, hframe]
  · rw [hcore']

/-! ## The rows of UPD_ACTIVATE (R375 to R379) -/

section
variable {v : State} {src : Src} {part unit delay : Nat} (hgate : gateOf v src 0xC4 = .pass)
include hgate

theorem updActivate_noPart (h : Part.ofCode? part = none) :
    rowUpdActivate src part unit delay v = updReply (hearFrom v src.entry) src 0xC4 .badLen [] := by
  rw [rowUpdActivate, gated_pass hgate, h]

variable {p : Part} (hpart : Part.ofCode? part = some p)
include hpart

/-- A refusal (R375 to R379, R385). -/
theorem updActivate_refused {st : Status} (h : activateRefusal v p unit delay = some st) : rowUpdActivate src part unit delay v =
    let s1 := if st = .settingsIncompatible then unreadable (hearFrom v src.entry) p else hearFrom v src.entry
    if st = .badLen then updReply s1 src 0xC4 st [] else updLaneReply s1 src 0xC4 st [] := by
  have hhere : activateRefusal (hearFrom v src.entry) p unit delay = some st := h
  rw [rowUpdActivate, gated_pass hgate, hpart]
  dsimp only
  rw [hhere]

/-- What is taken goes by its route. -/
theorem updActivate_taken (h : activateRefusal v p unit delay = none) : rowUpdActivate src part unit delay v =
    let u := hearFrom v src.entry
    let yes := fun (s : State) (body : Bytes) => laneAnswer s src 0xC4 .accepted body
    match routeOf v p unit with
    | .laneByLane l => yes { u with vot := setLane u.vot l fun b => { b with wantBoot := true } } []
    | .exchange => yes { u with upd := { u.upd with exchange := some { frame := u.core.counter + delay } }, vot := dropPreloads u.vot }
        (be 6 (u.core.counter + delay))
    | .restart ps => yes { u with upd := { u.upd with atRestart := ps } } []
    | .idle ps => activateIdle (yes u []) ps
    | .service => restartService (openWindow (switchPart (yes u []) .svc .unconfirmed .previous) .svc false)
    | .recovery => switchPart (yes u []) p .unconfirmed .previous
    | .none => u := by
  have hhere : activateRefusal (hearFrom v src.entry) p unit delay = none := h
  have hroute : routeOf (hearFrom v src.entry) p unit = routeOf v p unit := rfl
  rw [rowUpdActivate, gated_pass hgate, hpart]
  dsimp only
  rw [hhere, hroute]
  rfl

end

/-- A refusal leaves only its notes (R340, R385). -/
theorem refused_shows (u : State) (p : Part) (st : Status) :
    let x := noteRefusal (if st = .settingsIncompatible then unreadable u p else u) st
    RaiseFrame { u with upd := { u.upd with errAt := x.upd.errAt, incompat := x.upd.incompat } } x
      ∧ (¬ IsUpdError st → x = u) ∧ (IsUpdError st → isLive x .upd uTRANSFER_ERR = true)
      ∧ (st = .settingsIncompatible → isLive x .upd uSETTINGS_INCOMPATIBLE = true ∧ x.upd.incompat = some p) := by
  intro x
  let noted : State := { u with upd := { u.upd with incompat := if st = .settingsIncompatible then some p else u.upd.incompat } }
  have hfirst : RaiseFrame noted (if st = .settingsIncompatible then unreadable u p else u) := by
    by_cases h : st = .settingsIncompatible
    · simp only [noted, if_pos h]
      exact raise_frame _ _ _
    · simp only [noted, if_neg h]
      rfl
  obtain ⟨hplain, herror⟩ := noteRefusal_noted (if st = .settingsIncompatible then unreadable u p else u) st
  by_cases hst : IsUpdError st
  · obtain ⟨hlive, hframe⟩ := herror hst
    have hx : RaiseFrame _ x := hframe
    refine ⟨?_, fun h => absurd hst h, fun _ => hlive, fun h => ?_⟩
    · have hupd := raiseFrame_upd hx
      clear_value x
      generalize (if st = .settingsIncompatible then unreadable u p else u) = y at *
      have hy := raiseFrame_upd hfirst
      rw [hupd, hy]
      refine RaiseFrame.trans ?_ hx
      unfold RaiseFrame at *
      rw [hfirst]
    · have hupd := raiseFrame_upd hx
      refine ⟨?_, ?_⟩
      · have hbefore : isLive (unreadable u p) .upd uSETTINGS_INCOMPATIBLE = true := raise_isLive _ _ _ (by decide)
        refine noteRefusal_keeps_live ?_ st
        rwa [if_pos h]
      · rw [hupd]
        change (if st = .settingsIncompatible then unreadable u p else u).upd.incompat = some p
        rw [raiseFrame_upd hfirst]
        exact if_pos h
  · have hcalm : st ≠ .settingsIncompatible := by
      rintro rfl
      exact hst (by unfold IsUpdError; decide)
    have hx : x = u := (hplain hst).trans (if_neg hcalm)
    rw [hx]
    exact ⟨rfl, fun _ => rfl, fun h => absurd h hst, fun h => absurd h hcalm⟩

/-! ## LANE_BOOT, PRELOAD and EXCHANGE_ABANDON (R368, R377, R379, R384) -/

theorem exec_laneBoot {s : State} {l : Lane} {now : Nat} {ok : Bool} (h : (laneOf s.vot l).booting = true) : exec (.laneBoot l ok now) s = .next (
    if ok then { later s now with vot := setLane s.vot l fun b => { b with
      booting := false, booted := bankImgId (activeBank (updPair s.upd (lanePair l))), wantIn := !idleRole s } }
    else if onNewBank s l then laneBack (lfwFallback (later s now) true) l
    else raiseAt { later s now with vot := setLane s.vot l fun b => { b with booting := false, hwFault := true, why := .fault } }
      .vot vLANE_FAULT (some l)) := by
  have hnew : onNewBank (later s now) l = onNewBank s l := rfl
  have hboots : ¬ (!(laneOf (later s now).vot l).booting) = true := by
    change ¬ (!(laneOf s.vot l).booting) = true
    rw [h]
    decide
  change execLaneBoot l ok now s = _
  simp only [execLaneBoot, if_neg hboots, hnew]
  cases ok with
  | true => rfl
  | false =>
    cases hb : onNewBank s l with
    | true =>
      have hfails : laneFails (later s now) l = laneBack (lfwFallback (later s now) true) l := if_pos hb
      simp only [Bool.false_eq_true, if_false, if_true, hfails]
    | false => rfl

/-- The lanes that are to boot their former image, and the telling of the fallback (R384). -/
theorem lfwFallback_shows (s : State) (auto : Bool) : let t := lfwFallback s auto
    FallbackTold t auto ∧ RaiseFrame { s with vot := t.vot, upd := { s.upd with fbk := true, fbkAuto := auto } } t
      ∧ t.upd = { s.upd with fbk := true, fbkAuto := auto }
      ∧ t.vot = Lane.all.foldl (fun v l => if fallsBack s l then setLane v l fun b => { b with wantBoot := true } else v) s.vot := by
  intro t
  let told : State := { s with
    vot := Lane.all.foldl (fun v l => if fallsBack s l then setLane v l fun b => { b with wantBoot := true } else v) s.vot
    upd := { s.upd with fbk := true, fbkAuto := auto } }
  have hframe : RaiseFrame told t := raise_frame _ _ _
  have hlive : isLive t .upd uFALLBACK = true := raise_isLive _ _ _ (by decide)
  have hupd : t.upd = told.upd := raiseFrame_upd hframe
  have hvot : t.vot = told.vot := (raise_unitless (s := told) (b := .upd) uFALLBACK rfl).2
  refine ⟨⟨hlive, by rw [hupd]⟩, ?_, hupd, hvot⟩
  rw [hvot]
  exact hframe

theorem setUpdPair_same (u : UpdBlk) {n : Nat} (hn : n < 7) (f : BankPair → BankPair) : updPair (setUpdPair u n f) n = f (updPair u n) := by
  interval_cases n
  all_goals rfl

theorem setUpdPair_eq (u : UpdBlk) (n : Nat) (f : BankPair → BankPair) : setUpdPair u n f = pairsOf u (setUpdPair u n f) := by
  unfold setUpdPair
  split <;> rfl

theorem lanePair_lt (l : Lane) : lanePair l < 7 := by
  cases l <;> decide

/-- A lane that is switched to its other bank (R377, R384). -/
theorem laneSwitch_shows (s : State) (l : Lane) (new old : BankSt) : let t := laneSwitch s l new old
    updPair t.upd (lanePair l) = switchPair new old (updPair s.upd (lanePair l)) ∧ t.upd.fbkAuto = s.upd.fbkAuto
      ∧ (laneOf t.vot l).booting = true ∧ (laneOf t.vot l).wantBoot = false ∧ t.faults = s.faults
      ∧ RaiseFrame { s with upd := t.upd, vot := t.vot, free := s.free + 1 } t := by
  intro t
  let moved : State := { s with
    upd := setUpdPair s.upd (lanePair l) (switchPair new old)
    vot := setLane s.vot l fun b => { b with booting := true, why := .update, wantIn := false, wantBoot := false, tries := 0 } }
  have ht : t = bankRecord moved .lfw new (hdrImgId (activeBank (updPair moved.upd (lanePair l))).header) := rfl
  have hupd : t.upd = moved.upd := bankRecord_upd _ _ _ _
  have hvot : t.vot = moved.vot := by
    have hswitch := bankRecord_switchFrame moved .lfw new (hdrImgId (activeBank (updPair moved.upd (lanePair l))).header)
    rw [← ht] at hswitch
    rw [hswitch]
  have hframe : RaiseFrame { moved with free := moved.free + 1 } t := bankRecord_frame _ _ _ _
  have hfaults : t.faults = moved.faults := frameRec_faults _ _ _ _
  refine ⟨?_, ?_, ?_, ?_, hfaults, ?_⟩
  · rw [hupd]
    exact setUpdPair_same s.upd (lanePair_lt l) _
  · rw [hupd]
    change (setUpdPair s.upd (lanePair l) (switchPair new old)).fbkAuto = s.upd.fbkAuto
    rw [setUpdPair_eq]
    rfl
  · rw [hvot]
    cases l <;> rfl
  · rw [hvot]
    cases l <;> rfl
  · rw [hupd, hvot]
    exact hframe

/-- A lane that fails to boot its new image (R384). -/
theorem laneFails_shows {s : State} {l : Lane} (hnew : onNewBank s l = true) : let t := laneBack (lfwFallback s true) l
    FallbackTold t true ∧ activeBank (updPair t.upd (lanePair l)) = { otherBank (updPair s.upd (lanePair l)) with state := .confirmed }
      ∧ otherBank (updPair t.upd (lanePair l)) = { activeBank (updPair s.upd (lanePair l)) with state := .rejected }
      ∧ (laneOf t.vot l).booting = true ∧ (laneOf t.vot l).wantBoot = false
      ∧ RaiseFrame { s with vot := t.vot, upd := t.upd, free := s.free + 1 } t := by
  intro t
  obtain ⟨⟨hlive, hauto⟩, hframe, hupd, -⟩ := lfwFallback_shows s true
  have ht : t = laneSwitch (lfwFallback s true) l .confirmed .rejected := by
    have hback : t = laneSwitch (lfwFallback s true) l .confirmed (if (lfwFallback s true).upd.fbkAuto then .rejected else .previous) := rfl
    rw [hback, hauto]
    rfl
  have hpairs : updPair (lfwFallback s true).upd (lanePair l) = updPair s.upd (lanePair l) := by
    rw [hupd]
    cases l <;> rfl
  obtain ⟨hpair, hkept, hbooting, hwant, hfaults, hswitch⟩ := laneSwitch_shows (lfwFallback s true) l .confirmed .rejected
  rw [← ht] at hpair hkept hbooting hwant hfaults hswitch
  rw [hpairs] at hpair
  have hstate : (activeBank (updPair s.upd (lanePair l))).state = .unconfirmed := of_decide_eq_true hnew
  refine ⟨⟨?_, hkept.trans hauto⟩, ?_, ?_, hbooting, hwant, ?_⟩
  · rw [isLive_congr hfaults]
    exact hlive
  · rw [hpair, switchPair_active]
  · rw [hpair, switchPair_other (.inr hstate)]
  · clear_value t
    generalize lfwFallback s true = y at hframe hswitch
    refine RaiseFrame.trans ?_ hswitch
    unfold RaiseFrame at *
    rw [hframe]

/-- The inactive MZP bank after a preload that fails (R368). -/
def preloadBad (s : State) (l : Lane) : State :=
  setInactive { s with vot := setLane s.vot l fun b => { b with preloaded := false } } .mzp fun b => { b with state := .bad }

/-- The state after a preload that fails, with its record and its source. -/
def preloadFailed (s : State) (l : Lane) : State :=
  noteBanks (bankRecord (preloadBad s l) .mzp .bad (hdrImgId (otherBank (preloadBad s l).upd.mzp).header))

theorem preloadFailed_shows (s : State) (l : Lane) : let t := preloadFailed s l
    isLive t .upd uBANK_BAD = true ∧ t.upd.exchange = s.upd.exchange ∧ InactiveBecomes s t .mzp { otherBank s.upd.mzp with state := .bad }
      ∧ RaiseFrame { s with upd := t.upd, free := s.free + 1, vot := t.vot } t := by
  intro t
  have hbad : preloadBad s l = { s with
      vot := setLane s.vot l fun b => { b with preloaded := false }, upd := pairsOf s.upd (preloadBad s l).upd } := setPairs_eq _ _ _
  let recorded := bankRecord (preloadBad s l) .mzp .bad (hdrImgId (otherBank (preloadBad s l).upd.mzp).header)
  have hrecord : RaiseFrame { preloadBad s l with free := (preloadBad s l).free + 1 } recorded := bankRecord_frame _ _ _ _
  have hupd : recorded.upd = (preloadBad s l).upd := bankRecord_upd _ _ _ _
  have hframe : RaiseFrame recorded t := setLive_frame _ _ _ _
  have htupd : t.upd = (preloadBad s l).upd := (raiseFrame_upd hframe).trans hupd
  have hother : otherBank (preloadBad s l).upd.mzp = { otherBank s.upd.mzp with state := .bad } := setBank_other _ _
  have hany : (anyPair recorded.upd fun p => p.a.state = .bad || p.b.state = .bad) = true := by
    rw [hupd]
    refine List.any_eq_true.mpr ⟨4, by decide, ?_⟩
    change (decide ((preloadBad s l).upd.mzp.a.state = .bad) || decide ((preloadBad s l).upd.mzp.b.state = .bad)) = true
    have hstate : (otherBank (preloadBad s l).upd.mzp).state = .bad := by rw [hother]
    unfold otherBank at hstate
    split at hstate
    · simp [hstate]
    · simp [hstate]
  refine ⟨(setLive_isLive _ _ _ _ (by decide)).trans hany, ?_, ?_, ?_⟩
  · rw [htupd, hbad]
    rfl
  · refine inactiveBecomes_of (f := fun b => { b with state := .bad }) (fun n hn => ?_) fun n hn => ?_
    · cases List.mem_singleton.mp hn
      rfl
    · rw [htupd]
      exact setInactive_pairs (s := s) (fun _ _ => rfl) .mzp _ hn
  · refine RaiseFrame.trans ?_ (hrecord.trans hframe)
    rw [htupd]
    clear_value t recorded
    generalize preloadBad s l = x at hbad
    unfold RaiseFrame
    rw [hbad]

theorem exec_preload_fails {s : State} {l : Lane} (h : s.upd.exchange.isSome = true) : exec (.preload l false) s = .next (preloadFailed s l) := by
  have hsome : ¬ s.upd.exchange.isNone = true := by
    rw [Option.isNone_iff_eq_none]
    exact Option.isSome_iff_ne_none.mp h
  exact (if_neg hsome).trans (if_neg Bool.false_ne_true)

theorem exec_preload_passes {s : State} {l : Lane} (h : s.upd.exchange.isSome = true) :
    exec (.preload l true) s = .next { s with vot := setLane s.vot l fun b => { b with preloaded := true } } := by
  have hsome : ¬ s.upd.exchange.isNone = true := by
    rw [Option.isNone_iff_eq_none]
    exact Option.isSome_iff_ne_none.mp h
  exact (if_neg hsome).trans (if_pos rfl)

/-- The state with no exchange pending, before the record. -/
def exchangeDropped (v : State) : State := { v with upd := { v.upd with exchange := none, fbk := false }, vot := dropPreloads v.vot }

/-- An exchange that is abandoned (R379). -/
def abandoned (v : State) : State :=
  bankRecord (exchangeDropped v) .mzp (otherBank v.upd.mzp).state (hdrImgId (otherBank v.upd.mzp).header)

theorem exec_exchangeAbandon {s : State} {now d : Nat} {e : Exchange} (hex : s.upd.exchange = some e) (hdue : e.due = some d)
    (hlate : d + 3600000000 ≤ (later s now).now) : exec (.exchangeAbandon now) s = .next (abandoned (later s now)) := by
  have hbind : (later s now).upd.exchange.bind (·.due) = some d := by
    change s.upd.exchange.bind (·.due) = some d
    rw [hex]
    exact hdue
  change execExchangeAbandon now s = _
  unfold execExchangeAbandon
  dsimp only
  rw [hbind]
  exact if_neg (Nat.not_lt.mpr hlate)

theorem abandoned_shows (v : State) : let t := abandoned v
    t.upd = { v.upd with exchange := none, fbk := false } ∧ (∀ l, (laneOf t.vot l).preloaded = false) ∧ t.mzp = v.mzp
      ∧ RaiseFrame { v with upd := t.upd, free := v.free + 1, vot := t.vot } t := by
  intro t
  have hswitch : SwitchFrame (exchangeDropped v) t := bankRecord_switchFrame _ _ _ _
  have hupd : t.upd = (exchangeDropped v).upd := bankRecord_upd _ _ _ _
  have hframe : RaiseFrame { exchangeDropped v with free := (exchangeDropped v).free + 1 } t := bankRecord_frame _ _ _ _
  have hvot : t.vot = (exchangeDropped v).vot := by rw [hswitch]
  have hmzp : t.mzp = (exchangeDropped v).mzp := by rw [hswitch]
  refine ⟨hupd, fun l => ?_, hmzp, ?_⟩
  · rw [hvot]
    cases l <;> rfl
  · rw [hupd, hvot]
    exact hframe

/-! ## The routes -/

/-- The state without a session and with debug level D0. -/
def serviceGone (w : State) : State :=
  { w with sec := { w.sec with session := none, chal := none, dbg := .d0, dlane := none, wantDbg := none }, vot := (releaseHalts w).vot }

theorem restartService_eq (w : State) : restartService w =
    { lower (serviceGone w) .sec eDEBUG_OPEN with upd := { w.upd with svcAt := some w.now } } := by
  unfold restartService
  rw [setDebug_d0]
  rfl

/-- The service processor restarts (R375): its session is gone, the debug level D0. -/
theorem restartService_shows (w : State) : let t := restartService w
    t.upd = { w.upd with svcAt := some w.now } ∧ (∀ n, isLive t .upd n = isLive w .upd n) ∧ t.sec.session = none ∧ t.sec.dbg = .d0 := by
  intro t
  have ht : t = _ := restartService_eq w
  rw [ht]
  refine ⟨rfl, fun n => ?_, rfl, rfl⟩
  have hlower : isLive (lower (serviceGone w) .sec eDEBUG_OPEN) .upd n = isLive (serviceGone w) .upd n :=
    lower_isLive_other (serviceGone w) eDEBUG_OPEN n (by decide)
  have hgone : (serviceGone w).faults = w.faults := rfl
  rw [isLive_congr hgone] at hlower
  generalize lower (serviceGone w) .sec eDEBUG_OPEN = y at hlower
  exact hlower

/-- The service processor restarts with a window that opens (R375, R382). -/
theorem serviceRestart_shows (b : State) : let t := restartService (openWindow b .svc false)
    t.upd = { b.upd with unconf := some { part := .svc, since := b.now, healthyFrom := b.now, withPrt := false }, svcAt := some b.now }
      ∧ isLive t .upd uCONFIRM_PENDING = true ∧ t.sec.session = none ∧ t.sec.dbg = .d0 := by
  intro t
  obtain ⟨hupd, hlive, -, -, -, -, hnow⟩ := openWindow_shows b .svc false
  obtain ⟨htupd, hsame, hsession, hdbg⟩ := restartService_shows (openWindow b .svc false)
  refine ⟨?_, (hsame _).trans hlive, hsession, hdbg⟩
  rw [htupd, hupd, hnow]

theorem serviceRoute_shows (a : State) : let t := restartService (openWindow (switchPart a .svc .unconfirmed .previous) .svc false)
    PartSwitched a t .svc .unconfirmed .previous ∧ (∃ w, t.upd.unconf = some w ∧ w.part = .svc ∧ w.since = a.now)
      ∧ isLive t .upd uCONFIRM_PENDING = true ∧ t.upd.svcAt = some a.now ∧ t.sec.session = none ∧ t.sec.dbg = .d0 := by
  intro t
  have hswitch := switchPart_frame a .svc .unconfirmed .previous
  have hpair := switchPart_pair a .svc .unconfirmed .previous (n := 5) (by decide)
  obtain ⟨hupd, hlive, hsession, hdbg⟩ := serviceRestart_shows (switchPart a .svc .unconfirmed .previous)
  have hnow : (switchPart a .svc .unconfirmed .previous).now = a.now := by rw [hswitch]
  rw [hnow] at hupd
  refine ⟨partSwitched_of_pairs fun n hn => ?_, ⟨_, congrArg UpdBlk.unconf hupd, rfl, rfl⟩, hlive, congrArg UpdBlk.svcAt hupd, hsession, hdbg⟩
  cases List.mem_singleton.mp hn
  exact (congrArg UpdBlk.svc hupd).trans hpair

theorem idleRoute_lanes {a : State} {ps : List Part} (h : .lfw ∈ ps) (l : Lane) : (laneOf (activateIdle a ps).vot l).booting = true := by
  have heq : activateIdle a ps = openWindow (bootIdle (switchedIdle a ps)) .lfw false := by
    rw [activateIdle_eq]
    exact if_pos (List.contains_iff_mem.mpr h)
  obtain ⟨-, -, -, -, hvot, -, -⟩ := openWindow_shows (bootIdle (switchedIdle a ps)) .lfw false
  rw [heq, hvot]
  cases l <;> rfl

theorem idleRoute_mzp {a : State} {ps : List Part} (hnodup : ps.Nodup) (hlfw : .lfw ∉ ps) (hmzp : .mzp ∈ ps) {st : Station}
    (hst : bankStation? (otherBank a.upd.mzp) = some st) : (activateIdle a ps).mzp.map (·.imgId) = some st.imgId := by
  have heq : activateIdle a ps = openWindow (loadIdle (switchedIdle a ps)) .mzp (ps.contains .prt) := by
    rw [activateIdle_eq]
    exact if_neg (mt List.contains_iff_mem.mp hlfw)
  obtain ⟨-, -, -, -, -, hloaded, -⟩ := openWindow_shows (loadIdle (switchedIdle a ps)) .mzp (ps.contains .prt)
  have hpair : (switchedIdle a ps).upd.mzp = switchPair .unconfirmed .previous a.upd.mzp :=
    switchParts_pair hnodup { a with dpx := { a.dpx with held := none } } hmzp (n := 4) (by decide)
  have hbank : bankStation? (activeBank (switchedIdle a ps).upd.mzp) = some st := by
    rw [hpair, switchPair_active]
    exact hst
  rw [heq, hloaded, loadIdle_mzp hbank]

/-- What the idle route leaves, whichever of its parts it changes (R375, R381). -/
theorem idleRoute_shows {a : State} {ps : List Part} (hnodup : ps.Nodup) : let t := activateIdle a ps
    (∀ q ∈ ps, PartSwitched a t q .unconfirmed .previous)
      ∧ (∃ w, t.upd.unconf = some w ∧ w.part = (if .lfw ∈ ps then .lfw else .mzp) ∧ w.since = a.now ∧ w.healthy = false)
      ∧ isLive t .upd uCONFIRM_PENDING = true ∧ t.dpx.held = none ∧ { t.core with lost := a.core.lost } = a.core := by
  intro t
  by_cases h : .lfw ∈ ps
  · have heq : t = openWindow (bootIdle (switchedIdle a ps)) .lfw false := if_pos (List.contains_iff_mem.mpr h)
    rw [heq, if_pos h]
    exact idleWindow_shows hnodup rfl rfl rfl rfl
  · have heq : t = openWindow (loadIdle (switchedIdle a ps)) .mzp (ps.contains .prt) := if_neg (mt List.contains_iff_mem.mp h)
    have hload := loadIdle_eq (switchedIdle a ps)
    rw [heq, if_neg h]
    refine idleWindow_shows hnodup ?_ ?_ ?_ ?_
    all_goals rw [hload]

/-- Settles O45: the refusals and the routes of UPD_ACTIVATE by its row, then the three commands of a lane and of an exchange. -/
theorem activationTakesTheRouteOfItsPart : Obligations.ActivationTakesTheRouteOfItsPart := by
  intro s now v
  refine ⟨fun src part unit delay hgate => ⟨fun hpart => svcReply_of_updReply rfl (updActivate_noPart hgate hpart) not_isUpdError_badLen,
      fun p hpart => ⟨fun hbad => ?_, fun st hst hlen => ?_, fun htaken => ?_⟩⟩,
    fun l hbooting => ⟨exec_laneBoot hbooting, fun hold => ?_, fun hnew => ?_⟩,
    fun l hex => ⟨exec_preload_passes hex, _, exec_preload_fails hex, preloadFailed_shows s l⟩,
    fun e d hex hdue hlate => ⟨_, exec_exchangeAbandon hex hdue hlate, abandoned_shows v⟩⟩
  · have hrow := updActivate_refused hgate hpart hbad
    exact svcReply_of_updReply rfl hrow not_isUpdError_badLen
  · have hrow := updActivate_refused hgate hpart hst
    obtain ⟨hframe, hplain, herror, hread⟩ := refused_shows (hearFrom v src.entry) p st
    dsimp only at hrow
    rw [if_neg hlen] at hrow
    exact ⟨_, _, congrArg Host.Outcome.next hrow, laneAnswer_answered _ _ _ _ _, hframe, hplain, herror, hread⟩
  · have hrow := updActivate_taken hgate hpart htaken
    let u := hearFrom v src.entry
    let a := laneAnswer u src 0xC4 .accepted []
    have hanswer : AnswerFrame u a := laneAnswer_frame _ _ _ _ _
    have hupd : a.upd = s.upd := by
      rw [hanswer]
      rfl
    have hnow : a.now = v.now := by
      rw [hanswer]
      rfl
    have hcore : a.core = s.core := by
      rw [hanswer]
      rfl
    refine ⟨fun l hroute => ?_, fun hroute => ?_, fun ps hroute => ?_, fun ps hroute => ?_, fun hroute => ?_, fun hroute => ?_⟩
    all_goals rw [hroute] at hrow
    · exact ⟨_, congrArg Host.Outcome.next hrow, laneAnswer_answered _ _ _ _ _⟩
    · exact ⟨_, congrArg Host.Outcome.next hrow, laneAnswer_answered _ _ _ _ _⟩
    · exact ⟨_, congrArg Host.Outcome.next hrow, laneAnswer_answered _ _ _ _ _⟩
    · have hnodup : ps.Nodup := by
        obtain h | h | h := routeOf_idle hroute
        all_goals
          rw [h]
          decide
      obtain ⟨hswitched, hwindow, hlive, hheld, hstands⟩ := idleRoute_shows (a := a) hnodup
      rw [hnow] at hwindow
      rw [hcore] at hstands
      exact ⟨_, congrArg Host.Outcome.next hrow, fun q hq => partSwitched_congr hupd (hswitched q hq), hwindow, hlive, hheld, hstands,
        idleRoute_lanes, fun hlfw st hst hmzp => idleRoute_mzp hnodup hlfw hmzp (by rw [hupd]; exact hst)⟩
    · obtain ⟨hswitched, hwindow, hlive, hat, hsession, hdbg⟩ := serviceRoute_shows a
      rw [hnow] at hwindow hat
      exact ⟨_, congrArg Host.Outcome.next hrow, partSwitched_congr hupd hswitched, hwindow, hlive, hat, hsession, hdbg⟩
    · refine ⟨_, congrArg Host.Outcome.next hrow, partSwitched_congr hupd (partSwitched_of_pairs fun n hn => ?_)⟩
      rw [switchPart_pair a p _ _ (pairNums_lt hn), if_pos hn]
  · have hexec := exec_laneBoot (ok := false) (now := now) hbooting
    rw [if_neg Bool.false_ne_true, if_neg (Bool.eq_false_iff.mp hold)] at hexec
    exact ⟨_, hexec, raiseAt_isLive _ _ _ _ (by decide), raiseAt_frame _ _ _ _⟩
  · have hexec := exec_laneBoot (ok := false) (now := now) hbooting
    rw [if_neg Bool.false_ne_true, if_pos hnew] at hexec
    exact ⟨_, hexec, laneFails_shows (s := v) hnew⟩

end Sys2Proof.Proofs.Activate

/-! PROOFS. Confirmation and fallback (R375, R382 to R386, R389): HEALTHY, UPD_CONFIRM, CONFIRM_WINDOW_EXPIRY, UPD_FALLBACK
and SVC_RESTART_END. -/

namespace Sys2Proof.Proofs.Fallback

open Sys2Proof Sys2Proof.Machine Sys2Proof.Safety Sys2Proof.Proofs.Banks Sys2Proof.Proofs.Activate
open Sys2Proof.Proofs.LaneCommands (gated_pass laneAnswer_answered answerNow_answers)
open Sys2Proof.Proofs.Frames (raise_keeps_live isLive_congr RecordFrame)
open Sys2Proof.Proofs.Verify (switchPart_pair switchPair_active)

/-! ## Health and confirmation (R382, R383) -/

theorem exec_healthy {s : State} {now : Nat} {w : Unconf} (hw : s.upd.unconf = some w) (hholds : healthHolds s w = true)
    (hlong : w.healthyFrom + 60000000 * fieldOf s.cfg.updCtl 8 8 ≤ (later s now).now) : exec (.healthy now) s = .next {
      later s now with upd := { s.upd with unconf := some { w with healthy := true } } } := by
  have hw' : (later s now).upd.unconf = some w := hw
  have hgood : (healthHolds (later s now) w && decide (w.healthyFrom + 60000000 * fieldOf (later s now).cfg.updCtl 8 8 ≤ (later s now).now))
      = true := Bool.and_eq_true_iff.mpr ⟨hholds, decide_eq_true hlong⟩
  change execHealthy now s = _
  simp only [execHealthy, hw', if_pos hgood]
  rfl

/-- The part is the UNCONFIRMED one, or the PRT that came with it, and its image is healthy. -/
def Confirmable (s : State) (p : Part) : Prop :=
  ∃ w, s.upd.unconf = some w ∧ (w.part = p ∨ (w.withPrt = true ∧ p = .prt)) ∧ w.healthy = true

theorem confirmable_iff (s : State) (p : Part) :
    (isUnconf s p && (s.upd.unconf.map (·.healthy)).getD false) = true ↔ Confirmable s p := by
  cases h : s.upd.unconf with
  | none => simp [isUnconf, Confirmable, h]
  | some w => simp [isUnconf, Confirmable, h]

theorem ofCode?_code (p : Part) : Part.ofCode? p.code = some p := by
  cases p <;> rfl

section
variable {s : State} {src : Src} {p : Part} (hgate : gateOf s src 0xC5 = .pass)
include hgate

theorem updConfirm_refused (h : ¬ Confirmable s p) :
    rowUpdConfirm src p.code s = laneAnswer (hearFrom s src.entry) src 0xC5 .badState [] := by
  rw [rowUpdConfirm, gated_pass hgate, ofCode?_code]
  exact if_neg (mt (confirmable_iff (hearFrom s src.entry) p).mp h)

theorem updConfirm_done (h : Confirmable s p) :
    rowUpdConfirm src p.code s = laneAnswer (confirmPart (hearFrom s src.entry)) src 0xC5 .done [] := by
  rw [rowUpdConfirm, gated_pass hgate, ofCode?_code]
  exact if_pos ((confirmable_iff (hearFrom s src.entry) p).mpr h)

end

/-- The bank in use becomes CONFIRMED. -/
def confirmPair (p : BankPair) : BankPair := setBank p p.onB fun b => { b with state := .confirmed }

theorem confirmPair_active (p : BankPair) : (activeBank (confirmPair p)).state = .confirmed := by
  cases h : p.onB <;> simp [confirmPair, setBank, activeBank, h]

/-- The banks that a confirmation confirms. -/
def confirmedBanks (s : State) (w : Unconf) : State :=
  let t := setPairs s w.part confirmPair
  if w.withPrt then setPairs t .prt confirmPair else t

theorem confirmedBanks_eq (s : State) (w : Unconf) : confirmedBanks s w = { s with upd := pairsOf s.upd (confirmedBanks s w).upd } := by
  unfold confirmedBanks
  dsimp only
  split
  · rw [setPairs_eq, setPairs_eq]
    rfl
  · exact setPairs_eq _ _ _

theorem confirmedBanks_active (s : State) {w : Unconf} {p : Part} (hp : w.part = p ∨ (w.withPrt = true ∧ p = .prt)) {n : Nat}
    (hn : n ∈ pairNums p) : (activeBank (updPair (confirmedBanks s w).upd n)).state = .confirmed := by
  have hlt := pairNums_lt hn
  unfold confirmedBanks
  dsimp only
  obtain rfl | ⟨hprt, rfl⟩ := hp
  · have hset : (activeBank (updPair (setPairs s w.part confirmPair).upd n)).state = .confirmed := by
      rw [setPairs_pair s _ _ hlt, if_pos hn]
      exact confirmPair_active _
    split
    · rw [setPairs_pair _ _ _ hlt]
      split
      · exact confirmPair_active _
      · exact hset
    · exact hset
  · rw [if_pos hprt, setPairs_pair _ _ _ hlt, if_pos hn]
    exact confirmPair_active _

/-- The settings in the format of the new firmware (R385): only the copies change. -/
theorem rewriteSettings_eq (s : State) (fmt : Nat) : rewriteSettings s fmt = { s with upd := (rewriteSettings s fmt).upd } := by
  unfold rewriteSettings
  split <;> rfl

/-- What a confirmation leaves (R383, R385). -/
theorem confirmPart_shows {u : State} {w : Unconf} (hw : u.upd.unconf = some w) : let x := confirmPart u
    x.upd.unconf = none ∧ isLive x .upd uCONFIRM_PENDING = false
      ∧ (∀ p, w.part = p ∨ (w.withPrt = true ∧ p = .prt) → ∀ n ∈ pairNums p, (activeBank (updPair x.upd n)).state = .confirmed)
      ∧ RaiseFrame { u with upd := x.upd, free := u.free + 1 } x := by
  intro x
  obtain ⟨y, img, hy, hx⟩ : ∃ y img, y = { u with upd := y.upd }
      ∧ x = closeWindow (bankRecord (confirmedBanks y w) w.part .confirmed img) := by
    let h := (activeBank (updPair u.upd (((pairNums w.part).head?).getD 0))).header
    refine ⟨if w.part = .lfw ∨ w.part = .svc then rewriteSettings u (hdrSetFmt h) else u, hdrImgId h, ?_, ?_⟩
    · split
      · exact rewriteSettings_eq _ _
      · rfl
    · simp only [x, confirmPart, hw]
      rfl
  let r := bankRecord (confirmedBanks y w) w.part .confirmed img
  have hrupd : r.upd = (confirmedBanks y w).upd := bankRecord_upd _ _ _ _
  have hupd : x.upd = { (confirmedBanks y w).upd with unconf := none } := by
    rw [hx, ← hrupd]
    rfl
  refine ⟨by rw [hupd], by rw [hx]; exact lower_isLive _ _ _ (by decide), fun p hp n hn => ?_, ?_⟩
  · have hactive := confirmedBanks_active y hp hn
    have hlt := pairNums_lt hn
    rw [hupd]
    interval_cases n
    all_goals exact hactive
  · have hframe : RaiseFrame { confirmedBanks y w with free := (confirmedBanks y w).free + 1 } r := bankRecord_frame _ _ _ _
    have hclosed : RaiseFrame { r with upd := { r.upd with unconf := none } } x := by
      rw [hx]
      exact lower_frame _ _ _
    have hbanks := confirmedBanks_eq y w
    rw [hupd]
    clear_value r x
    generalize confirmedBanks y w = z at hframe hbanks
    refine RaiseFrame.trans ?_ hclosed
    unfold RaiseFrame at *
    rw [hframe, hbanks, hy]

/-! ## A fallback (R378, R384) -/

/-- The telling of a fallback changes the banks, the objects and the lanes as little as it changes the rest. -/
theorem tellFallback_shows (s : State) (auto : Bool) : let t := tellFallback s auto
    FallbackTold t auto ∧ t.upd = { s.upd with fbkAuto := auto } ∧ t.vot = s.vot ∧ t.now = s.now
      ∧ (∀ n, isLive s .upd n = true → isLive t .upd n = true) := by
  intro t
  have hframe : RaiseFrame { s with upd := { s.upd with fbkAuto := auto } } t := raise_frame _ _ _
  have hupd : t.upd = { s.upd with fbkAuto := auto } := raiseFrame_upd hframe
  have hlive : isLive t .upd uFALLBACK = true := raise_isLive _ _ _ (by decide)
  have hvot : t.vot = s.vot := (raise_unitless (s := { s with upd := { s.upd with fbkAuto := auto } }) (b := .upd) uFALLBACK rfl).2
  have hkeeps : ∀ n, isLive s .upd n = true → isLive t .upd n = true := fun n h =>
    raise_keeps_live (s := { s with upd := { s.upd with fbkAuto := auto } }) h
  clear_value t
  refine ⟨⟨hlive, by rw [hupd]⟩, hupd, hvot, ?_, hkeeps⟩
  rw [hframe]

/-- The state of a bank that a fallback leaves (R384). -/
def leftBy (auto : Bool) : BankSt := if auto then .rejected else .previous

/-- The service processor before it restarts on its former bank. -/
def svcBack (a : State) (auto : Bool) : State :=
  let s1 := switchPart a .svc .confirmed (leftBy auto)
  tellFallback (closeWindow { s1 with upd := { s1.upd with fbk := true } }) auto

/-- A switch of a part changes its banks only. -/
theorem switchPart_upd (s : State) (p : Part) (new old : BankSt) :
    (switchPart s p new old).upd = pairsOf s.upd (switchPart s p new old).upd := by
  rw [switchPart, bankRecord_upd, setPairs_eq]
  rfl

theorem fallBack_svc (env : StartEnv) (a : State) (auto : Bool) : fallBack env a .svc auto = restartService (svcBack a auto) := rfl

theorem closeWindow_keeps_live {s : State} {n : Nat} (hn : n < 16) (hne : n ≠ uCONFIRM_PENDING) (h : isLive s .upd n = true) :
    isLive (closeWindow s) .upd n = true :=
  (Sys2Proof.Proofs.BarrierUp.lower_isLive_other_source { s with upd := { s.upd with unconf := none } } .upd hn hne).trans h

/-- What a fallback of the service processor leaves. -/
theorem svcBack_shows (a : State) (auto : Bool) : let t := restartService (svcBack a auto)
    FallbackTold t auto ∧ PartSwitched a t .svc .confirmed (leftBy auto) ∧ t.upd.svcAt = some a.now ∧ t.upd.unconf = none
      ∧ t.upd.incompat = a.upd.incompat ∧ (isLive a .upd uSETTINGS_INCOMPATIBLE = true → isLive t .upd uSETTINGS_INCOMPATIBLE = true) := by
  intro t
  have hswitch := switchPart_frame a .svc .confirmed (leftBy auto)
  have hpair := switchPart_pair a .svc .confirmed (leftBy auto) (n := 5) (by decide)
  have hupd := switchPart_upd a .svc .confirmed (leftBy auto)
  have hrestart := restartService_shows (svcBack a auto)
  have hd : svcBack a auto = tellFallback (closeWindow { switchPart a .svc .confirmed (leftBy auto) with
    upd := { (switchPart a .svc .confirmed (leftBy auto)).upd with fbk := true } }) auto := rfl
  rw [hd] at hrestart
  have ht : t = restartService (tellFallback (closeWindow { switchPart a .svc .confirmed (leftBy auto) with
    upd := { (switchPart a .svc .confirmed (leftBy auto)).upd with fbk := true } }) auto) := rfl
  rw [ht]
  clear_value t
  generalize switchPart a .svc .confirmed (leftBy auto) = b at *
  obtain ⟨⟨hlive, hauto⟩, hdupd, -, hnow, hkeeps⟩ := tellFallback_shows (closeWindow { b with upd := { b.upd with fbk := true } }) auto
  have hclosed : ∀ n, n < 16 → n ≠ uCONFIRM_PENDING → isLive a .upd n = true →
      isLive (closeWindow { b with upd := { b.upd with fbk := true } }) .upd n = true := by
    intro n hn hne h
    refine closeWindow_keeps_live (s := { b with upd := { b.upd with fbk := true } }) hn hne ?_
    have hfaults : b.faults = a.faults := by rw [hswitch]
    exact (isLive_congr (t := { b with upd := { b.upd with fbk := true } }) hfaults .upd n).trans h
  have hcnow : (closeWindow { b with upd := { b.upd with fbk := true } }).now = a.now := by
    change b.now = a.now
    rw [hswitch]
  have hcupd : (closeWindow { b with upd := { b.upd with fbk := true } }).upd = { b.upd with fbk := true, unconf := none } := rfl
  rw [hcnow] at hnow
  rw [hcupd] at hdupd
  generalize tellFallback (closeWindow { b with upd := { b.upd with fbk := true } }) auto = d at *
  obtain ⟨htupd, hsame, -, -⟩ := hrestart
  rw [hnow, hdupd] at htupd
  refine ⟨⟨(hsame _).trans hlive, by rw [htupd]⟩, partSwitched_of_pairs fun n hn => ?_, by rw [htupd], by rw [htupd], ?_, fun h => ?_⟩
  · cases List.mem_singleton.mp hn
    rw [htupd]
    exact hpair
  · rw [htupd, hupd]
    rfl
  · exact (hsame _).trans (hkeeps _ (hclosed _ (by decide) (by decide) h))

/-- The exchange that brings an MZP back on line (R379, R384). -/
def mzpBack (a : State) (auto : Bool) : State :=
  tellFallback { a with upd := { a.upd with fbk := true, exchange := some { frame := a.core.counter + 50, back := true, reject := auto } }
                        vot := dropPreloads a.vot } auto

theorem fallBack_mzp (env : StartEnv) {a : State} (auto : Bool) (hruns : idleRole a = false)
    (hsame : sameMzpid a (otherBank a.upd.mzp).header = true) : fallBack env a .mzp auto = mzpBack a auto := by
  have hparts : fallbackParts a .mzp = [.mzp] := if_neg (by simp [hsame])
  simp [fallBack, hparts, hruns, mzpBack]

theorem fallBack_lanes (env : StartEnv) {a : State} (auto : Bool) (hruns : idleRole a = false)
    (hepoch : hdrEpoch (otherBank a.upd.lfw1).header = lfwEpoch a) : fallBack env a .lfw auto = lfwFallback a auto := by
  have hparts : fallbackParts a .lfw = [.lfw] := if_neg (by simp)
  simp [fallBack, hparts, hruns, hepoch]

/-- An idle module's lanes boot their former image (R384). -/
def lanesBack (a : State) (auto : Bool) : State :=
  let s1 := switchPart a .lfw .confirmed (leftBy auto)
  let s2 := bootIdle s1
  tellFallback (closeWindow { s2 with dpx := { s2.dpx with held := none } }) auto

theorem fallBack_idleLanes (env : StartEnv) {a : State} (auto : Bool) (hidle : idleRole a = true) :
    fallBack env a .lfw auto = lanesBack a auto := by
  have hparts : fallbackParts a .lfw = [.lfw] := if_neg (by simp)
  simp [fallBack, hparts, hidle, fallBackIdle, lanesBack, leftState, leftBy]

theorem lanesBack_shows (a : State) (auto : Bool) : let t := lanesBack a auto
    FallbackTold t auto ∧ PartSwitched a t .lfw .confirmed (leftBy auto) ∧ ∀ l, (laneOf t.vot l).booting = true := by
  intro t
  have hpair : ∀ n ∈ pairNums .lfw, updPair (switchPart a .lfw .confirmed (leftBy auto)).upd n
      = switchPair .confirmed (leftBy auto) (updPair a.upd n) := fun n hn => by
    rw [switchPart_pair a .lfw _ _ (pairNums_lt hn), if_pos hn]
  let s2 := bootIdle (switchPart a .lfw .confirmed (leftBy auto))
  obtain ⟨htold, hupd, hvot, -, -⟩ := tellFallback_shows (closeWindow { s2 with dpx := { s2.dpx with held := none } }) auto
  have ht : t = tellFallback (closeWindow { s2 with dpx := { s2.dpx with held := none } }) auto := rfl
  have hbanks : (closeWindow { s2 with dpx := { s2.dpx with held := none } }).upd
      = { (switchPart a .lfw .confirmed (leftBy auto)).upd with unconf := none } := rfl
  have hlanes : ∀ l, (laneOf (closeWindow { s2 with dpx := { s2.dpx with held := none } }).vot l).booting = true := fun l => by
    cases l <;> rfl
  rw [← ht] at htold hupd hvot
  rw [hbanks] at hupd
  refine ⟨htold, partSwitched_of_pairs fun n hn => ?_, fun l => by rw [hvot]; exact hlanes l⟩
  rw [← hpair n hn, hupd]
  have hlt := pairNums_lt hn
  interval_cases n
  all_goals rfl

/-- The lanes on a new bank are asked to boot (R384). -/
theorem foldl_wantBoot (s : State) {l : Lane} (h : fallsBack s l = true) :
    (laneOf (Lane.all.foldl (fun v l => if fallsBack s l then setLane v l fun b => { b with wantBoot := true } else v) s.vot) l).wantBoot
      = true := by
  cases l <;> simp only [Lane.all, List.foldl_cons, List.foldl_nil, h, if_true]
  · repeat' split
    all_goals rfl
  · repeat' split
    all_goals rfl
  · rfl

/-- The routes of R384 that the statements speak of. -/
def BackByRoute (s : State) (p : Part) : Prop :=
  p = .svc ∨ (p = .mzp ∧ idleRole s = false ∧ sameMzpid s (otherBank s.upd.mzp).header = true)
    ∨ (p = .lfw ∧ (idleRole s = true ∨ hdrEpoch (otherBank s.upd.lfw1).header = lfwEpoch s))

/-- A fallback goes by the route of its part (R384). -/
theorem fallBack_fallsBack (env : StartEnv) (a : State) {p : Part} (auto : Bool) (h : BackByRoute a p) :
    FallsBack a (fallBack env a p auto) p auto := by
  obtain rfl | ⟨rfl, hruns, hsame⟩ | ⟨rfl, hlanes⟩ := h
  · rw [fallBack_svc]
    obtain ⟨htold, hswitched, hat, hnone, -, -⟩ := svcBack_shows a auto
    exact ⟨htold, fun _ => ⟨hswitched, hat, hnone⟩, (fun h => nomatch h), (fun h => nomatch h), (fun h => nomatch h)⟩
  · rw [fallBack_mzp env auto hruns hsame]
    obtain ⟨htold, hupd, -, -, -⟩ := tellFallback_shows { a with
      upd := { a.upd with fbk := true, exchange := some { frame := a.core.counter + 50, back := true, reject := auto } }
      vot := dropPreloads a.vot } auto
    exact ⟨htold, (fun h => nomatch h), fun _ _ _ => ⟨congrArg UpdBlk.exchange hupd, congrArg UpdBlk.fbk hupd⟩, (fun h => nomatch h),
      fun h => nomatch h⟩
  · cases hidle : idleRole a with
    | true =>
      rw [fallBack_idleLanes env auto hidle]
      obtain ⟨htold, hswitched, hbooting⟩ := lanesBack_shows a auto
      exact ⟨htold, (fun h => nomatch h), (fun h => nomatch h), fun _ h => (by rw [hidle] at h; cases h),
        fun _ _ => ⟨hswitched, hbooting⟩⟩
    | false =>
      have hepoch : hdrEpoch (otherBank a.upd.lfw1).header = lfwEpoch a := hlanes.resolve_left (by rw [hidle]; decide)
      rw [fallBack_lanes env auto hidle hepoch]
      obtain ⟨htold, -, hupd, hvot⟩ := lfwFallback_shows a auto
      refine ⟨htold, (fun h => nomatch h), (fun h => nomatch h), fun _ _ _ => ⟨by rw [hupd], fun l hnew => ?_⟩,
        fun _ h => (by rw [hidle] at h; cases h)⟩
      rw [hvot]
      exact foldl_wantBoot a (Bool.or_eq_true_iff.mpr (.inl hnew))

/-! ## CONFIRM_WINDOW_EXPIRY and UPD_FALLBACK (R382, R384) -/

theorem exists_previous_iff (s : State) (p : Part) :
    ((pairNums p).all fun n => decide ((otherBank (updPair s.upd n)).state ≠ .previous)) = true
      ↔ ¬ ∃ n ∈ pairNums p, (otherBank (updPair s.upd n)).state = .previous := by
  simp [List.all_eq_true]

theorem exec_confirmWindowExpiry {s : State} {now : Nat} {w : Unconf} (env : StartEnv) (hw : s.upd.unconf = some w) :
    exec (.confirmWindowExpiry env now) s = .next (
      if (later s now).now < w.since + 60000000 * fieldOf s.cfg.updCtl 16 8
          ∨ (s.dpx.handDue || s.dpx.wanted || s.dpx.commanded) = true ∨ partInProgress s = true
          ∨ ¬ ∃ n ∈ pairNums w.part, (otherBank (updPair s.upd n)).state = .previous then later s now
      else fallBack env (later s now) w.part true) := by
  have hw' : (later s now).upd.unconf = some w := hw
  change execConfirmWindowExpiry env now s = _
  simp only [execConfirmWindowExpiry, hw', exists_previous_iff]
  have hprogress : partInProgress (later s now) = partInProgress s := rfl
  rw [hprogress]
  split
  next h => exact congrArg Host.Outcome.next (if_pos h).symm
  next h => exact congrArg Host.Outcome.next (if_neg h).symm

theorem restartService_sent (w : State) : (restartService w).sent = w.sent := by
  rw [restartService_eq]
  rfl

theorem tellFallback_sent (s : State) (auto : Bool) : (tellFallback s auto).sent = s.sent := by
  have hframe : RaiseFrame { s with upd := { s.upd with fbkAuto := auto } } (tellFallback s auto) := raise_frame _ _ _
  rw [hframe]

theorem switchParts_sent (s : State) (ps : List Part) (new old : BankSt) : (switchParts s ps new old).sent = s.sent := by
  have hframe := switchParts_frame s ps new old
  rw [hframe]

theorem fallBackIdle_sent (s : State) (ps : List Part) (auto : Bool) : (fallBackIdle s ps auto).sent = s.sent := by
  unfold fallBackIdle
  dsimp only
  rw [tellFallback_sent]
  refine Eq.trans ?_ (switchParts_sent s ps .confirmed (leftState auto))
  split
  · rfl
  · rw [loadIdle_eq]
    rfl

/-- A fallback takes back nothing that has left, even where it starts the module again. -/
theorem fallBack_sent (env : StartEnv) (a : State) (p : Part) (auto : Bool) : a.sent <+: (fallBack env a p auto).sent := by
  have hsame : ∀ {t : State}, t.sent = a.sent → a.sent <+: t.sent := fun h => h ▸ List.prefix_rfl
  have hwaits : (fallBackAtRestart a (fallbackParts a p) auto).sent = a.sent := tellFallback_sent _ _
  unfold fallBack
  dsimp only
  split
  · refine hsame ((restartService_sent _).trans ((tellFallback_sent _ _).trans ?_))
    exact switchParts_sent a [.svc] .confirmed (leftState auto)
  · split
    · exact hsame ((tellFallback_sent _ _).trans (switchParts_sent a [.ocf] .confirmed (leftState auto)))
    · split
      · exact hsame (fallBackIdle_sent _ _ _)
      · split
        · split
          · exact hsame hwaits
          · split
            · have hclosed := (Sys2Proof.Proofs.Restarts.closeRecorder_stays (fallBackAtRestart a (fallbackParts a p) auto)).sent
              rw [hwaits] at hclosed
              exact hclosed.trans (Sys2Proof.Proofs.StartUp.startUp_ended env 2 _).sent
            · exact hsame hwaits
        · split
          · exact hsame (tellFallback_sent _ _)
          · exact hsame (tellFallback_sent _ _)

/-- Whether a part may fall back on an order (R384). -/
def CanFallBack (s : State) (p : Part) : Prop :=
  if isUnconf s p then (otherBank (firstPair s p)).state = .previous else mayFallBack s p = true

section
variable {v : State} {src : Src} {p : Part} {env : StartEnv} (hgate : gateOf v src 0xC7 = .pass)
include hgate

theorem updFallback_order (h : partInProgress v = true) :
    rowUpdFallback src p.code env v = updAnswerNow (hearFrom v src.entry) src 0xC7 .order [] := by
  rw [rowUpdFallback, gated_pass hgate, ofCode?_code]
  exact if_pos h

variable (hfree : partInProgress v = false)
include hfree

theorem updFallback_none (h : ¬ CanFallBack v p) :
    rowUpdFallback src p.code env v = updAnswerNow (hearFrom v src.entry) src 0xC7 .noFallback [] := by
  rw [rowUpdFallback, gated_pass hgate, ofCode?_code]
  refine (if_neg (Bool.eq_false_iff.mp hfree)).trans ?_
  unfold CanFallBack at h
  split at h
  next hun => exact (if_pos hun).trans (if_neg h)
  next hun => exact (if_neg hun).trans (if_neg h)

theorem updFallback_taken (h : CanFallBack v p) : rowUpdFallback src p.code env v =
    fallBack env (answerNow (hearFrom v src.entry) src 0xC7 .accepted []) p (isUnconf v p) := by
  rw [rowUpdFallback, gated_pass hgate, ofCode?_code]
  refine (if_neg (Bool.eq_false_iff.mp hfree)).trans ?_
  unfold CanFallBack at h
  split at h
  next hun =>
    rw [hun]
    exact (if_pos hun).trans (if_pos h)
  next hun =>
    rw [Bool.not_eq_true] at hun
    rw [hun]
    exact (if_neg (Bool.eq_false_iff.mp hun)).trans (if_pos h)

end

theorem updNowRefused_of_row {c : Instr} {s u x : State} {src : Src} {opc : Nat} {st : Status} (hexec : exec c s = .next x)
    (hrow : x = updAnswerNow u src opc st []) : UpdNowRefused c s u src opc st :=
  ⟨noteRefusal u st, x, hexec, noteRefusal_noted u st, hrow ▸ answerNow_answers _ src opc st []⟩

theorem answerNow_frame (u : State) (src : Src) (opc : Nat) (st : Status) (body : Bytes) : AnswerFrame u (answerNow u src opc st body) := by
  have ht := answerNow_answers u src opc st body
  have htold := Sys2Proof.Proofs.LaneCommands.tellTaken_recordFrame u src opc st
  unfold RecordFrame at htold
  unfold Answers at ht
  unfold AnswerFrame
  rw [htold] at ht
  rw [ht]

theorem answerNow_sent (u : State) (src : Src) (opc : Nat) (st : Status) (body : Bytes) :
    (answerNow u src opc st body).sent = u.sent ++ [.packet (answerPacket u src opc st body)] := by
  have ht := answerNow_answers u src opc st body
  unfold Answers at ht
  rw [ht]

/-- A fallback after an answer is one of the state before it. -/
theorem fallsBack_congr {s a t : State} {p : Part} {auto : Bool} (h : AnswerFrame s a) (hfalls : FallsBack a t p auto) :
    FallsBack s t p auto := by
  unfold AnswerFrame at h
  rw [h] at hfalls
  exact hfalls

theorem backByRoute_congr {s a : State} {p : Part} (h : AnswerFrame s a) (hroute : BackByRoute s p) : BackByRoute a p := by
  unfold AnswerFrame at h
  rw [h]
  exact hroute

/-! ## SVC_RESTART_END (R375, R385) -/

/-- The update engine once the service processor runs again. -/
def svcUp (u : UpdBlk) : UpdBlk := { u with svcAt := none, fbk := u.fbk && !u.fbkTo.isEmpty }

/-- The state once the service processor runs again, with its START record after a restart by the watchdog. -/
def restarted (v : State) (a : Nat) : State :=
  if v.sys.wdogAt = some a then startRecord 5 { v with upd := svcUp v.upd } else { v with upd := svcUp v.upd }

theorem restarted_frame (v : State) (a : Nat) : SvcFrame { v with upd := svcUp v.upd } (restarted v a) := by
  unfold restarted
  split
  · exact svcRec_frame _ _ _ _
  · rfl

/-- The settings can be read (R385). -/
def SettingsRead (s : State) : Prop := s.sys.settingsLost = true ∨ settingsFor s (activeBank s.upd.svc).header = true

theorem settingsRead_restarted (v : State) (a : Nat) :
    ((restarted v a).sys.settingsLost || settingsFor (restarted v a) (activeBank (restarted v a).upd.svc).header) = true ↔ SettingsRead v := by
  have hframe := restarted_frame v a
  unfold SvcFrame at hframe
  rw [hframe, Bool.or_eq_true]
  rfl

/-- The service processor runs again with its settings lost. -/
def settingsGone (v : State) (a : Nat) : State := { restarted v a with sys := { (restarted v a).sys with settingsLost := true } }

theorem exec_svcRestartEnd {s : State} {now a : Nat} (h : s.upd.svcAt = some a) (ok : Bool) :
    let y := restarted (later s now) a
    exec (.svcRestartEnd ok now) s = .next (
      if ok && (y.sys.settingsLost || settingsFor y (activeBank y.upd.svc).header) then sendWaiting y
      else if (y.upd.unconf.map (·.part)) == some .svc && (otherBank y.upd.svc).state = .previous then
        fallBack {} (unreadable y .svc) .svc true
      else raise (settingsGone (later s now) a) .sys sSETTINGS_LOST) := by
  intro y
  have h' : (later s now).upd.svcAt = some a := h
  change execSvcRestartEnd ok now s = _
  unfold execSvcRestartEnd
  dsimp only
  rw [h', apply_ite Host.Outcome.next, apply_ite Host.Outcome.next]
  rfl

section
variable {s : State} {now a : Nat} (ha : s.upd.svcAt = some a)
include ha

theorem svcRestartEnd_read (hreads : SettingsRead s) :
    exec (.svcRestartEnd true now) s = .next (sendWaiting (restarted (later s now) a)) :=
  (exec_svcRestartEnd ha true).trans (congrArg Host.Outcome.next (if_pos ((settingsRead_restarted (later s now) a).mpr hreads)))

/-- Without the settings it is the new firmware that decides (R385). -/
theorem svcRestartEnd_unread {ok : Bool} (hlost : ok = false ∨ ¬ SettingsRead s) :
    exec (.svcRestartEnd ok now) s = .next (
      if (s.upd.unconf.map (·.part)) == some .svc && (otherBank s.upd.svc).state = .previous then
        fallBack {} (unreadable (restarted (later s now) a) .svc) .svc true
      else raise (settingsGone (later s now) a) .sys sSETTINGS_LOST) := by
  have hexec := exec_svcRestartEnd (now := now) ha ok
  have hread := settingsRead_restarted (later s now) a
  have hupd : (restarted (later s now) a).upd = svcUp s.upd := by
    rw [restarted_frame (later s now) a]
    rfl
  dsimp only at hexec
  rw [if_neg] at hexec
  · rw [hexec, hupd]
    rfl
  · rw [Bool.and_eq_true, hread]
    rintro ⟨rfl, hreads⟩
    exact hlost.elim (fun h => nomatch h) fun h => h hreads

theorem svcRestartEnd_unread_new {ok : Bool} (hlost : ok = false ∨ ¬ SettingsRead s) (hnew : ∃ w, s.upd.unconf = some w ∧ w.part = .svc)
    (hold : (otherBank s.upd.svc).state = .previous) :
    exec (.svcRestartEnd ok now) s = .next (fallBack {} (unreadable (restarted (later s now) a) .svc) .svc true) := by
  obtain ⟨w, hw, hpart⟩ := hnew
  rw [svcRestartEnd_unread ha hlost, if_pos]
  simp [hw, hpart, hold]

theorem svcRestartEnd_unread_old {ok : Bool} (hlost : ok = false ∨ ¬ SettingsRead s)
    (hother : ∀ w, s.upd.unconf = some w → w.part ≠ .svc) :
    exec (.svcRestartEnd ok now) s = .next (raise (settingsGone (later s now) a) .sys sSETTINGS_LOST) := by
  rw [svcRestartEnd_unread ha hlost, if_neg]
  intro hboth
  obtain ⟨hpart, -⟩ := Bool.and_eq_true_iff.mp hboth
  obtain ⟨w, hw, hsvc⟩ := Option.map_eq_some_iff.mp (eq_of_beq hpart)
  exact hother w hw hsvc

end

/-- Firmware that cannot read the settings falls back at once (R385). -/
theorem unreadable_fallsBack {v : State} {a : Nat} : let t := fallBack {} (unreadable (restarted v a) .svc) .svc true
    FallsBack v t .svc true ∧ t.upd.incompat = some .svc ∧ isLive t .upd uSETTINGS_INCOMPATIBLE = true := by
  intro t
  have hup := restarted_frame v a
  let noted : State := { restarted v a with upd := { (restarted v a).upd with incompat := some .svc } }
  have hnoted : RaiseFrame noted (unreadable (restarted v a) .svc) := raise_frame _ _ _
  have hlive : isLive (unreadable (restarted v a) .svc) .upd uSETTINGS_INCOMPATIBLE = true := raise_isLive _ _ _ (by decide)
  obtain ⟨htold, hswitched, hat, hnone, hincompat, hkeeps⟩ := svcBack_shows (unreadable (restarted v a) .svc) true
  have ht : t = restartService (svcBack (unreadable (restarted v a) .svc) true) := fallBack_svc _ _ _
  rw [← ht] at htold hswitched hat hnone hincompat hkeeps
  have hupd : (unreadable (restarted v a) .svc).upd = { svcUp v.upd with incompat := some .svc } := by
    rw [raiseFrame_upd hnoted]
    simp only [noted]
    rw [hup]
  have hnow : (unreadable (restarted v a) .svc).now = v.now := by
    rw [hnoted]
    simp only [noted]
    rw [hup]
  rw [hupd] at hincompat
  rw [hnow] at hat
  refine ⟨⟨htold, fun _ => ⟨fun n hn => ?_, hat, hnone⟩, (fun h => nomatch h), (fun h => nomatch h), fun h => nomatch h⟩,
    hincompat, hkeeps hlive⟩
  have hpair := hswitched n hn
  rw [hupd] at hpair
  cases List.mem_singleton.mp hn
  exact hpair

/-- Without a firmware to fall back to the settings are lost (R385). -/
theorem settingsLost_shows (v : State) (a : Nat) : let t := raise (settingsGone v a) .sys sSETTINGS_LOST
    t.sys.settingsLost = true ∧ isLive t .sys sSETTINGS_LOST = true ∧ t.upd = svcUp v.upd := by
  intro t
  have hup := restarted_frame v a
  have hframe : RaiseFrame (settingsGone v a) t := raise_frame _ _ _
  have hlive : isLive t .sys sSETTINGS_LOST = true := raise_isLive _ _ _ (by decide)
  clear_value t
  refine ⟨?_, hlive, ?_⟩
  · rw [hframe]
    rfl
  · rw [hframe]
    simp only [settingsGone]
    rw [hup]

end Sys2Proof.Proofs.Fallback

/-! PROOFS. The distribution of object controller packages (R224, R386), and what confirmation and fallback come to. -/

namespace Sys2Proof.Proofs.Packages

open Sys2Proof Sys2Proof.Machine Sys2Proof.Safety Sys2Proof.Proofs.Banks Sys2Proof.Proofs.Activate Sys2Proof.Proofs.Fallback
open Sys2Proof.Proofs.LaneCommands (gated_pass laneAnswer_answered)
open Sys2Proof.Proofs.FieldPorts (setNode_same nodeOf?_congr nodeOf?_setNode_other nodeOf?_setNode_same)
open Sys2Proof.Proofs.ServiceFrames (sendService_spec SentOnly sendSvc_sentOnly serviceOut)
open Sys2Proof.Proofs.StartUp (sendService_stays)

/-- What service frames to one node leave: the objects, the banks, what left and what waits, and the other nodes. -/
structure Delivers (c : Cluster) (node : Nat) (s t : State) : Prop where
  core : t.core = s.core
  upd : t.upd = s.upd
  sent : s.sent <+: t.sent
  waits : (frnOf s c).svc ⊆ (frnOf t c).svc
  others : ∀ m, m ≠ node → nodeOf? t c m = nodeOf? s c m

theorem Delivers.refl (c : Cluster) (node : Nat) (s : State) : Delivers c node s s :=
  ⟨rfl, rfl, List.prefix_rfl, List.Subset.refl _, fun _ _ => rfl⟩

theorem Delivers.trans {c : Cluster} {node : Nat} {s t u : State} (h : Delivers c node s t) (g : Delivers c node t u) :
    Delivers c node s u :=
  ⟨g.core.trans h.core, g.upd.trans h.upd, h.sent.trans g.sent, List.Subset.trans h.waits g.waits,
    fun m hm => (g.others m hm).trans (h.others m hm)⟩

theorem sendService_delivers (s : State) (c : Cluster) (node code ref : Nat) (content : Bytes) :
    Delivers c node s (sendService s c node code ref content) := by
  cases hb : nodeOf? s c node with
  | none =>
    have hnone : sendService s c node code ref content = s := by simp only [sendService, hb]
    rw [hnone]
    exact .refl c node s
  | some b =>
    let counted := setNode s c node fun b' => { b' with snum := nextSnum b.snum }
    let waiting := setFrn counted c fun f => { f with svc := f.svc ++ [serviceOut s c b node code ref content] }
    have hsend : sendService s c node code ref content = sendSvc waiting c (serviceOut s c b node code ref content) := by
      rw [sendService, hb]
      rfl
    have hsent := sendSvc_sentOnly waiting c (serviceOut s c b node code ref content)
    have hport := hsent.port c
    rw [← hsend] at hsent hport
    have hwaiting : frnOf waiting c = { frnOf counted c with svc := (frnOf counted c).svc ++ [serviceOut s c b node code ref content] } :=
      setFrn_same _ _ _
    have hcounted : (frnOf counted c).svc = (frnOf s c).svc := by rw [setNode_same]
    refine ⟨?_, ?_, (sendService_stays s c node code ref content).sent, ?_, fun m hm => ?_⟩
    · rw [hsent]
      cases c <;> rfl
    · rw [hsent]
      cases c <;> rfl
    · rw [hport, hwaiting, hcounted]
      exact List.subset_append_left _ _
    · refine (nodeOf?_congr (t := sendService s c node code ref content) (s := counted) ?_ m).trans
        (nodeOf?_setNode_other s c (g := fun b' => { b' with snum := nextSnum b.snum }) (fun _ => rfl) hm)
      rw [hport, hwaiting]

/-- Several frames to a node. -/
theorem foldl_delivers {c : Cluster} {node : Nat} {α : Type} {f : State → α → State} (hf : ∀ s a, Delivers c node s (f s a))
    (l : List α) (s : State) : Delivers c node s (l.foldl f s) := by
  induction l generalizing s with
  | nil => exact .refl c node s
  | cons a l ih => exact (hf s a).trans (ih _)

/-- A node that has been sent to is as it was, but for the number of the last frame. -/
def Numbered (c : Cluster) (node : Nat) (s t : State) : Prop :=
  ∀ b, nodeOf? s c node = some b → ∃ k, nodeOf? t c node = some { b with snum := k }

theorem sendService_numbered (s : State) (c : Cluster) (node code ref : Nat) (content : Bytes) :
    Numbered c node s (sendService s c node code ref content) :=
  fun _ hb => ⟨_, (sendService_spec hb code ref content).1⟩

/-- What is sent to a known node waits for its answer. -/
theorem sendService_waits {s : State} {c : Cluster} {node : Nat} {b : NodeBlk} (hb : nodeOf? s c node = some b)
    (code ref : Nat) (content : Bytes) :
    ∃ q ∈ (frnOf (sendService s c node code ref content) c).svc, q.node = node ∧ q.code = code ∧ q.ref = ref := by
  obtain ⟨-, hsvc, -, -, -⟩ := sendService_spec hb code ref content
  exact ⟨serviceOut s c b node code ref content, by simp [hsvc], rfl, rfl, rfl⟩

theorem foldl_numbered {c : Cluster} {node : Nat} {α : Type} {f : State → α → State} (hf : ∀ s a, Numbered c node s (f s a))
    (l : List α) (s : State) : Numbered c node s (l.foldl f s) := by
  induction l generalizing s with
  | nil => exact fun b hb => ⟨b.snum, hb⟩
  | cons a l ih =>
    intro b hb
    obtain ⟨k, hk⟩ := hf s a b hb
    obtain ⟨j, hj⟩ := ih _ _ hk
    exact ⟨j, hj⟩

/-! ## A package to one node -/

/-- The node noted for a package (R386). -/
def noted (pkg : Nat) (b : NodeBlk) : NodeBlk :=
  { b with ocfPkg := pkg, ocfState := 0, ocfWant := false, ocfMissing := 0, ocfReceived := 0 }

/-- The blocks of a package sent to a node that has been noted for it. -/
def blocksSent (c : Cluster) (pkg : Nat) (image : Bytes) (s : State) (node : Nat) : State :=
  (List.range (ocfCount image)).foldl (fun s k => sendOcfBlock s c node pkg image k) (setNode s c node (noted pkg))

theorem sendPackage_none {c : Cluster} {pkg : Nat} {image : Bytes} {s : State} {node : Nat} (h : nodeOf? s c node = none) :
    sendPackage c pkg image s node = s := by
  have h : (frnOf s c).nodes.find? (·.node == node) = none := h
  simp only [sendPackage, h]

theorem sendPackage_some {c : Cluster} {pkg : Nat} {image : Bytes} {s : State} {node : Nat} {b : NodeBlk} (h : nodeOf? s c node = some b) :
    sendPackage c pkg image s node = sendService (blocksSent c pkg image s node) c node 0x03 pkg [] := by
  have h : (frnOf s c).nodes.find? (·.node == node) = some b := h
  simp only [sendPackage, h]
  rfl

theorem setNode_delivers (s : State) (c : Cluster) (node : Nat) {g : NodeBlk → NodeBlk} (hg : ∀ b, (g b).node = b.node) :
    Delivers c node s (setNode s c node g) := by
  refine ⟨?_, ?_, ?_, ?_, fun m hm => nodeOf?_setNode_other s c hg hm⟩
  · cases c <;> rfl
  · cases c <;> rfl
  · cases c <;> exact List.prefix_rfl
  · rw [setNode_same]
    exact List.Subset.refl _

theorem sendPackage_delivers (c : Cluster) (pkg : Nat) (image : Bytes) (s : State) (node : Nat) :
    Delivers c node s (sendPackage c pkg image s node) := by
  cases hb : nodeOf? s c node with
  | none =>
    rw [sendPackage_none hb]
    exact .refl c node s
  | some b =>
    rw [sendPackage_some hb]
    exact ((setNode_delivers s c node (g := noted pkg) fun _ => rfl).trans 
      (foldl_delivers (f := fun s k => sendOcfBlock s c node pkg image k) (fun s k => sendService_delivers s c node _ _ _) _ _)).trans
      (sendService_delivers _ c node _ _ _)

/-- A known node that a package goes to is noted for it, and its query waits for the answer. -/
theorem sendPackage_noted {c : Cluster} {pkg : Nat} {image : Bytes} {s : State} {node : Nat} {b : NodeBlk} (hb : nodeOf? s c node = some b) :
    let t := sendPackage c pkg image s node
    (∃ m, nodeOf? t c node = some m ∧ m.ocfPkg = pkg ∧ m.ocfState = 0 ∧ m.ocfReceived = 0 ∧ m.state = b.state)
      ∧ ∃ q ∈ (frnOf t c).svc, q.node = node ∧ q.code = 0x03 ∧ q.ref = pkg := by
  intro t
  have hset : nodeOf? (setNode s c node (noted pkg)) c node = some (noted pkg b) := nodeOf?_setNode_same (fun _ => rfl) hb
  obtain ⟨k, hblocks⟩ := foldl_numbered (f := fun s k => sendOcfBlock s c node pkg image k)
    (fun s k => sendService_numbered s c node _ _ _) (List.range (ocfCount image)) _ _ hset
  obtain ⟨j, hnode⟩ := sendService_numbered (blocksSent c pkg image s node) c node 0x03 pkg [] _ hblocks
  have ht : t = _ := sendPackage_some hb
  rw [ht]
  exact ⟨⟨_, hnode, rfl, rfl, rfl, rfl⟩, sendService_waits hblocks 0x03 pkg []⟩

/-! ## A package to several nodes -/

/-- What a package to several nodes leaves. -/
structure DeliversAll (c : Cluster) (nodes : List Nat) (s t : State) : Prop where
  core : t.core = s.core
  upd : t.upd = s.upd
  sent : s.sent <+: t.sent
  waits : (frnOf s c).svc ⊆ (frnOf t c).svc
  others : ∀ m, m ∉ nodes → nodeOf? t c m = nodeOf? s c m

theorem foldl_deliversAll (c : Cluster) (pkg : Nat) (image : Bytes) (nodes : List Nat) (s : State) :
    DeliversAll c nodes s (nodes.foldl (sendPackage c pkg image) s) := by
  induction nodes generalizing s with
  | nil => exact ⟨rfl, rfl, List.prefix_rfl, List.Subset.refl _, fun _ _ => rfl⟩
  | cons n nodes ih =>
    have h := sendPackage_delivers c pkg image s n
    have g := ih (sendPackage c pkg image s n)
    refine ⟨g.core.trans h.core, g.upd.trans h.upd, h.sent.trans g.sent, List.Subset.trans h.waits g.waits, fun m hm => ?_⟩
    rw [List.mem_cons, not_or] at hm
    exact (g.others m hm.2).trans (h.others m hm.1)

/-- Every known node that a package goes to is noted for it. -/
theorem foldl_noted {c : Cluster} (pkg : Nat) (image : Bytes) {nodes : List Nat} (hnodup : nodes.Nodup) {s : State} {node : Nat} {b : NodeBlk}
    (hmem : node ∈ nodes) (hb : nodeOf? s c node = some b) : let t := nodes.foldl (sendPackage c pkg image) s
    (∃ m, nodeOf? t c node = some m ∧ m.ocfPkg = pkg ∧ m.ocfState = 0 ∧ m.ocfReceived = 0 ∧ m.state = b.state)
      ∧ ∃ q ∈ (frnOf t c).svc, q.node = node ∧ q.code = 0x03 ∧ q.ref = pkg := by
  intro t
  induction nodes generalizing s with
  | nil => exact absurd hmem List.not_mem_nil
  | cons n nodes ih =>
    obtain ⟨hn, hrest⟩ := List.nodup_cons.mp hnodup
    rcases List.mem_cons.mp hmem with rfl | hin
    · obtain ⟨⟨m, hm, hnoted⟩, q, hq, hquery⟩ := sendPackage_noted (pkg := pkg) (image := image) hb
      have g := foldl_deliversAll c pkg image nodes (sendPackage c pkg image s node)
      exact ⟨⟨m, (g.others node hn).trans hm, hnoted⟩, q, g.waits hq, hquery⟩
    · have hne : node ≠ n := by
        rintro rfl
        exact hn hin
      exact ih hrest hin (((sendPackage_delivers c pkg image s n).others node hne).trans hb)

/-! ## OCF_DISTRIBUTE (R386) -/

/-- The nodes that a mask names. -/
def maskNodes (mask : BitVec 256) : List Nat :=
  (List.range 240).filterMap fun k => if maskBit mask (k + 16) then some (k + 16) else none

theorem mem_maskNodes {mask : BitVec 256} {i : Nat} : i ∈ maskNodes mask ↔ 16 ≤ i ∧ i ≤ 255 ∧ maskBit mask i = true := by
  rw [maskNodes, List.mem_filterMap]
  constructor
  · rintro ⟨k, hk, h⟩
    rw [List.mem_range] at hk
    split at h
    next hbit =>
      cases h
      exact ⟨by omega, by omega, hbit⟩
    next => cases h
  · rintro ⟨hlow, hhigh, hbit⟩
    obtain ⟨k, rfl⟩ := Nat.exists_eq_add_of_le' hlow
    exact ⟨k, List.mem_range.mpr (by omega), if_pos hbit⟩

theorem maskNodes_nodup (mask : BitVec 256) : (maskNodes mask).Nodup := by
  refine List.Nodup.filterMap ?_ List.nodup_range
  intro a b c ha hb
  simp only [Option.mem_def, Option.ite_none_right_eq_some, Option.some.injEq] at ha hb
  omega

theorem maskNodes_isEmpty_iff (mask : BitVec 256) :
    (maskNodes mask).isEmpty = true ↔ ∀ i, 16 ≤ i → i ≤ 255 → maskBit mask i = false := by
  rw [List.isEmpty_iff, List.eq_nil_iff_forall_not_mem]
  refine forall_congr' fun i => ?_
  rw [mem_maskNodes]
  simp

theorem lowBits_iff (mask : BitVec 256) :
    ((List.range 15).any fun k => maskBit mask (k + 1)) = true ↔ ∃ i, 1 ≤ i ∧ i ≤ 15 ∧ maskBit mask i = true := by
  rw [List.any_eq_true]
  constructor
  · rintro ⟨k, hk, hbit⟩
    rw [List.mem_range] at hk
    exact ⟨k + 1, by omega, by omega, hbit⟩
  · rintro ⟨i, hlow, hhigh, hbit⟩
    obtain ⟨k, rfl⟩ := Nat.exists_eq_add_of_le' hlow
    exact ⟨k, List.mem_range.mpr (by omega), hbit⟩

section
variable {s : State} {src : Src} {pkg : Nat} {mask : BitVec 256} (hgate : gateOf s src 0xC8 = .pass)
include hgate

theorem ocfDistribute_none (h : ocfImage? s pkg = none) :
    rowOcfDistribute src pkg mask s = updLaneReply (hearFrom s src.entry) src 0xC8 .noTransfer [] := by
  have hhere : ocfImage? (hearFrom s src.entry) pkg = none := h
  rw [rowOcfDistribute, gated_pass hgate]
  dsimp only
  rw [hhere]

theorem ocfDistribute_some {b : Bank} (h : ocfImage? s pkg = some b) : rowOcfDistribute src pkg mask s =
    if (maskNodes mask).isEmpty || (List.range 15).any (fun k => maskBit mask (k + 1)) then
      updReply (hearFrom s src.entry) src 0xC8 .badLen []
    else (maskNodes mask).foldl (sendPackage (if maskBit mask 0 then Cluster.c1 else .c0) pkg b.image)
      (laneAnswer (hearFrom s src.entry) src 0xC8 .accepted []) := by
  have hhere : ocfImage? (hearFrom s src.entry) pkg = some b := h
  rw [rowOcfDistribute, gated_pass hgate]
  dsimp only
  rw [hhere]
  rfl

/-- A distribution answers ACCEPTED, and each node that is named and known is noted for the package (R386). -/
theorem ocfDistribute_sends {b : Bank} (h : ocfImage? s pkg = some b) (hnamed : ∃ i, 16 ≤ i ∧ i ≤ 255 ∧ maskBit mask i = true)
    (hlow : ∀ i, 1 ≤ i → i ≤ 15 → maskBit mask i = false) : let t := rowOcfDistribute src pkg mask s
    let cl := if maskBit mask 0 then Cluster.c1 else .c0
    (s.work = none → s.sent ++ [Sent.packet (answerPacket (hearFrom s src.entry) src 0xC8 .accepted [])] <+: t.sent)
      ∧ (∀ i n, 16 ≤ i → i ≤ 255 → maskBit mask i = true → nodeOf? s cl i = some n →
        (∃ m, nodeOf? t cl i = some m ∧ m.ocfPkg = pkg ∧ m.ocfState = 0 ∧ m.ocfReceived = 0 ∧ m.state = n.state)
        ∧ ∃ q ∈ (frnOf t cl).svc, q.node = i ∧ q.code = 0x03 ∧ q.ref = pkg)
      ∧ (∀ i, maskBit mask i = false → nodeOf? t cl i = nodeOf? s cl i)
      ∧ { t.core with lost := s.core.lost } = s.core ∧ t.upd = s.upd := by
  intro t cl
  let a := laneAnswer (hearFrom s src.entry) src 0xC8 .accepted []
  have ht : t = (maskNodes mask).foldl (sendPackage cl pkg b.image) a := by
    have hnames : ¬ (maskNodes mask).isEmpty = true := by
      rw [maskNodes_isEmpty_iff]
      intro hnone
      obtain ⟨i, hge, hle, hbit⟩ := hnamed
      rw [hnone i hge hle] at hbit
      cases hbit
    have hfree : ¬ ((List.range 15).any fun k => maskBit mask (k + 1)) = true := by
      rw [lowBits_iff]
      rintro ⟨i, hge, hle, hbit⟩
      rw [hlow i hge hle] at hbit
      cases hbit
    exact (ocfDistribute_some hgate h).trans (if_neg fun hor => (Bool.or_eq_true_iff.mp hor).elim hnames hfree)
  have hanswer : AnswerFrame (hearFrom s src.entry) a := laneAnswer_frame _ _ _ _ _
  have hnodes : ∀ i, nodeOf? a cl i = nodeOf? s cl i := fun i => by
    rw [hanswer]
    cases cl <;> rfl
  have hcore : a.core = s.core := by
    rw [hanswer]
    rfl
  have hupd : a.upd = s.upd := by
    rw [hanswer]
    rfl
  obtain ⟨hcore', hupd', hsent, -, hothers⟩ := foldl_deliversAll cl pkg b.image (maskNodes mask) a
  rw [ht]
  refine ⟨fun hwork => ?_, fun i n hge hle hbit hnode => ?_, fun i hbit => ?_, ?_, hupd'.trans hupd⟩
  · have ha : a = answerNow (hearFrom s src.entry) src 0xC8 .accepted [] := by
      have hwork' : (hearFrom s src.entry).work = none := hwork
      simp only [a, laneAnswer, hwork']
    have hasent := answerNow_sent (hearFrom s src.entry) src 0xC8 .accepted []
    rw [← ha] at hasent
    exact hasent ▸ hsent
  · exact foldl_noted pkg b.image (maskNodes_nodup mask) (mem_maskNodes.mpr ⟨hge, hle, hbit⟩) ((hnodes i).trans hnode)
  · refine (hothers i fun hmem => ?_).trans (hnodes i)
    rw [(mem_maskNodes.mp hmem).2.2] at hbit
    cases hbit
  · rw [hcore', hcore]

end

/-- Settles O46: health and confirmation by their rows, the two orders to fall back by the route of the part, the packages node by
node, and the end of the restart of the service processor by whether its settings are read. -/
theorem confirmationAndFallbackEndTheWindow : Obligations.ConfirmationAndFallbackEndTheWindow := by
  intro s src now env v u
  refine ⟨fun w hw hholds hlong => exec_healthy hw hholds hlong, fun hgate p => ⟨fun hno => ?_, fun hok => ?_⟩,
    fun w hw => ⟨fun hnot => ?_, fun hdue => ?_⟩, fun p hgate => ⟨fun hprogress => ?_, fun hfree => ⟨fun hno => ?_, fun hcan => ?_⟩⟩,
    fun hgate pkg mask => ⟨fun hnone => ?_, fun b hb => ⟨fun hbad => ?_, fun hnamed hlow => ?_⟩⟩,
    fun a ha => ⟨fun hreads hplain => ?_, fun hreads => ?_, fun ok hlost => ⟨fun hnew hold => ?_, fun hother => ?_⟩⟩⟩
  · exact ⟨_, congrArg Host.Outcome.next (updConfirm_refused hgate hno), laneAnswer_answered _ _ _ _ _⟩
  · obtain ⟨w, hw, hp, -⟩ := id hok
    obtain ⟨hnone, hlive, hconfirmed, hframe⟩ := confirmPart_shows (u := u) hw
    exact ⟨_, ⟨_, congrArg Host.Outcome.next (updConfirm_done hgate hok), laneAnswer_answered _ _ _ _ _⟩, hnone, hlive,
      hconfirmed p hp, hframe⟩
  · rw [exec_confirmWindowExpiry env hw, if_pos]
    by_contra hnone
    simp only [not_or, not_not, Bool.not_eq_true, Bool.or_eq_false_iff, not_lt] at hnone
    obtain ⟨hlate, ⟨⟨hhand, hwanted⟩, hcommanded⟩, hfree, hprevious⟩ := hnone
    exact hnot ⟨hlate, hhand, hwanted, hcommanded, hfree, hprevious⟩
  · obtain ⟨hlate, hhand, hwanted, hcommanded, hfree, hprevious⟩ := hdue
    refine ⟨_, exec_confirmWindowExpiry env hw, fun hroute => ?_⟩
    rw [if_neg]
    · exact fallBack_fallsBack env v true hroute
    · simp only [hhand, hwanted, hcommanded, hfree, not_or, not_not, not_lt]
      exact ⟨hlate, by decide, by decide, hprevious⟩
  · exact updNowRefused_of_row rfl (updFallback_order hgate hprogress)
  · exact updNowRefused_of_row rfl (updFallback_none hgate hfree hno)
  · have hframe := answerNow_frame (hearFrom v src.entry) src 0xC7 .accepted []
    have hsent := fallBack_sent env (answerNow (hearFrom v src.entry) src 0xC7 .accepted []) p (isUnconf v p)
    rw [answerNow_sent] at hsent
    exact ⟨_, congrArg Host.Outcome.next (updFallback_taken hgate hfree hcan), hsent,
      fun hroute => fallsBack_congr (s := hearFrom v src.entry) hframe (fallBack_fallsBack env _ _ (backByRoute_congr hframe hroute))⟩
  · exact ⟨noteRefusal u .noTransfer, _, congrArg Host.Outcome.next (ocfDistribute_none hgate hnone), noteRefusal_noted _ _,
      laneAnswer_answered _ _ _ _ _⟩
  · refine svcReply_of_updReply rfl ((ocfDistribute_some hgate hb).trans (if_pos (Bool.or_eq_true_iff.mpr ?_))) not_isUpdError_badLen
    exact hbad.imp (maskNodes_isEmpty_iff mask).mpr (lowBits_iff mask).mpr
  · exact ⟨_, rfl, ocfDistribute_sends hgate hb hnamed hlow⟩
  · have hplain' : ¬ v.sys.wdogAt = some a := hplain
    have hexec := svcRestartEnd_read (now := now) ha hreads
    rw [restarted, if_neg hplain'] at hexec
    exact hexec
  · exact ⟨restarted v a, svcRestartEnd_read ha hreads, restarted_frame v a⟩
  · exact ⟨_, svcRestartEnd_unread_new ha hlost hnew hold, unreadable_fallsBack⟩
  · exact ⟨_, svcRestartEnd_unread_old ha hlost hother, settingsLost_shows v a⟩

end Sys2Proof.Proofs.Packages

/-! PROOFS. Wafers in (R312, R346, R347) and missed wafers (R353). -/

namespace Sys2Proof.Proofs.Wafers

open Sys2Proof Sys2Proof.Machine Sys2Proof.Safety Sys2Proof.Proofs.Frames Sys2Proof.Proofs.Sends Sys2Proof.Proofs.Beats

/-! ## Segments (R312, R346) -/

/-- The inbound wafer after a segment. -/
def gathered (v : State) (p : SegIn) : Inbound :=
  let fresh : Inbound := { wafer := p.wafer, nseg := p.nseg, got := [p.seg], startedAt := v.now, lastAt := v.now }
  match v.dpx.inbound with
  | none => fresh
  | some b =>
    if b.wafer = p.wafer ∧ b.nseg = p.nseg then (if b.got.contains p.seg then b else { b with got := p.seg :: b.got, lastAt := v.now })
    else fresh

theorem gathered_new {v : State} {p : SegIn} (h : ¬ ∃ b, v.dpx.inbound = some b ∧ b.wafer = p.wafer ∧ b.nseg = p.nseg) :
    gathered v p = { wafer := p.wafer, nseg := p.nseg, got := [p.seg], startedAt := v.now, lastAt := v.now } := by
  unfold gathered
  cases hb : v.dpx.inbound with
  | none => rfl
  | some b => exact if_neg fun hsame => h ⟨b, hb, hsame⟩

theorem gathered_more {v : State} {p : SegIn} {b : Inbound} (hb : v.dpx.inbound = some b) (hwafer : b.wafer = p.wafer)
    (hnseg : b.nseg = p.nseg) : ∃ got, gathered v p = { b with got := got, lastAt := if p.seg ∈ b.got then b.lastAt else v.now }
      ∧ ∀ k, k ∈ got ↔ k ∈ b.got ∨ k = p.seg := by
  have hsame : gathered v p = if b.got.contains p.seg then b else { b with got := p.seg :: b.got, lastAt := v.now } := by
    simp only [gathered, hb]
    exact if_pos ⟨hwafer, hnseg⟩
  by_cases hmem : p.seg ∈ b.got
  · refine ⟨b.got, ?_, fun k => ⟨.inl, fun h => h.elim id fun h => h ▸ hmem⟩⟩
    rw [hsame, if_pos (List.contains_iff_mem.mpr hmem), if_pos hmem]
  · refine ⟨p.seg :: b.got, ?_, fun k => ?_⟩
    · rw [hsame, if_neg (mt List.contains_iff_mem.mp hmem), if_neg hmem]
    · rw [List.mem_cons, or_comm]

theorem exec_waferSegment_refused {s : State} {now : Nat} {p : SegIn}
    (h : p.crcOk = false ∨ p.unit ≠ 1 - ownKind (later s now).cfg ∨ onPeer (later s now) = false) :
    exec (.waferSegment p now) s = .next (later s now) := by
  refine if_pos ?_
  obtain h | h | h := h
  · exact .inr (.inl (by rw [h]; rfl))
  · exact .inr (.inr h)
  · exact .inl (by rw [h]; rfl)

theorem exec_waferSegment_taken {s : State} {now : Nat} {p : SegIn} (hcrc : p.crcOk = true) (hunit : p.unit = 1 - ownKind (later s now).cfg)
    (hpeer : onPeer (later s now) = true) (hrole : (later s now).dpx.role = .standby) (hfree : (later s now).xbr.winFree = true)
    (hfenced : (later s now).xbr.fenced = false) (hruns : svcRuns (later s now) = true) (hone : 1 ≤ p.nseg) (hmost : p.nseg ≤ 361)
    (hseg : p.seg < p.nseg) : exec (.waferSegment p now) s = .next {
      heardPeer (later s now) with dpx := { (heardPeer (later s now)).dpx with inbound := some (gathered (later s now) p) } } := by
  change execWaferSegment p now s = _
  rw [execWaferSegment]
  generalize later s now = v at *
  refine (if_neg (by simp [hcrc, hunit, hpeer])).trans (if_neg ?_)
  have hfull : (!(heardPeer v).xbr.winFree) = false := congrArg not hfree
  have hgone : (!svcRuns (heardPeer v)) = false := congrArg not hruns
  rw [hfull, hgone]
  rintro (h | h | h | h | h | h | h)
  · exact h hrole
  · cases h
  · exact absurd (hfenced.symm.trans h) (by decide)
  · cases h
  all_goals omega

/-! ## The judgement of a wafer (R347) -/

theorem waferBad_shows (v : State) : isLive (waferBad v) .dpx dWAFER_BAD = true
    ∧ RaiseFrame { v with dpx := { v.dpx with inbound := none, sawWaferBad := true } } (waferBad v) :=
  ⟨raise_isLive _ _ _ (by decide), raise_frame _ _ _⟩

theorem exec_waferSegmentTimeout {s : State} {now : Nat} {b : Inbound} (hb : (later s now).dpx.inbound = some b) :
    exec (.waferSegmentTimeout now) s = .next (
      if b.got.length < b.nseg ∧ b.startedAt + 5000 < (later s now).now then waferBad (later s now) else later s now) := by
  change execWaferSegmentTimeout now s = _
  simp only [execWaferSegmentTimeout, hb, apply_ite Host.Outcome.next]

theorem exec_xbrWinDone_waits {s : State} {now : Nat} {b : Inbound} (hb : (later s now).dpx.inbound = some b) (hmore : b.got.length < b.nseg) :
    exec (.xbrWinDone now) s = .next (later s now) := by
  change execXbrWinDone now s = _
  simp only [execXbrWinDone, hb]
  exact if_pos (.inl hmore)

/-- The wafer has come in time, its codes are right, and there are the lanes and the key to check them. -/
def Whole (v : State) (b : Inbound) : Prop :=
  b.lastAt ≤ b.startedAt + 5000 ∧ b.wafer.hcrcOk = true ∧ b.wafer.crcOk = true ∧ b.wafer.wcodeOk = true
    ∧ (plainKey? v 4 0 0).isSome = true ∧ twoLanes v = true

/-- The wafer is the partner's, newer than the one held, and of an epoch that the lane firmware reads. -/
def Fitting (v : State) (w : Wafer) : Prop :=
  w.pair = ownPair v.cfg ∧ w.unit = 1 - ownKind v.cfg ∧ (∀ k, v.dpx.held = some k → k.frame < w.frame)
    ∧ (w.epoch = hdrEpoch (lfwHeader v) ∨ (hdrWepMin (lfwHeader v) ≤ w.epoch ∧ w.epoch < hdrEpoch (lfwHeader v)))

theorem waferChecks_iff (v : State) (b : Inbound) :
    (¬ b.startedAt + 5000 < b.lastAt ∧ waferChecks v b.wafer = true) ↔ Whole v b ∧ Fitting v b.wafer := by
  unfold waferChecks Whole Fitting waferEpochOk hasKey
  cases v.dpx.held with
  | none =>
    simp only [Bool.and_eq_true, Bool.or_eq_true, beq_iff_eq, decide_eq_true_eq, not_lt, reduceCtorEq, false_implies]
    tauto
  | some k =>
    simp only [Bool.and_eq_true, Bool.or_eq_true, beq_iff_eq, decide_eq_true_eq, not_lt, Option.some.injEq, forall_eq']
    tauto

section
variable {s : State} {now : Nat} {b : Inbound} (hb : (later s now).dpx.inbound = some b) (hall : b.nseg ≤ b.got.length)
  (hrole : (later s now).dpx.role = .standby) (hfenced : (later s now).xbr.fenced = false) (hruns : svcRuns (later s now) = true)
include hb hall hrole hfenced hruns

/-- With every segment there the lanes judge the wafer. -/
theorem exec_xbrWinDone_judges : exec (.xbrWinDone now) s =
    if b.startedAt + 5000 < b.lastAt ∨ (!waferChecks (later s now) b.wafer) = true then .next (waferBad (later s now))
    else match waferFit (later s now) b.wafer with
      | .same => .next (acceptWafer (later s now) b.wafer)
      | .follow st v => .next (acceptWafer (followExchange (later s now) st v) b.wafer)
      | .mapped _ _ => .next (acceptWafer (later s now) b.wafer)
      | .wait => .next { later s now with dpx := { (later s now).dpx with inbound := none }, upd := { (later s now).upd with mapWait := true } }
      | .bad => .next (waferBad (later s now)) := by
  change execXbrWinDone now s = _
  rw [execXbrWinDone]
  generalize later s now = v at *
  dsimp only
  rw [hb]
  refine if_neg ?_
  rintro (h | h | h | h)
  · omega
  · exact h hrole
  · exact absurd (hfenced.symm.trans h) (by decide)
  · exact absurd (hruns.symm.trans (by simpa using h)) (by decide)

theorem exec_xbrWinDone_fails (h : ¬ Whole (later s now) b ∨ ¬ Fitting (later s now) b.wafer) :
    exec (.xbrWinDone now) s = .next (waferBad (later s now)) := by
  rw [exec_xbrWinDone_judges hb hall hrole hfenced hruns]
  refine if_pos ?_
  by_contra hgood
  obtain ⟨hlate, hchecks⟩ := not_or.mp hgood
  obtain ⟨hwhole, hfitting⟩ := (waferChecks_iff (later s now) b).mp ⟨hlate, by simpa using hchecks⟩
  exact h.elim (fun h => h hwhole) fun h => h hfitting

variable {st : Station} (hst : (later s now).mzp = some st) (hlayout : b.wafer.layout = st.imgId)
include hst hlayout

theorem exec_xbrWinDone_otherImages (h : ¬ (b.wafer.mzpid = st.mzpid ∧ b.wafer.prtid = st.prtid)) :
    exec (.xbrWinDone now) s = .next (waferBad (later s now)) := by
  have hfit : waferFit (later s now) b.wafer = .bad := by
    have hids : ¬ (b.wafer.mzpid == st.mzpid && b.wafer.prtid == st.prtid) = true := by simpa using h
    simp only [waferFit, hst, if_pos hlayout, if_neg hids]
  rw [exec_xbrWinDone_judges hb hall hrole hfenced hruns, hfit, ite_self]

theorem exec_xbrWinDone_accepts (hwhole : Whole (later s now) b) (hfitting : Fitting (later s now) b.wafer)
    (h : b.wafer.mzpid = st.mzpid ∧ b.wafer.prtid = st.prtid) :
    exec (.xbrWinDone now) s = .next (acceptWafer (later s now) b.wafer) := by
  have hfit : waferFit (later s now) b.wafer = .same := by
    have hids : (b.wafer.mzpid == st.mzpid && b.wafer.prtid == st.prtid) = true := by simpa using h
    simp only [waferFit, hst, if_pos hlayout, if_pos hids]
  obtain ⟨hintime, hchecks⟩ := (waferChecks_iff (later s now) b).mpr ⟨hwhole, hfitting⟩
  rw [exec_xbrWinDone_judges hb hall hrole hfenced hruns, if_neg (by simp [hintime, hchecks]), hfit]

end

/-! ## The acceptance of a wafer (R347, R353) -/

theorem noteRecord_eq (s : State) (n : Nat) : noteRecord s n = { s with frm := { s.frm with record := (noteRecord s n).frm.record } } := by
  unfold noteRecord
  split <;> rfl

/-- The state that holds an accepted wafer, before its counter is noted and anything leaves. -/
def waferKept (v : State) (w : Wafer) : State := { v with
  dpx := { v.dpx with held := some w, heldAt := v.now, miss := 0, why2 := false, wframe := w.frame, wsize := w.len
                      inbound := none, asking := if v.dpx.asking = some 1 then none else v.dpx.asking }
  xbr := { v.xbr with winLen := w.len }
  upd := { v.upd with mapWait := false } }

/-- The state that holds an accepted wafer, before anything leaves. -/
def waferHeld (v : State) (w : Wafer) : State := noteRecord (waferKept v w) w.frame

theorem waferHeld_eq (v : State) (w : Wafer) : waferHeld v w = { waferKept v w with
    frm := { v.frm with record := (waferHeld v w).frm.record } } := noteRecord_eq (waferKept v w) w.frame

/-- The acknowledgement of a wafer with a key (R346). -/
def ackPayload (v : State) (k : Key) (w : Wafer) : Bytes :=
  x9Payload 2 (ownKind v.cfg) w.frame (be 8 (ackCode k w.frame (ownKind v.cfg)).toNat)

/-- The state with the acknowledgement sent. -/
def acknowledged (y : State) (w : Wafer) : State :=
  match plainKey? y 4 0 0 with
  | some k => if x9On y then pushX9 y (ackPayload y k w) else y
  | none => y

theorem acceptWafer_eq (v : State) (w : Wafer) : acceptWafer v w = reachStep15 (
    if w.handover && !(acknowledged (waferHeld v w) w).sys.stopped then askGrant (acknowledged (waferHeld v w) w) 3
    else acknowledged (waferHeld v w) w) := rfl

theorem pushX9_frame (s : State) (payload : Bytes) : WitnessFrame s (pushX9 s payload) := pushOut_frame _ _ _

theorem pushX9_dpx (s : State) (payload : Bytes) : (pushX9 s payload).dpx = s.dpx := by
  rw [pushX9, pushOut_through]

theorem pushX9_counts (s : State) (payload : Bytes) (n : Nat) : outCount (pushX9 s payload) n = outCount s n := by
  rw [pushX9, pushOut_through]
  rfl

/-- What the acknowledgement leaves for a request after it. -/
theorem acknowledged_shows (y : State) (w : Wafer) : let t := acknowledged y w
    WitnessFrame y t ∧ t.dpx = y.dpx ∧ (∀ n, outCount t n = outCount y n) ∧ ∀ n, CanPush y n → CanPush t n := by
  intro t
  have hstays : WitnessFrame y y ∧ y.dpx = y.dpx ∧ (∀ n, outCount y n = outCount y n) ∧ ∀ n, CanPush y n → CanPush y n :=
    ⟨witnessFrame_refl y, rfl, fun _ => rfl, fun _ => id⟩
  cases hkey : plainKey? y 4 0 0 with
  | none =>
    have ht : t = y := by simp only [t, acknowledged, hkey]
    rw [ht]
    exact hstays
  | some k =>
    by_cases hon : x9On y = true
    · have ht : t = pushX9 y (ackPayload y k w) := by simp only [t, acknowledged, hkey, if_pos hon]
      have hframe := pushX9_frame y (ackPayload y k w)
      rw [ht]
      refine ⟨hframe, pushX9_dpx y _, pushX9_counts y _, fun n ⟨hfenced, hruns, hroom, hconn⟩ => ?_⟩
      have hempty : (pushX9 y (ackPayload y k w)).xbr.q1.items = [] := (pushOut_sends (x9On_served hon) (touched_room hroom) 9 _).2
      refine ⟨?_, ?_, by rw [hempty]; decide, ?_⟩
      all_goals rw [hframe.2]
      · exact hfenced
      · exact hruns
      · exact hconn
    · have ht : t = y := by simp only [t, acknowledged, hkey, if_neg hon]
      rw [ht]
      exact hstays

theorem sentOf_waferAck (s : State) (iseq via unit wframe : Nat) (code : BitVec 64) :
    sentOf s { iseq := iseq, conn := 9, via := via, data := x9Payload 2 unit wframe (be 8 code.toNat) } = .waferAck (wframe % 2 ^ 48) code := by
  have hframe : fieldAt (x9Payload 2 unit wframe (be 8 code.toNat)) 2 6 = wframe % 2 ^ 48 := beVal_be 6 wframe
  have hcode : fieldAt (x9Payload 2 unit wframe (be 8 code.toNat)) 16 8 = code.toNat :=
    (beVal_be 8 code.toNat).trans (Nat.mod_eq_of_lt code.isLt)
  have hkind : fieldAt (x9Payload 2 unit wframe (be 8 code.toNat)) 0 1 = 2 := rfl
  simp only [sentOf, hkind, hframe, hcode, BitVec.ofNat_toNat, BitVec.setWidth_eq]
  rfl

/-- The acknowledgement leaves where X9 is on. -/
theorem acknowledged_sent {y : State} (hon : x9On y = true) (hroom : y.xbr.q1.items.length < 256) {key : Key}
    (hkey : plainKey? y 4 0 0 = some key) (w : Wafer) : Sent.waferAck (w.frame % 2 ^ 48)
      ((cmac key (be 6 w.frame ++ be 1 (ownKind y.cfg))).extractLsb' 64 64) ∈ (acknowledged y w).sent := by
  have ht : acknowledged y w = pushX9 y (ackPayload y key w) := by simp only [acknowledged, hkey, if_pos hon]
  have hsent := (pushOut_sends (x9On_served hon) (touched_room hroom) 9 { conn := 9, ip := 0, udpp := 0, data := ackPayload y key w }).1
  rw [ackPayload, sentOf_waferAck] at hsent
  rw [ht, pushX9, ackPayload, hsent]
  exact List.mem_append_right _ (List.mem_singleton.mpr rfl)

/-- What leaves where a wafer has been accepted: the acknowledgement, and the request for a handover (R353). -/
def answeredWafer (y : State) (w : Wafer) : State :=
  if w.handover && !(acknowledged y w).sys.stopped then askGrant (acknowledged y w) 3 else acknowledged y w

theorem acknowledged_stopped (y : State) (w : Wafer) : (acknowledged y w).sys.stopped = y.sys.stopped := by
  rw [(acknowledged_shows y w).1.2]

theorem answeredWafer_quiet {y : State} {w : Wafer} (h : w.handover = false ∨ y.sys.stopped = true) :
    answeredWafer y w = acknowledged y w := by
  refine if_neg ?_
  rw [acknowledged_stopped]
  obtain h | h := h
  · simp [h]
  · simp [h]

/-- The state in which a handover is asked for. -/
def handoverAsked (y : State) (w : Wafer) : State :=
  { acknowledged y w with dpx := { (acknowledged y w).dpx with asking := some 3 } }

theorem answeredWafer_handover {y : State} {w : Wafer} (h : w.handover = true) (hstopped : y.sys.stopped = false) :
    answeredWafer y w = askGrant (handoverAsked y w) 3 := by
  refine if_pos ?_
  rw [acknowledged_stopped]
  simp [h, hstopped]

/-- Only PKT_OUT and the asking change where a wafer is answered. -/
theorem answeredWafer_frame (y : State) (w : Wafer) : let t := answeredWafer y w
    t.dpx = { y.dpx with asking := t.dpx.asking } ∧ (acknowledged y w).sent <+: t.sent
      ∧ t = { y with dpx := t.dpx, free := t.free, sent := t.sent
                     cmd := { y.cmd with vitalOut := t.cmd.vitalOut }, xbr := throughOut y.xbr t.xbr } := by
  intro t
  obtain ⟨⟨-, hframe⟩, hdpx, -, -⟩ := acknowledged_shows y w
  by_cases h : w.handover = false ∨ y.sys.stopped = true
  · have ht : t = acknowledged y w := answeredWafer_quiet h
    rw [ht]
    refine ⟨by rw [hdpx], List.prefix_rfl, ?_⟩
    generalize acknowledged y w = a at *
    rw [hframe]
    rfl
  · obtain ⟨hhand, hstopped⟩ := not_or.mp h
    have ht : t = askGrant (handoverAsked y w) 3 :=
      answeredWafer_handover (by simpa using hhand) (by simpa using hstopped)
    have hasked := askGrant_dpx (s := handoverAsked y w) rfl
    obtain ⟨hmore, hask⟩ := askGrant_frame (s := handoverAsked y w) rfl
    rw [← ht] at hasked hmore hask
    clear_value t
    unfold handoverAsked at *
    generalize acknowledged y w = a at *
    refine ⟨?_, hmore, ?_⟩
    · rw [hasked, hdpx]
    · rw [hask, hframe]
      rfl

theorem answeredWafer_asking_quiet {y : State} {w : Wafer} (h : w.handover = false) : (answeredWafer y w).dpx.asking = y.dpx.asking := by
  rw [answeredWafer_quiet (.inl h), (acknowledged_shows y w).2.1]

theorem answeredWafer_asking {y : State} {w : Wafer} (h : w.handover = true) (hstopped : y.sys.stopped = false) :
    (answeredWafer y w).dpx.asking = some 3 := by
  rw [answeredWafer_handover h hstopped, askGrant_dpx rfl]
  rfl

/-- A handover is answered with a request to every witness that can be sent to. -/
theorem answeredWafer_request {y : State} {w : Wafer} (h : w.handover = true) (hstopped : y.sys.stopped = false) (hon : onWitness y = true)
    {n : Nat} (hn : n ∈ witnesses y) (hsend : CanSendTo y n) : WitnessSent y (answeredWafer y w) n 0x48 (requestBody 3 y) := by
  obtain ⟨hkey, hcount, hpush⟩ := hsend
  obtain ⟨hframe, -, hcounts, hpushes⟩ := acknowledged_shows y w
  obtain ⟨hon', -, hasked, hentry, hkey', hrequest, -⟩ := sameParty_of_frame hframe
  have hroom : outCount (handoverAsked y w) n < 64 := by
    have hsame : outCount (handoverAsked y w) n = outCount y n := hcounts n
    rw [hsame, outCount]
    omega
  have hmember : n ∈ witnesses (handoverAsked y w) := by
    have hsame : witnesses (handoverAsked y w) = witnesses (acknowledged y w) := rfl
    rwa [hsame, hasked]
  rw [answeredWafer_handover h hstopped, ← hrequest 3]
  exact witnessSent_congr (hentry n) (askGrant_sent (s := handoverAsked y w) rfl (hon'.trans hon) hmember
    ((congrArg Option.isSome (hkey' n)).trans hkey) hroom (hpushes n hpush))

/-- The state that holds a wafer differs from the one before it in nothing that what leaves depends on. -/
theorem sameParty_waferHeld (v : State) (w : Wafer) : onWitness (waferHeld v w) = onWitness v ∧ witnesses (waferHeld v w) = witnesses v
    ∧ (∀ n, CanSendTo v n → CanSendTo (waferHeld v w) n)
    ∧ requestBody 3 (waferHeld v w) = be 6 v.dpx.beat ++ be 1 3 ++ be 1 0 ++ be 6 w.frame ++ be 2 0 := by
  rw [waferHeld_eq]
  exact ⟨rfl, rfl, fun _ => id, rfl⟩

/-- What the acceptance of a wafer leaves (R347, R353). -/
theorem acceptWafer_frame (v : State) (w : Wafer) : let t := acceptWafer v w
    t = { v with dpx := { v.dpx with held := some w, heldAt := v.now, miss := 0, why2 := false
                                     wframe := w.frame, wsize := w.len, inbound := none, asking := t.dpx.asking }
                 xbr := throughOut { v.xbr with winLen := w.len } t.xbr, upd := { v.upd with mapWait := false }
                 frm := { v.frm with record := t.frm.record }, sys := { v.sys with step := t.sys.step }
                 sent := t.sent, free := t.free, cmd := { v.cmd with vitalOut := t.cmd.vitalOut } }
      ∧ (acknowledged (waferHeld v w) w).sent <+: t.sent ∧ t.dpx.asking = (answeredWafer (waferHeld v w) w).dpx.asking := by
  intro t
  have hstep : t = _ := reachStep15_eq (answeredWafer (waferHeld v w) w)
  obtain ⟨hdpx, hmore, hframe⟩ := answeredWafer_frame (waferHeld v w) w
  have hheld := waferHeld_eq v w
  clear_value t
  generalize acknowledged (waferHeld v w) w = a at *
  generalize answeredWafer (waferHeld v w) w = z at *
  generalize waferHeld v w = y at *
  refine ⟨?_, by rw [hstep]; exact hmore, by rw [hstep]⟩
  rw [hdpx] at hframe
  rw [hstep, hframe, hheld]
  rfl

theorem waferHeld_acks {v : State} {w : Wafer} {key : Key} (hx9 : x9On v = true) (hroom : v.xbr.q1.items.length < 256)
    (hkey : plainKey? v 4 0 0 = some key) : Sent.waferAck (w.frame % 2 ^ 48)
      ((cmac key (be 6 w.frame ++ be 1 (ownKind v.cfg))).extractLsb' 64 64) ∈ (acknowledged (waferHeld v w) w).sent := by
  have hheld := waferHeld_eq v w
  have hkind : ownKind (waferHeld v w).cfg = ownKind v.cfg := by
    rw [hheld]
    rfl
  rw [← hkind]
  refine acknowledged_sent ?_ ?_ ?_ w
  all_goals rw [hheld]
  · exact hx9
  · exact hroom
  · exact hkey

/-- An accepted handover is answered with a request of REASON 3 (R353). -/
theorem acceptWafer_request {v : State} {w : Wafer} (hhand : w.handover = true) (hstopped : v.sys.stopped = false) (hon : onWitness v = true)
    {n : Nat} (hn : n ∈ witnesses v) (hcan : CanSendTo v n) : WitnessSent v (acceptWafer v w) n 0x48
      (be 6 v.dpx.beat ++ be 1 3 ++ be 1 0 ++ be 6 w.frame ++ be 2 0) := by
  obtain ⟨hon', hwitnesses, hsend, hbody⟩ := sameParty_waferHeld v w
  have hheld := waferHeld_eq v w
  have hentry : tableEntry (waferHeld v w) n = tableEntry v n := by
    rw [hheld]
    rfl
  have hstopped' : (waferHeld v w).sys.stopped = false := by
    rw [hheld]
    exact hstopped
  rw [← hbody]
  exact witnessSent_congr hentry (afterStep15_sent (answeredWafer_request hhand hstopped' (hon'.trans hon) (by rwa [hwitnesses]) (hsend n hcan)))

/-! ## Missed wafers (R353) -/

/-- The state with one more wafer missed. -/
def missed (v : State) : State := { v with dpx := { v.dpx with miss := min 255 (v.dpx.miss + 1) } }

/-- The module may ask for the grant: it is fit, or was the ACTIVE one, it runs, and it has not asked. -/
def AskAble (v : State) : Prop :=
  (standbyFit v = true ∨ (v.dpx.formerActive = true ∧ v.dpx.why2 = false)) ∧ v.sys.stopped = false ∧ v.dpx.asking = none

theorem askAble_iff (v : State) :
    ((standbyFit (missed v) || ((missed v).dpx.formerActive && !(missed v).dpx.why2)) && !(missed v).sys.stopped
      && (missed v).dpx.asking.isNone) = true ↔ AskAble v := by
  have hfit : standbyFit (missed v) = standbyFit v := rfl
  rw [hfit]
  simp only [missed, AskAble, Bool.and_eq_true, Bool.or_eq_true, Bool.not_eq_true', Option.isNone_iff_eq_none, and_assoc]

theorem third_iff (v : State) : 3 ≤ (missed v).dpx.miss ↔ 2 ≤ v.dpx.miss := by
  have hmiss : (missed v).dpx.miss = min 255 (v.dpx.miss + 1) := rfl
  omega

section
variable {s : State} {now : Nat} {w : Wafer} (hw : (later s now).dpx.held = some w)
include hw

theorem exec_waferMiss_early
    (h : (later s now).now < (later s now).dpx.heldAt + ((later s now).dpx.miss + 1) * expectedUs w.cfg + 2000) :
    exec (.waferMiss now) s = .next (later s now) := by
  change execWaferMiss now s = _
  simp only [execWaferMiss, hw]
  exact if_pos (.inr h)

theorem exec_waferMiss_counts (hrole : (later s now).dpx.role = .standby ∨ (later s now).dpx.formerActive = true)
    (h : (later s now).dpx.heldAt + ((later s now).dpx.miss + 1) * expectedUs w.cfg + 2000 ≤ (later s now).now) :
    exec (.waferMiss now) s = .next (
      if 3 ≤ (missed (later s now)).dpx.miss && ((standbyFit (missed (later s now))
          || ((missed (later s now)).dpx.formerActive && !(missed (later s now)).dpx.why2)) && !(missed (later s now)).sys.stopped
          && (missed (later s now)).dpx.asking.isNone)
      then askGrant (missed (later s now)) 1 else missed (later s now)) := by
  change execWaferMiss now s = _
  rw [execWaferMiss]
  generalize later s now = v at *
  dsimp only
  split
  next hnone => cases hw.symm.trans hnone
  next w' hw' =>
    cases hw.symm.trans hw'
    refine if_neg ?_
    rintro (⟨hother, hnever⟩ | hearly)
    · obtain hrole | hformer := hrole
      · exact hother hrole
      · rw [hformer] at hnever
        cases hnever
    · omega

end

/-- The request of a third miss leaves to every witness that can be sent to. -/
theorem missed_request {v : State} {w : Wafer} (hw : v.dpx.held = some w) (hon : onWitness v = true) {n : Nat} (hn : n ∈ witnesses v)
    (hsend : CanSendTo v n) : WitnessSent v (askGrant (missed v) 1) n 0x48
      (be 6 v.dpx.beat ++ be 1 1 ++ be 1 (min 255 (v.dpx.miss + 1)) ++ be 6 w.frame ++ be 2 0) := by
  obtain ⟨hkey, hcount, hpush⟩ := hsend
  have hbody : requestBody 1 { missed v with dpx := { (missed v).dpx with asking := some 1 } }
      = be 6 v.dpx.beat ++ be 1 1 ++ be 1 (min 255 (v.dpx.miss + 1)) ++ be 6 w.frame ++ be 2 0 := by
    have hheld : (v.dpx.held.map (·.frame)).getD 0 = w.frame := by
      rw [hw]
      rfl
    have hmin : min (min 255 (v.dpx.miss + 1)) 255 = min 255 (v.dpx.miss + 1) := by omega
    simp only [requestBody, missed, hheld, hmin]
  have hsent := askGrant_sent (s := { missed v with dpx := { (missed v).dpx with asking := some 1 } }) rfl hon hn hkey
    (Nat.lt_trans hcount (by decide)) hpush
  rw [hbody] at hsent
  exact hsent

/-- Settles O49: segment by segment, the judgement by the checks of the window, and the misses by the count. -/
theorem wafersAreAcceptedWholeAndValid : Obligations.WafersAreAcceptedWholeAndValid := by
  intro s now v d
  refine ⟨fun p => ⟨exec_waferSegment_refused, fun hcrc hunit hpeer hrole hfree hfenced hruns hone hmost hseg => ?_⟩,
    fun b hb => ⟨fun hmore hlate => ?_, fun hstands => ?_, exec_xbrWinDone_waits hb, fun hall hrole hfenced hruns => ⟨fun hfails => ?_,
      fun st hst hlayout => ⟨fun hother => ?_, fun hwhole hfitting hsame => ?_⟩⟩⟩,
    fun w hw hrole => ⟨exec_waferMiss_early hw, fun hdue => ⟨fun hnot => ?_, fun hthird hable => ?_⟩⟩⟩
  · exact ⟨_, exec_waferSegment_taken hcrc hunit hpeer hrole hfree hfenced hruns hone hmost hseg, rfl, heardPeer_isLive v,
      fun hnew => congrArg some (gathered_new hnew), fun b hb hwafer hnseg =>
        (gathered_more hb hwafer hnseg).imp fun got h => ⟨congrArg some h.1, h.2⟩⟩
  · refine ⟨_, exec_waferSegmentTimeout hb, ?_⟩
    rw [if_pos ⟨hmore, hlate⟩]
    exact waferBad_shows v
  · rw [exec_waferSegmentTimeout hb, if_neg]
    rintro ⟨hmore, hlate⟩
    exact hstands.elim (Nat.not_le.mpr hmore) (Nat.not_le.mpr hlate)
  · exact ⟨_, exec_xbrWinDone_fails hb hall hrole hfenced hruns hfails, waferBad_shows v⟩
  · exact ⟨_, exec_xbrWinDone_otherImages hb hall hrole hfenced hruns hst hlayout hother, waferBad_shows v⟩
  · obtain ⟨hframe, hmore, hasking⟩ := acceptWafer_frame v b.wafer
    obtain ⟨hheld, hheldAt, hmiss, hinbound, hwframe, hwsize, hwhy⟩ : let t := acceptWafer v b.wafer
        t.dpx.held = some b.wafer ∧ t.dpx.heldAt = v.now ∧ t.dpx.miss = 0 ∧ t.dpx.inbound = none ∧ t.dpx.wframe = b.wafer.frame
          ∧ t.dpx.wsize = b.wafer.len ∧ t.dpx.why2 = false := by
      rw [hframe]
      exact ⟨rfl, rfl, rfl, rfl, rfl, rfl, rfl⟩
    have hstopped' : (waferHeld v b.wafer).sys.stopped = v.sys.stopped := by
      rw [waferHeld_eq]
      rfl
    refine ⟨_, exec_xbrWinDone_accepts hb hall hrole hfenced hruns hst hlayout hwhole hfitting hsame, hheld, hheldAt, hmiss, hinbound, hwframe,
      hwsize, hwhy, fun key hx9 hroom hkey => ?_, fun hhand hstopped => ⟨?_, fun hon n hn hcan => ?_⟩, fun hquiet => ?_, ?_⟩
    · exact hmore.subset (waferHeld_acks hx9 hroom hkey)
    · exact hasking.trans (answeredWafer_asking hhand (hstopped'.trans hstopped))
    · exact acceptWafer_request hhand hstopped hon hn hcan
    · rw [hasking, answeredWafer_asking_quiet hquiet, waferHeld_eq]
      rfl
    · rw [hheld]
      exact hframe
  · rw [exec_waferMiss_counts hw hrole hdue, if_neg]
    · rfl
    · rw [Bool.and_eq_true, askAble_iff, decide_eq_true_eq, third_iff]
      rintro ⟨hthird, hable⟩
      exact hnot.elim (Nat.not_lt.mpr hthird) fun h => h hable
  · refine ⟨_, exec_waferMiss_counts hw hrole hdue, ?_⟩
    rw [if_pos]
    · exact ⟨askGrant_frame (s := { missed v with dpx := { (missed v).dpx with asking := some 1 } }) rfl,
        fun hon n hn hcan => missed_request hw hon hn hcan⟩
    · rw [Bool.and_eq_true, askAble_iff, decide_eq_true_eq, third_iff]
      exact ⟨hthird, hable⟩

end Sys2Proof.Proofs.Wafers
